-- ==== Sys2Proof/Word.lean ====
section
/-! DEFINITION. The word types of the AX1024 and the sparse table type of its register files. -/

namespace Sys2Proof

/-- One byte. -/
abbrev Byte := BitVec 8

/-- A 32-bit little-endian word (R4); an FS value (R8) is the signed reading of one. -/
abbrev Word := BitVec 32

/-- A 64-bit register or result. -/
abbrev DWord := BitVec 64

/-- A file of like things by number: keys strictly rising, and no entry equal to the value an
unlisted number holds, so that equal files are equal data. -/
abbrev Tab (α : Type) := List (Nat × α)

end Sys2Proof
end

