-- ==== Sys2Proof/Entry.lean ====
section
/-! DEFINITION. What one submission entry says (02 Table 2-8), and the frames other agents send. -/

namespace Sys2Proof

/-- A submission entry as the front end reads it (02 R57): its queue pair, the fields of word 0,
the target, the parameters (missing ones are 0), AT_SN, and the words that the command's
own DMA reads from host memory at the address it names. -/
structure Sub where
  /-- queue pair whose submission ring held the entry -/
  qp : Nat := 0
  /-- TAG, word 0 [31:16] -/
  tag : BitVec 16 := 0
  /-- FLAGS, word 0 [15:8] (Table 2-9) -/
  flags : BitVec 8 := 0
  /-- TARGET, word 1 -/
  target : Nat := 0
  /-- PARAM0 to PARAM11, words 2 to 13 -/
  params : List Word := []
  /-- word 14: PARAM12 or AT_SN -/
  atSn : Word := 0
  /-- words read from host memory by the command's DMA -/
  image : List Word := []
  deriving DecidableEq, Repr, Inhabited

/-- A CAN frame on a bus or in a FIFO (16): identifier, format bits and data bytes. -/
structure CanFrame where
  /-- identifier, 11 or 29 bits, or the priority identifier of CAN XL -/
  id : Nat := 0
  /-- 29-bit identifier -/
  ide : Bool := false
  /-- remote frame -/
  rtr : Bool := false
  /-- 0 classic, 1 FD, 2 XL -/
  fmt : Nat := 0
  /-- bit rate switch -/
  brs : Bool := false
  /-- error state indicator -/
  esi : Bool := false
  /-- CAN XL header: [7:0] VCID, [15:8] SDT, [16] SEC -/
  xl : Nat := 0
  /-- acceptance field of CAN XL -/
  af : Word := 0
  /-- data bytes -/
  data : List Byte := []
  deriving DecidableEq, Repr, Inhabited

/-- A heartbeat as it reaches the umpire (11 Table 11-3). -/
structure Heartbeat where
  sn : Word := 0
  /-- state code of the plane -/
  state : Nat := 0
  resign : Bool := false
  report : Bool := false
  cls : Nat := 0
  unit : Nat := 0
  /-- booth signatures, booth 0 first -/
  sigs : List DWord := []
  digest : DWord := 0
  demand : DWord := 0
  crc : Word := 0
  deriving DecidableEq, Repr, Inhabited

/-- A received KFL input frame (15 Tables 15-3, 15-5): the header fields that R468 tests and the data. -/
structure KFrame where
  /-- FCS, EtherType, VER and TYPE are right -/
  ok : Bool := true
  src : Nat := 0
  mac : Nat := 0
  len : Nat := 0
  sn : Word := 0
  c : Nat := 0
  count : Nat := 0
  epoch : BitVec 16 := 0
  status : Word := 0
  /-- KFL data, as bytes -/
  data : List Byte := []
  deriving DecidableEq, Repr, Inhabited

/-- What a PTP message makes of the engine (15 R478 to R480). The engine follows IEEE 1588-2019, so the
port state it enters and the offset and path delay it finds are external; the effect on device
time is the spec's. -/
structure PtpMsg where
  /-- the frame is a PTP message; any other is discarded and counted -/
  ok : Bool := true
  /-- portState after the message -/
  portState : Nat := 3
  /-- a valid offset from the master, in ns -/
  offset : Option Int := none
  delay : Nat := 0
  deriving DecidableEq, Repr, Inhabited

/-- A forwarded command at its commit (02 R70): its tag, and whether the management firmware faults before the commit point
(02 Table 2-13). -/
structure Forwarded where
  tag : BitVec 16
  fault : Bool := false
  deriving DecidableEq, Repr, Inhabited

/-- Straps as sampled at the release of a reset (12 R383). -/
structure Straps where
  bootSel : Nat := 0
  legacyEn : Bool := false
  alarmHi : Bool := false
  sealSw : BitVec 16 := 0
  deriving DecidableEq, Repr, Inhabited

end Sys2Proof
end

