-- ==== Sys2Proof/Syntax.lean ====
section
/-! DEFINITION. The commands of the AX1024: one constructor per row of the opcode table. A host command
carries its submission entry; an event carries what comes from outside the block (a frame, a
measurement, a level, the number of the plane or object it concerns). -/

namespace Sys2Proof

/-- The commands, in the order of the table. -/
inductive Instr where
  /-- NOP (R80) -/
  | nop (c : Sub)
  /-- IDENTIFY (R81) -/
  | identify (c : Sub)
  /-- SET_STATE (R82) -/
  | setState (c : Sub)
  /-- ABORT (R71) -/
  | abort (c : Sub)
  /-- CLK_STATUS (R567) -/
  | clkStatus (c : Sub)
  /-- CLK_MEASURE (R554) -/
  | clkMeasure (c : Sub)
  /-- CLK_GATE (R558) -/
  | clkGate (c : Sub)
  /-- PWR_STATUS (R567) -/
  | pwrStatus (c : Sub)
  /-- DVFS_SET (R557) -/
  | dvfsSet (c : Sub)
  /-- CLKOUT_CFG (R559) -/
  | clkoutCfg (c : Sub)
  /-- LOOP_SET_SP (R84) -/
  | loopSetSp (c : Sub)
  /-- LOOP_SET_OUT (R84) -/
  | loopSetOut (c : Sub)
  /-- LOOP_READ (R85) -/
  | loopRead (c : Sub)
  /-- LOOP_SET_MODE (R122) -/
  | loopSetMode (c : Sub)
  /-- LOOP_WRITE (R123) -/
  | loopWrite (c : Sub)
  /-- BOOTH_STATUS (R124) -/
  | boothStatus (c : Sub)
  /-- BOOTH_KEEP_AWAKE (R125) -/
  | boothKeepAwake (c : Sub)
  /-- MODEL_LOAD (R152) -/
  | modelLoad (c : Sub)
  /-- MODEL_REINIT (R153) -/
  | modelReinit (c : Sub)
  /-- TEST_START (R154) -/
  | testStart (c : Sub)
  /-- TEST_STOP (R155) -/
  | testStop (c : Sub)
  /-- TEST_STATUS (R156) -/
  | testStatus (c : Sub)
  /-- CAPT_READ (R157) -/
  | captRead (c : Sub)
  /-- DISP_LOAD (R183) -/
  | dispLoad (c : Sub)
  /-- DISP_SET_PRIO (R186) -/
  | dispSetPrio (c : Sub)
  /-- DISP_STATUS (R187) -/
  | dispStatus (c : Sub)
  /-- DISP_FLOW_STATUS (R188) -/
  | dispFlowStatus (c : Sub)
  /-- SESS_ADVANCE (R86) -/
  | sessAdvance (c : Sub)
  /-- SESS_HOLD (R86) -/
  | sessHold (c : Sub)
  /-- SESS_LOAD (R216) -/
  | sessLoad (c : Sub)
  /-- SESS_START (R217) -/
  | sessStart (c : Sub)
  /-- SESS_RESUME (R218) -/
  | sessResume (c : Sub)
  /-- SESS_ABORT (R219) -/
  | sessAbort (c : Sub)
  /-- SESS_UNLOAD (R220) -/
  | sessUnload (c : Sub)
  /-- SESS_STATUS (R221) -/
  | sessStatus (c : Sub)
  /-- SCAN_LOAD (R249) -/
  | scanLoad (c : Sub)
  /-- SCAN_MODE (R250) -/
  | scanMode (c : Sub)
  /-- SCAN_WRITE (R251) -/
  | scanWrite (c : Sub)
  /-- SCAN_READ (R252) -/
  | scanRead (c : Sub)
  /-- SCAN_STATUS (R253) -/
  | scanStatus (c : Sub)
  /-- AX_CONFIG (R281) -/
  | axConfig (c : Sub)
  /-- AX_WRITE (R255) -/
  | axWrite (c : Sub)
  /-- AX_ENABLE (R284) -/
  | axEnable (c : Sub)
  /-- AX_MOVE (R267) -/
  | axMove (c : Sub)
  /-- AX_STOP (R286) -/
  | axStop (c : Sub)
  /-- AX_SET_LIMITS (R265) -/
  | axSetLimits (c : Sub)
  /-- AX_HOME (R273) -/
  | axHome (c : Sub)
  /-- AX_GEAR (R274) -/
  | axGear (c : Sub)
  /-- AX_GEAR_SCHED (R276) -/
  | axGearSched (c : Sub)
  /-- AX_CLEAR (R271) -/
  | axClear (c : Sub)
  /-- AX_READ (R286) -/
  | axRead (c : Sub)
  /-- SAFE_STATUS (R318) -/
  | safeStatus (c : Sub)
  /-- SAFE_REQUEST (R318) -/
  | safeRequest (c : Sub)
  /-- SAFE_RESET (R310) -/
  | safeReset (c : Sub)
  /-- SCONN_STATUS (R318) -/
  | sconnStatus (c : Sub)
  /-- SEAL_STAGE (R312) -/
  | sealStage (c : Sub)
  /-- SEAL_COMMIT (R316) -/
  | sealCommit (c : Sub)
  /-- SEAL_READ (R318) -/
  | sealRead (c : Sub)
  /-- REC_CONFIG (R321) -/
  | recConfig (c : Sub)
  /-- REC_STREAM (R330) -/
  | recStream (c : Sub)
  /-- REC_STATUS (R344) -/
  | recStatus (c : Sub)
  /-- REC_FETCH (R344) -/
  | recFetch (c : Sub)
  /-- TRIG_CONFIG (R335) -/
  | trigConfig (c : Sub)
  /-- TRIG_CTRL (R335) -/
  | trigCtrl (c : Sub)
  /-- TRIG_STATUS (R344) -/
  | trigStatus (c : Sub)
  /-- MASK_LOAD (R339) -/
  | maskLoad (c : Sub)
  /-- MASK_ARM (R342) -/
  | maskArm (c : Sub)
  /-- MASK_STATUS (R344) -/
  | maskStatus (c : Sub)
  /-- PLANE_STATUS (R380) -/
  | planeStatus (c : Sub)
  /-- PLANE_HEALTH (R367) -/
  | planeHealth (c : Sub)
  /-- PLANE_RESTORE (R347) -/
  | planeRestore (c : Sub)
  /-- PLANE_OFFLINE (R347) -/
  | planeOffline (c : Sub)
  /-- PLANE_SWAP (R365) -/
  | planeSwap (c : Sub)
  /-- PLANE_CONFIG (R358) -/
  | planeConfig (c : Sub)
  /-- LEDGER_STATUS (R380) -/
  | ledgerStatus (c : Sub)
  /-- JOURNAL_READ (R380) -/
  | journalRead (c : Sub)
  /-- FW_STAGE (R387) -/
  | fwStage (c : Sub)
  /-- FW_SELECT (R384) -/
  | fwSelect (c : Sub)
  /-- MEM_STATUS (R426) -/
  | memStatus (c : Sub)
  /-- TURN_SET (R412) -/
  | turnSet (c : Sub)
  /-- TURN_READ (R426) -/
  | turnRead (c : Sub)
  /-- MEM_SCRUB (R407) -/
  | memScrub (c : Sub)
  /-- AI_CONFIG (R433) -/
  | aiConfig (c : Sub)
  /-- AFE_SEQ (R438) -/
  | afeSeq (c : Sub)
  /-- AO_CONFIG (R445) -/
  | aoConfig (c : Sub)
  /-- CL_CONFIG (R448) -/
  | clConfig (c : Sub)
  /-- PW_CONFIG (R446) -/
  | pwConfig (c : Sub)
  /-- AFE_CAL (R443) -/
  | afeCal (c : Sub)
  /-- AFE_TEST (R444) -/
  | afeTest (c : Sub)
  /-- AFE_STATUS (R453) -/
  | afeStatus (c : Sub)
  /-- AFE_MODE (R440) -/
  | afeMode (c : Sub)
  /-- GP_CONFIG (R611) -/
  | gpConfig (c : Sub)
  /-- FP_CONFIG (R464) -/
  | fpConfig (c : Sub)
  /-- FP_STATION (R469) -/
  | fpStation (c : Sub)
  /-- FP_ARM (R474) -/
  | fpArm (c : Sub)
  /-- FP_STATUS (R488) -/
  | fpStatus (c : Sub)
  /-- MGT_CONFIG (R477) -/
  | mgtConfig (c : Sub)
  /-- PTP_CONFIG (R478) -/
  | ptpConfig (c : Sub)
  /-- PTP_STATUS (R488) -/
  | ptpStatus (c : Sub)
  /-- TIME_READ (R481) -/
  | timeRead (c : Sub)
  /-- TIME_STEP (R483) -/
  | timeStep (c : Sub)
  /-- TIME_RATE (R484) -/
  | timeRate (c : Sub)
  /-- TIME_CMP (R485) -/
  | timeCmp (c : Sub)
  /-- TIME_STATUS (R488) -/
  | timeStatus (c : Sub)
  /-- CAN_CONFIG (R493) -/
  | canConfig (c : Sub)
  /-- CAN_FILTER (R504) -/
  | canFilter (c : Sub)
  /-- CAN_SIGNAL (R507) -/
  | canSignal (c : Sub)
  /-- CAN_SCHED (R497) -/
  | canSched (c : Sub)
  /-- CAN_SEND (R496) -/
  | canSend (c : Sub)
  /-- CAN_CTRL (R510) -/
  | canCtrl (c : Sub)
  /-- CAN_RX_READ (R506) -/
  | canRxRead (c : Sub)
  /-- CAN_STATUS (R514) -/
  | canStatus (c : Sub)
  /-- EVT_ROUTE (R518) -/
  | evtRoute (c : Sub)
  /-- EVT_STATUS (R521) -/
  | evtStatus (c : Sub)
  /-- EVR_READ (R528) -/
  | evrRead (c : Sub)
  /-- EVR_CLEAR (R527) -/
  | evrClear (c : Sub)
  /-- OBS_CTRL (R530) -/
  | obsCtrl (c : Sub)
  /-- OBS_READ (R529) -/
  | obsRead (c : Sub)
  /-- LOCK_CHALLENGE (R534) -/
  | lockChallenge (c : Sub)
  /-- LOCK (R534) -/
  | lock (c : Sub)
  /-- QP_ENABLE (R53) -/
  | qpEnable (qp : Nat) (v : Word)
  /-- QP_DISABLE (R53) -/
  | qpDisable (qp : Nat) (v : Word)
  /-- QP_SQ_TAIL (R75) -/
  | qpSqTail (qp : Nat) (v : Word)
  /-- QP_CQ_HEAD (R55) -/
  | qpCqHead (qp : Nat) (v : Word)
  /-- QP_RETRY_CLEAR (R51) -/
  | qpRetryClear (qp : Nat)
  /-- READ_CLEAR_COUNTER (R12) -/
  | readClearCounter (off : Nat)
  /-- EVT_CFG_WRITE (R520) -/
  | evtCfgWrite (src : Nat) (v : Word)
  /-- EVT_ACK (R519) -/
  | evtAck (src : Nat) (v : Word)
  /-- DMA_CH_RESUME (R423) -/
  | dmaChResume (ch : Nat) (pte : List DWord)
  /-- DMA_CH_STOP (R423) -/
  | dmaChStop (ch : Nat)
  /-- XLAT_INV_ALL (R422) -/
  | xlatInvAll
  /-- XLAT_INV_PAGE (R422) -/
  | xlatInvPage (page : Nat)
  /-- XLAT_INV_DONE (R422) -/
  | xlatInvDone
  /-- REGISTER_WRITE (R47) -/
  | registerWrite (off : Nat) (wide : Bool) (v : DWord)
  /-- FUNCTION_LEVEL_RESET (R45) -/
  | functionLevelReset
  /-- LINK_DOWN (R45) -/
  | linkDown
  /-- LINK_UP (R42) -/
  | linkUp (rate : Nat) (width : Nat)
  /-- D3HOT_ENTRY (R44) -/
  | d3hotEntry
  /-- D0_ENTRY (R45) -/
  | d0Entry
  /-- ENTRY_FETCH (R59) -/
  | entryFetch (qp : Nat) (words : List Word) (image : List Word)
  /-- COALESCE_TIMEOUT (R78) -/
  | coalesceTimeout (qp : Nat)
  /-- TIMED_PLACEMENT (R84) -/
  | timedPlacement (qp : Nat) (tag : BitVec 16)
  /-- BACKLOG_EASED (R75) -/
  | backlogEased
  /-- FORWARDED_COMMIT (R70) -/
  | forwardedCommit (qp : Nat) (fwd : Forwarded)
  /-- INPUT_CUT (R34) -/
  | inputCut (gp : List Word) (enc : List Word) (encBad : BitVec 16)
  /-- TOKEN_DELIVERY (R165) -/
  | tokenDelivery (loop : Nat) (port : Nat) (v : Word) (q : Bool) (sn : BitVec 16) (slot : Nat) (src : Nat) (bad : Nat)
  /-- TASK_FIRE (R167) -/
  | taskFire (booth : Nat)
  /-- LOOP_EXECUTION (R96) -/
  | loopExecution (loop : Nat)
  /-- COAST_LIMIT_REACHED (R139) -/
  | coastLimitReached (loop : Nat)
  /-- STALE_LIMIT_REACHED (R120) -/
  | staleLimitReached (loop : Nat)
  /-- SAMPLE_DEADLINE (R169) -/
  | sampleDeadline
  /-- STEP_DURATION_DUE (R202) -/
  | stepDurationDue (sess : Nat)
  /-- TRIGGER_ARMED (R335) -/
  | triggerArmed (eng : Nat)
  /-- TRIGGER_WINDOW_COMPLETE (R335) -/
  | triggerWindowComplete (eng : Nat)
  /-- OUTPUT_COMMIT (R19) -/
  | outputCommit (bad : List Nat)
  /-- SIGNATURE_EXCHANGE (R354) -/
  | signatureExchange
  /-- CHECK_ROLL_VERDICT (R356) -/
  | checkRollVerdict (okA : Bool) (okB : Bool)
  /-- HEARTBEAT_DEADLINE (R351) -/
  | heartbeatDeadline (hbA : Option Heartbeat) (hbB : Option Heartbeat)
  /-- PLANE_RESIGNATION (R353) -/
  | planeResignation (plane : Nat) (cls : Nat) (unit : Nat)
  /-- SWITCHOVER_ELECTION (R359) -/
  | switchoverElection
  /-- HEALTH_REPORT (R367) -/
  | healthReport (plane : Nat) (arrived : Bool)
  /-- SELF_TEST_SLICE (R366) -/
  | selfTestSlice (plane : Nat) (pass : Bool)
  /-- DIAGNOSIS_PASSED (R368) -/
  | diagnosisPassed (plane : Nat)
  /-- SUSPECT_TIMEOUT (R347) -/
  | suspectTimeout (plane : Nat)
  /-- RESYNC_COPY_ROUND (R370) -/
  | resyncCopyRound (plane : Nat)
  /-- RESYNC_FINAL_CUT (R370) -/
  | resyncFinalCut (plane : Nat)
  /-- RESYNC_COMPLETE (R370) -/
  | resyncComplete (plane : Nat)
  /-- RESYNC_TIMEOUT (R347) -/
  | resyncTimeout (plane : Nat)
  /-- JOURNAL_WRITE (R374) -/
  | journalWrite (ok : Bool)
  /-- EVENT_POSTING (R516) -/
  | eventPosting
  /-- EVENT_RECORD_WRITE (R524) -/
  | eventRecordWrite (ok : Bool)
  /-- AXIS_TICK (R261) -/
  | axisTick (ax : Nat)
  /-- STALL_DECLARED (R269) -/
  | stallDeclared (ax : Nat)
  /-- SAFETY_EVALUATION (R296) -/
  | safetyEvaluation
  /-- DISCREPANCY_DEMAND (R297) -/
  | discrepancyDemand (ax : Nat)
  /-- SS1_TORQUE_OFF (R298) -/
  | ss1TorqueOff (ax : Nat)
  /-- STO_TEST_PULSE (R303) -/
  | stoTestPulse (pair : Nat) (ok : Bool)
  /-- SAFETY_PDU_RECEIVE (R306) -/
  | safetyPduReceive (conn : Nat) (pdu : List Byte)
  /-- SAFETY_WATCHDOG_EXPIRY (R306) -/
  | safetyWatchdogExpiry (conn : Nat)
  /-- SAFETY_PDU_SEND (R307) -/
  | safetyPduSend (conn : Nat)
  /-- SCAN_CYCLE_START (R228) -/
  | scanCycleStart
  /-- SCAN_DEADLINE (R225) -/
  | scanDeadline
  /-- SCAN_SHADOW_READ (R241) -/
  | scanShadowRead
  /-- INSTR_NOP (R230) -/
  | instrNop
  /-- RUNG (R230) -/
  | rung (n : Nat)
  /-- AND (R230) -/
  | andBit (a : Nat)
  /-- ANDN (R230) -/
  | andnBit (a : Nat)
  /-- OR (R230) -/
  | orBit (a : Nat)
  /-- ORN (R230) -/
  | ornBit (a : Nat)
  /-- PUSH (R230) -/
  | push
  /-- POPAND (R230) -/
  | popand
  /-- POPOR (R230) -/
  | popor
  /-- NOT (R230) -/
  | notRlo
  /-- OUT (R230) -/
  | outBit (a : Nat)
  /-- SET (R230) -/
  | setBit (a : Nat)
  /-- RST (R230) -/
  | rstBit (a : Nat)
  /-- R_EDGE (R230) -/
  | rEdge (x : Nat)
  /-- F_EDGE (R230) -/
  | fEdge (x : Nat)
  /-- TON (R231) -/
  | ton (x : Nat)
  /-- TOF (R231) -/
  | tof (x : Nat)
  /-- TP (R231) -/
  | tp (x : Nat)
  /-- TRES (R230) -/
  | tres (x : Nat)
  /-- CTU (R232) -/
  | ctu (x : Nat)
  /-- CTD (R232) -/
  | ctd (x : Nat)
  /-- CRES (R230) -/
  | cres (x : Nat)
  /-- CGT (R230) -/
  | cgt (a : Nat) (b : Nat)
  /-- CGE (R230) -/
  | cge (a : Nat) (b : Nat)
  /-- CLT (R230) -/
  | clt (a : Nat) (b : Nat)
  /-- CLE (R230) -/
  | cle (a : Nat) (b : Nat)
  /-- CEQ (R230) -/
  | ceq (a : Nat) (b : Nat)
  /-- CNE (R230) -/
  | cne (a : Nat) (b : Nat)
  /-- LIM (R230) -/
  | lim (lo : Nat) (x : Nat) (hi : Nat)
  /-- MOV (R234) -/
  | mov (a : Nat) (b : Nat)
  /-- MOVI (R230) -/
  | movi (a : Nat) (imm : Word)
  /-- HOLDS (R236) -/
  | holds (x : Nat)
  /-- PARK (R235) -/
  | park (x : Nat)
  /-- FORCE (R237) -/
  | force (x : Nat)
  /-- EVT (R238) -/
  | evt (e : Nat) (code : Nat)
  /-- END (R230) -/
  | endProg
  /-- BOOTH_POWER_DOWN (R126) -/
  | boothPowerDown (group : Nat)
  /-- BOOTH_WAKE_DONE (R128) -/
  | boothWakeDone (group : Nat)
  /-- INTERVAL_CLOSE (R324) -/
  | intervalClose (booth : Nat)
  /-- TIME_RECORD (R326) -/
  | timeRecord
  /-- STREAM_BURST (R330) -/
  | streamBurst (head : Word)
  /-- DRAM_GRANT (R409) -/
  | dramGrant (req : Nat) (ecc : Nat)
  /-- DRAM_REFRESH (R410) -/
  | dramRefresh
  /-- MEMORY_WATCHDOG_BITE (R413) -/
  | memoryWatchdogBite
  /-- SCRUB_BLOCK (R407) -/
  | scrubBlock (ecc : Nat)
  /-- DMA_BURST (R416) -/
  | dmaBurst (err : Nat)
  /-- TRANSLATION_WALK (R423) -/
  | translationWalk (ch : Nat) (qp : Nat) (pte : List DWord)
  /-- DMA_SUSPEND_TIMEOUT (R423) -/
  | dmaSuspendTimeout (ch : Nat)
  /-- AI_CONVERSION (R436) -/
  | aiConversion (ch : Nat) (codes : List Int) (parityBad : Bool)
  /-- NE43_RECOVERY (R435) -/
  | ne43Recovery (ch : Nat)
  /-- INJECTED_TRIGGER (R438) -/
  | injectedTrigger (group : Nat) (at5ns : Nat) (codes : List (List Int))
  /-- CAL_ROTATION_START (R441) -/
  | calRotationStart (group : Nat)
  /-- CAL_HANDOVER (R441) -/
  | calHandover (group : Nat) (diff : Nat)
  /-- CAL_COEFF_LOADED (R441) -/
  | calCoeffLoaded (group : Nat) (coef : List (Int × Int)) (ok : Bool)
  /-- AFE_TEST_DONE (R444) -/
  | afeTestDone (ch : Nat) (res : Word)
  /-- CL_MEASURE (R450) -/
  | clMeasure (ch : Nat) (im : Word) (lim : Bool)
  /-- COMPLIANCE_LOST (R450) -/
  | complianceLost (ch : Nat)
  /-- COMPLIANCE_RESTORED (R450) -/
  | complianceRestored (ch : Nat)
  /-- CL_OPEN (R451) -/
  | clOpen (ch : Nat)
  /-- RETRANSMIT_ALARM (R449) -/
  | retransmitAlarm (ch : Nat)
  /-- LOOPV_MEASURE (R452) -/
  | loopvMeasure (v : Nat)
  /-- AO_OVERLOAD (R445) -/
  | aoOverload (ch : Nat) (acting : Bool)
  /-- PWM_PERIOD_START (R446) -/
  | pwmPeriodStart (ch : Nat)
  /-- FRAME_RECEIVE (R468) -/
  | frameReceive (port : Nat) (f : KFrame)
  /-- FRAME_DELIVERY (R462) -/
  | frameDelivery (port : Nat)
  /-- OUTPUT_FRAME_SEND (R461) -/
  | outputFrameSend (port : Nat)
  /-- STATION_LOST (R472) -/
  | stationLost (station : Nat)
  /-- FIELD_LINK_DOWN (R458) -/
  | fieldLinkDown (port : Nat)
  /-- FIELD_LINK_UP (R458) -/
  | fieldLinkUp (port : Nat)
  /-- PTP_MESSAGE_RECEIVE (R479) -/
  | ptpMessageReceive (port : Nat) (m : PtpMsg)
  /-- PTP_MESSAGE_SEND (R479) -/
  | ptpMessageSend (kind : Nat)
  /-- MGT_LINK_CHANGE (R478) -/
  | mgtLinkChange (port : Nat) (up : Bool)
  /-- TIME_COMPARE_FIRE (R485) -/
  | timeCompareFire (unit : Nat)
  /-- CAN_FRAME_RECEIVE (R504) -/
  | canFrameReceive (ch : Nat) (f : CanFrame) (tstamp : DWord)
  /-- CAN_SCHED_RELEASE (R497) -/
  | canSchedRelease (ch : Nat) (slot : Nat)
  /-- CAN_TX_COMPLETE (R499) -/
  | canTxComplete (ch : Nat)
  /-- CAN_TX_ERROR (R499) -/
  | canTxError (ch : Nat)
  /-- CAN_ARBITRATION_LOST (R499) -/
  | canArbitrationLost (ch : Nat)
  /-- REFERENCE_MESSAGE (R502) -/
  | referenceMessage (ch : Nat) (sent : Bool)
  /-- BUS_OFF_RECOVERY (R510) -/
  | busOffRecovery (ch : Nat)
  /-- PORST_ASSERT (R381) -/
  | porstAssert
  /-- PORST_RELEASE (R386) -/
  | porstRelease (x : Straps)
  /-- WARM_RST_FALL (R382) -/
  | warmRstFall
  /-- WARM_RESET_APPLY (R382) -/
  | warmResetApply
  /-- WARM_RST_RELEASE (R382) -/
  | warmRstRelease (x : Straps)
  /-- PWRFAIL_ASSERT (R390) -/
  | pwrfailAssert
  /-- CHECKPOINT_SHADOW_LATCH (R392) -/
  | checkpointShadowLatch
  /-- CHECKPOINT_VALID_MARK (R394) -/
  | checkpointValidMark (ok : Bool)
  /-- PWRFAIL_RELEASE (R396) -/
  | pwrfailRelease
  /-- SUPPLY_TRIP (R565) -/
  | supplyTrip (dom : Nat)
  /-- SUPPLY_RESTORED (R565) -/
  | supplyRestored (dom : Nat)
  /-- SEAL_OPEN_ASSERT (R315) -/
  | sealOpenAssert
  /-- SEAL_OPEN_DEASSERT (R315) -/
  | sealOpenDeassert
  /-- WAKE_TIMER_EXPIRY (R564) -/
  | wakeTimerExpiry
  /-- IDLE_WAKE_COMMIT (R563) -/
  | idleWakeCommit
  /-- CRYSTAL_STABLE (R540) -/
  | crystalStable (xtal : Nat)
  /-- PLL_LOCK (R542) -/
  | pllLock (plane : Nat)
  /-- FIRMWARE_CHECKED (R387) -/
  | firmwareChecked (plane : Nat) (found0 : Bool) (found1 : Bool)
  /-- SELF_TEST_DONE (R386) -/
  | selfTestDone (plane : Nat) (pass : Bool)
  /-- PLANE_READY (R397) -/
  | planeReady (plane : Nat)
  /-- STARTUP_ELECTION (R389) -/
  | startupElection
  /-- STARTUP_TIMEOUT (R386) -/
  | startupTimeout (plane : Nat)
  /-- CRYSTAL_START_TIMEOUT (R551) -/
  | crystalStartTimeout (plane : Nat)
  /-- CLOCK_MONITOR_TRIP (R552) -/
  | clockMonitorTrip (plane : Nat) (pll : Bool) (cause : Nat)
  /-- SHARED_CLOCK_TRIP (R553) -/
  | sharedClockTrip (src : Nat) (cause : Nat)
  /-- CLOCK_SOURCE_RECOVERED (R552) -/
  | clockSourceRecovered (src : Nat)
  /-- TICK_ALIGNMENT (R545) -/
  | tickAlignment (delta : Int) (trim : Word)
  /-- PLANE_ALIGNED (R546) -/
  | planeAligned (plane : Nat)
  /-- TICK_PERIOD_CHECK (R548) -/
  | tickPeriodCheck (okA : Bool) (okB : Bool)
  /-- TRIM_LIMIT (R549) -/
  | trimLimit (plane : Nat)
  /-- DROOP_FALLBACK (R557) -/
  | droopFallback (plane : Nat)
  /-- DROOP_RELEASE (R557) -/
  | droopRelease
  /-- LEVEL_SETTLE_EXPIRY (R556) -/
  | levelSettleExpiry (plane : Nat)
  /-- MEASUREMENT_DONE (R554) -/
  | measurementDone (ctr : Nat) (count : Word) (timeout : Bool)
  /-- FIELD_LOCK_EXPIRY (R533) -/
  | fieldLockExpiry
  /-- NONCE_EXPIRY (R534) -/
  | nonceExpiry
  /-- OPSEC_WRITE (R523) -/
  | opsecWrite (ok : Bool)
  /-- BYPASS (R532) -/
  | tapBypass (bits : Nat) (n : Nat)
  /-- IDCODE (R532) -/
  | tapIdcode
  /-- SAMPLE (R606) -/
  | tapSample
  /-- OBS_SEL (R532) -/
  | tapObsSel (sel : BitVec 10)
  /-- OBS_DATA (R532) -/
  | tapObsData
  /-- TEST_LOGIC_RESET (R532) -/
  | tapReset
  /-- SP_HI (R573) -/
  | winSpHi (loop : Nat) (d : BitVec 16)
  /-- SP_LO (R573) -/
  | winSpLo (loop : Nat) (d : BitVec 16)
  /-- MO_HI (R573) -/
  | winMoHi (loop : Nat) (d : BitVec 16)
  /-- MO_LO (R573) -/
  | winMoLo (loop : Nat) (d : BitVec 16)
  /-- MODE (R573) -/
  | winMode (loop : Nat) (d : BitVec 16)
  /-- CLAIM (R576) -/
  | winClaim (d : BitVec 16)
  /-- START (R576) -/
  | winStart
  /-- HOLD (R576) -/
  | winHold
  /-- RESUME (R576) -/
  | winResume
  /-- ADVANCE (R576) -/
  | winAdvance
  /-- WINDOW_ABORT (R576) -/
  | winAbort
  /-- WINDOW_STATUS_READ (R574) -/
  | windowStatusRead (addr : Nat)
  /-- WINDOW_READ (R579) -/
  | windowRead (addr : Nat)
  /-- WINDOW_REQUEST_TIMEOUT (R570) -/
  | windowRequestTimeout
  /-- RC_STABLE (R540) -/
  | rcStable (src : Nat)
  /-- PLL_LOCK_TIMEOUT (R551) -/
  | pllLockTimeout (plane : Nat)
  /-- CAN_INTEGRATION_DONE (R490) -/
  | canIntegrationDone (ch : Nat)
  /-- CAN_RECEIVE_ERROR (R510) -/
  | canReceiveError (ch : Nat)
  /-- COMPLETION_TIMEOUT (R419) -/
  | completionTimeout (ch : Nat) (qp : Nat)
  /-- LEDGER_READ_BACK (R316) -/
  | ledgerReadBack (ok : Bool)
  /-- OPERATING_SECOND (R523) -/
  | operatingSecond
  deriving DecidableEq, Repr, Inhabited

end Sys2Proof
end

