-- ==== Sys2Proof/Config.lean ====
section
/-! DEFINITION. What one implementation fixes and the spec leaves open. No constant here has a value
that Lean can see. -/

namespace Sys2Proof.Config

/-- The n-th free value: a result the spec leaves undefined or unstated (log entry 2). -/
opaque freeWord : Nat → DWord

/-- Firmware version that IDENTIFY returns (02 R81). -/
opaque fwVersion : BitVec 16

/-- Device serial number (02 R81, 20 Table 20-16). -/
opaque serial : DWord

/-- Data word of a queue-pair event: 0 interrupt, 1 ERR changed, 2 RETRY changed (02 R79 gives none). -/
opaque qpEvent : Nat → Word

/-- 64-bit booth signature, or digest, over the words it covers (01 R38, 11 R354). -/
opaque signature : List Word → DWord

/-- The n-th 16-byte nonce of the lock unit's generator, low 8 bytes first (17 R534). -/
opaque nonce : Nat → DWord × DWord

/-- How far, in units of 2^-24 FS, the sine that a test injects lies from the rounded exact value, for an amplitude and a
phase; 04 R143 gives 2^-20 FS as its bound, which the model imposes (log entry 95). -/
opaque sineError : Int → Nat → Int

/-- The angle of the null vector, in 2^-16 turn, which 08 R268 does not give. -/
opaque nullAngle : BitVec 16

/-- EMF ratio, Q1.15, where the expected amplitude is 0 (08 R268 gives no quotient there). -/
opaque emfRatio : Int → Int → BitVec 16

/-- Rate word that the PTP servo commits for an offset, from the rate in force (15 R480). -/
opaque servo : Int → Word → Word

/-- The public key of this number in the boot ROM, a point of P-384 (12 R387). -/
opaque publicKey : Nat → Nat × Nat

/-- Device offset in the descriptor that firmware builds for a channel, outside the capture buffers (13 R417 gives none). -/
opaque devOffset : Nat → Nat

/-- Firmware's own functions depend on this source, so it gets its events whatever FW says (17 R521). -/
opaque fwDepends : Nat → Bool

end Sys2Proof.Config
end

