-- ==== Sys2Proof/Machine/Flags.lean ====
section
/-! DEFINITION. Fixed-point arithmetic (00 R8, 03 R93), bit fields, sample-number order (00 R10), CRC-32C
(02 R58) and the sparse tables. -/

namespace Sys2Proof.Machine

/-! Bit fields -/

/-- Field [lo + len - 1 : lo] of a number. -/
def fieldN (x lo len : Nat) : Nat := x / 2 ^ lo % 2 ^ len

/-- Field [lo + len - 1 : lo] of a word. -/
def field (w : BitVec n) (lo len : Nat) : Nat := fieldN w.toNat lo len

/-- Bit i of a word. -/
def bit (w : BitVec n) (i : Nat) : Bool := w.getLsbD i

/-- A word with field [lo + len - 1 : lo] replaced. -/
def setField (w : BitVec n) (lo len v : Nat) : BitVec n :=
  BitVec.ofNat n (w.toNat - fieldN w.toNat lo len * 2 ^ lo + v % 2 ^ len * 2 ^ lo)

/-- A word with bit i replaced. -/
def setBit (w : BitVec n) (i : Nat) (b : Bool) : BitVec n := setField w i 1 b.toNat

/-- A word from a number, cut to its low bits. -/
def word (x : Nat) : Word := BitVec.ofNat 32 x

/-- A 64-bit word from a low and a high half. -/
def dword (lo hi : Word) : DWord := BitVec.ofNat 64 (lo.toNat + hi.toNat * 2 ^ 32)

/-- A 64-bit word from a number. -/
def dw (x : Nat) : DWord := BitVec.ofNat 64 x

/-- Low and high half of a 64-bit word. -/
def loWord (d : DWord) : Word := BitVec.ofNat 32 d.toNat
def hiWord (d : DWord) : Word := BitVec.ofNat 32 (d.toNat / 2 ^ 32)

/-- A saturating count: at most `m`. -/
def satAdd (m a b : Nat) : Nat := min m (a + b)

/-! Arithmetic of R93: exact, rounded to nearest with ties away from zero, saturated -/

/-- x limited to lo .. hi. -/
def clampI (lo hi x : Int) : Int := max lo (min x hi)

/-- n / d rounded to nearest, ties away from zero. -/
def rdiv (n : Int) (d : Nat) : Int :=
  if 0 ≤ n then (2 * n + d) / (2 * d) else -((2 * (-n) + d) / (2 * d))

/-- Saturation at the limits of a signed 32-bit format. -/
def sat32 (x : Int) : Word := BitVec.ofInt 32 (clampI (-2147483648) 2147483647 x)

/-- A value with f further fractional bits, as an FS word: rounded once, then saturated. -/
def fsRound (x : Int) (f : Nat) : Word := sat32 (rdiv x (2 ^ f))

/-- A word as a signed number of FS units. -/
def fsv (w : Word) : Int := w.toInt

/-- 1.0 FS. -/
def fsOne : Int := 16777216

/-! Sine and angle (04 R143, 08 R268) -/

/-- π / 2 in units of 2^-96. -/
def halfPi : Nat := 124451306656115542615260972311

/-- The next n terms of the sine series from the term t of order 2k + 1 on, summed onto acc; x2 is the square of the
angle. Units of 2^-96. -/
def sineTerms : Nat → Nat → Nat → Int → Int → Int
  | 0, _, _, _, acc => acc
  | n + 1, k, x2, t, acc =>
    let u := -(t * x2) / (2 ^ 96 * ((2 * k + 2) * (2 * k + 3)) : Nat)
    sineTerms n (k + 1) x2 u (acc + u)

/-- Sine of an angle of the first quadrant, n × 2^-32 turn with n up to 2^30, in units of 2^-62. -/
def sineQuad (n : Nat) : Int :=
  let x := n * halfPi / 2 ^ 30
  sineTerms 16 0 (x * x / 2 ^ 96) x x / 2 ^ 34

/-- sin(2π φ / 2^32) in units of 2^-62; the next unit is not exact. -/
def sinOf (ph : Nat) : Int :=
  let q := ph / 2 ^ 30 % 4
  let r := ph % 2 ^ 30
  let v := sineQuad (if q % 2 = 1 then 2 ^ 30 - r else r)
  if q < 2 then v else -v

/-- cos(2π φ / 2^32) in units of 2^-62. -/
def cosOf (ph : Nat) : Int := sinOf (ph + 2 ^ 30)

/-- The vector (x, y) with y ≥ 0 lies at (k + 1/2) × 2^-16 turn or beyond. -/
def beyond (y x : Int) (k : Nat) : Bool :=
  let ph := (2 * k + 1) * 2 ^ 15
  decide (x * sinOf ph ≤ y * cosOf ph)

/-- The number of such boundaries below 2^n that the vector has reached, above a known count. -/
def countBeyond (y x : Int) : Nat → Nat → Nat
  | 0, acc => acc
  | n + 1, acc => countBeyond y x n (if beyond y x (acc + 2 ^ n - 1) then acc + 2 ^ n else acc)

/-- atan2(y, x) in units of 2^-16 turn, rounded to nearest (R93): from -2^15 to 2^15. The null vector has no angle. -/
def angleOf (y x : Int) : Int :=
  let a : Int := countBeyond y.natAbs x 16 0
  if y < 0 then -a else a

/-! Sample numbers -/

/-- SN a is later than SN b (R10). -/
def snLater (a b : Word) : Bool := decide (0 < (a - b).toInt)

/-- Ticks from SN b to SN a, read as a signed number. -/
def snDiff (a b : Word) : Int := (a - b).toInt

/-! Bytes and CRC-32C -/

/-- The four bytes of a word, low first (R4). -/
def wordBytes (w : Word) : List Byte :=
  [BitVec.ofNat 8 w.toNat, BitVec.ofNat 8 (w.toNat / 256), BitVec.ofNat 8 (w.toNat / 65536),
    BitVec.ofNat 8 (w.toNat / 16777216)]

/-- The bytes of words in memory order. -/
def bytesOf : List Word → List Byte
  | [] => []
  | w :: r => wordBytes w ++ bytesOf r

/-- A little-endian number from bytes. -/
def leNat : List Byte → Nat
  | [] => 0
  | b :: r => b.toNat + 256 * leNat r

/-- The words that bytes spell; missing bytes of the last word are 0. -/
def wordsOf : List Byte → List Word
  | a :: b :: c :: d :: r => word (leNat [a, b, c, d]) :: wordsOf r
  | [] => []
  | r => [word (leNat r)]

/-- k steps of the reflected CRC-32C register. -/
def crcBits : Nat → Nat → Nat
  | 0, r => r
  | k + 1, r => crcBits k (if r % 2 = 1 then (r / 2) ^^^ 0x82F63B78 else r / 2)

/-- The register after the bytes. -/
def crcRun : List Byte → Nat → Nat
  | [], r => r
  | b :: t, r => crcRun t (crcBits 8 (r ^^^ b.toNat))

/-- CRC-32C over bytes (R58). -/
def crc32c (bs : List Byte) : Word := word (crcRun bs 0xFFFFFFFF ^^^ 0xFFFFFFFF)

/-! Sparse tables -/

/-- Entry k of a table whose unlisted entries are d. -/
def tget (d : α) : Tab α → Nat → α
  | [], _ => d
  | (k', v) :: r, k => if k' = k then v else tget d r k

/-- Ordered insertion. -/
def tput : Tab α → Nat → α → Tab α
  | [], k, v => [(k, v)]
  | (k', v') :: r, k, v =>
    if k < k' then (k, v) :: (k', v') :: r
    else if k = k' then (k, v) :: r
    else (k', v') :: tput r k v

/-- A table without entry k. -/
def tdel : Tab α → Nat → Tab α
  | [], _ => []
  | (k', v) :: r, k => if k' = k then tdel r k else (k', v) :: tdel r k

/-- A table with entry k set to v; an entry equal to d is not listed. -/
def tset [DecidableEq α] (d : α) (t : Tab α) (k : Nat) (v : α) : Tab α :=
  if v = d then tdel t k else tput (tdel t k) k v

/-- A table with entry k changed by f. -/
def tmod [DecidableEq α] (d : α) (t : Tab α) (k : Nat) (f : α → α) : Tab α :=
  tset d t k (f (tget d t k))

/-- Writes a list of values from entry k on. -/
def tsetMany [DecidableEq α] (d : α) (t : Tab α) : Nat → List α → Tab α
  | _, [] => t
  | k, v :: r => tsetMany d (tset d t k v) (k + 1) r

/-- The canonical form: keys strictly rising and no entry equal to d. -/
def twf [DecidableEq α] (d : α) : Tab α → Bool
  | [] => true
  | [(_, v)] => decide (v ≠ d)
  | (k, v) :: (k', v') :: r => decide (k < k') && decide (v ≠ d) && twf d ((k', v') :: r)

/-! Lists -/

/-- Element i of a list of words, 0 beyond its end. -/
def wordAt (l : List Word) (i : Nat) : Word := l.getD i 0

/-- f applied to s for each of a list, in order. -/
def forEach (l : List α) (f : α → σ → σ) (s : σ) : σ := l.foldl (fun s a => f a s) s

/-- 0 .. n - 1. -/
def upTo (n : Nat) : List Nat := List.range n

end Sys2Proof.Machine
end

