-- ==== Sys2Proof/Machine/State/Analog.lean ====
section
/-! DEFINITION. State of the output commit stage (01), the analogue front end, PWM and GP pins (14). -/

namespace Sys2Proof.Machine

/-- One converter group (14 R431, R438, R441). -/
structure AGroup where
  /-- converters in the roles; `none` when no working converter fills the role -/
  roleA : Option Nat := none
  roleB : Option Nat := none
  spare : Option Nat := none
  /-- the converter of the role failed in service; it is replaced at the next cut (R442) -/
  failA : Bool := false
  failB : Bool := false
  low : Bool := false
  /-- trigger kind, PW channel or GP pin, DELAY in 5 ns, and the injected list -/
  trig : Nat := 0
  trigPin : Nat := 0
  delay : Nat := 0
  inj : List Nat := []
  /-- begin and end of the latest injected sequences, in 5 ns from t0 of the present sample -/
  runs : List (Int × Int) := []
  /-- injected conversions still to come: end in 5 ns from t0 of the present sample, channel, codes -/
  todo : List (Int × Nat × List Int) := []
  /-- a test of KIND 0 is running (R444) -/
  test0 : Bool := false
  regDrop : Nat := 0
  injMiss : Nat := 0
  /-- a code 0x05 event was raised on the present tick -/
  missTick : Bool := false
  /-- CAL_PERIOD in seconds, CAL_TOL in LSB -/
  calPeriod : Nat := 60
  calTol : Nat := 8
  /-- ticks since the latest rotation began -/
  calTicks : Nat := 0
  /-- rotation under way: 0 none, 1 duplicating, 2 calibrating the outgoing converter; ticks of duplication -/
  rot : Nat := 0
  dupTicks : Nat := 0
  /-- the role the rotation replaces is B; the next rotation replaces B -/
  rotB : Bool := false
  nextB : Bool := false
  /-- SN of the latest handover -/
  handSn : Word := 0
  rotations : Nat := 0
  deriving DecidableEq, Repr, Inhabited

/-- One analogue input (14 R432 to R439, Table 14-5). The AI_CFG reset depends on the channel. -/
structure AChan where
  cfg : Option Word := none
  scale : Word := 0x01000000
  offs : Word := 0
  /-- ticks since the commit of the configuration -/
  cfgAge : Nat := 0
  value : Word := 0
  q : Bool := false
  /-- a value has been converted since reset -/
  have_ : Bool := false
  age : Nat := 0
  /-- value and Q for the coming sample, once converted or injected (R437, R438) -/
  nxt : Option (Word × Bool) := none
  /-- an injected result that came too late for the coming sample -/
  pend : Option (Word × Bool) := none
  ovr : Bool := false
  nfail : Bool := false
  /-- while failed: the latest conversion lay within 3.8 mA to 20.5 mA, and consecutive ticks for which that held -/
  nin : Bool := false
  nrun : Nat := 0
  drops : Nat := 0
  /-- kind of the running test of KIND 1 or 2 -/
  test : Option Nat := none
  deriving DecidableEq, Repr, Inhabited

/-- One current-loop output (14 R447 to R451). -/
structure CLoop where
  use : Bool := false
  dir : Nat := 0
  dly : Nat := 0
  sel : Nat := 0
  src : Nat := 0
  shortCnt : Nat := 0
  alarmClamped : Bool := false
  alarm : Bool := false
  sat : Bool := false
  /-- current set, as a code of 16 bits over 0 to 24 mA (R447) -/
  drive : Nat := 0
  open_ : Bool := false
  lost : Bool := false
  drvLimit : Bool := false
  /-- measured current in FS -/
  im : Word := 0
  /-- consecutive ticks good, below 0.2 mA, and with RQ = 1 -/
  goodRun : Nat := 0
  openRun : Nat := 0
  rqRun : Nat := 0
  /-- value committed on the previous tick -/
  prev : Word := 0
  deriving DecidableEq, Repr, Inhabited

/-- One PWM output (14 R446). -/
structure Pwm where
  period : Nat := 2000
  centre : Bool := false
  invert : Bool := false
  /-- high time and duty of the present period, and whether a period has begun -/
  high : Nat := 0
  duty : Word := 0
  running : Bool := false
  /-- begin of the next period in 5 ns from t0 of the present sample: t0 + 7.5 µs of the cut of PW_CONFIG, then each PERIOD -/
  next : Int := 1500
  deriving DecidableEq, Repr, Inhabited

/-- The front end. -/
structure Analog where
  groups : Tab AGroup := []
  ai : Tab AChan := []
  cl : Tab CLoop := []
  /-- AO range, OVLD and DAC code, by output -/
  aoRange : Tab Nat := []
  ovld : Tab Bool := []
  dac : Tab Nat := []
  pw : Tab Pwm := []
  /-- latest LOOPV in 10 mV, and the condition last reported: 0 normal, 1 low, 2 high -/
  loopv : Nat := 0
  loopvState : Nat := 0
  /-- coefficients O and G, G with 24 fractional bits, key 8 * converter + 4 in LOW + range, 3 current -/
  coef : Tab (Int × Int) := []
  /-- converters that have failed since reset -/
  failed : List Nat := []
  /-- GP pins set as outputs -/
  gpDir : Tab Bool := []
  deriving DecidableEq, Repr, Inhabited

/-- The output commit stage (01 R19 to R27): what it has committed and fenced. -/
structure Outs where
  /-- committed value by output channel 0 to 4223 (R21), once one was committed since start-up -/
  chan : Tab Word := []
  /-- the committed value of the sample before, for CL measurement -/
  have_ : Tab Bool := []
  /-- FENCED flag of the latest commit, by channel -/
  fenced : Tab Bool := []
  /-- committed level of GP outputs and words of digital station output entries -/
  gp : Tab Bool := []
  st : Tab Word := []
  /-- analogue domains AFE0 and AFE1 stand at the OFF-state level, and ticks since the supply came back -/
  afeOff : Tab Bool := []
  afeBack : Tab Nat := []
  /-- consecutive held commits, by channel (11 R359) -/
  heldRun : Tab Nat := []
  deriving DecidableEq, Repr, Inhabited

end Sys2Proof.Machine
end

