-- ==== Sys2Proof/Machine/State/Can.lean ====
section
/-! DEFINITION. State of the CAN channels (16). -/

namespace Sys2Proof.Machine

/-- An entry of a transmit FIFO (16 R496). -/
structure TxEnt where
  frame : CanFrame := {}
  /-- CAN_SEND tag, and whether code 0x02 is wanted -/
  tag : BitVec 16 := 0
  evt : Bool := false
  /-- errors so far -/
  errs : Nat := 0
  /-- on the bus -/
  onBus : Bool := false
  /-- sample of its release, and its place in the order of R496: connection, 64 + slot, 128 for CAN_SEND -/
  sn : Word := 0
  key : Nat := 0
  deriving DecidableEq, Repr, Inhabited

/-- A received frame as R513 describes it. -/
structure RxEnt where
  frame : CanFrame := {}
  tstamp : DWord := 0
  sn : Word := 0
  filter : Nat := 0
  ovw : Bool := false
  deriving DecidableEq, Repr, Inhabited

/-- A scheduling slot (16 R497): the words of CAN_SCHED and ticks since its commit. -/
structure CanSlot where
  p0 : Word := 0
  p1 : Word := 0
  p2 : Word := 0
  srcs : List Word := []
  count : Nat := 0
  /-- released on the present sample -/
  sent : Bool := false
  deriving DecidableEq, Repr, Inhabited

/-- A receive signal (16 R507). -/
structure CanSignal where
  p0 : Word := 0
  scale : Word := 0
  offs : Word := 0
  maxAge : Nat := 0
  value : Word := 0
  /-- ticks since the value's frame; none while no value exists -/
  age : Option Nat := none
  deriving DecidableEq, Repr, Inhabited

/-- One channel. -/
structure CanChan where
  /-- Table 16-1 -/
  state : Nat := 0
  cfg : Word := 0x0F000000
  nbt : Word := 0x04AC38E7
  dbt : Word := 0x0A7A99D0
  xbt : Word := 0x0A7A99D0
  pwm : Word := 0
  refCyc : Nat := 0
  tec : Nat := 0
  recv : Nat := 0
  tx : List TxEnt := []
  /-- entries that the active plane released while a check roll is under way -/
  held : List TxEnt := []
  rx : List RxEnt := []
  hp : Tab (Option RxEnt) := []
  /-- filter records, key 4 * filter + word -/
  filters : Tab Word := []
  slots : Tab CanSlot := []
  /-- counters 0 to 8 of CAN_STATUS WHICH -/
  counts : Tab Nat := []
  timeMark : DWord := 0
  /-- ticks since the CAN_CONFIG commit; a reference message is waiting; its cycle count -/
  refAge : Nat := 0
  refPend : Bool := false
  /-- the reference message that was presented last -/
  refTx : Option CanFrame := none
  refCycle : Nat := 0
  /-- codes raised once per tick were raised on this tick -/
  dropTick : Bool := false
  ovfTick : Bool := false
  deriving DecidableEq, Repr, Inhabited

/-- The CAN channels and their receive signals. The standby plane's shadow FIFO (11 R362) holds the
same entries in the same order. -/
structure Can where
  chans : Tab CanChan := []
  /-- shadow FIFO, by channel -/
  shadow : Tab (List TxEnt) := []
  signals : Tab CanSignal := []
  deriving DecidableEq, Repr, Inhabited

end Sys2Proof.Machine
end

