-- ==== Sys2Proof/Machine/State/Clock.lean ====
section
/-! DEFINITION. State of clocks and power domains (18), the MS-240 window (19) and the balls (20). -/

namespace Sys2Proof.Machine

/-- A clock source of Table 18-1. -/
structure ClkSrc where
  running : Bool := false
  /-- count passed, and judged stable -/
  counted : Bool := false
  stable : Bool := false
  /-- its monitor found it lost since it was last stable -/
  lost : Bool := false
  deriving DecidableEq, Repr, Inhabited

/-- Clocks and levels of one plane (18 Table 18-13, R542 to R557). -/
structure PClk where
  trim : Word := 0
  locked : Bool := false
  coast : Bool := false
  aligned : Bool := false
  /-- consecutive tick edges within 5 ns, and consecutive ticks at the TRIM limit -/
  alignRun : Nat := 0
  limitRun : Nat := 0
  /-- level the management clock runs at, VID code, and the level a step up goes to, with ticks left and cause -/
  level : Nat := 2
  vid : Nat := 0
  settle : Option (Nat × Nat × Nat) := none
  deriving DecidableEq, Repr, Inhabited

/-- A frequency counter (18 R554). -/
structure FCount where
  busy : Bool := false
  tag : BitVec 16 := 0
  qp : Nat := 0
  meas : Nat := 0
  ref : Nat := 0
  gate : Nat := 0
  deriving DecidableEq, Repr, Inhabited

/-- Clocks and power domains. -/
structure Clock where
  /-- sources by code of Table 18-1 -/
  srcs : Tab ClkSrc := []
  a : PClk := {}
  b : PClk := {}
  /-- edge difference of the latest tick, in 0.25 ns -/
  delta : Int := 0
  umpSlow : Bool := true
  frcLost : Bool := false
  /-- crystal monitors referenced to the umpire PLL; SM armed; AON runs from XTAL32 -/
  xmUmp : Bool := false
  smArmed : Bool := false
  aonXtal : Bool := false
  settle : Nat := 5
  ceil : Nat := 0
  /-- level of a droop fall-back that holds (R557) -/
  fallback : Option Nat := none
  /-- the boot ROM has raised the level in START (R557) -/
  bootRaised : Bool := false
  counters : Tab FCount := []
  /-- gates that are OFF -/
  gateOff : Tab Bool := []
  /-- SEL and N of CLKOUT0 and CLKOUT1 -/
  outSel : Tab Nat := []
  outN : Tab Nat := []
  /-- powered domains, and those with a supply out of range -/
  powered : Tab Bool := []
  tripped : Tab Bool := []
  /-- operating seconds, and those not yet written to the boot record (17 R523) -/
  opsec : Word := 0
  opsecDue : Nat := 0
  /-- wake timer: seconds left, as SET_STATE STANDBY set it -/
  wake : Option Word := none
  /-- IDLE to RUN: SN of the cut a, while it runs (R563) -/
  idleWake : Option Word := none
  deriving DecidableEq, Repr, Inhabited

/-- The MS-240 window (19). -/
structure WindowBus where
  legacy : Bool := false
  /-- staging high bytes, by loop -/
  spHi : Tab Nat := []
  moHi : Tab Nat := []
  /-- LSTAT flags MODE_REF, MO_IGN and OWN_IGN, by loop; the others are the planes' -/
  lstat : Tab Word := []
  /-- WSTAT flags SWITCH, STATE_IGN, CLAIM_REF and CMD_REF; the others are the planes' -/
  wstat : Word := 0
  claimed : Bool := false
  session : Nat := 0
  /-- BUSY# is low -/
  busy : Bool := true
  /-- reads are blanked (R579); cuts left after the election, once it has come -/
  blank : Bool := false
  blankLeft : Option Nat := none
  /-- WSTAT.SWITCH is set at the next cut -/
  swDue : Bool := false
  /-- a CLAIM or CMD request waiting for acceptance: false CLAIM, true CMD; and its data -/
  request : Option (Bool × Nat) := none
  /-- data of the latest read -/
  dout : BitVec 16 := 0
  /-- window writes waiting for their cut (R575): loop, kind 0 SP, 1 MO, 2 MODE, and value -/
  writes : List (Nat × Nat × Word) := []
  deriving DecidableEq, Repr, Inhabited

/-- Levels at the digital balls that the block reads (20 R606), and the step/direction pairs it drives. -/
structure Pins where
  /-- GP input levels, by pin, as last sampled -/
  gpIn : Tab Bool := []
  /-- encoder counters of ENC0 to ENC15 as latched at t0, and illegal-transition flags -/
  enc : Tab Word := []
  /-- their counts extended since reset, and the last change of each (08 R270, R274) -/
  encPos : Tab Int := []
  encStep : Tab Int := []
  encIllegal : Tab Bool := []
  /-- SDn_DIR, and the pulses of the latest sample on SDn_STEP (08 R278) -/
  sdDir : Tab Bool := []
  sdPulses : Tab Nat := []
  deriving DecidableEq, Repr, Inhabited

end Sys2Proof.Machine
end

