-- ==== Sys2Proof/Machine/State/Fabric.lean ====
section
/-! DEFINITION. State of one plane's loop fabric: booths, models, tests (03, 04) and dispatcher (05). -/

namespace Sys2Proof.Machine

/-- A loop record of the loop fabric configuration (05 Table 5-4). -/
structure LoopRec where
  loop : Nat := 0
  req : Nat := 0
  prio : Nat := 0
  rateDiv : Nat := 0
  law : Nat := 0
  flow : Nat := 0
  schedSrc : Nat := 0
  phase : Nat := 0
  /-- word 2, as BIND -/
  bind : Word := 0
  deriving DecidableEq, Repr, Inhabited

/-- A route record (05 Table 5-5). -/
structure Route where
  srcKind : Nat := 0
  delay : Bool := false
  port : Nat := 0
  dest : Nat := 0
  src : Nat := 0
  deriving DecidableEq, Repr, Inhabited

/-- A flow record (05 Table 5-6); sink and bpSrc are 0, or 1 to 8 for FP0 to FP7. -/
structure FlowRec where
  flow : Nat := 0
  depth : Nat := 0
  bpSrc : Nat := 0
  sink : Nat := 0
  deriving DecidableEq, Repr, Inhabited

/-- The loop fabric configuration in force. -/
structure FabCfg where
  loops : List LoopRec := []
  routes : List Route := []
  flows : List FlowRec := []
  /-- the image words, as the final checkpoint keeps them -/
  image : List Word := []
  deriving DecidableEq, Repr, Inhabited

/-- A token (05 Table 5-1). -/
structure Token where
  value : Word
  sn : BitVec 16
  q : Bool
  /-- 0 operand, 1 context write, 2 feedback (Table 5-2) -/
  kind : Nat := 0
  port : Nat
  loop : Nat
  /-- one odd-parity bit for each byte -/
  par : BitVec 8 := 0
  deriving DecidableEq, Repr, Inhabited

/-- An entry of the matching store (05 R165): an operand token, whose sample is kept at full width. -/
structure StoreEnt where
  loop : Nat
  port : Nat
  sn : Word
  value : Word
  q : Bool
  par : BitVec 8 := 0
  /-- value and Q that it replaced -/
  old : Option (Word × Bool) := none
  deriving DecidableEq, Repr, Inhabited

/-- A context-write token waiting for its cut (03 R112); port 0 is SP_TARGET, 1 is OUT. -/
structure CtxWrite where
  loop : Nat
  port : Nat
  sn : Word
  value : Word
  par : BitVec 8 := 0
  deriving DecidableEq, Repr, Inhabited

/-- A ready task, or one in issue. Times are booth cycles of 1.25 ns from t0 of the present sample. -/
structure Task where
  loop : Nat
  sn : Word
  /-- instant at which it became ready, or at which its issue began -/
  at_ : Int
  /-- fired at the sample deadline (R169) -/
  dl : Bool := false
  /-- operands taken: PV, SP, FF, AUX with quality, and which were missing -/
  ops : List (Word × Bool) := []
  /-- the SP operand is taken (R115) -/
  spUsed : Bool := false
  deriving DecidableEq, Repr, Inhabited

/-- A result held in or released from a flow (05 R172 to R174). -/
structure FlowRes where
  flow : Nat
  loop : Nat
  sn : Word
  out : Word
  rq : Bool
  /-- entered after the deadline -/
  late : Bool := false
  /-- instant of flow entry in booth cycles from t0 -/
  at_ : Int := 0
  /-- PV, SP_EFF and RESID of the execution -/
  pv : Word := 0
  sp : Word := 0
  resid : Word := 0
  deriving DecidableEq, Repr, Inhabited

/-- A value of an output register waiting for a later commit (R174). -/
structure LateOut where
  dest : Nat
  value : Word
  deriving DecidableEq, Repr, Inhabited

/-- A test on a loop (04 R142 to R146). -/
structure Test where
  /-- 0 none, 1 running, 2 ended normally, 3 aborted -/
  status : Nat := 0
  type : Nat := 0
  /-- 0 SP, 1 OUT -/
  point : Nat := 0
  format : Nat := 0
  stopOnFence : Bool := false
  n : Nat := 0
  ampl : Word := 0
  base : Nat := 0
  len : Nat := 0
  p4 : Word := 0
  p5 : Word := 0
  p6 : Word := 0
  /-- executions made -/
  k : Nat := 0
  /-- PRBS register or SINE phase -/
  reg : Nat := 0
  /-- SINE frequency in force, cycles in the step and step index -/
  freq : Nat := 0
  cycles : Nat := 0
  stepIx : Nat := 0
  /-- OUT at the first execution -/
  outBase : Word := 0
  records : Nat := 0
  fencedSeen : Bool := false
  cause : Nat := 0
  stopReq : Bool := false
  /-- the last execution is done; PREV_MODE is taken at the next -/
  endDue : Bool := false
  deriving DecidableEq, Repr, Inhabited

/-- One booth's activity in one tick, for BOOTH_STATUS (03 R124). -/
structure BoothTick where
  load : Nat := 0
  lastResult : Nat := 0
  stale : Nat := 0
  deriving DecidableEq, Repr, Inhabited

/-- Statistics of one flow (05 R188). -/
structure FlowStat where
  peak : Nat := 0
  bpTicks : Nat := 0
  drops : Nat := 0
  deriving DecidableEq, Repr, Inhabited

/-- A booth group (03 R126, R128). -/
structure Group where
  powered : Bool := true
  keep : Bool := false
  /-- consecutive ticks with the power-down conditions met -/
  quiet : Nat := 0
  /-- SN of the cut that started a wake, while it runs -/
  wakeAt : Option Word := none
  deriving DecidableEq, Repr, Inhabited

/-- One plane's loops, booths and dispatcher. -/
structure Fabric where
  /-- loop contexts, key 64 * loop + word (R90) -/
  ctx : Tab Word := []
  cfg : Option FabCfg := none
  /-- effects due at the loop's first execution in its mode (R98, R101, R109, R134):
  bit 0 PV filter restarts, 1 soft start, 2 bumpless, 3 model initialisation, 4 OUT = A, 5 Y0 is set -/
  entry : Tab Nat := []
  /-- port latches and pending registers, key 4 * loop + port -/
  latch : Tab (Word × Bool) := []
  /-- what each latch held before, with the set-point of `csp` then (05 R160) -/
  latchOld : Tab (Word × Bool × Word) := []
  /-- last SP value delivered to a loop with Q = 0 (R115) -/
  csp : Tab Word := []
  pend : Tab (Option (Word × Bool)) := []
  store : List StoreEnt := []
  /-- operand tokens that back-pressure holds, with the path each came by, in order of arrival (05 R177) -/
  heldTok : List (Token × Nat) := []
  /-- feedback of the latest commit that was discarded for its parity: loop and PORT (05 R160) -/
  lostFb : List (Nat × Nat) := []
  ctxWrites : List CtxWrite := []
  /-- feedback tokens of inner loops to be applied at the next cut (R116) -/
  reports : List Token := []
  /-- operand tokens of delayed links for the next cut -/
  delayed : List Token := []
  /-- the matching store has not yet judged the present cut (R165) -/
  cutOpen : Bool := false
  /-- loops whose execution sample this is, in ascending order; once the cut is judged, those that
  execute on it; and those fired on it -/
  due : List Nat := []
  fired : List Nat := []
  /-- loop and word index pairs a step action named at this cut (R27) -/
  stepNamed : List (Nat × Nat) := []
  /-- tasks in the ready lists, in order of readiness -/
  ready : List Task := []
  /-- tasks in issue, at most one result pending per issue instant -/
  inflight : List Task := []
  /-- booth issue stage busy until, by booth -/
  busy : Tab Int := []
  results : List FlowRes := []
  /-- instant of the sample that the rows so far have reached, in booth cycles from t0 -/
  now : Int := 0
  /-- flows that were full since the latest cut (05 R187, R188) -/
  bpSeen : List Nat := []
  /-- results of the sample are past the deadline -/
  deadlineDone : Bool := false
  /-- output registers (R97), by output channel -/
  outReg : Tab Word := []
  lateOut : List LateOut := []
  /-- loops whose results were released since the latest cut -/
  relNow : List Nat := []
  /-- the signature of the sample was exchanged; results released after that, and those of the tick before (05 R174) -/
  exchanged : Bool := false
  relAfter : List FlowRes := []
  relPrev : List FlowRes := []
  /-- the loop contexts as of the latest flow release (02 R85), key as `ctx` -/
  ctxRel : Tab Word := []
  /-- RQ of each loop's latest released result (R171); a loop without one is not listed -/
  relRq : Tab Bool := []
  /-- values of the latest release: PV, SP_EFF, OUT, RESID, key 4 * loop + signal -/
  relVal : Tab Word := []
  /-- QUAL, RQ and MODE of the latest release, as IN_LOOP shows them (07 R228) -/
  relStat : Tab Word := []
  /-- dispatcher counters of Table 5-8 -/
  counters : Tab Nat := []
  flowStat : Tab FlowStat := []
  /-- model dead-time buffers, key 256 * loop + index -/
  dead : Tab Word := []
  tests : Tab Test := []
  /-- capture buffer slots, key 32768 * booth + slot: two words -/
  capt : Tab (Word × Word) := []
  groups : Tab Group := []
  /-- LSTAT flags HOLD, FENCED and STALE (19 Table 19-4), by loop -/
  lstat : Tab Word := []
  /-- per booth, the last 1000 ticks, latest first -/
  boothHist : Tab (List BoothTick) := []
  deriving DecidableEq, Repr, Inhabited

end Sys2Proof.Machine
end

