-- ==== Sys2Proof/Machine/State/Field.lean ====
section
/-! DEFINITION. State of the field links, management Ethernet, PTP and device time (15). -/

namespace Sys2Proof.Machine

/-- A section of an output frame (15 Table 15-4). -/
structure KSection where
  addr : Nat := 0
  data : Bool := false
  arm : Bool := false
  ackSn : Word := 0
  words : List Word := []
  deriving DecidableEq, Repr, Inhabited

/-- One field port (15 R456 to R468). -/
structure FPort where
  /-- 0 off, 1 100 Mbit/s, 2 1 Gbit/s, 3 2.5 Gbit/s -/
  speed : Nat := 0
  serdesX : Bool := false
  cycPhase : Nat := 0
  lostCnt : Nat := 3
  margin : Nat := 20
  mac : Nat := 0
  linkUp : Bool := false
  clockRec : Bool := false
  /-- the link went down since the latest input cut -/
  linkFell : Bool := false
  epoch : BitVec 16 := 0
  /-- ticks since the grid origin -/
  grid : Nat := 0
  /-- received frames held, oldest first (R457) -/
  rx : List KFrame := []
  discards : Nat := 0
  /-- a discard was reported on the present tick -/
  discTick : Bool := false
  /-- what is left of the frame under way at t0 + 6.0 µs of the present sample, in 0.1 ns (05 R176) -/
  txBusy : Nat := 0
  /-- the frame of the present sample was sent; a frame is to be sent again after an election (11 R360) -/
  sent : Bool := false
  resend : Bool := false
  /-- SN and sections of the latest output frame -/
  txSn : Word := 0
  tx : List KSection := []
  deriving DecidableEq, Repr, Inhabited

/-- One remote station (15 R469 to R476). -/
structure Station where
  en : Bool := false
  inBase : Nat := 0
  outBase : Nat := 0
  mac : Nat := 0
  /-- MAC configured as 0: learned -/
  learn : Bool := false
  /-- module descriptors: KIND, OUT_W, IN_W -/
  mods : List (Nat × Nat × Nat) := []
  online : Bool := false
  armed : Bool := false
  safe : Bool := false
  outWd : Bool := false
  mstale : BitVec 16 := 0
  /-- consecutive cycles without a delivered frame, and the saturating counters of FP_STATUS -/
  missed : Nat := 0
  noFrame : Nat := 0
  lateAcks : Nat := 0
  ackSn : Word := 0
  /-- the frame of the latest cycle sample was delivered by t0 + 6.0 µs of it -/
  got : Bool := false
  /-- a frame was delivered since the latest cycle sample -/
  since : Bool := false
  /-- input words and MSTALE delivered for the coming sample -/
  arrived : Option (List Word × BitVec 16) := none
  armReq : Bool := false
  everArmed : Bool := false
  deriving DecidableEq, Repr, Inhabited

/-- One management port (15 R477). -/
structure MgtPort where
  mode : Nat := 0
  mac : Nat := 0
  ip : Word := 0
  linkUp : Bool := false
  discards : Nat := 0
  deriving DecidableEq, Repr, Inhabited

/-- A PTP message as the engine sends it (15 R478, R479): its departure time-stamp in ns, and what the transmitter and the
configuration put into it. -/
structure PtpOut where
  port : Nat := 0
  kind : Nat := 0
  time : DWord := 0
  twoStep : Bool := false
  /-- originTimestamp of Sync; what turnaround adds to the correctionField of Pdelay_Resp, in 2^-16 ns -/
  origin : DWord := 0
  correction : DWord := 0
  domain : Nat := 0
  /-- priority1, clockClass and priority2 of Announce -/
  prio1 : Nat := 0
  clockClass : Nat := 248
  prio2 : Nat := 0
  /-- over UDP, with this checksum -/
  udp : Bool := false
  checksum : Nat := 0
  deriving DecidableEq, Repr, Inhabited

/-- The PTP engine (15 R478 to R480). -/
structure Ptp where
  cfg : Word := 0
  intervals : Word := 0
  lats : Word := 0
  rateLim : Word := 0
  stepThr : Word := 0
  /-- portState as IEEE 1588-2019 enumerates it -/
  portState : Nat := 3
  /-- port in use -/
  port : Nat := 0
  delay : Nat := 0
  offset : Word := 0
  /-- a valid offset from the master has been found -/
  offsetValid : Bool := false
  /-- latest message sent, and time-stamp of the latest one received -/
  sent : Option PtpOut := none
  rxTime : DWord := 0
  /-- step, in 2^-16 ns, and rate that the servo commits at the next cut -/
  stepDue : Option Int := none
  rateDue : Option Word := none
  deriving DecidableEq, Repr, Inhabited

/-- A compare unit (15 R485). -/
structure Cmp where
  target : DWord := 0
  en : Bool := false
  deriving DecidableEq, Repr, Inhabited

/-- A plane's counter and its reference (15 R481, R486). -/
structure PlaneTime where
  /-- R at t0 of the latest input cut, R_REF, and OFS as it goes with that reference -/
  r : DWord := 0
  rRef : DWord := 0
  ofs : BitVec 96 := 0
  deriving DecidableEq, Repr, Inhabited

/-- Device time (15 R481 to R486); OFS stands with each plane's reference. -/
structure DevTime where
  rate : Word := 0
  /-- the one step between two resets has committed (R483) -/
  stepUsed : Bool := false
  cmps : Tab Cmp := []
  deriving DecidableEq, Repr, Inhabited

/-- Field links, management Ethernet and device time. -/
structure Field where
  ports : Tab FPort := []
  stations : Tab Station := []
  /-- input entries, their latest IN_ST values, and those delivered by t0 of the present sample; and IN_MQ bits, key
  16 * station + module -/
  inSt : Tab Word := []
  inT0 : Tab Word := []
  inMq : Tab Bool := []
  /-- station states ONLINE and ARMED, and IN_MQ, as they stood at t0 of the present sample (07 R228) -/
  onT0 : Tab Bool := []
  armT0 : Tab Bool := []
  mqT0 : Tab Bool := []
  mgt : Tab MgtPort := []
  ptp : Ptp := {}
  time : DevTime := {}
  deriving DecidableEq, Repr, Inhabited

end Sys2Proof.Machine
end

