-- ==== Sys2Proof/Machine/State/Host.lean ====
section
/-! DEFINITION. State of the host interface (02), of events, recorder, observation and lock (17). -/

namespace Sys2Proof.Machine

/-- Device states (01 Table 1-3). -/
inductive DevState where
  | off | start | ready | run | idle | standby | safe
  deriving DecidableEq, Repr, Inhabited

/-- One queue pair (02 R51, R53; reset values of Tables 2-6 and 2-7). -/
structure QPair where
  sqBase : DWord := 0
  cqBase : DWord := 0
  /-- QP_CTRL -/
  ctrl : Word := 0x4400
  /-- last values written to the doorbells -/
  tailReg : Word := 0
  headReg : Word := 0
  sqTail : Nat := 0
  sqHead : Nat := 0
  cqTail : Nat := 0
  cqHead : Nat := 0
  /-- phase bit of the next completion (R62) -/
  phase : Bool := true
  /-- completion sequence, modulo 65536 (R61) -/
  seq : BitVec 16 := 0
  pauseSrc : Bool := false
  retry : Bool := false
  paused : Bool := false
  errCause : BitVec 2 := 0
  err : Bool := false
  /-- QP_CRC_ERRS, saturating -/
  crcErrs : BitVec 16 := 0
  /-- completions counted since the last signal (R78) -/
  coalCount : Nat := 0
  /-- ticks since the first completion so counted -/
  coalAge : Nat := 0
  /-- QP_CTRL as it stood when the latest completion was posted (R52) -/
  coalCtrl : Word := 0x4400
  deriving DecidableEq, Repr, Inhabited

/-- Why an accepted command has not completed yet. -/
inductive Wait where
  /-- consumed with ORDER; the entries before it, whose tags it keeps, have not all completed -/
  | order
  /-- forwarded; its commit cut has not come -/
  | cut
  /-- in the timed store of R84 -/
  | timed
  /-- both planes have it; it waits for the device row that ends it (a measurement, a read-back, a test) -/
  | device
  deriving DecidableEq, Repr, Inhabited

/-- An outstanding command (02 R71). -/
structure Cmd where
  sub : Sub
  op : Nat
  wait : Wait := .cut
  /-- commit point passed, with its SN -/
  committed : Option Word := none
  /-- words the command keeps while it waits -/
  aux : List Word := []
  deriving DecidableEq, Repr, Inhabited

/-- A completion formed and not yet posted: the page of its CQ slot waits for its walk (13 R420, R421). -/
structure Post where
  qp : Nat
  tag : BitVec 16
  status : Nat
  result : DWord
  suppress : Bool
  /-- opcode of its command, and SN of the commit point it passed (R71, R72) -/
  op : Nat := 0
  commit : Option Word := none
  deriving DecidableEq, Repr, Inhabited

/-- The latest burst of DMA channel 0: the queue pair and tag it served, its host address and bytes, and its direction: `dir`
host to device (13 Tables 13-8 to 13-10). -/
structure Ch0 where
  qp : Nat := 0
  tag : BitVec 16 := 0
  host : Nat := 0
  length : Nat := 0
  dir : Bool := false
  /-- parity repeats of that burst -/
  retries : Nat := 0
  deriving DecidableEq, Repr, Inhabited

/-- The PCIe function, BAR0's queue pairs and the front end (02). -/
structure Hif where
  linkUp : Bool := false
  /-- negotiated rate in GT/s and width -/
  linkRate : Nat := 0
  linkWidth : Nat := 0
  d3hot : Bool := false
  qps : Tab QPair := []
  /-- MSI-X table, key 4 * vector + word -/
  msix : Tab Word := []
  /-- MSI-X pending bit array -/
  pba : DWord := 0
  /-- commands consumed and not yet completed, oldest first -/
  cmds : List Cmd := []
  /-- completions whose CQ page waits for its walk, oldest first -/
  posts : List Post := []
  ch0 : Ch0 := {}
  /-- MSI-X Enable and Function Mask of configuration space (PCIe, log entry 5) -/
  msixEn : Bool := false
  msixMask : Bool := false
  /-- the backlog has stood above 192, and the timed store above 768, since they were last eased (R75) -/
  fwHigh : Bool := false
  timedHigh : Bool := false
  /-- what the device has written to host memory, by byte, at the addresses its descriptors name -/
  hostMem : List Host.Cell := []
  /-- DEV_FW_LOAD.LOAD -/
  load : Nat := 0
  /-- data of the latest BAR0 read that is a command of the model -/
  rdata : DWord := 0
  deriving DecidableEq, Repr, Inhabited

/-- An event (17 R516). -/
structure Ev where
  sn : Word := 0
  src : Nat := 0
  data : Word := 0
  /-- EXT0 to EXT3 -/
  ext : List Word := []
  /-- 0 shared, 1 Plane A, 2 Plane B -/
  plane : Nat := 0
  preTick : Bool := false
  tNs : DWord := 0
  /-- operating seconds at the posting -/
  opsec : Word := 0
  /-- its record stands in the recorder already -/
  recorded : Bool := false
  /-- raised while a final checkpoint is being written (12 R394) -/
  mid : Bool := false
  deriving DecidableEq, Repr, Inhabited

/-- Event routing and the recorder (17 R518 to R528). -/
structure Evts where
  /-- EVT_CFG by source; resets as R518 and R520 say -/
  cfg : Tab Word := []
  /-- data of the latest event of each source; EVT_DATA shows those of 0x040 to 0x1FF -/
  data : Tab Word := []
  /-- events delivered to firmware, saturating (R521) -/
  fwCount : Tab Nat := []
  /-- raised by shared blocks and the umpire, not yet posted -/
  queue : List Ev := []
  /-- latest sample whose posting fell due while the umpire was deciding (R516) -/
  postDue : Option Word := none
  /-- records waiting to be written, at most 1024 (R524) -/
  recQueue : List Ev := []
  /-- records lost to a full queue: count and SN of the first -/
  lostCount : Nat := 0
  lostSn : Word := 0
  /-- recorder slots: the 16 words of each -/
  slots : Tab (List Word) := []
  next : Nat := 0
  full : Bool := false
  /-- EVR_CURSOR.SLOT -/
  cursor : Nat := 0
  deriving DecidableEq, Repr, Inhabited

/-- Trace port (17 R530). -/
structure Trace where
  run : Bool := false
  div : Nat := 0
  plane : Nat := 0
  events : Bool := false
  /-- selected signals: loop and signal of Table 10-3 -/
  sigs : List (Nat × Nat) := []
  /-- packets were dropped in the previous tick -/
  lost : Bool := false
  /-- ticks since SYNC -/
  syncCnt : Nat := 0
  /-- the words driven in the latest tick -/
  sent : List Word := []
  /-- EVENT packets waiting for the tick's turn -/
  evq : List Word := []
  deriving DecidableEq, Repr, Inhabited

/-- Test access port (17 R532). -/
structure Tap where
  ir : BitVec 8 := 0x01
  obsSel : BitVec 10 := 0
  /-- bits shifted out, least significant first; none while TDO is high-impedance (12 Table 12-2) -/
  tdo : Option Nat := none
  deriving DecidableEq, Repr, Inhabited

/-- Field lock (17 R533 to R536). -/
structure Lock where
  isOpen : Bool := false
  /-- ticks since the opening cut -/
  openTicks : Nat := 0
  /-- 16-byte nonce, low 8 bytes first -/
  nonce : Option (DWord × DWord) := none
  /-- operating seconds since the nonce was drawn -/
  nonceAge : Nat := 0
  /-- operating seconds since the latest failure -/
  failAge : Nat := 0
  deriving DecidableEq, Repr, Inhabited

end Sys2Proof.Machine
end

