-- ==== Sys2Proof/Machine/State/Motion.lean ====
section
/-! DEFINITION. State of the axis generators (08), the safety monitors and the seal (09). -/

namespace Sys2Proof.Machine

/-- What one axis generator keeps beside its context (08 R268 to R277). -/
structure AxHid where
  /-- the generator has computed the present sample -/
  ticked : Bool := false
  /-- feedback: last raw count, and whether one was taken -/
  fbLast : Word := 0
  fbTaken : Bool := false
  /-- restored: CPOS takes APOS at the first feedback (12 R397) -/
  adopt : Bool := false
  /-- HOMING: the stop was found and the axis backs off -/
  backOff : Bool := false
  /-- CPOS of the two ticks before, in P64 units, latest first (R275) -/
  prevCpos : Int := 0
  prevCpos2 : Int := 0
  /-- a scheduled ratio change is armed (R276) -/
  schedArmed : Bool := false
  /-- pulses emitted on the latest sample (R278) and the sign of the change -/
  pulses : Nat := 0
  stepNeg : Bool := false
  deriving DecidableEq, Repr, Inhabited

/-- The axis generators of one plane. -/
structure Axes where
  /-- axis contexts, key 64 * axis + word (Table 8-2) -/
  ctx : Tab Word := []
  hid : Tab AxHid := []
  /-- the contexts as they stood after the latest computation (08 R286), key as `ctx` -/
  shown : Tab Word := []
  /-- axis states of the sample before, which a scan program reads (07 R228) -/
  before : List Nat := []
  deriving DecidableEq, Repr, Inhabited

/-- A monitored SS1 in progress (09 R298). -/
structure Ss1 where
  /-- samples since the demand -/
  n : Nat := 0
  /-- |SPOS(d) - SPOS(d - SPD_WIN)| at the demand sample d -/
  vd : Int := 0
  /-- consecutive samples at or below SS_VZERO -/
  zeroRun : Nat := 0
  deriving DecidableEq, Repr, Inhabited

/-- What the safety monitor keeps of one axis (09 R292 to R298). -/
structure SafeAx where
  /-- extended raw count and last raw value of the safe position source -/
  ext : Int := 0
  last : Word := 0
  taken : Bool := false
  /-- SPOS history, latest first, at most 65 -/
  hist : List Int := []
  /-- consecutive valid samples -/
  validRun : Nat := 0
  /-- host activation bits [0] SLS, [1] SDI, [2] SLP, and a host stop in the request register -/
  hostAct : Nat := 0
  hostStop : Bool := false
  /-- functions active, as the same bits -/
  active : Nat := 0
  /-- samples since SLS activation -/
  slsAge : Nat := 0
  maxSpos : Int := 0
  minSpos : Int := 0
  /-- a valid SPOS has been seen since SDI became active -/
  sdiSeen : Bool := false
  /-- functions violated on the latest sample, as the same bits -/
  violated : Nat := 0
  discOfs : Int := 0
  discRun : Nat := 0
  wasDisabled : Bool := true
  /-- latched demand and cause (Table 9-5) -/
  demand : Bool := false
  cause : Nat := 0
  ss1 : Option Ss1 := none
  deriving DecidableEq, Repr, Inhabited

/-- A safety connection (09 R304 to R307). -/
structure Conn where
  /-- 0 SYNC, 1 RUN, 2 FAILED -/
  state : Nat := 0
  cause : Nat := 0
  lastSeq : Nat := 0
  /-- a PDU was accepted since entry into SYNC -/
  haveSeq : Bool := false
  lastPdu : List Byte := []
  wdt : Nat := 0
  crcErr : Nat := 0
  dup : Nat := 0
  data : List Byte := []
  /-- producer: SEQ of the next PDU and whether one was sent -/
  txSeq : Nat := 0
  txFirst : Bool := true
  txPdu : List Byte := []
  /-- tick of the latest PDU sent -/
  txAt : Option Nat := none
  deriving DecidableEq, Repr, Inhabited

/-- The safety monitor of one plane. -/
structure Safe where
  ax : Tab SafeAx := []
  conns : Tab Conn := []
  /-- this plane's STO lines, high, by pair -/
  lines : Tab Bool := []
  /-- the plane drives its own lines; ticks since it left ACTIVE and STANDBY (R302) -/
  linesOwn : Bool := true
  linesAge : Nat := 0
  /-- PDUs delivered since the latest cut, with their connections, in order of arrival (R306) -/
  pdus : List (Nat × List Byte) := []
  /-- the monitor has evaluated the present sample -/
  done : Bool := false
  /-- safety status words of the sample before, which a scan program reads (07 R228) -/
  before : List Word := []
  deriving DecidableEq, Repr, Inhabited

/-- The sealed block: both ledger copies, the copy in force and the staging (09 R311 to R316). -/
structure Seal where
  /-- words of each copy, by word index; none when nothing was ever written -/
  slot0 : Option (Tab Word) := none
  slot1 : Option (Tab Word) := none
  /-- SL registers in force, by word index of Table 9-1 -/
  regs : Tab Word := []
  valid : Bool := false
  /-- the sealed-block read of start-up has taken place (R536) -/
  read : Bool := false
  /-- slot in force -/
  slot : Nat := 0
  /-- SEAL_SW matched SEAL_CODE -/
  matched : Bool := false
  /-- analogue channels whose fence failed the check of R21 -/
  failed : List Nat := []
  /-- staged image -/
  staged : Option (Tab Word) := none
  /-- SEAL_OPEN counts as asserted; it has fallen since the latest cut -/
  openAsserted : Bool := false
  openFell : Bool := false
  deriving DecidableEq, Repr, Inhabited

end Sys2Proof.Machine
end

