-- ==== Sys2Proof/Machine/State/Recipe.lean ====
section
/-! DEFINITION. State of one plane's recipe engine (06) and interlock scan engine (07). -/

namespace Sys2Proof.Machine

/-- A loaded and checked recipe image (06 R196 to R200). -/
structure SessImg where
  first : Nat := 0
  defAbort : Nat := 0xFFFE
  ilLatch : Bool := false
  recipeId : Word := 0
  crc : Word := 0
  scope : List Word := []
  /-- the 16 words of each step record -/
  steps : List (List Word) := []
  /-- word 0 and VALUE of each action entry -/
  acts : List (Word × Word) := []
  /-- the 8 words of each axis command record -/
  axcmds : List (List Word) := []
  /-- LENGTH in bytes -/
  len : Nat := 0
  deriving DecidableEq, Repr, Inhabited

/-- A request stamped for a cut (06 R86, R208): hold, or advance. -/
structure SessReq where
  session : Nat
  hold : Bool
  /-- STEP of an advance or REASON of a hold -/
  arg : Nat
  sn : Word
  deriving DecidableEq, Repr, Inhabited

/-- The recipe engine of one plane. -/
structure Sess where
  /-- session records, key 16 * session + word (Table 6-10) -/
  recs : Tab Word := []
  imgs : Tab (Option SessImg) := []
  /-- requests in order of placement -/
  reqs : List SessReq := []
  /-- sessions that abort at the next cut under ON_REFUSE ABORT (R206) -/
  refuseAbort : List Nat := []
  /-- sessions whose commit was deferred to the next cut (R205) -/
  deferred : List Nat := []
  /-- of the cut under way: sessions deferred to it, sessions that abort at it under ON_REFUSE, sessions already settled -/
  early : List Nat := []
  auto : List Nat := []
  settled : List Nat := []
  /-- sessions whose abort chain was begun under ON_REFUSE (R210) -/
  onRefuse : List Nat := []
  /-- sessions whose end conditions were evaluated on the present sample -/
  evald : List Nat := []
  /-- actions applied at the present cut (R205) -/
  actCount : Nat := 0
  /-- sessions whose MASK cause is set at the next cut (Table 6-3) -/
  maskHold : List Nat := []
  /-- sessions committed at this cut, for the step checkpoints of R211, and those that changed state -/
  committed : List Nat := []
  changed : List Nat := []
  /-- session records as the decisions of the cut left them, of sessions evaluated since (R211, 11 R352) -/
  kept : Tab (List Word) := []
  /-- step commits of each session modulo 100, for the window's STEPS (19 R577) -/
  steps : Tab Nat := []
  /-- WSTAT flags HELD and DONE (19 Table 19-4), by session -/
  wflags : Tab Word := []
  deriving DecidableEq, Repr, Inhabited

/-- A loaded interlock program (07 R249). -/
structure ScanProg where
  instrs : List DWord := []
  /-- owned GP pins and station output entries -/
  ownGp : List Nat := []
  ownSt : List Nat := []
  period : Nat := 100
  phase : Nat := 0
  ovrTol : Nat := 0
  progId : Word := 0
  deriving DecidableEq, Repr, Inhabited

/-- The scan engine of one plane. -/
structure Scan where
  prog : Option ScanProg := none
  progCrc : Word := 0
  /-- 0 STOP, 1 RUN, 2 HOLD -/
  mode : Nat := 0
  fault : Bool := false
  ovrCnt : Nat := 0
  ovrTotal : Nat := 0
  /-- ticks since c0 + PHASE, modulo the period; none before the first grid start -/
  grid : Int := 0
  /-- the present cut is a grid start cut -/
  gridStart : Bool := false
  executing : Bool := false
  finished : Bool := false
  /-- the deadline of the present tick has been handled -/
  dlDone : Bool := false
  /-- next cycle is the first after entering RUN -/
  firstCycle : Bool := false
  priming : Bool := false
  /-- the running program has not yet completed a RUN cycle (R240) -/
  clearReq : Bool := false
  /-- ticks since the latest cycle start -/
  sinceStart : Nat := 0
  delta : Nat := 0
  pc : Nat := 0
  rlo : Bool := false
  stack : List Bool := []
  rung : Nat := 0
  /-- execution time in cost units of 1.25 ns -/
  cost : Nat := 0
  lastTime : Nat := 0
  maxTime : Nat := 0
  /-- data table (Table 7-2) as the executing cycle sees it -/
  data : Tab Word := []
  /-- as it stood before the executing cycle, to which a discarded cycle returns it -/
  base : Tab Word := []
  /-- as it stood at the end of the latest completed cycle -/
  doneData : Tab Word := []
  /-- output image of the latest output write: OUT_ST, OUT_GP, PARK, HOLD, FORCE -/
  image : Tab Word := []
  /-- a cycle of RUN has written outputs since entry to RUN from STOP (R240) -/
  imageLive : Bool := false
  /-- PARK and HOLD words in effect at the latest cut -/
  parkSeen : Tab Word := []
  holdSeen : Tab Word := []
  /-- shadow image of HOLD (R241) -/
  shadow : Option (Tab Word) := none
  /-- the field lock closed in HOLD: the engine returns to RUN (17 Table 17-9) -/
  lockRun : Bool := false
  /-- arm requests sent with the output write, by station -/
  armSent : List Nat := []
  deriving DecidableEq, Repr, Inhabited

end Sys2Proof.Machine
end

