-- ==== Sys2Proof/Machine/State/Record.lean ====
section
/-! DEFINITION. State of the recorder, trigger engines and mask tests (10), and of memory, DMA,
translation and the turn table (13). -/

namespace Sys2Proof.Machine

/-- A record: its SEQ (none for PAD), the first and last tick it covers and its words (10 Tables 10-1 to 10-4). -/
structure Rec where
  seq : Word := 0
  snFirst : Word := 0
  snLast : Word := 0
  words : List Word := []
  /-- its DRAM copy was read and cannot be corrected (R327) -/
  bad : Bool := false
  /-- DRAM offset of its first byte, once it stands in the ring (13 Table 13-1) -/
  off : Nat := 0
  deriving DecidableEq, Repr, Inhabited

/-- Recording of one booth (10 R321 to R323). -/
structure BoothRec where
  intv : Nat := 100
  /-- an interval is open, its first SN and its ticks so far -/
  isOpen : Bool := false
  sn0 : Word := 0
  nTick : Nat := 0
  exec : Nat := 0
  stale : Nat := 0
  fenced : Nat := 0
  /-- planes that supplied it, bit 0 A, bit 1 B -/
  planes : Nat := 0
  switch : Bool := false
  /-- minimum and maximum, key 8 * slot + 2 * signal, + 1 for the maximum -/
  minmax : Tab Word := []
  deriving DecidableEq, Repr, Inhabited

/-- The record stream to the host (10 R330). -/
structure Stream where
  run : Bool := false
  addr : Nat := 0
  size : Nat := 0
  headAddr : Nat := 0
  statusAddr : Nat := 0
  /-- MODE STOP -/
  stopMode : Bool := false
  tail : Nat := 0
  nextSeq : Word := 0
  lastSeq : Word := 0
  err : Bool := false
  /-- bytes of the record under way already copied; stop after it -/
  off : Nat := 0
  stopReq : Bool := false
  /-- unread records dropped: first SEQ, first and last SN, count, and whether a switch-over fell within them -/
  drop : Option (Word × Word × Word × Nat × Bool) := none
  /-- cause of the gap record that stands for them -/
  dropCause : Nat := 1
  above75 : Bool := false
  /-- queue pair and tag of its REC_STREAM (13 Table 13-10) -/
  qp : Nat := 0
  tag : BitVec 16 := 0
  /-- bytes of the record under way that DMA_RD bursts have read from DRAM -/
  fetched : Nat := 0
  /-- the host address that a walk is due for, and whether the device writes there -/
  va : Nat := 0
  vaWr : Bool := false
  /-- the status block waits for the walk of its page -/
  statusDue : Bool := false
  deriving DecidableEq, Repr, Inhabited

/-- The recorder (10). -/
structure Recorder where
  running : Bool := false
  /-- recording started once since reset -/
  started : Bool := false
  edges : Bool := true
  booths : Tab BoothRec := []
  /-- ticks since recording last started, for time records -/
  ticks : Nat := 0
  /-- SN of a time record that is due -/
  timeDue : Option Word := none
  /-- digital point words of the previous tick, key as POINT of Table 10-4 -/
  points : Tab Word := []
  snapshotDue : Bool := false
  seq : Word := 0
  /-- staging buffer, oldest first, its peak in bytes -/
  staging : List Rec := []
  /-- bytes of the oldest staged record already in the ring, and the DRAM offset of the next byte -/
  moved : Nat := 0
  pos : Nat := 0
  peak : Nat := 0
  /-- record ring, oldest first -/
  ring : List Rec := []
  written : Nat := 0
  lost : Nat := 0
  /-- records lost and not yet covered by a gap record: first and last tick, count, cause, and whether a switch-over fell
  within them -/
  gap : Option (Word × Word × Nat × Nat × Bool) := none
  stream : Stream := {}
  /-- a switch-over covers the present sample; the sample is already taken -/
  switch : Bool := false
  taken : Bool := true
  /-- REC_CONFIGs of a check roll that the held samples before them still wait for: booth, or 16 for the edges, value, SN -/
  cfgDue : List (Nat × Nat × Word) := []
  /-- recording stops once a check roll has decided on the held samples -/
  stopDue : Bool := false
  deriving DecidableEq, Repr, Inhabited

/-- A trigger engine (10 R333 to R337). -/
structure Trig where
  booth : Nat := 0
  sigs : List Nat := []
  base : Nat := 0
  len : Nat := 0
  pre : Nat := 0
  post : Nat := 0
  cond : Nat := 0
  step : Nat := 0
  sel : Nat := 0
  index : Nat := 0
  level : Word := 0
  /-- Table 10-6 -/
  state : Nat := 0
  missed : Nat := 0
  start : Word := 0
  /-- records written since START -/
  n : Nat := 0
  g : Word := 0
  /-- records written since and including that of g -/
  sinceG : Nat := 0
  stopped : Bool := false
  /-- first record of the window, as a slot -/
  first : Nat := 0
  /-- previous evaluated value, or previous GP level -/
  prev : Option Word := none
  /-- FORCE committed at this cut; a linked mask was violated on this sample -/
  force : Bool := false
  maskHit : Option Nat := none
  /-- the record of the present sample is still to be written -/
  due : Bool := false
  deriving DecidableEq, Repr, Inhabited

/-- A mask test (10 R339 to R342). -/
structure MaskTest where
  /-- words of the image; none while UNLOADED -/
  img : Option (List Word) := none
  /-- Table 10-8 -/
  state : Nat := 0
  armSn : Word := 0
  pc : Nat := 0
  skipped : Nat := 0
  base : Option Word := none
  /-- τ and SN of the violation -/
  vioTau : Nat := 0
  vioSn : Word := 0
  deriving DecidableEq, Repr, Inhabited

/-- One DMA channel (13 R415 to R419). -/
structure DmaCh where
  /-- 0 IDLE, 1 RUNNING, 2 SUSPENDED, 3 STOPPED -/
  state : Nat := 0
  cause : Nat := 0
  urgent : Bool := false
  /-- host to device -/
  dir : Bool := false
  qp : Nat := 0
  tag : BitVec 16 := 0
  plane : Nat := 0
  /-- host address, bytes in all and bytes moved -/
  host : Nat := 0
  length : Nat := 0
  done : Nat := 0
  faultVa : Nat := 0
  /-- bytes of a transfer to the host -/
  data : List Byte := []
  /-- status and result its command completes with -/
  status : Nat := 0
  result : DWord := 0
  /-- watchdog bites and parity repeats in this transfer -/
  bites : Nat := 0
  retries : Nat := 0
  /-- the page of its next burst waits for a walk (R421, R423); ticks spent SUSPENDED -/
  walk : Bool := false
  suspTicks : Nat := 0
  /-- descriptor region and device offset -/
  region : Nat := 0
  dev : Nat := 0
  /-- of a transfer that reads the ring: records still to be read, and bytes of the first of them read already; of one into
  DRAM: bytes written there (13 R409) -/
  recs : List Rec := []
  dram : Nat := 0
  /-- a page ahead whose walk has failed, with its cause (R423) -/
  failed : Option (Nat × Nat) := none
  deriving DecidableEq, Repr, Inhabited

/-- A firmware DMA window (13 Table 13-13). -/
structure Window where
  base : DWord := 0
  limit : DWord := 0
  ctrl : Word := 0
  deriving DecidableEq, Repr, Inhabited

/-- Memory, DMA, translation and turn table (13). -/
structure Mem where
  /-- 0 normal, 1 self-refresh, 2 lost -/
  dram : Nat := 0
  /-- counters of MEM_STATUS 0 to 6 -/
  counts : Tab Nat := []
  /-- turn table in force: owner by slot, against the default layout -/
  turn : Tab Nat := []
  turnPending : Option (Tab Nat) := none
  slot : Nat := 0
  /-- last background grantee -/
  lastBg : Nat := 6
  /-- the current burst was interrupted by refresh -/
  interrupted : Bool := false
  /-- requester whose burst is under way, its DMA channel, and the ECC outcome of the burst -/
  granted : Nat := 0
  grantCh : Nat := 0
  grantEcc : Nat := 0
  scrub : Nat := 600
  scrubPos : Nat := 0
  /-- ticks of the present scrub pass -/
  scrubTicks : Nat := 0
  /-- DRAM bytes that cannot be corrected: first offset, and the offset behind the last -/
  bad : List (Nat × Nat) := []
  /-- working buffers of Planes A and B, as words from their start (Table 13-1) -/
  bufA : List Word := []
  bufB : List Word := []
  /-- ticks at which recent uncorrectable errors occurred -/
  uncorr : List Nat := []
  chans : Tab DmaCh := []
  /-- last NORMAL channel served, in the direction to the host and from it -/
  rr : Nat := 15
  rrRd : Nat := 15
  xlatEn : Bool := false
  invBusy : Bool := false
  xlatRoot : DWord := 0
  /-- bits [31:0] of XLAT_INV as last written on their own -/
  invLo : Word := 0
  xlatMisses : Word := 0
  /-- TLB, most recently used first: page number, level shift, bus page address, permissions -/
  tlb : List (Nat × Nat × Nat × Nat) := []
  /-- walk cache: channel, 2 MiB region, address of the fourth-level table -/
  walk : Tab (Nat × Nat) := []
  wins : Tab Window := []
  deriving DecidableEq, Repr, Inhabited

end Sys2Proof.Machine
end

