-- ==== Sys2Proof/Machine/State/Umpire.lean ====
section
/-! DEFINITION. State of the umpire, of the ledger and of start-up and power loss (11, 12). -/

namespace Sys2Proof.Machine

/-- What the umpire keeps of one plane (11 R345 to R370). -/
structure PStat where
  /-- Table 11-1 code; 0 not elected -/
  code : Nat := 0
  /-- start-up failure cause (Table 12-7), if the plane failed start-up -/
  fail : Option Nat := none
  /-- class of the latest loss -/
  cls : Nat := 0
  /-- unit at fault of the latest loss (Table 11-7 slice) -/
  unit : Nat := 0
  /-- ticks since entry into the present state -/
  ticks : Nat := 0
  /-- heartbeat of the sample sets REPORT; the slice it names, where that is known -/
  report : Bool := false
  repUnit : Option Nat := none
  /-- heartbeat of the latest compared sample arrived and agreed (R348) -/
  agreed : Bool := false
  /-- health report fields (Table 11-8) -/
  rotations : Nat := 0
  lastFail : Nat := 0xFF
  sliceFails : Nat := 0
  slicePos : Nat := 0
  repSeq : Nat := 0
  /-- a report was sent since entry into STANDBY, and its 64 bits -/
  health : Option DWord := none
  /-- class of a resignation since the previous heartbeat, 0 where there was none (Table 11-3) -/
  resigned : Nat := 0
  /-- slices of every unit that a check roll named (R368) -/
  diag : List Nat := []
  /-- consecutive ticks with every supply of the plane in range, as far as R368 counts them -/
  goodTicks : Nat := 0
  /-- RESYNC: a round of the copy is done (R370) -/
  copied : Bool := false
  /-- consecutive health reports missed; the report of the present tick was handled -/
  repMissed : Nat := 0
  repTick : Bool := false
  /-- RESYNC: final cut reached, its SN, and agreeing samples since -/
  finalCut : Bool := false
  finalSn : Word := 0
  resyncAgree : Nat := 0
  /-- start-up: PLL locked and powered, firmware checked, self-test done, ready (R386) -/
  pllLocked : Bool := false
  fwOk : Bool := false
  testDone : Bool := false
  ready : Bool := false
  deriving DecidableEq, Repr, Inhabited

/-- A switch-over in progress (R359). -/
structure Switch where
  /-- old plane, 1 A or 2 B -/
  old : Nat
  cls : Nat
  /-- first unvouched sample T -/
  firstBad : Word
  /-- sample at whose t0 + 8.0 µs the election falls -/
  electAt : Word
  held : Nat := 0
  deriving DecidableEq, Repr, Inhabited

/-- A check roll in progress (R355). -/
structure Roll where
  sample : Word
  units : List Nat
  held : Nat := 0
  deriving DecidableEq, Repr, Inhabited

/-- The umpire (11). -/
structure Umpire where
  a : PStat := default
  b : PStat := default
  /-- SN of the latest election -/
  electSn : Word := 0
  sw : Option Switch := none
  roll : Option Roll := none
  /-- consecutive agreeing samples (R365) -/
  agreeRun : Nat := 0
  /-- ticks since the first commit, 0 on that tick -/
  ticks : Nat := 0
  /-- the flows have released the present sample; its signatures were exchanged -/
  relDone : Bool := false
  sigDone : Bool := false
  deriving DecidableEq, Repr, Inhabited

/-- A journal entry in the ring or the queue: the fields of its header and its payload (Tables 11-10 to 11-12). -/
structure JEntry where
  jseq : Word := 0
  type : Nat := 0
  sn : Word := 0
  session : Nat := 0
  plane : Nat := 0
  nLoop : Nat := 0
  nAx : Nat := 0
  /-- power-cycle count at its writing -/
  pcc : Word := 0
  payload : List Word := []
  deriving DecidableEq, Repr, Inhabited

/-- The content of a final checkpoint (12 R393), as the words of its parts. -/
structure Ckpt where
  plane : Nat := 0
  state : Nat := 0
  cause : Nat := 0
  sn : Word := 0
  jseq : Word := 0
  pcc : Word := 0
  sess : Tab Word := []
  loops : Tab Word := []
  axes : Tab Word := []
  scan : List Word := []
  data : Tab Word := []
  fabric : List Word := []
  valid : Bool := false
  deriving DecidableEq, Repr, Inhabited

/-- A firmware slot (12 R387): its header and body words, and whether it is valid. -/
structure FwSlot where
  header : List Word := []
  body : List Word := []
  valid : Bool := false
  deriving DecidableEq, Repr, Inhabited

/-- What of the ledger this block of chapters owns (11 Table 11-9); sealed copies stand in the safety state. -/
structure Ledger where
  /-- boot record: SUSPECT_LIM and operating seconds of each plane's entries to SUSPECT (R358), latest first -/
  suspLim : Nat := 3
  suspA : List Nat := []
  suspB : List Nat := []
  /-- boot record: power-cycle count, operating seconds, slot, clear generation, events not recorded, lock failures -/
  pcc : DWord := 0
  opsec : Word := 0
  fwSel : Nat := 0
  evrGen : BitVec 16 := 0
  evrDropped : Word := 0
  lockFails : Nat := 0
  fw0 : FwSlot := default
  fw1 : FwSlot := default
  /-- journal ring, oldest first, and the JSEQ of the next entry -/
  journal : List JEntry := []
  nextJseq : Word := 0
  /-- entries handed over and not yet written -/
  jqueue : List JEntry := []
  replaced : Nat := 0
  writeErrs : Nat := 0
  /-- read-backs that the write of the entry under way has failed (13 Table 13-2) -/
  tries : Nat := 0
  half0 : Option Ckpt := none
  half1 : Option Ckpt := none
  deriving DecidableEq, Repr, Inhabited

/-- Reset pins, straps, start-up and power loss (12). -/
structure Boot where
  /-- PORST# and WARM_RST# asserted -/
  porst : Bool := true
  warm : Bool := false
  bootSel : Nat := 0
  legacyEn : Bool := false
  alarmHi : Bool := false
  sealSw : BitVec 16 := 0
  /-- firmware slot in use; what each plane's boot ROM found of slots 0 and 1 (R387); the slot that runs -/
  slot : Nat := 0
  fwFound : Tab (Bool × Bool) := []
  fwRun : Option Nat := none
  /-- a plane has loaded its restoration since reset (R397) -/
  loaded : Bool := false
  /-- no input cut yet since reset (R516) -/
  preTick : Bool := true
  /-- first commit done (Table 12-2) -/
  firstCommit : Bool := false
  /-- a PWRFAIL# assertion stands, with F, or the sample before the first one of a restart that came since (R390, R391) -/
  pwrfail : Option Word := none
  /-- half that the checkpoint of that assertion took (R396) -/
  pfHalf : Option Nat := none
  /-- final checkpoint being taken: cause, F, half; latched content by plane (R392) -/
  ckptCause : Nat := 0
  ckptF : Word := 0
  ckptHalf : Nat := 0
  ckptOpen : Bool := false
  ckptShadow : Tab Ckpt := []
  /-- restore pending (R398), from half h or from the journal -/
  restorePending : Bool := false
  restoreHalf : Nat := 0
  /-- loops still in the restore -/
  restoreLoops : List Nat := []
  /-- WARM_RST# fell and its reset waits for the checkpoint -/
  warmPending : Bool := false
  /-- first SN after start-up -/
  firstSn : Word := 0
  deriving DecidableEq, Repr, Inhabited

end Sys2Proof.Machine
end

