-- ==== Sys2Proof/Machine/State.lean ====
section
/-! DEFINITION. The state of the AX1024, its faults and refusals, and the state right after power-on. -/

namespace Sys2Proof.Machine

/-- One plane (01 R15): every block that Table 1-1 lists as per plane, and the events the plane has
raised and not yet posted. -/
structure Plane where
  fab : Fabric := {}
  sess : Sess := {}
  scan : Scan := {}
  axes : Axes := {}
  safe : Safe := {}
  trigs : Tab Trig := []
  masks : Tab MaskTest := []
  /-- tally counters 0x00 to 0x7F (17 Table 17-7) that this plane counts -/
  tally : Tab DWord := []
  /-- SN of the plane's latest input cut -/
  sn : Word := 0
  /-- its counter for device time -/
  clk : PlaneTime := {}
  evs : List Ev := []
  deriving DecidableEq, Repr, Inhabited

/-- A sample that the recorder holds until the umpire has decided (10 R328): the planes as they released it, and
the digital points. -/
structure HeldTick where
  sn : Word := 0
  planeA : Plane := {}
  planeB : Plane := {}
  points : Tab (Word × Bool) := []
  deriving DecidableEq, Repr, Inhabited

/-- The device. -/
structure State where
  dev : DevState := .off
  /-- SN of the most recent input cut (02 Table 2-4) -/
  sn : Word := 0
  planeA : Plane := {}
  planeB : Plane := {}
  hif : Hif := {}
  evts : Evts := {}
  trace : Trace := {}
  tap : Tap := {}
  lock : Lock := {}
  /-- tally counters that shared blocks count -/
  tally : Tab DWord := []
  ump : Umpire := {}
  led : Ledger := {}
  boot : Boot := {}
  sealed : Seal := {}
  recorder : Recorder := {}
  /-- samples held during a check roll, oldest first -/
  recHeld : List HeldTick := []
  mem : Mem := {}
  analog : Analog := {}
  outs : Outs := {}
  field : Field := {}
  can : Can := {}
  clock : Clock := {}
  window : WindowBus := {}
  pins : Pins := {}
  /-- the model's own counter of free values taken; no field of the device -/
  freeCtr : Nat := 0
  /-- commands waiting, first in first out -/
  pending : List Instr := []
  deriving DecidableEq, Repr, Inhabited

/-- Faults: the model stops. -/
inductive Fault where
  /-- An event row names an object that the device does not have (a loop beyond 1023, a port beyond
  7). Raised by the event commands of every family. Safe: the device has no such event. -/
  | noSuchObject
  deriving DecidableEq, Repr, Inhabited

/-- Refusals. -/
inductive Refusal where
  /-- The command has no meaning in the model yet. Raised by the dispatch only. Safe. -/
  | notModelled (mnemonic : String)
  deriving DecidableEq, Repr, Inhabited

/-- The outcome of a command. -/
abbrev Outcome := Host.Outcome State Fault Refusal

/-- The machine right after power-on: PORST# asserted, everything at its reset value (12 R381). -/
def State.reset : State := {}

end Sys2Proof.Machine
end

