-- ==== Sys2Proof/Machine/Operands.lean ====
section
/-! DEFINITION. The operand forms of the host commands: what Table 2-10 checks of a submission entry for each
opcode (02 R59, R60, R66 and the opcode tables of the chapters). -/

namespace Sys2Proof.Machine

/-- The status codes of Table 2-13. -/
def stOk : Nat := 0x0000
def stPending : Nat := 0x0001
def stAlreadyDone : Nat := 0x0002
def stBadOpcode : Nat := 0x0101
def stBadParam : Nat := 0x0102
def stBadTarget : Nat := 0x0103
def stCrcFail : Nat := 0x0104
def stBusy : Nat := 0x0201
def stNotInState : Nat := 0x0202
def stTargetLocked : Nat := 0x0203
def stCycleRejected : Nat := 0x0204
def stSealed : Nat := 0x0301
def stLocked : Nat := 0x0302
def stFenced : Nat := 0x0303
def stOwnedByWindow : Nat := 0x0304
def stAborted : Nat := 0x0401
def stTimeout : Nat := 0x0402
def stPlaneSwitch : Nat := 0x0501
def stInternal : Nat := 0x0F01

/-- What the front end knows of an opcode: how many objects TARGET may name (0: no target), the bits of
PARAM0, PARAM1, ... that are not reserved, and whether the command has a commit point. -/
structure OpInfo where
  targets : Nat
  masks : List Nat
  commit : Bool
  deriving DecidableEq, Repr, Inhabited

/-- A parameter word without reserved bits. -/
def fullWord : Nat := 0xFFFFFFFF

/-- The defined opcodes (Table 2-11 and the chapters' opcode tables). -/
def opInfo (op : Nat) : Option OpInfo :=
  let w := fullWord
  match op with
  | 0x00 => some ⟨0, [], false⟩
  | 0x01 => some ⟨0, [w], false⟩
  | 0x02 => some ⟨0, [w, w], true⟩
  | 0x03 => some ⟨64, [0xFFFF], false⟩
  | 0x04 => some ⟨0, [w], false⟩
  | 0x05 => some ⟨8, [0x3F3F, w], false⟩
  | 0x06 => some ⟨0x19, [1], true⟩
  | 0x07 => some ⟨0, [], false⟩
  | 0x08 => some ⟨0, [0xFF03], true⟩
  | 0x09 => some ⟨2, [0xFFFF0007], true⟩
  | 0x10 => some ⟨1024, [w], true⟩
  | 0x11 => some ⟨1024, [w], true⟩
  | 0x12 => some ⟨1024, [w, w, w], false⟩
  | 0x13 => some ⟨1024, [0xF], true⟩
  | 0x14 => some ⟨1024, [0xFF, w, w, w, w, w, w, w, w, w], true⟩
  | 0x15 => some ⟨16, [w], false⟩
  | 0x16 => some ⟨4, [1], true⟩
  | 0x20 => some ⟨1024, [0xFFFFF1FF, w, w, w, w, w, 1], true⟩
  | 0x21 => some ⟨1024, [], true⟩
  | 0x22 => some ⟨1024, [0xF7F, w, 0x7FFF, w, w, w, w], true⟩
  | 0x23 => some ⟨1024, [], true⟩
  | 0x24 => some ⟨1024, [w], false⟩
  | 0x25 => some ⟨16, [w, w, w, w, w], false⟩
  | 0x30 => some ⟨0, [w, w, w], true⟩
  | 0x31 => some ⟨1024, [7], true⟩
  | 0x32 => some ⟨0, [w, w], false⟩
  | 0x33 => some ⟨64, [w], false⟩
  | 0x40 => some ⟨128, [0xFFFF], true⟩
  | 0x41 => some ⟨128, [0xFFFF], true⟩
  | 0x42 => some ⟨128, [w, w, w], true⟩
  | 0x43 => some ⟨128, [0xFFFF], true⟩
  | 0x44 => some ⟨128, [0xFFFF], true⟩
  | 0x45 => some ⟨128, [0xFFFF, 0xFFFF], true⟩
  | 0x46 => some ⟨128, [], true⟩
  | 0x47 => some ⟨128, [w, w], false⟩
  | 0x60 => some ⟨0, [w, w, w, 1], true⟩
  | 0x61 => some ⟨0, [3], true⟩
  | 0x62 => some ⟨0, [0xFFFF, w], true⟩
  | 0x63 => some ⟨0, [0xFFFF, w, 7], false⟩
  | 0x64 => some ⟨0, [w], false⟩
  | 0x70 => some ⟨64, [w, 0xFFFFFF80], true⟩
  | 0x71 => some ⟨64, [0xFF, w, w, w, w, w, w, w, w, w], true⟩
  | 0x72 => some ⟨64, [1], true⟩
  | 0x73 => some ⟨64, [1, w, w, w, w, w, w], true⟩
  | 0x74 => some ⟨64, [1], true⟩
  | 0x75 => some ⟨64, [0, 0, 0, w, w, w, w], true⟩
  | 0x76 => some ⟨64, [], true⟩
  | 0x77 => some ⟨64, [0xF000003F, w, w], true⟩
  | 0x78 => some ⟨64, [0, w, w, w, w], true⟩
  | 0x79 => some ⟨64, [], true⟩
  | 0x7A => some ⟨64, [w, w], false⟩
  | 0x80 => some ⟨65, [w], false⟩
  | 0x81 => some ⟨64, [0xF], true⟩
  | 0x82 => some ⟨8, [], true⟩
  | 0x83 => some ⟨64, [w], false⟩
  | 0x84 => some ⟨0, [w, w, w], true⟩
  | 0x85 => some ⟨0, [], true⟩
  | 0x86 => some ⟨0, [w, 1], false⟩
  | 0x90 => some ⟨17, [w], true⟩
  | 0x91 => some ⟨0, [w, w, w, w, w, w, w, 7, w], true⟩
  | 0x92 => some ⟨0, [w], false⟩
  | 0x93 => some ⟨0, [w, w, w, w, w], false⟩
  | 0x94 => some ⟨16, [0x7F, w, w, 0xFFFF7FFF, w, w, 0xFFFFF3FF, w], true⟩
  | 0x95 => some ⟨16, [w], true⟩
  | 0x96 => some ⟨16, [w], false⟩
  | 0x97 => some ⟨256, [w, w, w], true⟩
  | 0x98 => some ⟨256, [1], true⟩
  | 0x99 => some ⟨256, [w], false⟩
  | 0xA0 => some ⟨0, [], false⟩
  | 0xA1 => some ⟨2, [], false⟩
  | 0xA2 => some ⟨2, [], true⟩
  | 0xA3 => some ⟨2, [], true⟩
  | 0xA4 => some ⟨0, [], true⟩
  | 0xA5 => some ⟨0, [0xF], true⟩
  | 0xA6 => some ⟨0, [w], false⟩
  | 0xA7 => some ⟨0, [w, w, w, w, w], false⟩
  | 0xA8 => some ⟨2, [w, w, w], true⟩
  | 0xA9 => some ⟨2, [], true⟩
  | 0xB0 => some ⟨0, [w], false⟩
  | 0xB1 => some ⟨0, [w, w, w, w, w, w, w, w], true⟩
  | 0xB2 => some ⟨0, [w], false⟩
  | 0xB3 => some ⟨0, [w], true⟩
  | 0xC0 => some ⟨64, [0xFFF0FFFF, w, w], true⟩
  | 0xC1 => some ⟨4, [0x7F0F, 0xFFFF, w], true⟩
  | 0xC2 => some ⟨32, [3], true⟩
  | 0xC3 => some ⟨32, [0xFFC3FF0D], true⟩
  | 0xC4 => some ⟨64, [w, 3], true⟩
  | 0xC5 => some ⟨4, [0xFFFFF], true⟩
  | 0xC6 => some ⟨68, [3], false⟩
  | 0xC7 => some ⟨133, [], false⟩
  | 0xC8 => some ⟨4, [1], true⟩
  | 0xC9 => some ⟨4, [w], true⟩
  | 0xD0 => some ⟨8, [0xFFFF0F07, w, 0xFFFF], true⟩
  | 0xD1 => some ⟨256, [0x8FFF0FFF, w, 0x1FFFFF, w, w, w, w, w, w, w, w], true⟩
  | 0xD2 => some ⟨256, [], true⟩
  | 0xD3 => some ⟨512, [], false⟩
  | 0xD4 => some ⟨2, [7, w, 0xFFFF, w], true⟩
  | 0xD5 => some ⟨0, [0xFFFFFF7F, 0xFFFFFF, w, w, w], true⟩
  | 0xD6 => some ⟨0, [], false⟩
  | 0xD7 => some ⟨0, [w, w], false⟩
  | 0xD8 => some ⟨0, [w, w, w], true⟩
  | 0xD9 => some ⟨0, [w], true⟩
  | 0xDA => some ⟨4, [w, w, 1], true⟩
  | 0xDB => some ⟨0, [], false⟩
  | 0xE0 => some ⟨8, [0xFFFFF800, w, w, w, 0x3F3F3F01, 0xFFFF], true⟩
  | 0xE1 => some ⟨512, [w, 0x1FFFFFFF, 0xE3800000, w], true⟩
  | 0xE2 => some ⟨512, [0xF7FF3F07, w, w, 0xFF], true⟩
  | 0xE3 => some ⟨256, [0xE000003F, 0x9FFFFFFF, w, 0xC0000FFF, 0xC0000FFF, 0xC0000FFF, 0xC0000FFF, 0xC0000FFF, 0xC0000FFF,
      0xC0000FFF, 0xC0000FFF], true⟩
  | 0xE4 => some ⟨8, [w, w, 0x1FFFF], true⟩
  | 0xE5 => some ⟨8, [w], true⟩
  | 0xE6 => some ⟨8, [7, w, w, w, w], false⟩
  | 0xE7 => some ⟨8, [w], false⟩
  | 0xE8 => some ⟨512, [w, 0x0E3F0000], true⟩
  | 0xE9 => some ⟨512, [], false⟩
  | 0xEA => some ⟨0, [w, w, w, w, w], false⟩
  | 0xEB => some ⟨0, [], true⟩
  | 0xEC => some ⟨0, [0x3F, 0x1F, 0x0FFF0FFF, 0x0FFF0FFF, 0x0FFF0FFF, 0x0FFF0FFF, 0x0FFF0FFF, 0x0FFF0FFF, 0x0FFF0FFF,
      0x0FFF0FFF], true⟩
  | 0xED => some ⟨256, [w], false⟩
  | 0xEE => some ⟨0, [w], false⟩
  | 0xEF => some ⟨0, [w, w, w, w, w], true⟩
  | _ => none

/-- The opcodes the front end executes itself (Table 2-11). -/
def isFast (op : Nat) : Bool :=
  op == 0x00 || op == 0x03 || op == 0x10 || op == 0x11 || op == 0x12 || op == 0x40 || op == 0x41

/-- The opcodes that may carry TIMED (Table 2-9). -/
def mayTime (op : Nat) : Bool := op == 0x10 || op == 0x11 || op == 0x40 || op == 0x41

/-- The opcode is accepted in a device state (Table 1-3, R60). -/
def accepts (op : Nat) : DevState → Bool
  | .off | .standby => false
  | .start => decide (op < 0x10)
  | .ready => true
  | .run => op != 0x30
  | .idle => decide (op < 0x10) || decide (0xE8 ≤ op)
  | .safe => op == 0x00 || op == 0x01 || op == 0x04 || op == 0x07 || op == 0xE9 || op == 0xEA

/-- PARAMi of an entry; a word the entry does not list is 0. -/
def par (c : Sub) (i : Nat) : Word := wordAt c.params i

/-- Flags of Table 2-9. -/
def hasOrder (c : Sub) : Bool := bit c.flags 0
def hasTimed (c : Sub) : Bool := bit c.flags 1
def hasSuppress (c : Sub) : Bool := bit c.flags 2
def hasNotify (c : Sub) : Bool := bit c.flags 3

/-- Every parameter has only bits that its mask allows. -/
def masksHold : List Word → List Nat → Bool
  | [], _ => true
  | w :: r, m => decide (w.toNat &&& m.headD 0 = w.toNat) && masksHold r m.tail

/-- Check 4: reserved flags and parameter bits are 0, and TIMED stands only where permitted. AT_SN of
an untimed entry is an unused word for every opcode. -/
def formOk (op : Nat) (info : OpInfo) (c : Sub) : Bool :=
  decide (c.flags.toNat < 16) && (!hasTimed c || mayTime op) && masksHold c.params info.masks
    && (hasTimed c || c.atSn == 0)

/-- Check 6: TARGET names an object of the opcode's kind. An opcode that takes none has TARGET 0; what another value gives there
is open, and the model answers BAD_TARGET (log entry 126). -/
def targetOk (info : OpInfo) (c : Sub) : Bool :=
  if info.targets = 0 then c.target == 0 else decide (c.target < info.targets)

/-- Checks 3 and 4 of Table 2-10: the status on failure. -/
def checkForm (op : Nat) (c : Sub) : Option Nat :=
  match opInfo op with
  | none => some stBadOpcode
  | some info => if formOk op info c then none else some stBadParam

/-- Checks 5 and 6, which look at the device state and the target. -/
def checkState (op : Nat) (c : Sub) (d : DevState) : Option Nat :=
  match opInfo op with
  | none => some stBadOpcode
  | some info =>
    if !accepts op d then some stNotInState
    else if !targetOk info c then some stBadTarget
    else none

/-! Tokens (05 R158) -/

/-- Bits [63:0] of a token (Table 5-1). -/
def tokenWord (t : Token) : Nat :=
  t.value.toNat * 2 ^ 32 + t.sn.toNat * 2 ^ 16 + t.q.toNat * 2 ^ 15 + t.kind * 2 ^ 13 + t.port * 2 ^ 10 + t.loop

/-- Number of ones among the low eight bits. -/
def ones8 (b : Nat) : Nat := ((upTo 8).map fun i => b / 2 ^ i % 2).sum

/-- PAR: bit k makes the number of ones of byte k, with itself, odd. -/
def tokenPar (t : Token) : BitVec 8 :=
  BitVec.ofNat 8 ((upTo 8).map fun k => if ones8 (tokenWord t / 2 ^ (8 * k) % 256) % 2 = 0 then 2 ^ k else 0).sum

/-- A token with its parity, as its source forms it. -/
def mkToken (kind port loop : Nat) (v : Word) (q : Bool) (sn : BitVec 16) : Token :=
  let t : Token := { value := v, sn := sn, q := q, kind := kind, port := port, loop := loop }
  { t with par := tokenPar t }

/-- The parity of a token holds. -/
def tokenSound (t : Token) : Bool := t.par == tokenPar t

/-- A copy with a parity error. -/
def hurtToken (t : Token) : Token := { t with par := ~~~ t.par }

end Sys2Proof.Machine
end

