-- ==== Sys2Proof/Machine/Ops.lean ====
section
/-! DEFINITION. The operations that every family shares: planes, free values, host memory, MSI-X, events and
their posting, completions, and the path of a host command from its queue to its completion. -/

namespace Sys2Proof.Machine

/-! Planes (01 R15, 11 R345, R346) -/

/-- Umpire record of plane p: 1 A, 2 B. -/
def pstat (s : State) (p : Nat) : PStat := if p = 1 then s.ump.a else s.ump.b

/-- Replaces the umpire record of plane p. -/
def setPstat (p : Nat) (v : PStat) (s : State) : State :=
  if p = 1 then { s with ump := { s.ump with a := v } } else { s with ump := { s.ump with b := v } }

/-- Plane p. -/
def planeOf (s : State) (p : Nat) : Plane := if p = 1 then s.planeA else s.planeB

/-- Replaces plane p. -/
def setPlane (p : Nat) (v : Plane) (s : State) : State :=
  if p = 1 then { s with planeA := v } else { s with planeB := v }

/-- The other plane. -/
def otherPlane (p : Nat) : Nat := if p = 1 then 2 else 1

/-- The ACTIVE plane: 1 A, 2 B, 0 none. -/
def activeNo (s : State) : Nat :=
  if s.ump.a.code = 1 then 1 else if s.ump.b.code = 1 then 2 else 0

/-- The planes stand still: no tick runs, or the device is in SAFE (01 Table 1-3). -/
def halted (s : State) : Bool := s.dev == .off || s.dev == .standby || s.dev == .safe || activeNo s == 0

/-- What the planes compute happens only while they run. -/
def whenRuns (s t : State) : State := if halted s then s else t

/-- The plane whose values a read of the active plane returns: the ACTIVE one; while a switch-over is
carried out, the STANDBY one it will elect; before the election, the lowest that has not failed. -/
def readNo (s : State) : Nat :=
  match s.ump.sw with
  | some x => otherPlane x.old
  | none =>
    if activeNo s ≠ 0 then activeNo s
    else if s.ump.a.code = 2 then 1
    else if s.ump.b.code = 2 then 2
    else if s.ump.a.fail.isNone then 1 else 2

/-- The plane that reads of the active plane use. -/
def actPlane (s : State) : Plane := planeOf s (readNo s)

/-- A plane computes every sample unless it is OFFLINE or failed start-up (01 R17). -/
def computes (st : PStat) : Bool := st.code != 5 && st.fail.isNone

/-- A plane executes forwarded commands: ACTIVE and STANDBY (02 R68, 11 R346, Table 11-1); before the election, unless it failed. -/
def executes (st : PStat) : Bool :=
  st.code == 1 || st.code == 2 || (st.code == 0 && st.fail.isNone)

/-- The same function on every computing plane. -/
def onPlanes (f : Plane → Plane) (s : State) : State :=
  { s with
    planeA := if computes s.ump.a then f s.planeA else s.planeA
    planeB := if computes s.ump.b then f s.planeB else s.planeB }

/-- The same function on every plane that executes forwarded commands. -/
def onExec (f : Plane → Plane) (s : State) : State :=
  { s with
    planeA := if executes s.ump.a then f s.planeA else s.planeA
    planeB := if executes s.ump.b then f s.planeB else s.planeB }

/-- An event that a plane raises while it processes its sample. -/
def praise (src : Nat) (data : Word) (p : Plane) : Plane :=
  { p with evs := p.evs ++ [{ sn := p.sn, src := src, data := data }] }

/-- Adds n to tally counter k of a plane, modulo 2^64 (17 R529). -/
def ptally (k n : Nat) (p : Plane) : Plane :=
  { p with tally := tmod 0 p.tally k (· + BitVec.ofNat 64 n) }

/-- Adds n to the shared tally counter k. -/
def stally (k n : Nat) (s : State) : State :=
  { s with tally := tmod 0 s.tally k (· + BitVec.ofNat 64 n) }

/-! Free values -/

/-- The next free value. -/
def takeFree (s : State) : DWord × State :=
  (Config.freeWord s.freeCtr, { s with freeCtr := s.freeCtr + 1 })

/-! Device time (15 R481) -/

/-- T_q in units of 2^-16 ns, at RATE `rate`, when the counter of a plane's time base reads r. -/
def tqAt (rate : Word) (t : PlaneTime) (r : Int) : Int :=
  let d := (r - t.rRef.toNat) * 163840
  t.ofs.toInt + d + rdiv (d * rate.toInt) (2 ^ 40)

/-- T_q of the plane that is read, at r counts of 2.5 ns after t0 of the latest cut. -/
def tqIn (s : State) (r : Int) : Int :=
  let t := (actPlane s).clk
  tqAt s.field.time.rate t (t.r.toNat + r)

/-- T_ns = floor(T_q / 2^16), as an unsigned 64-bit value. -/
def tnsOf (q : Int) : DWord := BitVec.ofInt 64 (q / 65536)

/-- T_ns at t0 of sample sn, from the tick count. -/
def tnsAt (s : State) (sn : Word) : DWord :=
  tnsOf (tqIn s (-4000 * snDiff s.sn sn))

/-! Host memory and MSI-X (02 R79) -/

/-- The device writes bytes to host memory from address a on. -/
def hostWrite (a : Nat) (bs : List Byte) (s : State) : State :=
  { s with hif := { s.hif with hostMem := (bs.zipIdx).foldl (fun m b => tput (tdel m (a + b.2)) (a + b.2) b.1) s.hif.hostMem } }

/-- What the device has written at host address a. -/
def hostRead (s : State) (a : Nat) : Option Byte := tget none (s.hif.hostMem.map fun c => (c.1, some c.2)) a

/-- Word i of MSI-X table entry v: address low, address high, data, control with the mask bit, which
PCIe resets to 1 (log entry 5). -/
def msixWord (s : State) (v i : Nat) : Word := tget (if i = 3 then 1 else 0) s.hif.msix (4 * v + i)

/-- Sends the message of vector v, or leaves it pending while the vector or the function is masked, the link is down
or the function is in D3hot (02 R44); with MSI-X Enable 0 there is neither (PCIe, log entry 5). -/
def msixSend (v : Nat) (s : State) : State :=
  if !s.hif.msixEn then s
  else if bit (msixWord s v 3) 0 || s.hif.msixMask || s.hif.d3hot || !s.hif.linkUp then
    { s with hif := { s.hif with pba := setBit s.hif.pba v true } }
  else
    hostWrite ((msixWord s v 0).toNat + (msixWord s v 1).toNat * 2 ^ 32) (wordBytes (msixWord s v 2)) s

/-! Events (17 R516 to R524) -/

/-- Reset value of EVT_CFG of a source: FW, and RECORD but for the queue pairs (R520). -/
def evtCfgReset (src : Nat) : Word := if src < 0x40 then 0x04000000 else 0x0C000000

/-- EVT_CFG of a source. -/
def evtCfg (s : State) (src : Nat) : Word := tget (evtCfgReset src) s.evts.cfg src

/-- Replaces EVT_CFG of a source. -/
def setEvtCfg (src : Nat) (v : Word) (s : State) : State :=
  { s with evts := { s.evts with cfg := tset (evtCfgReset src) s.evts.cfg src v } }

/-- Sources whose RECORD is read-only and 1 (R520). -/
def recordFixed (src : Nat) : Bool :=
  decide (0x140 ≤ src ∧ src < 0x160) || decide (0x1C0 ≤ src ∧ src < 0x1E0) || src == 0x1F1 || src == 0x1F2
    || decide (0x1F6 ≤ src ∧ src ≤ 0x1F8)

/-- T_NS of an event: 0 before the first cut, t0 of its SN for a plane's event, and for a shared block's
event the instant of raising, which the model's steps do not fix (log entry 2). -/
def evTime (e : Ev) (s : State) : DWord × State :=
  if e.preTick then (0, s) else if e.plane = 0 then takeFree s else (tnsAt s e.sn, s)

/-- Queues a record for the ledger controller, or counts it lost (R524). -/
def queueRecord (e : Ev) (s : State) : State :=
  if s.evts.recQueue.length < 1024 then
    let (t, s1) := evTime e s
    { s1 with evts := { s1.evts with recQueue := s1.evts.recQueue ++ [{ e with tNs := t, opsec := s.clock.opsec }] } }
  else
    { s with
      led := { s.led with evrDropped := word (satAdd 0xFFFFFFFF s.led.evrDropped.toNat 1) }
      evts := { s.evts with
        lostCount := s.evts.lostCount + 1
        lostSn := if s.evts.lostCount = 0 then e.sn else s.evts.lostSn } }

/-- EVENT packet of the trace (Table 17-7). -/
def tracePacket (e : Ev) : List Word := [word (0xB0000000 + e.plane * 4096 + e.src), e.data]

/-- The posting of an event sets PEND, and OVR when PEND was set, writes EVT_DATA and counts for FW (R519, R521). -/
def postFlags (e : Ev) (s : State) : State :=
  let cfg := evtCfg s e.src
  let cfg1 := setBit (if bit cfg 31 then setBit cfg 30 true else cfg) 31 true
  { s with evts := { s.evts with
      cfg := tset (evtCfgReset e.src) s.evts.cfg e.src cfg1
      data := tset 0 s.evts.data e.src e.data
      fwCount := if bit cfg 26 || Config.fwDepends e.src
        then tmod 0 s.evts.fwCount e.src (fun n => satAdd 0xFFFFFFFF n 1) else s.evts.fwCount } }

/-- A posted event joins a running trace that carries events (R531). -/
def traceEvent (e : Ev) (s : State) : State :=
  if s.trace.run && s.trace.events
  then { s with trace := { s.trace with evq := s.trace.evq ++ tracePacket e } } else s

/-- Posts one event: PEND, OVR, EVT_DATA, firmware count, record, trace (R519, R521, R531). -/
def postOne (e : Ev) (s : State) : State :=
  let t := stally 0xB1 1 (traceEvent e (postFlags e s))
  if bit (evtCfg s e.src) 27 && !e.recorded then queueRecord e t else t

/-- Vectors that a posting signals: those of sources with IRQ_EN whose PEND rises (R519). -/
def risingVectors (s : State) (es : List Ev) : List Nat :=
  ((es.filter fun e => bit (evtCfg s e.src) 25 && !bit (evtCfg s e.src) 31).map
    fun e => field (evtCfg s e.src) 16 6).eraseDups

/-- One posting of events in order. -/
def postList (es : List Ev) (s : State) : State :=
  let vs := risingVectors s es
  forEach vs (fun v t => stally 0xB0 1 (msixSend v t)) (forEach es postOne s)

/-- Order of a posting: ascending SN, then source, then order of raising. -/
def evBefore (a b : Ev) : Bool :=
  if a.sn = b.sn then decide (a.src ≤ b.src) else snLater b.sn a.sn

/-- Stable insertion. -/
def evInsert (e : Ev) : List Ev → List Ev
  | [] => [e]
  | a :: r => if evBefore a e then a :: evInsert e r else e :: a :: r

/-- Stable sort of the events of a posting. -/
def evSort (es : List Ev) : List Ev := es.foldl (fun l e => evInsert e l) []

/-- Posts everything raised: the shared blocks' events and those of plane p (R516); the other plane's
copies of the same events are dropped. -/
def postAll (p : Nat) (s : State) : State :=
  let es := s.evts.queue ++ ((planeOf s p).evs.map fun e => { e with plane := p })
  postList (evSort es)
    { s with
      evts := { s.evts with queue := [] }
      planeA := { s.planeA with evs := [] }
      planeB := { s.planeB with evs := [] } }

/-- A shared block raises an event; before the first input cut it is posted at once with SN 0 and
PRE_TICK (R516). -/
def raiseExt (src : Nat) (data : Word) (ext : List Word) (s : State) : State :=
  let e : Ev := { sn := if s.boot.preTick then 0 else s.sn, src := src, data := data, ext := ext, preTick := s.boot.preTick, mid := s.boot.ckptOpen }
  if s.boot.preTick then postList [e] s
  else { s with evts := { s.evts with queue := s.evts.queue ++ [e] } }

/-- A shared block raises an event without extended words. -/
def raise (src : Nat) (data : Nat) (s : State) : State := raiseExt src (word data) [] s

/-- The umpire raises an event of a switch-over, which carries the SN of its election (R363). -/
def raiseAt (sn : Word) (src data : Nat) (s : State) : State :=
  if s.boot.preTick then raise src data s
  else { s with evts := { s.evts with queue := s.evts.queue ++ [{ sn := sn, src := src, data := word data, mid := s.boot.ckptOpen }] } }

/-- A parity error in a shared path (13 R406): its event and count. -/
def sharedParity (data : Nat) (s : State) : State :=
  raise 0x1E1 data { s with mem := { s.mem with counts := tmod 0 s.mem.counts 2 (· + 1) } }

/-- Logs an attempt as fault class F6 (R517): code, path, object, queue pair and tag, opcode, value. -/
def logF6 (code path obj : Nat) (e0 : Word) (op : Nat) (v : Word) (s : State) : State :=
  raiseExt 0x1F8 (word (code + path * 256 + obj * 65536)) [e0, word op, v] s

/-- EXT0 of an F6 record on the command path. -/
def cmdId (c : Sub) : Word := word (c.qp * 65536 + c.tag.toNat)

/-! Address look-up (13 R420, R421) -/

/-- Replaces memory and DMA. -/
def setMem (m : Mem) (s : State) : State := { s with mem := m }

/-- Adds one to counter k of MEM_STATUS. -/
def countMem (k : Nat) (s : State) : State := setMem { s.mem with counts := tmod 0 s.mem.counts k (· + 1) } s

/-- What a burst's address comes to. -/
inductive Xlate where
  | ready
  | miss
  | fails (cause : Nat)
  deriving DecidableEq, Repr

/-- The TLB entry covering address a. -/
def tlbFind (s : State) (a : Nat) : Option (Nat × Nat × Nat × Nat) :=
  s.mem.tlb.find? fun x => decide (a / 2 ^ x.2.1 = x.1)

/-- Permission bits [1] RD and [2] W of an entry admit the direction: `wr` the device writes. -/
def permits (perm : Nat) (wr : Bool) : Bool := fieldN perm (if wr then 2 else 1) 1 == 1

/-- Look-up of address a (R420, R421, Table 13-7). -/
def translate (s : State) (wr : Bool) (a : Nat) : Xlate :=
  if !s.mem.xlatEn then .ready
  else if 2 ^ 48 ≤ a then .fails 4
  else
    match tlbFind s a with
    | none => .miss
    | some x => if permits x.2.2.2 wr then .ready else .fails 2

/-- The bus address of host address a, which the TLB holds where translation is on (Table 13-11). -/
def busOf (s : State) (a : Nat) : Nat :=
  match (if s.mem.xlatEn then tlbFind s a else none) with
  | none => a
  | some x => x.2.2.1 + a % 2 ^ x.2.1

/-- A hit makes the entry the most recently used. -/
def tlbTouch (a : Nat) (s : State) : State :=
  match (if s.mem.xlatEn then tlbFind s a else none) with
  | none => s
  | some x => setMem { s.mem with tlb := x :: s.mem.tlb.erase x } s

/-! Queue pairs and completions (02 R51 to R63, R78) -/

/-- Queue pair q. -/
def qpOf (s : State) (q : Nat) : QPair := tget {} s.hif.qps q

/-- Replaces queue pair q. -/
def setQp (q : Nat) (v : QPair) (s : State) : State :=
  { s with hif := { s.hif with qps := tset {} s.hif.qps q v } }

/-- Ring sizes. -/
def sqLen (q : QPair) : Nat := 2 ^ field q.ctrl 8 4
def cqLen (q : QPair) : Nat := 2 ^ field q.ctrl 12 4

/-- Commands of queue pair q consumed and not completed. -/
def outstanding (s : State) (q : Nat) : List Cmd := s.hif.cmds.filter fun c => c.sub.qp == q

/-- Completions of queue pair q that wait for the page of the CQ. -/
def waitingPosts (s : State) (q : Nat) : List Post := s.hif.posts.filter fun e => e.qp == q

/-- Tags of queue pair q whose final completion is not yet posted: those OUTSTANDING counts (Table 2-7). -/
def openTags (s : State) (q : Nat) : List (BitVec 16) :=
  (outstanding s q).map (·.sub.tag) ++ ((waitingPosts s q).filter fun e => e.status != stPending && e.status != stBusy).map (·.tag)

/-- A queue pair stops on an error (02 R55). -/
def stopQp (q cause : Nat) (s : State) : State :=
  raiseExt q (Config.qpEvent 1) [] (setQp q { qpOf s q with err := true, errCause := BitVec.ofNat 2 cause } s)

/-- The queue pair signals its vector and raises its event (R78, R79). VECTOR is that of the latest completion posted (R52). -/
def signalQp (q : Nat) (s : State) : State :=
  let p := qpOf s q
  raiseExt q (Config.qpEvent 0) [] (msixSend (field p.coalCtrl 2 6) (setQp q { p with coalCount := 0, coalAge := 0 } s))

/-- Counts a completion towards the queue pair's interrupt. Completions posted while IRQ_EN is 0 count too, so that
the first one after IRQ_EN is set can signal (R78 speaks of counting with IRQ_EN set only: log entry 85). -/
def countIrq (q : Nat) (counted : Bool) (s : State) : State :=
  let p := qpOf s q
  if counted then
    let n := p.coalCount + 1
    let s1 := setQp q { p with coalCount := n } s
    if bit p.ctrl 1 && decide (max 1 (field p.ctrl 16 8) ≤ n) then signalQp q s1 else s1
  else s

/-- The four words of a completion entry (Table 2-12). -/
def completionWords (p : QPair) (tag : BitVec 16) (status : Nat) (res : DWord) : List Word :=
  [word (tag.toNat + status * 65536), loWord res, hiWord res,
    word (p.seq.toNat + p.sqHead * 65536 + (if p.phase then 0x80000000 else 0))]

/-- Address of the CQ slot that queue pair q writes next, and of the SQ slot that it reads next. -/
def cqAddr (s : State) (q : Nat) : Nat := (qpOf s q).cqBase.toNat + 16 * (qpOf s q).cqTail
def sqAddr (s : State) (q : Nat) : Nat := (qpOf s q).sqBase.toNat + 64 * (qpOf s q).sqHead

/-- Channel 0 has moved a burst. -/
def setCh0 (x : Ch0) (s : State) : State := { s with hif := { s.hif with ch0 := x } }

/-- Posts a completion entry at the bus address of its slot: its words, the tail, the phase and the sequence (R61, R62); a
completion is counted for the interrupt unless it is a final OK or ALREADY_DONE of an entry with SUPPRESS_IRQ. It is posted in
D3hot too (log entry 115). -/
def postNow (q : Nat) (tag : BitVec 16) (status : Nat) (res : DWord) (suppress : Bool) (s : State) : State :=
  let p := qpOf s q
  let a := cqAddr s q
  let s1 := setCh0 { qp := q, tag := tag, host := a, length := 16 }
    (hostWrite (busOf s a) (bytesOf (completionWords p tag status res)) s)
  let wrap : Bool := p.cqTail + 1 == cqLen p
  let s2 := setQp q { p with
    cqTail := if wrap then 0 else p.cqTail + 1
    phase := if wrap then !p.phase else p.phase
    seq := p.seq + 1
    coalCtrl := p.ctrl } s1
  countIrq q (!(suppress && (status == stOk || status == stAlreadyDone))) s2

/-- An address of channel 0 fails its translation: the fault is raised, and the queue pair stops (R55, 13 R419, R423). -/
def qpFault (q cause : Nat) (s : State) : State := stopQp q 3 (raise 0x1E2 (1 + cause * 2 ^ 16) (countMem 4 s))

/-- Posts a completion on channel 0 (13 R420): at once where the page of its slot is in the TLB; it waits for the walk of
that page, in order; and where the address fails, the pair stops and the completion is lost (log entry 7). -/
def post (q : Nat) (tag : BitVec 16) (status : Nat) (res : DWord) (suppress : Bool) (s : State) : State :=
  let later := { s with hif := { s.hif with posts := s.hif.posts ++ [{ qp := q, tag := tag, status := status, result := res, suppress := suppress }] } }
  if !(waitingPosts s q).isEmpty then later
  else match translate s true (cqAddr s q) with
    | .ready => postNow q tag status res suppress (tlbTouch (cqAddr s q) s)
    | .miss => later
    | .fails c => qpFault q c s

/-- The completions of queue pair q that waited are posted, as far as they can be. -/
def drainPosts (q : Nat) (s : State) : State :=
  forEach (waitingPosts s q) (fun e t => post e.qp e.tag e.status e.result e.suppress t)
    { s with hif := { s.hif with posts := s.hif.posts.filter fun e => e.qp != q } }

/-- What an ABORT must know of a completion that waits for its page: the command's opcode and its commit point (R71, R72). -/
def stampPost (op : Nat) (sn : Option Word) (c : Sub) (s : State) : State :=
  if s.hif.posts.isEmpty then s
  else { s with hif := { s.hif with posts := s.hif.posts.map fun e =>
      if e.qp == c.qp && e.tag == c.tag && e.status != stPending then { e with op := op, commit := sn } else e } }

/-- Completes the command of a submission entry. -/
def complete (c : Sub) (status : Nat) (res : DWord) (s : State) : State :=
  post c.qp c.tag status res (hasSuppress c) s

/-! DMA windows (13 R424, R425) -/

/-- Address range of window w. -/
def winBase (x : Window) : Nat := x.base.toNat / 4096 * 4096
def winLimit (x : Window) : Nat := x.limit.toNat / 4096 * 4096 + 4095

/-- The range lies wholly in one enabled window that permits the direction: `wr` the device writes. -/
def inWindow (s : State) (wr : Bool) (a len : Nat) : Bool :=
  (upTo 16).any fun w =>
    let x := tget {} s.mem.wins w
    bit x.ctrl 0 && bit x.ctrl (if wr then 2 else 1) && decide (winBase x ≤ a) && decide (a + len ≤ winLimit x + 1)

/-- A 64-bit address in PARAMi and PARAMi+1. -/
def addrAt (c : Sub) (i : Nat) : Nat := (par c i).toNat + (par c (i + 1)).toNat * 2 ^ 32

/-! What a command does -/

/-- The outcome of a command's execution: it completes; it waits, with words it keeps; or it writes bytes
to host memory and then completes OK. -/
inductive OpOut where
  | done (status : Nat) (res : DWord) (s : State)
  | wait (w : Wait) (aux : List Word) (s : State)
  | write (addr : Nat) (bytes : List Byte) (res : DWord) (s : State)

/-- Completes OK with the SN of the latest input cut. -/
def okSn (s : State) : OpOut := .done stOk (dw s.sn.toNat) s

/-- Completes OK with a result. -/
def okRes (r : DWord) (s : State) : OpOut := .done stOk r s

/-- Completes without effect. -/
def failSt (st : Nat) (s : State) : OpOut := .done st 0 s

/-- Completes without effect and with a result. -/
def failRes (st : Nat) (r : Nat) (s : State) : OpOut := .done st (dw r) s

/-- An address outside every window: BAD_PARAM, logged as F6. -/
def badWindow (op : Nat) (c : Sub) (a : Nat) (s : State) : OpOut :=
  .done stBadParam 0 (logF6 3 1 0 (cmdId c) op (word a) s)

/-- PLANE parameter: 0 active, 1 A, 2 B; an OFFLINE plane, or one that failed start-up, gives NOT_IN_STATE. -/
def withPlane (sel : Word) (s : State) (k : Nat → OpOut) : OpOut :=
  if sel.toNat > 2 then failSt stBadParam s
  else
    let p := if sel = 0 then readNo s else sel.toNat
    if computes (pstat s p) then k p else failSt stNotInState s

/-- The command's plane-side effect and its OK completion at the cut. -/
def commitExec (f : Plane → Plane) (s : State) : OpOut := okSn (onExec f s)

/-- PENDING is posted before the completion when a commit point has passed and NOTIFY_COMMIT is set (R65). -/
def notifyIf (past : Bool) (c : Sub) (s : State) : State :=
  if past && hasNotify c then post c.qp c.tag stPending 0 false s else s

/-- The opcode has a commit point. -/
def commitsOp (op : Nat) : Bool := ((opInfo op).map (·.commit)).getD false

/-- Forwarded commands accepted and not completed (R74): those outside the timed store. -/
def backlog (s : State) : Nat := (s.hif.cmds.filter fun c => !isFast c.op).length

/-- Commands in the timed store (R84). One that ORDER still holds already has its place (log entry 88). -/
def timedCount (s : State) : Nat := (s.hif.cmds.filter fun c => isFast c.op && hasTimed c.sub).length

/-- A command joins the outstanding ones; a backlog above 192, or a timed store above 768, can fall to it again (R75). -/
def addCmd (x : Cmd) (s : State) : State :=
  let t := { s with hif := { s.hif with cmds := s.hif.cmds ++ [x] } }
  { t with hif := { t.hif with
    fwHigh := t.hif.fwHigh || decide (192 < backlog t), timedHigh := t.hif.timedHigh || decide (768 < timedCount t) } }

/-- Ends an execution: PENDING when the commit point passed with NOTIFY_COMMIT, then the completion; or
the command joins the outstanding ones; or its data go to host memory (log entry 6). -/
def finish (op : Nat) (c : Sub) : OpOut → State
  | .done st r s =>
    let past := commitsOp op && st == stOk
    stampPost op (if past then some (if isFast op then loWord r else s.sn) else none) c (complete c st r (notifyIf past c s))
  | .wait w aux s =>
    let past : Bool := (op == 0x08 || op == 0xC5) && w == .device
    addCmd { sub := c, op := op, wait := w, committed := if past then some s.sn else none, aux := aux } (notifyIf past c s)
  | .write a bs r s => complete c stOk r (hostWrite a bs s)

/-- Completions the queue pair still owes: one for each outstanding command, two if PENDING is to come, and those that
wait for the page of the CQ. -/
def owed (s : State) (q : Nat) : Nat :=
  ((outstanding s q).map fun c => if hasNotify c.sub && c.committed.isNone then 2 else 1).sum + (waitingPosts s q).length

/-- The queue pair may fetch: enabled, not stopped or paused, function in D0, link up (R44, R53, R55). -/
def mayFetch (s : State) (q : Nat) : Bool :=
  let p := qpOf s q
  decide (q < 64) && bit p.ctrl 0 && !p.err && !p.paused && !s.hif.d3hot && s.hif.linkUp

/-- The front end may fetch the entry now: the pair may, the page of the SQ slot is in the TLB, and there is room for
the entry's completions (R56, 13 R420). -/
def fetchable (s : State) (c : Sub) : Bool :=
  let p := qpOf s c.qp
  mayFetch s c.qp && translate s false (sqAddr s c.qp) == .ready
    && decide (owed s c.qp + (if hasNotify c then 2 else 1) + (p.cqTail + cqLen p - p.cqHead) % cqLen p < cqLen p)

/-- An entry that cannot be fetched: where its address fails, the pair stops (R55); else nothing happens. -/
def notFetched (q : Nat) (s : State) : State :=
  match translate s false (sqAddr s q) with
  | .fails c => if mayFetch s q then qpFault q c s else s
  | _ => s

/-- Consumes the entry at the head of the ring; a whole-command row stands for the host's writing of the
entry too, so that the tail of an empty ring moves with the head (log entry 3). -/
def consume (q : Nat) (s : State) : State :=
  let p := qpOf s q
  let h := (p.sqHead + 1) % sqLen p
  tlbTouch (sqAddr s q) (setQp q { p with sqHead := h, sqTail := if p.sqTail = p.sqHead then h else p.sqTail } s)

/-- Channel 0 fetched the entry. -/
def fetched (c : Sub) (s : State) : State :=
  setCh0 { qp := c.qp, tag := c.tag, host := sqAddr s c.qp, length := 64, dir := true } (consume c.qp s)

/-- Refuses the entry with BUSY: it stays in the ring and the pair is paused (R74, R84). -/
def refuseBusy (c : Sub) (timedStore : Bool) (s : State) : State :=
  let s1 := complete c stBusy 0 s
  setQp c.qp { qpOf s1 c.qp with paused := true, pauseSrc := timedStore } s1

/-- The last sample whose effects are kept: F of a standing PWRFAIL# assertion, or of the final checkpoint that a
warm reset waits for (12 R382, R391). -/
def lastSample (s : State) : Option Word :=
  match s.boot.pwrfail with
  | some f => some f
  | none => if s.boot.warmPending then some s.boot.ckptF else none

/-- A commit point would fall after that sample (12 R391). -/
def afterF (op : Nat) (s : State) : Bool :=
  match lastSample s with
  | none => false
  | some f =>
    match opInfo op with
    | some i => i.commit && (isFast op || snLater s.sn f)
    | none => false

/-- A forwarded command is lost to a switch-over under way (02 R73). -/
def overtaken (op : Nat) (s : State) : Bool := !isFast op && s.ump.sw.isSome

/-- TAG is held by an entry of the same pair still outstanding (Table 2-10, check 2). -/
def tagHeld (s : State) (c : Sub) : Bool := (openTags s c.qp).any (· == c.tag)

/-- The entry would be refused with BUSY: the backlog holds 256 forwarded commands, or the timed store
1024 timed ones. -/
def wouldBusy (op : Nat) (c : Sub) (s : State) : Bool :=
  if isFast op then hasTimed c && decide (1024 ≤ timedCount s) else decide (256 ≤ backlog s)

/-- Entries that wait for ORDER keep only the tags still outstanding before them. -/
def refreshOrders (s : State) : State :=
  { s with hif := { s.hif with cmds := s.hif.cmds.map fun x =>
      if x.wait == .order then
        { x with aux := x.aux.filter fun t => (openTags s x.sub.qp).any fun y => word y.toNat == t }
      else x } }

/-- A consumed entry with ORDER behind entries that have not completed (Table 2-9). -/
def holdOrder (op : Nat) (c : Sub) (s : State) : State :=
  addCmd { sub := c, op := op, wait := .order, aux := (openTags s c.qp).map fun t => word t.toNat } s

/-- A consumed entry that passed its checks is executed: refused after F, lost to a switch-over, or run. -/
def execEntry (op : Nat) (core : Sub → State → OpOut) (c : Sub) (s : State) : State :=
  let s1 := stally (if isFast op then 0x85 else 0x86) 1 s
  if afterF op s1 then complete c stNotInState 0 s1
  else if overtaken op s1 then complete c stPlaneSwitch 0 s1
  else finish op c (core c s1)

/-- The entry is consumed. -/
def consumed (c : Sub) (s : State) : State := stally 0x84 1 (fetched c s)

/-- The whole of a host command, from its ring to its completion or its wait: Table 2-10, then its
execution (R59, R70). An entry that ORDER holds is checked against the device state when it goes on. A full timed
store answers BUSY before the AT_SN tests of the entry, BAD_PARAM and TIMEOUT (log entry 104). -/
def submit (op : Nat) (core : Sub → State → OpOut) (c : Sub) (s0 : State) : State :=
  let s := refreshOrders s0
  if !fetchable s c then notFetched c.qp s0
  else
    match (if tagHeld s c then some stBadParam else checkForm op c) with
    | some st => complete c st 0 (consumed c s)
    | none =>
      let held : Bool := hasOrder c && !(openTags s c.qp).isEmpty
      match (if held then none else checkState op c s.dev) with
      | some st => complete c st 0 (consumed c s)
      | none =>
        if wouldBusy op c s then refuseBusy c (isFast op) s
        else if held then holdOrder op c (consumed c s)
        else execEntry op core c (consumed c s)

/-- The meaning of a host-command row. -/
def hostCmd (op : Nat) (core : Sub → State → OpOut) (c : Sub) (s : State) : Outcome :=
  .next (submit op core c s)

/-- Takes the waiting command that satisfies p out of the outstanding ones. -/
def takeCmd (p : Cmd → Bool) (s : State) : Option (Cmd × State) :=
  match s.hif.cmds.find? p with
  | none => none
  | some c => some (c, { s with hif := { s.hif with cmds := s.hif.cmds.erase c } })

/-- Completes the waiting command of an opcode and object that satisfies p, if there is one. -/
def completeWaiting (p : Cmd → Bool) (st : Nat) (r : DWord) (s : State) : State :=
  match takeCmd p s with
  | none => s
  | some (c, s1) =>
    if c.committed.isSome then stampPost c.op c.committed c.sub (complete c.sub st r s1) else finish c.op c.sub (.done st r s1)

/-- An event row: the next state where the object exists, and a fault where it does not. -/
def guarded (ok : Bool) (s : State) : Outcome := if ok then .next s else .fault .noSuchObject

end Sys2Proof.Machine
end

