-- ==== Sys2Proof/Machine/View.lean ====
section
/-! DEFINITION. What the families see of one another: loop context words (03 Table 3-2), session records
(06 Table 6-10), axis contexts (08 Table 8-2), sealed registers (09 Table 9-1) and output channels. -/

namespace Sys2Proof.Machine

/-! Loop contexts -/

abbrev wCtrl : Nat := 0
abbrev wQual : Nat := 1
abbrev wSpTarget : Nat := 2
abbrev wSpEff : Nat := 3
abbrev wPv : Nat := 4
abbrev wOut : Nat := 5
abbrev wRamp : Nat := 6
abbrev wResid : Nat := 7
abbrev wPvRaw : Nat := 8
abbrev wFf : Nat := 9
abbrev wAux : Nat := 10
abbrev wCsp : Nat := 11
abbrev wOutAppl : Nat := 12
abbrev wRaw : Nat := 13
abbrev wSpMin : Nat := 14
abbrev wSpMax : Nat := 15
abbrev wOutMin : Nat := 16
abbrev wOutMax : Nat := 17
abbrev wOutRate : Nat := 18
abbrev wSsRate : Nat := 19
abbrev wPvFilt : Nat := 20
abbrev wAd : Nat := 21
abbrev wWeights : Nat := 22
abbrev wKaw : Nat := 23
abbrev wKff : Nat := 24
abbrev wBias : Nat := 25
abbrev wHyst : Nat := 26
abbrev wSched : Nat := 27
abbrev wBp : Nat := 28
abbrev wKp : Nat := 32
abbrev wKi : Nat := 36
abbrev wKd : Nat := 40
abbrev wKpUse : Nat := 44
abbrev wKiUse : Nat := 45
abbrev wKdUse : Nat := 46
abbrev wInteg : Nat := 47
abbrev wDstate : Nat := 49
abbrev wDprev : Nat := 50
abbrev wBind : Nat := 51
abbrev wTiming : Nat := 52
abbrev wLastSn : Nat := 53
abbrev wStale : Nat := 54
abbrev wMcfg : Nat := 55
abbrev wKm : Nat := 56
abbrev wAlpha : Nat := 57
abbrev wY0 : Nat := 59
abbrev wThr : Nat := 60
abbrev wXm : Nat := 61
abbrev wMstat : Nat := 63

/-- Word w of loop l's context. -/
def lw (p : Plane) (l w : Nat) : Word := tget 0 p.fab.ctx (64 * l + w)

/-- Replaces word w of loop l's context. -/
def setLw (l w : Nat) (v : Word) (p : Plane) : Plane :=
  { p with fab := { p.fab with ctx := tset 0 p.fab.ctx (64 * l + w) v } }

/-- A context word as a signed value. -/
def lwi (p : Plane) (l w : Nat) : Int := (lw p l w).toInt

/-- Replaces field [lo + len - 1 : lo] of a context word. -/
def setLf (l w lo len v : Nat) (p : Plane) : Plane := setLw l w (setField (lw p l w) lo len v) p

/-- MODE of Table 3-6: 0 OFF, 1 PARK, 2 MANUAL, 3 AUTO, 4 CASCADE, 5 TUNE, 6 HOLD, 7 COAST. -/
def loopMode (p : Plane) (l : Nat) : Nat := field (lw p l wCtrl) 0 4

/-- PREV_MODE. -/
def prevMode (p : Plane) (l : Nat) : Nat := field (lw p l wCtrl) 28 4

/-- IL_PARK. -/
def ilPark (p : Plane) (l : Nat) : Bool := bit (lw p l wCtrl) 16

/-- OFF or PARK: the loop does not execute. -/
def loopIdle (p : Plane) (l : Nat) : Bool := decide (loopMode p l ≤ 1)

/-- σ of R100. -/
def sigma (p : Plane) (l : Nat) : Int := if bit (lw p l wCtrl) 17 then -1 else 1

/-- D of a RATE_DIV code (Table 3-6). -/
def divisor (code : Nat) : Nat := wordAtNat [1, 2, 4, 5, 10, 20, 50, 100, 200, 500, 1000] code
where
  wordAtNat (l : List Nat) (i : Nat) : Nat := l.getD i 1

/-- The loop's divisor. -/
def loopDiv (p : Plane) (l : Nat) : Nat := divisor (field (lw p l wCtrl) 12 4)

/-- DEST_KIND and DEST_INDEX of a BIND word. -/
def bindKind (w : Word) : Nat := field w 28 4
def bindIndex (w : Word) : Nat := field w 16 12
/-- Outer loop of a BIND word. -/
def bindOuter (w : Word) : Option Nat := if bit w 15 then some (field w 0 10) else none

/-- Output channel of R21 that a binding names: 0 to 31 AO, 32 to 63 CL, 64 to 127 PW, 128 on station entries. -/
def chanOf (kind index : Nat) : Option Nat :=
  if kind = 1 then some index else if kind = 2 then some (32 + index)
  else if kind = 3 then some (64 + index) else if kind = 4 then some (128 + index) else none

/-- The channel that a loop drives. -/
def loopChan (p : Plane) (l : Nat) : Option Nat := chanOf (bindKind (lw p l wBind)) (bindIndex (lw p l wBind))

/-- The inner loop that a loop drives. -/
def innerOf (p : Plane) (l : Nat) : Option Nat :=
  if bindKind (lw p l wBind) = 5 then some (bindIndex (lw p l wBind)) else none

/-- Loops of the configuration in force, in ascending order. -/
def loopRecs (p : Plane) : List LoopRec := match p.fab.cfg with | some c => c.loops | none => []

/-- The loop has a loop record. -/
def configured (p : Plane) (l : Nat) : Bool := (loopRecs p).any fun r => r.loop == l

/-- The takes-its-set-point-from-outside condition of R115, R116: CASCADE, or COAST with PREV_MODE CASCADE. -/
def inCasc (p : Plane) (l : Nat) : Bool :=
  loopMode p l == 4 || (loopMode p l == 7 && prevMode p l == 4)

/-- Raises an event of the loop's booth: source offset 0 to 3 of Table 17-2. -/
def boothEv (k l : Nat) (d : Nat) (p : Plane) : Plane := praise (0x040 + 4 * (l / 64) + k) (word (l + d)) p

/-- Booth group of a loop. -/
def groupOf (l : Nat) : Nat := l / 256

/-- A booth group of a plane. -/
def group (p : Plane) (g : Nat) : Group := tget {} p.fab.groups g

/-- Replaces a booth group. -/
def setGroup (g : Nat) (v : Group) (p : Plane) : Plane :=
  { p with fab := { p.fab with groups := tset {} p.fab.groups g v } }

/-! Output registers (R97) -/

/-- A plane's output register of channel c, once it was written. -/
def outReg (p : Plane) (c : Nat) : Word := tget 0 p.fab.outReg c

/-- Writes a plane's output register. -/
def setOut (c : Nat) (v : Word) (p : Plane) : Plane :=
  { p with fab := { p.fab with outReg := tset 0 p.fab.outReg c v } }

/-! Sealed registers (09 R311, Table 9-1) -/

/-- Word i of the sealed block in force. -/
def slw (sl : Seal) (i : Nat) : Word := tget 0 sl.regs i

/-- Fence of channel c: 0 FENCE_MIN, 1 FENCE_MAX, 2 FENCE_SLEW, 3 FENCE_SAFE. -/
def fence (sl : Seal) (c i : Nat) : Word := slw sl (16 + 4 * c + i)

/-- FENCE_SAFE of channel c. -/
def fenceSafe (sl : Seal) (c : Nat) : Word := fence sl c 3

/-- The channel stands at its OFF-state level under R21 or R313. -/
def offHeld (sl : Seal) (c : Nat) : Bool := !sl.valid || sl.failed.contains c

/-- A value lies outside the fence range of a channel whose range is tested (R21, R27). -/
def outsideFence (sl : Seal) (c : Nat) (v : Word) : Bool :=
  !offHeld sl c && (decide (v.toInt < (fence sl c 0).toInt) || decide ((fence sl c 1).toInt < v.toInt))

/-! Sessions (06 Table 6-10) -/

/-- Reset value of word w of a session record: PEND resets to 0xFFFF_0000. -/
def sessReset (w : Nat) : Word := if w = 3 then 0xFFFF0000 else 0

/-- Word w of session n's record. -/
def sw (p : Plane) (n w : Nat) : Word := tget (sessReset w) p.sess.recs (16 * n + w)

/-- Replaces word w of session n's record. -/
def setSw (n w : Nat) (v : Word) (p : Plane) : Plane :=
  { p with sess := { p.sess with recs := tset (sessReset w) p.sess.recs (16 * n + w) v } }

/-- State of session n (Table 6-1). -/
def sessState (p : Plane) (n : Nat) : Nat := field (sw p n 0) 28 4

/-- Image of session n. -/
def sessImg (p : Plane) (n : Nat) : SessImg := (tget none p.sess.imgs n).getD {}

/-- The session is RUNNING, HELD, ABORTING, FAULTED or RESTORED. -/
def sessLive (p : Plane) (n : Nat) : Bool :=
  let st := sessState p n
  decide (2 ≤ st ∧ st ≤ 4) || st == 6 || st == 7

/-- Scope in force (R190): none while NEED_IMAGE is set. -/
def sessScope (p : Plane) (n : Nat) : List Word :=
  if bit (sw p n 0) 26 then [] else (sessImg p n).scope

/-- A scope record (Table 6-5). -/
def scopeWord (kind index : Nat) : Word := word (kind * 2 ^ 28 + index)

/-- The object is in the session's scope. -/
def inScope (p : Plane) (n kind index : Nat) : Bool := (sessScope p n).contains (scopeWord kind index)

/-- Owner of loop n (19 R575): 1 the command interface, 2 the window, 0 none. -/
def loopOwner (s : State) (p : Plane) (l : Nat) : Nat :=
  match (upTo 128).find? fun n => sessLive p n && inScope p n 1 l with
  | some n => if bit (sw p n 0) 27 then 2 else 1
  | none => if s.window.claimed && inScope p s.window.session 1 l then 2 else 0

/-- The window owns the loop as of the latest cut. -/
def windowOwns (s : State) (l : Nat) : Bool := loopOwner s (actPlane s) l == 2

/-! Axes (08 Table 8-2) -/

/-- Word w of axis a's context. -/
def xw (p : Plane) (a w : Nat) : Word := tget 0 p.axes.ctx (64 * a + w)

/-- Replaces word w of axis a's context. -/
def setXw (a w : Nat) (v : Word) (p : Plane) : Plane :=
  { p with axes := { p.axes with ctx := tset 0 p.axes.ctx (64 * a + w) v } }

/-! Stations (15 R456, R469) -/

/-- Station k. -/
def station (s : State) (k : Nat) : Station := tget {} s.field.stations k

/-- Input and output words of a station that take table entries. -/
def inSpan (x : Station) : Nat := ((x.mods.filter fun m => m.1 != 3).map fun m => m.2.2).sum
def outSpan (x : Station) : Nat := ((x.mods.filter fun m => m.1 != 3).map fun m => m.2.1).sum

/-- Station whose input entries, or output entries, include entry e. -/
def inStation (s : State) (e : Nat) : Option Nat :=
  (upTo 256).find? fun k => let x := station s k
    x.en && decide (x.inBase ≤ e ∧ e < x.inBase + inSpan x)
def outStation (s : State) (e : Nat) : Option Nat :=
  (upTo 256).find? fun k => let x := station s k
    x.en && decide (x.outBase ≤ e ∧ e < x.outBase + outSpan x)

/-- Module of a station that holds word i of its input words, or output words. -/
def moduleOf (out : Bool) : List (Nat × Nat × Nat) → Nat → Nat → Option Nat
  | [], _, _ => none
  | m :: r, i, k =>
    let n := if m.1 = 3 then 0 else if out then m.2.1 else m.2.2
    if i < n then some k else moduleOf out r (i - n) (k + 1)

/-- The entry's value of the present sample is missing or marked by its station (15 R470): its IN_MQ bit. -/
def entryMissing (s : State) (e : Nat) : Bool :=
  match inStation s e with
  | none => true
  | some k =>
    let x := station s k
    !x.online || (match moduleOf false x.mods (e - x.inBase) 0 with
      | some m => tget false s.field.inMq (16 * k + m)
      | none => true)

/-- Value of a station input entry, and the value delivered by t0 of the present sample. -/
def inEntry (s : State) (e : Nat) : Word := tget 0 s.field.inSt e
def inEntryT0 (s : State) (e : Nat) : Word := tget 0 s.field.inT0 e

/-- Field port k. -/
def fport (s : State) (k : Nat) : FPort := tget {} s.field.ports k

/-- C of Table 15-1: ticks per field cycle. -/
def fieldCycle (speed : Nat) : Nat := if speed = 1 then 10 else if speed = 2 then 2 else 1

/-- The ANALOG bit of a station output entry (09 Table 9-1). -/
def analogEntry (s : State) (e : Nat) : Bool := bit (slw s.sealed (0x10840 / 4 + e / 32)) (e % 32)

/-! Signals of the present sample (R202, R319) -/

/-- Reset value of AI_CFG of a channel (14 Table 14-2): LEAD is 6 + 5 × (j ÷ 2) for input j of its group. -/
def aiCfgReset (ch : Nat) : Word := word (0x40000100 + 6 + 5 * (ch % 16 / 2))

/-- Analogue input ch. -/
def aiOf (s : State) (ch : Nat) : AChan := tget {} s.analog.ai ch

/-- AI_CFG of a channel. -/
def aiCfg (s : State) (ch : Nat) : Word := (aiOf s ch).cfg.getD (aiCfgReset ch)

/-- MODE of the channel is off. -/
def aiOff (s : State) (ch : Nat) : Bool := field (aiCfg s ch) 30 2 == 0

/-- Level of a GP pin: an input as sampled at t0, an output as committed (R319). -/
def gpLevel (s : State) (n : Nat) : Bool :=
  if tget false s.analog.gpDir n then tget false s.outs.gp n else tget false s.pins.gpIn n

/-- A station input entry is STALE for end conditions and mask tests (R202). -/
def entryStale (s : State) (e : Nat) : Bool :=
  match inStation s e with
  | none => true
  | some k =>
    let x := station s k
    !x.online || !x.got || (match moduleOf false x.mods (e - x.inBase) 0 with
      | some m => bit x.mstale m
      | none => true)

/-- Released value of a loop's signal: 0 PV, 1 SP_EFF, 2 OUT, 3 RESID (R173). -/
def relSignal (p : Plane) (l sel : Nat) : Word := tget 0 p.fab.relVal (4 * l + sel)

/-- RQ of the loop's latest released result; 1 while none exists (R202). -/
def relStale (p : Plane) (l : Nat) : Bool := tget true p.fab.relRq l

/-- The loop fired at the sample deadline and has not released its result yet: its execution of the sample carries RQ
(05 R169, R171). -/
def firedLate (p : Plane) (l : Nat) : Bool := (p.fab.ready ++ p.fab.inflight).any fun t => t.loop == l && t.dl

/-- A signal of kind 1 loop, 2 analogue input, 3 station input entry, and whether it is STALE. -/
def signalOf (s : State) (p : Plane) (kind sel index : Nat) : Word × Bool :=
  if kind = 1 then (relSignal p index sel, relStale p index || firedLate p index)
  else if kind = 2 then ((aiOf s index).value, (aiOf s index).q || aiOff s index)
  else (inEntry s index, entryStale s index)

/-- The field lock is open (17 R533); it is open while the sealed block, once read, is invalid (R536). -/
def lockOpen (s : State) : Bool := s.lock.isOpen || (s.sealed.read && !s.sealed.valid)

/-! Both planes -/

/-- The computing planes' function, given the sealed block. -/
def onPlanesSl (f : Seal → Plane → Plane) (s : State) : State := onPlanes (f s.sealed) s

/-- The executing planes' function, given the sealed block. -/
def onExecSl (f : Seal → Plane → Plane) (s : State) : State := onExec (f s.sealed) s

end Sys2Proof.Machine
end

