-- ==== Sys2Proof/Machine/Loop.lean ====
section
/-! DEFINITION. Loops: modes and their changes (03 R108 to R112, R117), test signals (04 R143 to R146) and one
execution (03 R96 to R107, 04 R133 to R140). Values are signed numbers of FS units (2^-24). -/

namespace Sys2Proof.Machine

/-! Due effects of a loop's first execution, as bits of `Fabric.entry` -/

/-- The effects due. -/
def entryOf (p : Plane) (l : Nat) : Nat := tget 0 p.fab.entry l

/-- Replaces the effects due. -/
def setEntry (l v : Nat) (p : Plane) : Plane :=
  { p with fab := { p.fab with entry := tset 0 p.fab.entry l v } }

/-- Effect i is due. -/
def due (e i : Nat) : Bool := e / 2 ^ i % 2 == 1

/-- Effects from their bits: PV filter restart, soft start, bumpless, model initialisation, OUT = A, Y0. -/
def entryBits (b0 b1 b2 b3 b4 b5 : Bool) : Nat :=
  b0.toNat + 2 * b1.toNat + 4 * b2.toNat + 8 * b3.toNat + 16 * b4.toNat + 32 * b5.toNat

/-! Tests -/

/-- The loop's test. -/
def testOf (p : Plane) (l : Nat) : Test := tget {} p.fab.tests l

/-- Replaces the loop's test. -/
def setTest (l : Nat) (t : Test) (p : Plane) : Plane :=
  { p with fab := { p.fab with tests := tset {} p.fab.tests l t } }

/-- Ends the loop's test as aborted, with its event (R146); one whose last execution is done stays as it ended. -/
def abortTest (l cause : Nat) (p : Plane) : Plane :=
  let t := testOf p l
  if t.status = 1 then
    boothEv 3 l (cause * 65536) (setTest l { t with status := 3, cause := cause } p)
  else p

/-! Mode changes -/

/-- Transitions that a host command or step action may ask for (Table 3-8). -/
def modeRow : Nat → Nat → Bool
  | f, 0 => decide (f ≠ 0)
  | f, 1 => decide (2 ≤ f)
  | f, 2 => f == 0 || f == 1 || f == 3 || f == 4 || f == 6
  | f, 3 => f == 0 || f == 1 || f == 2 || f == 4 || f == 6
  | f, 4 => f == 0 || f == 1 || f == 2 || f == 3 || f == 6
  | f, 6 => f == 2 || f == 3 || f == 4 || f == 5 || f == 7
  | _, _ => false

/-- The outer loop stands so that the inner one may enter CASCADE. -/
def outerRuns (p : Plane) (l : Nat) : Bool :=
  match bindOuter (lw p l wBind) with
  | none => false
  | some o => !loopIdle p o

/-- R110: the change of loop l to mode m is permitted; `step` for a step action, which may also take a loop out
of TUNE to the mode it names. -/
def modeOk (ready step : Bool) (l m : Nat) (p : Plane) : Bool :=
  let f := loopMode p l
  if f = m then true
  else
    (modeRow f m || (step && f == 5 && m != 5 && decide (m ≤ 4)))
      && (m != 4 || outerRuns p l)
      && !(ilPark p l && decide (f ≤ 1))
      && (!ready || m == 0)
      && (m == 0 || configured p l)

/-- Effects due after a change from mode f to mode m. What is due in AUTO stays due in TUNE: where a test starts before the
first execution in AUTO, its first execution is the bumpless one. OUT = A, due on the first execution in MANUAL, does not
pass into TUNE (log entry 91). -/
def entryAfter (e f m : Nat) : Nat :=
  let fromIdle : Bool := decide (f ≤ 1)
  let fresh : Bool := decide (f ≤ 2) || f == 6
  entryBits (due e 0 || fromIdle)
    (if m = 3 then due e 1 || fresh else if m = 5 then due e 1 else false)
    (if m = 3 ∨ m = 4 then due e 2 || fresh else if m = 5 then due e 2 else false)
    (due e 3 || fromIdle)
    (if m = 2 then due e 4 || f == 0 else false)
    (due e 5)

/-- The inner loop of an outer one that enters OFF or PARK breaks its cascade (R117). -/
def breakCascade (l m : Nat) (p : Plane) : Plane :=
  match innerOf p l with
  | none => p
  | some i =>
    if bindOuter (lw p i wBind) = some l ∧ inCasc p i then
      let p1 := if loopMode p i = 4 then setLf i wCtrl 0 4 3 p else setLf i wCtrl 28 4 3 p
      boothEv 1 i (2 * 65536 + m * 2 ^ 24) (setLw i wSpTarget (lw p1 i wSpEff) p1)
    else p

/-- Effects of entry into OFF (Table 3-8, R109): the cleared words, and FENCE_SAFE in the output register. -/
def enterOff (sl : Seal) (l : Nat) (p : Plane) : Plane :=
  let p1 := forEach [wInteg, wInteg + 1, wDstate, wDprev, wRaw, wQual] (fun w q => setLw l w 0 q) p
  let p2 := setLf l wStale 16 16 0 p1
  match loopChan p l with
  | some c => setOut c (fenceSafe sl c) p2
  | none => p2

/-- A powered-down group starts its wake at the present cut (R128). A loop that leaves OFF or PARK while a wake is under way
executes once that wake ends (log entry 94). -/
def startWake (g : Nat) (p : Plane) : Plane :=
  let x := group p g
  if x.powered || x.wakeAt.isSome then p else setGroup g { x with wakeAt := some p.sn } p

/-- Sets a flag of LSTAT for a loop that the window reaches (19 Table 19-4). -/
def flagLoop (l b : Nat) (p : Plane) : Plane :=
  if l < 64 then { p with fab := { p.fab with lstat := tmod 0 p.fab.lstat l fun w => setBit w b true } } else p

/-- Changes a loop's mode; `cause` 0 host, 1 step, 2 interlock park, 3 RUN to READY, 4 made by the execution. -/
def setMode (sl : Seal) (cause l m : Nat) (p : Plane) : Plane :=
  let f := loopMode p l
  if f = m then p
  else
    let p0 := if f = 5 ∧ cause ≤ 3 then
      abortTest l (if cause = 2 then 3 else if m = 0 ∨ m = 1 ∨ m = 6 then 6 else 2) p else p
    let p1 := if f = 6 ∧ cause ≤ 1 then setLf l wMstat 21 1 0 p0 else p0
    let p2 := setEntry l (entryAfter (entryOf p l) f m) (setLf l wCtrl 0 4 m p1)
    let p3 := if m = 0 then enterOff sl l p2 else p2
    let p4 := if m ≤ 1 then breakCascade l m p3 else p3
    let p5 := if m = 6 ∧ cause ≤ 1 then boothEv 0 l (6 * 65536) (flagLoop l 2 p4) else p4
    if f ≤ 1 ∧ 2 ≤ m then startWake (groupOf l) p5 else p5

/-! Test signals (R143) -/

/-- TAPS(n) of Table 4-6. -/
def prbsTaps (n : Nat) : List Nat :=
  match n with
  | 7 => [6] | 8 => [6, 5, 4] | 9 => [5] | 10 => [7] | 11 => [9] | 12 => [6, 4, 1]
  | 13 => [4, 3, 1] | 14 => [5, 3, 1] | 15 => [14] | _ => []

/-- The next state of an n-bit PRBS register. -/
def prbsNext (n s : Nat) : Nat :=
  let fb := ((prbsTaps n).map fun t => s / 2 ^ t % 2).sum + s % 2
  s / 2 + fb % 2 * 2 ^ (n - 1)

/-- AMPL × sin(2π φ / 2^32) in FS units, within 2^-20 FS of the exact value: which value inside that bound is free (R143,
log entry 95). -/
def sineValue (ampl : Int) (ph : Nat) : Int :=
  rdiv (ampl * sinOf ph) (2 ^ 62) + clampI (-15) 15 (Config.sineError ampl ph)

/-- The signal of the present execution. -/
def testSignal (t : Test) : Int :=
  if t.type = 1 then
    (if t.p4.toNat ≤ t.k ∧ t.k < t.p4.toNat + t.p5.toNat then t.ampl.toInt else 0)
  else if t.type = 2 then (if t.reg % 2 = 1 then t.ampl.toInt else -t.ampl.toInt)
  else sineValue t.ampl.toInt t.reg

/-- Number of executions of a STEP or PRBS test. -/
def testLength (t : Test) : Nat :=
  if t.type = 1 then t.p4.toNat + t.p5.toNat + t.p6.toNat
  else (2 ^ t.n - 1) * t.p5.toNat * t.p6.toNat

/-- SINE: the phase, frequency, wraps and step index after one execution. -/
def sineNext (t : Test) : Test :=
  let ph := t.reg + t.freq
  if ph < 2 ^ 32 then { t with reg := ph }
  else if t.cycles + 1 < field t.p6 16 16 then { t with reg := ph - 2 ^ 32, cycles := t.cycles + 1 }
  else { t with
    reg := ph - 2 ^ 32
    cycles := 0
    stepIx := t.stepIx + 1
    freq := (t.freq * t.p5.toNat + 32768) / 65536 }

/-- The test after one execution, and whether that was its last. -/
def testNext (t : Test) : Test × Bool :=
  let t1 := { t with k := t.k + 1 }
  if t.type = 3 then
    let t2 := sineNext t1
    (t2, decide (field t.p6 0 8 ≤ t2.stepIx))
  else if t.type = 2 ∧ t1.k % t.p5.toNat = 0 then
    ({ t1 with reg := prbsNext t.n t.reg }, decide (testLength t ≤ t1.k))
  else (t1, decide (testLength t ≤ t1.k))

/-- Writes one slot of a booth's capture buffer. -/
def setCapt (booth slot : Nat) (v : Word × Word) (p : Plane) : Plane :=
  { p with fab := { p.fab with capt := tset (0, 0) p.fab.capt (32768 * booth + slot) v } }

/-- One capture record (R148). -/
def captRecord (l : Nat) (a : Word) (p : Plane) : Plane :=
  let t := testOf p l
  let size := if t.format = 1 then 2 else 1
  if t.len < (t.records + 1) * size then p
  else
    let slot := t.base + t.records * size
    let p1 := setCapt (l / 64) slot (a, lw p l wPvRaw) p
    let p2 := if t.format = 1 then setCapt (l / 64) (slot + 1) (lw p l wSpEff, lw p l wOut) p1 else p1
    setTest l { t with records := t.records + 1 } p2

/-! One execution -/

/-- The integrator, in units of 2^-40. -/
def integOf (p : Plane) (l : Nat) : Int := (dword (lw p l wInteg) (lw p l (wInteg + 1))).toInt

/-- Writes the integrator, saturated at -128.0 and 128.0 - 2^-40 (Table 3-2). -/
def setInteg (l : Nat) (x : Int) (p : Plane) : Plane :=
  let d : DWord := BitVec.ofInt 64 (clampI (-(2 ^ 47)) (2 ^ 47 - 1) x)
  setLw l (wInteg + 1) (hiWord d) (setLw l wInteg (loWord d) p)

/-- Sets a QUAL bit. -/
def setQual (l b : Nat) (v : Bool) (p : Plane) : Plane := setLf l wQual b 1 v.toNat p

/-- A QUAL bit. -/
def qual (p : Plane) (l b : Nat) : Bool := bit (lw p l wQual) b

/-- A of R102: OUT without a destination, else the value fed back. -/
def applied (p : Plane) (l : Nat) : Word :=
  if bindKind (lw p l wBind) = 0 then lw p l wOut else lw p l wOutAppl

/-- Step 0: a test that has ended, that TEST_STOP stops or that sees FENCED under STOP_ON_FENCE gives way to
PREV_MODE before the execution (R146). -/
def exTest (l : Nat) (p : Plane) : Plane :=
  if loopMode p l ≠ 5 then p
  else
    let t := testOf p l
    let back := fun (q : Plane) => setLf l wCtrl 0 4 (prevMode q l) q
    if t.endDue then back (setTest l { t with endDue := false } p)
    else if t.stopReq then back (abortTest l 1 p)
    else
      let seen := t.fencedSeen || qual p l 4
      let p1 := setTest l { t with fencedSeen := seen } p
      if t.stopOnFence && qual p l 4 then back (abortTest l 5 p1) else p1

/-- Step 1: operands, A and the limit flags (R102, R103, R119, R170). CSP shows the set-point that the execution uses: the
operand where its Q is 0, else the last value delivered with Q = 0 (R115, R164). -/
def exOperands (t : Task) (l : Nat) (p0 : Plane) : Plane :=
  let op := fun i => t.ops.getD i (0, false)
  let p := if (bindOuter (lw p0 l wBind)).isSome then setLw l wCsp (if (op 1).2 then tget 0 p0.fab.csp l else (op 1).1) p0 else p0
  let a := applied p l
  let p1 := setLw l wAux (op 3).1 (setLw l wFf (op 2).1 (setLw l wPvRaw (op 0).1 (setLw l wOutAppl a p)))
  let p2 := setQual l 3 (op 3).2 (setQual l 2 (op 2).2 (setQual l 1 (op 1).2 (setQual l 0 (op 0).2 p1)))
  setQual l 6 (decide ((lw p l wRaw).toInt < a.toInt)) (setQual l 5 (decide (a.toInt < (lw p l wRaw).toInt)) p2)

/-- Step 2: the PV filter and STALE_RUN (R96, R119). STALE_RUN saturates at 0xFFFF (log entry 92). -/
def exFilter (e l : Nat) (p : Plane) : Plane :=
  let f : Int := (lw p l wPvFilt).toNat
  let pv := if due e 0 then lw p l wPvRaw
    else fsRound (f * lwi p l wPv + (2 ^ 32 - f) * lwi p l wPvRaw) 32
  let n := field (lw p l wStale) 16 16
  setLf l wStale 16 16 (if qual p l 0 then satAdd 0xFFFF n 1 else 0) (setLw l wPv pv p)

/-- ORDER of the loop's model. -/
def order (p : Plane) (l : Nat) : Nat := field (lw p l wMcfg) 29 2

/-- Initialisation of the model (R134). -/
def modelInit (e l : Nat) (p : Plane) : Plane :=
  let a := lw p l wOutAppl
  let ka := lwi p l wKm * a.toInt
  let xm := fsRound ka 24
  let p2 := setLw l (wXm + 1) xm (setLw l wXm xm (setLw l wMstat 0 (setLw l wResid 0 p)))
  let p3 := if due e 5 then setLw l wY0 (fsRound (lwi p l wPvRaw * 2 ^ 24 - ka) 24) p2 else p2
  { p3 with fab := { p3.fab with dead := (upTo 256).foldl (fun t i => tset 0 t (256 * l + i) a) p3.fab.dead } }

/-- One step of the model (R133): the plane and YM. -/
def modelStep (l : Nat) (p : Plane) : Plane × Word :=
  let a := lw p l wOutAppl
  let ptr := field (lw p l wMstat) 24 8
  let dt := field (lw p l wMcfg) 0 9
  let ud := if dt = 0 then a else tget 0 p.fab.dead (256 * l + (ptr + 256 - dt) % 256)
  let a1 : Int := (lw p l wAlpha).toNat
  let a2 : Int := (lw p l (wAlpha + 1)).toNat
  let x1 := fsRound (a1 * lwi p l wXm * 2 ^ 24 + (2 ^ 32 - a1) * (lwi p l wKm * ud.toInt)) 56
  let x2 := fsRound (a2 * lwi p l (wXm + 1) + (2 ^ 32 - a2) * x1.toInt) 32
  let p1 := { p with fab := { p.fab with dead := tset 0 p.fab.dead (256 * l + ptr) a } }
  let p2 := setLw l wXm x1 (setLf l wMstat 24 8 ((ptr + 1) % 256) p1)
  if order p l = 2 then (setLw l (wXm + 1) x2 p2, sat32 (x2.toInt + lwi p l wY0))
  else (p2, sat32 (x1.toInt + lwi p l wY0))

/-- The residual and the warning (R136). -/
def residual (l : Nat) (ym : Word) (p : Plane) : Plane :=
  let sh := field (lw p l wMcfg) 24 4
  let x := lwi p l wResid
  let p1 := if qual p l 0 then p
    else setLw l wResid (fsRound (x * 2 ^ sh + (lwi p l wPvRaw - ym.toInt - x)) sh) p
  let warn : Bool := decide (field (lw p l wThr) 0 16 * 256 < (lwi p1 l wResid).natAbs)
  let p2 := if warn && !bit (lw p l wMstat) 22 then boothEv 2 l 0 p1 else p1
  setLf l wMstat 22 1 warn.toNat p2

/-- |RESID| exceeds FAULT_THR. -/
def residFault (p : Plane) (l : Nat) : Bool :=
  decide (field (lw p l wThr) 16 16 * 256 < (lwi p l wResid).natAbs)

/-- Entry into HOLD or COAST by the execution, with FAULT and its event (R111, R137, R140, R141). With ORDER 0 FAULT is set
too: R140 says 'in either case', R133 that it stays 0 (log entry 93). -/
def faultTo (l m cause : Nat) (p : Plane) : Plane :=
  let f := loopMode p l
  let p1 := if f = 5 then abortTest l 4 p else p
  let p2 := setLf l wMstat 21 1 1 p1
  let p3 := if m = 7 then setLf l wMstat 0 13 0 (setLf l wCtrl 28 4 f p2) else p2
  boothEv 0 l (cause * 65536) (flagLoop l 2 (setLf l wCtrl 0 4 m p3))

/-- Supervision and the stale limit (R137, R120, R140). -/
def supervise (fault : Bool) (l : Nat) (p : Plane) : Plane :=
  let m := loopMode p l
  let cfg := lw p l wMcfg
  let armed : Bool := bit cfg 31 && bit cfg 28 && order p l != 0 && (m == 3 || m == 4)
  let p1 :=
    if !(bit cfg 31 && fault) then p
    else if m = 3 ∨ m = 4 then (if bit cfg 28 then faultTo l 7 2 p else faultTo l 6 1 p)
    else if m = 2 ∨ m = 5 then faultTo l 6 1 p
    else setLf l wMstat 21 1 1 p
  let m1 := loopMode p1 l
  let lim := field (lw p1 l wStale) 0 16
  if (m1 = 3 ∨ m1 = 4 ∨ m1 = 5) ∧ lim ≠ 0 ∧ qual p1 l 0 ∧ lim ≤ field (lw p1 l wStale) 16 16 then
    (if armed then faultTo l 7 4 p1 else faultTo l 6 3 p1)
  else p1

/-- One execution in COAST (R139). -/
def coastStep (l : Nat) (ym : Word) (p : Plane) : Plane :=
  if loopMode p l ≠ 7 then p
  else
    let st := lw p l wMstat
    let cfg := lw p l wMcfg
    let n := field st 0 13 + 1
    let c := if !qual p l 0 ∧ (lwi p l wResid).natAbs ≤ field (lw p l wThr) 0 16 * 256
      then field st 17 4 + 1 else 0
    if c = field cfg 20 4 + 1 then
      boothEv 2 l (2 ^ 24) (setLf l wCtrl 0 4 (prevMode p l)
        (setLf l wMstat 17 4 0 (setLf l wMstat 21 1 0 (setLf l wMstat 0 13 n p))))
    else if n = (field cfg 12 8 + 1) * 16 + 1 then
      boothEv 0 l (5 * 65536) (flagLoop l 2 <| setLf l wCtrl 0 4 6 (setLf l wMstat 17 4 0 (setLw l wPv ym p)))
    else setLf l wMstat 17 4 c (setLf l wMstat 0 13 n (setLw l wPv ym p))

/-- Steps of R135: model, residual, supervision and COAST. -/
def exModel (e l : Nat) (p : Plane) : Plane :=
  let p1 := if due e 3 then modelInit e l p else p
  if order p l = 0 then supervise false l p1
  else
    let (p2, ym) := modelStep l p1
    let p3 := residual l ym p2
    coastStep l ym (supervise (residFault p3 l) l p3)

/-- The loop tracks its inner loop (R116). -/
def tracks (p : Plane) (l : Nat) : Bool :=
  let m := loopMode p l
  (m == 3 || m == 4 || m == 7) && bindKind (lw p l wBind) == 5 && !qual p l 13

/-- The law runs: AUTO, CASCADE, COAST, and TUNE from AUTO (Table 3-7, R144). -/
def lawRuns (p : Plane) (l : Nat) : Bool :=
  let m := loopMode p l
  m == 3 || m == 4 || m == 7 || (m == 5 && prevMode p l == 3)

/-- A value limited to SP_MIN .. SP_MAX. -/
def spClamp (p : Plane) (l : Nat) (x : Int) : Int := min (max x (lwi p l wSpMin)) (lwi p l wSpMax)

/-- The ramp is paused (R99). -/
def rampPaused (p : Plane) (l : Nat) (sp t : Int) : Bool :=
  let up := if sigma p l = 1 then qual p l 5 else qual p l 6
  let dn := if sigma p l = 1 then qual p l 6 else qual p l 5
  bit (lw p l wCtrl) 20 && ((decide (sp < t) && up) || (decide (t < sp) && dn))

/-- The set-point path of AUTO (R98); s is the signal of an SP test, which replaces the ramp (R144), and with it the soft start
that an execution still owed (log entry 91). -/
def spAuto (soft : Bool) (s : Option Int) (l : Nat) (p : Plane) : Plane :=
  let p0 := if field (lw p l wCtrl) 8 4 = 2
    then setLw l wSpTarget (fsRound (lwi p l wKff * lwi p l wFf + lwi p l wBias * 2 ^ 24) 24) p else p
  let t := spClamp p0 l (lwi p0 l wSpTarget)
  match s with
  | some x =>
    let sp := spClamp p0 l (t + x)
    setQual l 7 (decide (t ≠ lwi p0 l wSpTarget)) (setQual l 8 (decide (sp ≠ t)) (setQual l 10 false
      (setLw l wSpEff (sat32 sp) p0)))
  | none =>
    let sp0 := if soft then spClamp p0 l (lwi p0 l wPv) else lwi p0 l wSpEff
    let ss := soft || qual p0 l 9
    let r : Int := if ss && decide (0 < lwi p0 l wSsRate) then lwi p0 l wSsRate else lwi p0 l wRamp
    let paused := decide (r ≠ 0) && rampPaused p0 l sp0 t
    let step := r * loopDiv p0 l
    let sp := if r = 0 then t else if paused then sp0
      else if sp0 < t then min (sp0 + step) t else if t < sp0 then max (sp0 - step) t else sp0
    setQual l 7 (decide (t ≠ lwi p0 l wSpTarget)) (setQual l 8 (decide (sp ≠ t))
      (setQual l 9 (ss && decide (sp ≠ t)) (setQual l 10 paused (setLw l wSpEff (sat32 sp) p0))))

/-- The set-point from the outer loop (R98). -/
def spCascade (l : Nat) (p : Plane) : Plane :=
  let x := lwi p l wCsp
  let t := spClamp p l x
  setQual l 7 (decide (t ≠ x)) (setQual l 8 false (setQual l 9 false (setQual l 10 false
    (setLw l wSpEff (sat32 t) p))))

/-- Step 3: the set-point path by mode (R98). -/
def exSetpoint (soft : Bool) (s : Option Int) (l : Nat) (p : Plane) : Plane :=
  let m := loopMode p l
  if inCasc p l then spCascade l p
  else if m = 3 ∨ m = 5 ∨ m = 7 then
    spAuto soft (if m = 5 ∧ (testOf p l).point = 0 then s else none) l p
  else
    let p1 := setQual l 10 false p
    if m = 2 ∧ bit (lw p l wCtrl) 19 then setLw l wSpEff (lw p l wPv) (setLw l wSpTarget (lw p l wPv) p1) else p1

/-- Number of breakpoints at or below x (R107). -/
def segOf (p : Plane) (l : Nat) (x : Int) : Nat :=
  ((upTo 4).filter fun i => decide (lwi p l (wBp + i) ≤ x)).length

/-- One scheduled gain; v reads a breakpoint value (R107). -/
def gainOf (p : Plane) (l : Nat) (x : Int) (v : Nat → Int) : Int :=
  if x ≤ lwi p l wBp then v 0
  else if lwi p l (wBp + 3) ≤ x then v 3
  else
    match (upTo 3).find? fun i => decide (lwi p l (wBp + i) ≤ x) && decide (x < lwi p l (wBp + i + 1)) with
    | none => v 3
    | some i =>
      let d := lwi p l (wBp + i + 1) - lwi p l (wBp + i)
      rdiv (v i * d + (v (i + 1) - v i) * (x - lwi p l (wBp + i))) d.toNat

/-- Step 4a: the gains in use (R107). -/
def exGains (l : Nat) (p : Plane) : Plane :=
  let src := field (lw p l wSched) 0 2
  let x := if src = 1 then lwi p l wPv else if src = 2 then lwi p l wSpEff else lwi p l wAux
  let kp := fun i => lwi p l (wKp + i)
  let ki := fun i => ((lw p l (wKi + i)).toNat : Int)
  let kd := fun i => lwi p l (wKd + i)
  let g := fun (v : Nat → Int) => BitVec.ofInt 32 (if src = 0 then v 0 else gainOf p l x v)
  setLf l wQual 16 3 (if src = 0 then 0 else segOf p l x)
    (setLw l wKdUse (g kd) (setLw l wKiUse (g ki) (setLw l wKpUse (g kp) p)))

/-- Proportional term in units of 2^-63 (R100). -/
def termP (p : Plane) (l : Nat) : Int :=
  let kp := lwi p l wKpUse
  let law := field (lw p l wCtrl) 8 4
  if law = 0 then
    sigma p l * kp * ((field (lw p l wWeights) 16 16 : Int) * lwi p l wSpEff - lwi p l wPv * 2 ^ 15)
  else if law = 3 then 0
  else sigma p l * kp * (lwi p l wSpEff - lwi p l wPv) * 2 ^ 15

/-- Feed-forward and bias terms in units of 2^-63 (R100). -/
def termF (p : Plane) (l : Nat) : Int :=
  let law := field (lw p l wCtrl) 8 4
  let b := lwi p l wBias * 2 ^ 39
  if law = 0 then b
  else if law = 1 then lwi p l wKff * lwi p l wFf * 2 ^ 15 + b
  else if law = 4 then lwi p l wKff * lwi p l wSpEff * 2 ^ 15 + b
  else 0

/-- y of PID2 (R100). -/
def lawY (p : Plane) (l : Nat) : Word :=
  fsRound (sigma p l * ((field (lw p l wWeights) 0 16 : Int) * lwi p l wSpEff - lwi p l wPv * 2 ^ 15)) 15

/-- A bumpless execution (R101). -/
def lawBumpless (l : Nat) (p : Plane) : Plane :=
  let a := lw p l wOutAppl
  let law := field (lw p l wCtrl) 8 4
  let p1 := setLw l wRaw a (setLw l wOut a p)
  if law = 3 then p1
  else
    let p2 := if law = 0 then setLw l wDprev (lawY p l) p1 else p1
    setInteg l (rdiv (a.toInt * 2 ^ 39 - termP p l - termF p l) (2 ^ 23)) (setLw l wDstate 0 p2)

/-- Integrator step of R100, in units of 2^-56. -/
def integStep (p : Plane) (l : Nat) : Int :=
  let d0 := sigma p l * (lw p l wKiUse).toNat * (lwi p l wSpEff - lwi p l wPv)
  let d1 := if (0 < d0 ∧ qual p l 14) ∨ (d0 < 0 ∧ qual p l 15) then 0 else d0
  if bit (lw p l wCtrl) 18 then (if (0 < d1 ∧ qual p l 5) ∨ (d1 < 0 ∧ qual p l 6) then 0 else d1)
  else d1 + (lw p l wKaw).toNat * (lwi p l wOutAppl - lwi p l wRaw)

/-- Derivative state of PID2 (R100). -/
def derivStep (stale : Bool) (p : Plane) (l : Nat) : Word :=
  let d : Int := (lw p l wAd).toNat * lwi p l wDstate
  if stale then fsRound d 32
  else fsRound (d + lwi p l wKdUse * ((lawY p l).toInt - lwi p l wDprev) * 2 ^ 8) 32

/-- R of the law before injection; `stale` freezes integrator and derivative. -/
def lawRun (stale : Bool) (l : Nat) (p : Plane) : Plane × Int :=
  let law := field (lw p l wCtrl) 8 4
  if law = 3 then
    let e := sigma p l * (lwi p l wSpEff - lwi p l wPv)
    (p, if lwi p l wHyst < e then lwi p l wOutMax else if e < -lwi p l wHyst then lwi p l wOutMin else lwi p l wOut)
  else
    let p1 := if stale then p else setInteg l (rdiv (integOf p l * 2 ^ 16 + integStep p l) (2 ^ 16)) p
    let p2 := if law = 0 then
        setLw l wDprev (if stale then lw p l wDprev else lawY p l) (setLw l wDstate (derivStep stale p l) p1)
      else p1
    let ds : Int := if law = 0 then lwi p2 l wDstate else 0
    (p2, (fsRound (termP p l + integOf p2 l * 2 ^ 23 + termF p l + ds * 2 ^ 39) 39).toInt)

/-- The loop's own limits (R100). -/
def limitOut (p : Plane) (l : Nat) (r : Int) : Word :=
  let u := min (max r (lwi p l wOutMin)) (lwi p l wOutMax)
  let d := lwi p l wOutRate * loopDiv p l
  sat32 (if 0 < lwi p l wOutRate then min (max u (lwi p l wOut - d)) (lwi p l wOut + d) else u)

/-- Step 4: law and limits by mode (R100, R101, R109, R144). -/
def exLaw (e : Nat) (bump : Bool) (s : Option Int) (l : Nat) (p : Plane) : Plane :=
  let m := loopMode p l
  let inj : Int := if (testOf p l).point = 1 then s.getD 0 else 0
  if lawRuns p l then
    if bump then lawBumpless l p
    else
      let (p1, r0) := lawRun (qual p l 0 && m != 7) l p
      let r := sat32 (r0 + (if m = 5 then inj else 0))
      setLw l wRaw r (setLw l wOut (limitOut p1 l r.toInt) p1)
  else if m = 5 then setLw l wOut (limitOut p l ((testOf p l).outBase.toInt + inj)) p
  else if m = 2 ∧ due e 4 then setLw l wOut (lw p l wOutAppl) p
  else p

/-- Step 5 of a test's execution: the capture record, and the end after the last execution (R146, R148). -/
def exCapture (l : Nat) (p : Plane) : Plane :=
  if loopMode p l ≠ 5 then p
  else
    let p1 := captRecord l (lw p l wOutAppl) p
    let (t, last) := testNext (testOf p1 l)
    if last then boothEv 3 l 0 (setTest l { t with status := 2, cause := 0, endDue := true } p1)
    else setTest l t p1

/-- BASE of an OUT test is OUT at its first execution. -/
def exTestBase (l : Nat) (p : Plane) : Plane :=
  let t := testOf p l
  if loopMode p l = 5 ∧ t.k = 0 then setTest l { t with outBase := lw p l wOut } p else p

/-- Report of an inner loop to its outer loop (R106, R116): LIMIT_UP, LIMIT_DN, IN_CASC. -/
def innerReport (p : Plane) (l : Nat) : Nat :=
  let hi := qual p l 5
  let lo := qual p l 6
  let up := if sigma p l = 1 then hi else lo
  let dn := if sigma p l = 1 then lo else hi
  up.toNat + 2 * dn.toNat + 4 * (inCasc p l).toNat

/-- The context after one execution of loop l on sample sn with the operands of t (R96). -/
def execCore (t : Task) (l : Nat) (p : Plane) : Plane :=
  let e := entryOf p l
  let p1 := exModel e l (exFilter e l (exOperands t l (exTest l p)))
  let s := if loopMode p1 l = 5 then some (testSignal (testOf p1 l)) else none
  let track := tracks p1 l
  let bump := lawRuns p1 l && (due e 2 || track)
  let p2 := if bump then setQual l 5 false (setQual l 6 false p1) else p1
  let p3 := exSetpoint (due e 1) s l (exTestBase l (setQual l 12 track p2))
  let p4 := exLaw e bump s l (exGains l p3)
  setLw l wLastSn t.sn (setEntry l 0 (exCapture l p4))

/-- RQ of an execution (R170). -/
def taskRq (t : Task) : Bool :=
  t.dl || (t.ops.zipIdx.any fun x => x.1.2 && (x.2 != 1 || t.spUsed))

/-- FENCED and STALE of an execution, as the window's LSTAT keeps them. -/
def flagExec (l : Nat) (p : Plane) : Plane :=
  let p1 := if qual p l 4 then flagLoop l 1 p else p
  if qual p l 0 then flagLoop l 0 p1 else p1

/-- Feedback tokens of an inner loop to its outer loop (R116, 05 Table 5-2). -/
def reportTokens (o l : Nat) (p : Plane) : List Token :=
  let sn := BitVec.ofNat 16 p.sn.toNat
  [mkToken 2 1 o (lw p l wSpEff) false sn, mkToken 2 2 o (word (innerReport p l)) false sn]

/-- One execution: the context, and the report to the outer loop for the next cut. -/
def execLoop (t : Task) (p : Plane) : Plane :=
  let l := t.loop
  let q := flagExec l (execCore t l p)
  match bindOuter (lw q l wBind) with
  | none => q
  | some o => { q with fab := { q.fab with reports := q.fab.reports ++ reportTokens o l q } }

end Sys2Proof.Machine
end

