-- ==== Sys2Proof/Machine/Tokens.lean ====
section
/-! DEFINITION. The dispatcher of one plane (05): matching store, ready lists, issue, flows and releases. Instants
are booth cycles of 1.25 ns from t0 of the present sample. -/

namespace Sys2Proof.Machine

/-- Replaces the fabric of a plane. -/
def setFab (f : Fabric) (p : Plane) : Plane := { p with fab := f }

/-- Adds n to dispatcher counter k of Table 5-8. -/
def dcount (k n : Nat) (p : Plane) : Plane :=
  setFab { p.fab with counters := tmod 0 p.fab.counters k (· + n) } p

/-! Routes (R161, R163) -/

/-- Route records in force. -/
def routesOf (p : Plane) : List Route := match p.fab.cfg with | some c => c.routes | none => []

/-- Flow records in force. -/
def flowsOf (p : Plane) : List FlowRec := match p.fab.cfg with | some c => c.flows | none => []

/-- The route record of a port. -/
def routeOf (p : Plane) (l port : Nat) : Option Route :=
  (routesOf p).find? fun r => r.dest == l && r.port == port

/-- REQ_PORTS bit of a port. -/
def portRequired (p : Plane) (l port : Nat) : Bool := bit (lw p l wCtrl) (24 + port)

/-- A candidate port: required, with an input or a same-sample link as its source (R165). -/
def candidate (p : Plane) (l port : Nat) : Bool :=
  portRequired p l port &&
    (if port = 1 then (bindOuter (lw p l wBind)).isSome
     else match routeOf p l port with
       | none => false
       | some r => !r.delay)

/-- The loop executes on the present sample. -/
def executesNow (p : Plane) (l : Nat) : Bool := p.fab.due.contains l

/-- The port gates its loop's readiness on the present sample (R163). -/
def gates (p : Plane) (l port : Nat) : Bool :=
  candidate p l port && executesNow p l &&
    (if port = 1 then inCasc p l && (match bindOuter (lw p l wBind) with
        | some o => executesNow p o
        | none => false)
     else match routeOf p l port with
       | some r => r.srcKind != 3 || executesNow p r.src
       | none => false)

/-! Latches and store -/

/-- Port latch (R164). -/
def latchOf (p : Plane) (l port : Nat) : Word × Bool := tget (0, false) p.fab.latch (4 * l + port)

/-- Writes a port latch, and the last set-point that came with Q = 0; what stood there is kept until the next value (R160). -/
def setLatch (l port : Nat) (v : Word) (q : Bool) (p : Plane) : Plane :=
  let x := latchOf p l port
  setFab { p.fab with
    latch := tset (0, false) p.fab.latch (4 * l + port) (v, q)
    latchOld := tset (0, false, 0) p.fab.latchOld (4 * l + port) (x.1, x.2, tget 0 p.fab.csp l)
    csp := if port = 1 ∧ q = false then tset 0 p.fab.csp l v else p.fab.csp } p

/-- The rows so far have reached instant t of the sample, in booth cycles. -/
def reachAt (t : Int) (p : Plane) : Plane := setFab { p.fab with now := max p.fab.now t } p

/-- Entry (loop, port, s) of the matching store. -/
def entAt (p : Plane) (l port : Nat) (sn : Word) : Option StoreEnt :=
  p.fab.store.find? fun e => e.loop == l && e.port == port && e.sn == sn

/-- Frees an entry. -/
def freeEnt (l port : Nat) (sn : Word) (p : Plane) : Plane :=
  setFab { p.fab with store := p.fab.store.filter fun e => !(e.loop == l && e.port == port && e.sn == sn) } p

/-- Takes an entry for token t, or replaces its value and Q, which counts a duplicate. -/
def takeEnt (t : Token) (sn : Word) (p : Plane) : Plane :=
  let was := entAt p t.loop t.port sn
  let p1 := freeEnt t.loop t.port sn p
  let e : StoreEnt := { loop := t.loop, port := t.port, sn := sn, value := t.value, q := t.q, par := t.par
                        old := was.map fun x => (x.value, x.q) }
  let p2 := setFab { p1.fab with store := p1.fab.store ++ [e] } p1
  let p3 := if was.isSome then dcount 2 1 p2 else p2
  setFab { p3.fab with counters := tmod 0 p3.fab.counters 7 (max p3.fab.store.length) } p3

/-- Every gating port of the loop is filled for the present sample. -/
def allFilled (p : Plane) (l : Nat) : Bool :=
  (upTo 4).all fun k => !gates p l k || (entAt p l k p.sn).isSome

/-- The loop becomes ready at instant t if its operands are complete and it is not already ready or fired. -/
def makeReady (t : Int) (l : Nat) (p : Plane) : Plane :=
  if executesNow p l && !p.fab.fired.contains l && !(p.fab.ready.any fun x => x.loop == l) && allFilled p l then
    setFab { p.fab with ready := p.fab.ready ++ [{ loop := l, sn := p.sn, at_ := t }] } p
  else p

/-- One entry at the input cut (R165). -/
def cutEntry (e : StoreEnt) (p : Plane) : Plane :=
  if e.sn ≠ p.sn ∨ loopIdle p e.loop then freeEnt e.loop e.port e.sn p
  else if gates p e.loop e.port then p
  else setLatch e.loop e.port e.value e.q (freeEnt e.loop e.port e.sn p)

/-- One pending register at the input cut (R165). -/
def cutPend (x : Nat × Option (Word × Bool)) (p : Plane) : Plane :=
  match x.2 with
  | none => p
  | some (v, q) => if loopIdle p (x.1 / 4) then p else setLatch (x.1 / 4) (x.1 % 4) v q p

/-- Writes OUT of a loop in MANUAL: clamped into OUT_MIN to OUT_MAX (R108); a value written before the loop's first
execution in MANUAL stands in the place of OUT = A (log entry 11). -/
def writeOut (l : Nat) (v : Word) (p : Plane) : Plane :=
  let e := entryOf p l
  setLw l wOut (BitVec.ofInt 32 (min (max v.toInt (lwi p l wOutMin)) (lwi p l wOutMax)))
    (setEntry l (entryBits (due e 0) (due e 1) (due e 2) (due e 3) false (due e 5)) p)

/-- Applies a context-write token at its cut (R112, R84, R108): the value of OUT is clamped, and discarded once
the loop has left MANUAL. -/
def applyCtxWrite (x : CtxWrite) (p : Plane) : Plane :=
  if x.port = 0 then setLw x.loop wSpTarget x.value p
  else if loopMode p x.loop = 2 then writeOut x.loop x.value p
  else ptally 0x01 1 p

/-- Context-write tokens of OUT due at the cut, once its mode changes are made (02 R84); one whose value a step of the
cut names is superseded (01 R27). -/
def outWritesCut (p : Plane) : Plane :=
  let now := p.fab.ctxWrites.filter fun x => !snLater x.sn p.sn
  forEach (now.filter fun x => !p.fab.stepNamed.contains (x.loop, wOut)) applyCtxWrite
    (setFab { p.fab with ctxWrites := p.fab.ctxWrites.filter fun x => snLater x.sn p.sn } p)

/-- Delivery of operand token x (R165): `diff` is s - n, `onTime` whether the instant t lies before
t0 + 6.0 µs; the second part of the answer says that a token for the present sample was matched. -/
def deliver (x : Token) (diff : Int) (onTime : Bool) (t : Int) (p : Plane) : Plane × Bool :=
  if diff = 1 then
    if candidate p x.loop x.port then (takeEnt x (p.sn + 1) p, false)
    else (setFab { p.fab with pend := tset none p.fab.pend (4 * x.loop + x.port) (some (x.value, x.q)) } p, false)
  else if diff = 0 ∧ onTime then
    if loopIdle p x.loop then (p, false)
    else if !gates p x.loop x.port then (setLatch x.loop x.port x.value x.q p, true)
    else if p.fab.fired.contains x.loop then (dcount 2 1 p, false)
    else (makeReady t x.loop (takeEnt x p.sn p), true)
  else if diff = 0 then (dcount 0 1 p, false)
  else (dcount 1 1 p, false)

/-! Back-pressure (R177) and the cut -/

/-- The flow record of a flow. -/
def flowRec (p : Plane) (f : Nat) : Option FlowRec := (flowsOf p).find? fun r => r.flow == f

/-- Samples whose results a flow holds. -/
def flowSamples (p : Plane) (f : Nat) : List Word :=
  ((p.fab.results.filter fun r => r.flow == f).map fun r => r.sn).eraseDups

/-- A full flow with a field-port sink (R177). -/
def flowFull (p : Plane) (r : FlowRec) : Bool := r.sink != 0 && decide (2 ≤ (flowSamples p r.flow).length)

/-- Port k (1 to 8) is held back (R177). -/
def heldBack (p : Plane) (k : Nat) : Bool := (flowsOf p).any fun r => r.bpSrc == k && flowFull p r

/-- SN nearest n whose low 16 bits are those of a token, as a difference from n (R10, R165). -/
def tokenDiff (n : Word) (sn : BitVec 16) : Int := (sn - BitVec.ofNat 16 n.toNat).toInt

/-- An operand token at delivery slot `slot`: its delivery, and the late tally of its source (R35, R165). -/
def deliverTok (t : Token) (slot src : Nat) (p : Plane) : Plane :=
  let (p1, hit) := deliver t (tokenDiff p.sn t.sn) (decide (slot < 60)) (80 * slot) p
  if hit then ptally (0x10 + src) 1 p1 else p1

/-- A port is held back for a token that came by path src. -/
def srcHeld (p : Plane) (src : Nat) : Bool := decide (1 ≤ src ∧ src ≤ 8) && heldBack p src

/-- The tokens of ports that are no longer held back are accepted in their order of arrival (R177). -/
def acceptHeld (slot : Nat) (p : Plane) : Plane :=
  let ok := p.fab.heldTok.filter fun x => !srcHeld p x.2
  forEach ok (fun x q => deliverTok x.1 slot x.2 q)
    (setFab { p.fab with heldTok := p.fab.heldTok.filter fun x => srcHeld p x.2 } p)

/-- Delayed-link values enter their latches, but for a loop in OFF or PARK (R163, R165, R108). -/
def delayedCut (p : Plane) : Plane :=
  let p1 := forEach p.fab.delayed (fun x q => if loopIdle q x.loop then q else setLatch x.loop x.port x.value x.q q) p
  setFab { p1.fab with delayed := [] } p1

/-- The matching store judges the input cut, after its mode changes and DIV_CNT updates (R165). -/
def settleCut (p0 : Plane) : Plane :=
  if !p0.fab.cutOpen then p0
  else
    let p := delayedCut (outWritesCut p0)
    let d := p.fab.due.filter fun l => !loopIdle p l && (group p (groupOf l)).powered
    let p1 := setFab { p.fab with cutOpen := false, due := d, fired := [] } p
    let p2 := forEach p1.fab.store cutEntry p1
    let p3 := forEach p2.fab.pend cutPend p2
    acceptHeld 0 (forEach d (makeReady 0) (setFab { p3.fab with pend := [] } p3))

/-! Flows (R172 to R178) -/

/-- Writes a released result to its output register and to the released signals (R173). A late one is for the next tick
from t0 + 7.4 µs on, and for a station entry always: the frame of its sample departs without it (R174). -/
def releaseOne (r : FlowRes) (p : Plane) : Plane :=
  let rv := tsetMany 0 p.fab.relVal (4 * r.loop) [r.pv, r.sp, r.out, r.resid]
  let p1 := setFab { p.fab with
    relVal := rv
    relRq := tset true p.fab.relRq r.loop r.rq
    relStat := tset 0 p.fab.relStat r.loop (word (field (lw p r.loop wQual) 0 16 * 65536 + r.rq.toNat * 32768 + loopMode p r.loop))
    relNow := p.fab.relNow ++ [r.loop]
    relAfter := if p.fab.exchanged then p.fab.relAfter ++ [r] else p.fab.relAfter
    results := p.fab.results.erase r } p
  match loopChan p r.loop with
  | none => p1
  | some c =>
    if 5920 < r.at_ ∨ (r.late ∧ r.sn = p.sn ∧ 128 ≤ c) then setFab { p1.fab with lateOut := p1.fab.lateOut ++ [{ dest := c, value := r.out }] } p1
    else setOut c r.out p1

/-- Order of release: earlier samples first, then ascending loop number. -/
def relBefore (a b : FlowRes) : Bool := if a.sn = b.sn then decide (a.loop ≤ b.loop) else snLater b.sn a.sn

/-- Stable insertion by order of release. -/
def relInsert (e : FlowRes) : List FlowRes → List FlowRes
  | [] => [e]
  | a :: r => if relBefore a e then a :: relInsert e r else e :: a :: r

/-- The flow's sink takes results now: a local sink, or a port whose transmit path is free (R176). -/
def sinkOpen (txFree : Nat → Bool) (p : Plane) (f : Nat) : Bool :=
  match flowRec p f with
  | none => true
  | some r => r.sink == 0 || txFree (r.sink - 1)

/-- The results among rs are released in order (R173). -/
def releaseAll (rs : List FlowRes) (p : Plane) : Plane := forEach (rs.foldl (fun l r => relInsert r l) []) releaseOne p

/-- FLOW_RELEASE (R173): the on-time results leave, the contexts as they stand are what reads return (02 R85), and ports
that are no longer held back bring their tokens. -/
def flowRelease (txFree : Nat → Bool) (p : Plane) : Plane :=
  let p1 := releaseAll (p.fab.results.filter fun r => sinkOpen txFree p r.flow) p
  acceptHeld 60 (reachAt 4800 (setFab { p1.fab with ctxRel := p1.fab.ctx } p1))

/-- The context of one loop, as a late release leaves it. -/
def relContext (l : Nat) (p : Plane) : Plane :=
  setFab { p.fab with ctxRel := (upTo 64).foldl (fun t w => tset 0 t (64 * l + w) (lw p l w)) p.fab.ctxRel } p

/-- Occupancy of a flow. -/
def flowCount (p : Plane) (f : Nat) : Nat := (p.fab.results.filter fun r => r.flow == f).length

/-- Statistics of a flow. -/
def setFlowStat (f : Nat) (v : FlowStat) (p : Plane) : Plane :=
  setFab { p.fab with flowStat := tset {} p.fab.flowStat f v } p

/-- Statistics of a flow. -/
def flowStatOf (p : Plane) (f : Nat) : FlowStat := tget {} p.fab.flowStat f

/-- A full flow that at the cut of s still holds results of sample s - 2, or of an earlier one, drops them (R178, log
entry 105). -/
def flowDrop (p : Plane) : Plane :=
  forEach (flowsOf p) (fun r q =>
    let old : FlowRes → Bool := fun x => x.flow == r.flow && snLater (q.sn - 1) x.sn
    let n := (q.fab.results.filter old).length
    if n = 0 ∨ (flowSamples q r.flow).length < 2 then q
    else
      let q1 := setFab { q.fab with results := q.fab.results.filter fun x => !old x } q
      let st := flowStatOf q r.flow
      dcount 5 n (setFlowStat r.flow { st with drops := satAdd 0xFFFF st.drops n } q1)) p

/-- Ticks of back-pressure, by flow and over all ports: a flow that was full at some instant of the tick counts. -/
def countBack (p : Plane) : Plane :=
  let fs := (flowsOf p).filter fun r => r.bpSrc != 0 && (p.fab.bpSeen.contains r.flow || flowFull p r)
  let p1 := forEach fs (fun r q =>
    let st := flowStatOf q r.flow
    setFlowStat r.flow { st with bpTicks := satAdd 0xFFFF st.bpTicks 1 } q) p
  if fs.isEmpty then p1 else dcount 6 1 p1

/-! Issue and execution (R89, R167) -/

/-- Issue cost of a loop (Table 3-1). -/
def issueCost (p : Plane) (l : Nat) : Nat :=
  let law := field (lw p l wCtrl) 8 4
  let base := if law = 0 then 32 else if law = 1 then 28 else if law = 2 then 30 else if law = 3 then 16 else 28
  base + (if field (lw p l wSched) 0 2 = 0 then 0 else 8) + (if loopMode p l = 5 then 4 else 0)

/-- Ready-list level. -/
def prioOf (p : Plane) (l : Nat) : Nat := field (lw p l wCtrl) 21 3

/-- Task a is served before task b. -/
def taskBefore (p : Plane) (a b : Task) : Bool :=
  if prioOf p a.loop ≠ prioOf p b.loop then decide (prioOf p b.loop < prioOf p a.loop)
  else if a.at_ ≠ b.at_ then decide (a.at_ < b.at_)
  else decide (a.loop < b.loop)

/-- The next task of a booth and the instant of its issue (R167). -/
def nextTask (p : Plane) (b : Nat) : Option (Task × Int) :=
  let mine := p.fab.ready.filter fun t => t.loop / 64 == b
  match mine with
  | [] => none
  | t0 :: r =>
    let first := r.foldl (fun m t => min m t.at_) t0.at_
    let at_ := max (tget 0 p.fab.busy b) (first + 240)
    let el := mine.filter fun t => decide (t.at_ + 240 ≤ at_)
    match el with
    | [] => none
    | e0 :: er => some (er.foldl (fun m t => if taskBefore p t m then t else m) e0, at_)

/-- Operands of a loop on the present sample: gating entries, else latches; a missing gating operand is STALE. -/
def gatherOps (p : Plane) (l : Nat) : List (Word × Bool) :=
  (upTo 4).map fun k =>
    if gates p l k then
      match entAt p l k p.sn with
      | some e => (e.value, e.q)
      | none => ((latchOf p l k).1, true)
    else latchOf p l k

/-- Moves the loop's entries to their latches. -/
def consumeEnts (l : Nat) (p : Plane) : Plane :=
  forEach (upTo 4) (fun k q =>
    match entAt q l k q.sn with
    | some e => setLatch l k e.value e.q (freeEnt l k q.sn q)
    | none => q) p

/-- Firing: the loop's operands leave the store. -/
def fireTask (t : Task) (p : Plane) : Plane × Task :=
  let t1 := { t with ops := gatherOps p t.loop, spUsed := gates p t.loop 1 }
  let p1 := consumeEnts t.loop p
  (setFab { p1.fab with fired := p1.fab.fired ++ [t.loop] } p1, t1)

/-- History of booth b in the last 1000 ticks, latest first. -/
def histOf (p : Plane) (b : Nat) : List BoothTick := tget [] p.fab.boothHist b

/-- Changes the present tick of a booth's history. -/
def histMod (b : Nat) (f : BoothTick → BoothTick) (p : Plane) : Plane :=
  let h := match histOf p b with
    | [] => [f {}]
    | x :: r => f x :: r
  setFab { p.fab with boothHist := tset [] p.fab.boothHist b h } p

/-- TASK_FIRE in one plane: the booth's issue stage takes its next task. -/
def issueNext (b : Nat) (p : Plane) : Plane :=
  match nextTask p b with
  | none => p
  | some (t, at_) =>
    let p1 := setFab { p.fab with ready := p.fab.ready.erase t } p
    let (p2, t1) := if t.dl then (p1, t) else fireTask t p1
    let c := issueCost p t.loop
    histMod b (fun x => { x with load := x.load + c })
      (setFab { (reachAt at_ p2).fab with
        busy := tset 0 p2.fab.busy b (at_ + c)
        inflight := p2.fab.inflight ++ [{ t1 with at_ := at_ }] } p2)

/-- The flows that are full now are noted for the tick. -/
def noteFull (p : Plane) : Plane :=
  setFab { p.fab with bpSeen := (p.fab.bpSeen ++ ((flowsOf p).filter (flowFull p)).map fun r => r.flow).eraseDups } p

/-- The result of an execution leaves its booth at instant `at_`: the flow takes it, links emit it (R172, R174). -/
def flowEntry (t : Task) (at_ : Int) (p : Plane) : Plane :=
  let l := t.loop
  let rq := taskRq t
  let out := lw p l wOut
  let late : Bool := decide (4800 < at_)
  let onTime : Bool := decide (at_ < 4800)
  let f := match (loopRecs p).find? fun r => r.loop == l with
    | some r => r.flow
    | none => 0
  let r : FlowRes :=
    { flow := f, loop := l, sn := t.sn, out := out, rq := rq, late := late, at_ := at_
      pv := lw p l wPv, sp := lw p l wSpEff, resid := lw p l wResid }
  let p1 := setFab { p.fab with results := p.fab.results ++ [r] } p
  let st := flowStatOf p1 f
  let p2 := noteFull (setFlowStat f { st with peak := max st.peak (flowCount p1 f) } p1)
  let links := (routesOf p).filter fun x => x.srcKind == 3 && x.src == l
  let tok := fun (port dest : Nat) => mkToken 0 port dest out rq (BitVec.ofNat 16 t.sn.toNat)
  let p3 := forEach (links.filter fun x => !x.delay)
    (fun x q => (deliver (tok x.port x.dest) (snDiff t.sn q.sn) onTime at_ q).1) p2
  let p4 := match innerOf p l with
    | some i => (deliver (tok 1 i) (snDiff t.sn p3.sn) onTime at_ p3).1
    | none => p3
  let p5 := forEach (links.filter fun x => x.delay)
    (fun x q => setFab { q.fab with delayed := q.fab.delayed ++ [tok x.port x.dest] } q) p4
  if late then dcount 4 1 p5 else p5

/-- LOOP_EXECUTION in one plane: the loop's task in issue completes (R96). A late result is released on entry, behind
whatever its flow still holds, and a port that is held back no longer brings its tokens (R173, R174, R177). -/
def completeTask (txFree : Nat → Bool) (l : Nat) (p : Plane) : Plane :=
  match p.fab.inflight.find? fun t => t.loop == l with
  | none => p
  | some t =>
    let p1 := setFab { p.fab with inflight := p.fab.inflight.erase t } p
    if loopIdle p1 l then p1
    else
      let at_ := t.at_ + 480
      let p2 := ptally (0x20 + l / 64) 1 (execLoop t p1)
      let p3 := histMod (l / 64) (fun x => { x with lastResult := max x.lastResult (at_ / 8).toNat }) (flowEntry t at_ (reachAt at_ p2))
      if 4800 < at_ then
        match p3.fab.results.find? fun r => r.loop == l && r.sn == t.sn with
        | some r => if sinkOpen txFree p3 r.flow
            then acceptHeld (at_ / 80).toNat (relContext l (releaseAll (p3.fab.results.filter fun x => x.flow == r.flow) p3)) else p3
        | none => p3
      else p3

/-- The sample deadline of the dispatcher (R169): loops that execute and lack operands fire with latch values. -/
def deadlineFire (p : Plane) : Plane :=
  let pc := settleCut p
  let p0 := reachAt 4800 (setFab { pc.fab with deadlineDone := true } pc)
  let ls := p0.fab.due.filter fun l => !p0.fab.fired.contains l && !(p0.fab.ready.any fun t => t.loop == l)
  forEach ls (fun l q =>
    let (q1, t) := fireTask { loop := l, sn := q.sn, at_ := 4800, dl := true } q
    histMod (l / 64) (fun x => { x with stale := x.stale + 1 })
      (dcount 3 1 (setFab { q1.fab with ready := q1.fab.ready ++ [t] } q1))) p0

/-- Whatever is still ready or in issue completes before the next cut (R173, R175). -/
def drainTasks (txFree : Nat → Bool) (p : Plane) : Plane :=
  let p1 := forEach (p.fab.ready.map fun t => t.loop / 64) issueNext (settleCut p)
  forEach (p1.fab.inflight.map fun t => t.loop) (completeTask txFree) p1

/-! Parity errors (R160) -/

/-- The latch goes back to what it held before the token's value, while its loop has not fired on it. -/
def latchUndo (t : Token) (p : Plane) : Plane :=
  let key := 4 * t.loop + t.port
  let o := tget (0, false, 0) p.fab.latchOld key
  if latchOf p t.loop t.port ≠ (t.value, t.q) ∨ p.fab.fired.contains t.loop = true then p
  else setFab { p.fab with
    latch := tset (0, false) p.fab.latch key (o.1, o.2.1)
    csp := if t.port = 1 then tset 0 p.fab.csp t.loop o.2.2 else p.fab.csp } p

/-- The plane gives up what it holds of an operand token: its store entry, with the readiness it gave, or what the entry
replaced; its pending register; its delayed value; or its place in the latch. -/
def dropOperand (t : Token) (p : Plane) : Plane :=
  let key := 4 * t.loop + t.port
  let mine : StoreEnt → Bool := fun e => e.loop == t.loop && e.port == t.port && BitVec.ofNat 16 e.sn.toNat == t.sn
  let f := p.fab
  match f.store.find? mine with
  | some e =>
    match e.old with
    | some (v, q) => setFab { f with store := f.store.map fun x =>
        if x = e then { e with value := v, q := q, par := (mkToken 0 e.port e.loop v q t.sn).par, old := none } else x } p
    | none => setFab { f with
        store := f.store.filter fun x => !mine x
        ready := if e.sn = p.sn then f.ready.filter fun x => !(x.loop == t.loop && x.sn == p.sn && !x.dl) else f.ready } p
  | none =>
    if (tget none f.pend key).isSome then setFab { f with pend := tset none f.pend key none } p
    else if f.delayed.any (fun x => x.loop == t.loop && x.port == t.port) then
      setFab { f with delayed := f.delayed.filter fun x => !(x.loop == t.loop && x.port == t.port) } p
    else latchUndo t p

/-- The plane discards its copy of a token that it has already been given. -/
def dropCopy (t : Token) (p : Plane) : Plane :=
  if t.kind = 1 then
    setFab { p.fab with ctxWrites := p.fab.ctxWrites.filter fun x =>
      !(x.loop == t.loop && x.port == t.port && BitVec.ofNat 16 x.sn.toNat == t.sn) } p
  else if t.kind = 2 then
    setFab { p.fab with
      lostFb := p.fab.lostFb ++ [(t.loop, t.port)]
      reports := p.fab.reports.filter fun x => !(x.loop == t.loop && x.port == t.port) } p
  else dropOperand t p

/-! The cut -/

/-- Context-write tokens of SP_TARGET due at the present cut, in order of placement (R95). -/
def ctxWritesCut (p : Plane) : Plane :=
  let now : CtxWrite → Bool := fun x => !snLater x.sn p.sn && x.port == 0
  forEach (p.fab.ctxWrites.filter now) applyCtxWrite
    (setFab { p.fab with ctxWrites := p.fab.ctxWrites.filter fun x => !now x } p)

/-- A feedback token takes effect (Table 5-2): A, or SP_EFF of the inner loop in its place; the flags of the inner loop, or
FENCED of a channel. -/
def applyFeedback (t : Token) (p : Plane) : Plane :=
  let b := fun i => t.value.toNat / 2 ^ i % 2
  if t.port ≠ 2 then setLw t.loop wOutAppl t.value p
  else if (loopChan p t.loop).isSome then setQual t.loop 4 (b 3 == 1) p
  else setLf t.loop wQual 13 3 (b 2 + 2 * b 0 + 4 * b 1) p

/-- Reports of inner loops reach their outer loops (R116). -/
def reportsCut (p : Plane) : Plane :=
  let p1 := forEach p.fab.reports applyFeedback p
  setFab { p1.fab with reports := [] } p1

/-- DIV_CNT of every configured loop, but one held in a pending restore (R94, R398): the plane, with the loops
whose execution sample this is. -/
def divCut (held : List Nat) (p : Plane) : Plane :=
  let ls := (loopRecs p).map fun r => r.loop
  let p0 := setFab { p.fab with due := [], cutOpen := true, deadlineDone := false } p
  forEach ls (fun l q =>
    if held.contains l then q
    else
      let n := field (lw q l wTiming) 0 10
      if n = 0 then
        let q1 := setFab { q.fab with due := q.fab.due ++ [l] } q
        setLf l wTiming 0 10 (loopDiv q l - 1) q1
      else setLf l wTiming 0 10 (n - 1) q) p0

/-- The dispatcher's bookkeeping between two samples: times are rebased to the new t0, late outputs take their
registers, flows drop, and histories advance. -/
def fabricTurn (p : Plane) : Plane :=
  let f := p.fab
  let p1 := setFab { f with
    busy := (f.busy.map fun x => (x.1, x.2 - 8000)).filter fun x => decide (0 < x.2)
    inflight := f.inflight.map fun t => { t with at_ := t.at_ - 8000 }
    ready := f.ready.map fun t => { t with at_ := t.at_ - 8000 }
    results := f.results.map fun r => { r with at_ := 0 }
    lateOut := []
    relNow := []
    exchanged := false
    relAfter := []
    relPrev := f.relAfter
    now := 0
    stepNamed := []
    boothHist := f.boothHist.map fun h => (h.1, ({} :: h.2).take 1000) } p
  let p2 := flowDrop (countBack (forEach f.lateOut (fun o q => setOut o.dest o.value q) p1))
  noteFull (setFab { p2.fab with bpSeen := [] } p2)

/-- Conditions for a booth group to power down (R126, R333). -/
def groupQuiet (p : Plane) (g : Nat) : Bool :=
  !(group p g).keep && ((loopRecs p).all fun r => groupOf r.loop != g || loopIdle p r.loop)
    && (p.fab.tests.all fun t => groupOf t.1 != g || t.2.status != 1)
    && (p.trigs.all fun t => t.2.booth / 4 != g || t.2.state == 0)

/-- A booth group powers down: retention keeps contexts and dead-time buffers, captures are lost (R126); test
results run from the next power-up (R156). -/
def groupDown (g : Nat) (p : Plane) : Plane :=
  let f := p.fab
  setGroup g { group p g with powered := false, wakeAt := none, quiet := 0 }
    (setFab { f with
      capt := f.capt.filter fun x => x.1 / 131072 != g
      tests := f.tests.filter fun t => groupOf t.1 != g } p)

/-- A wake whose 40 µs are over at the cut of the present sample (R128). -/
def wakeDue (k : Nat) (x : Group) (sn : Word) : Bool :=
  match x.wakeAt with
  | none => false
  | some n => decide ((k : Int) ≤ snDiff sn n)

/-- The group has woken. -/
def groupUp (g : Nat) (p : Plane) : Plane := setGroup g { group p g with powered := true, wakeAt := none, quiet := 0 } p

/-- Quiet counts at a cut (R126). -/
def groupsCut (p : Plane) : Plane :=
  forEach (upTo 4) (fun g q =>
    let x := group q g
    setGroup g { x with quiet := if x.powered && groupQuiet q g then x.quiet + 1 else 0 } q) p

end Sys2Proof.Machine
end

