-- ==== Sys2Proof/Machine/Fabcfg.lean ====
section
/-! DEFINITION. The loop fabric configuration: its image, the load checks of Table 5-7 and the static load check
(05 R183 to R186, 03 R129). -/

namespace Sys2Proof.Machine

/-- A loop record from its four words (Table 5-4). -/
def loopRec (w : List Word) : LoopRec :=
  let a := wordAt w 0
  { loop := field a 0 10, flow := field a 10 6, law := field a 16 4, rateDiv := field a 20 4
    prio := field a 24 3, req := field a 28 4
    phase := field (wordAt w 1) 0 10, schedSrc := field (wordAt w 1) 10 2, bind := wordAt w 2 }

/-- A route record from its two words (Table 5-5). -/
def routeRec (w : List Word) : Route :=
  let a := wordAt w 0
  { dest := field a 0 10, port := field a 10 2, delay := bit a 12, srcKind := field a 16 4
    src := (wordAt w 1).toNat }

/-- A flow record from its two words (Table 5-6). -/
def flowRecOf (w : List Word) : FlowRec :=
  let a := wordAt w 0
  { flow := field a 0 6, sink := field a 8 4, bpSrc := field a 12 4, depth := field a 16 16 }

/-- n pieces of k words from word i on. -/
def pieces (img : List Word) (i k n : Nat) : List (List Word) :=
  (upTo n).map fun j => (img.drop (i + k * j)).take k

/-- Counts of the header (Table 5-3). -/
def nLoop (img : List Word) : Nat := field (wordAt img 2) 0 11
def nRoute (img : List Word) : Nat := field (wordAt img 2) 16 12
def nFlow (img : List Word) : Nat := field (wordAt img 3) 0 7

/-- Records of an image, as words. -/
def loopWords (img : List Word) : List (List Word) := pieces img 16 4 (nLoop img)
def routeWords (img : List Word) : List (List Word) := pieces img (16 + 4 * nLoop img) 2 (nRoute img)
def flowWords (img : List Word) : List (List Word) :=
  pieces img (16 + 4 * nLoop img + 2 * nRoute img) 2 (nFlow img)

/-- The configuration that an image spells. -/
def parseFab (img : List Word) : FabCfg :=
  { loops := (loopWords img).map loopRec, routes := (routeWords img).map routeRec
    flows := (flowWords img).map flowRecOf, image := img }

/-- CHECK 0x01. -/
def fabHeaderOk (img : List Word) (len : Nat) : Bool :=
  wordAt img 0 == 0x464C5841 && wordAt img 1 == 1
    && decide (nLoop img ≤ 1024 ∧ nRoute img ≤ 3072 ∧ 1 ≤ nFlow img ∧ nFlow img ≤ 64)
    && field (wordAt img 2) 11 5 == 0 && field (wordAt img 2) 28 4 == 0 && field (wordAt img 3) 7 25 == 0
    && ((upTo 11).all fun i => wordAt img (4 + i) == 0)
    && len == 64 + 16 * nLoop img + 8 * nRoute img + 8 * nFlow img

/-- CHECK 0x02. -/
def fabCrcOk (img : List Word) : Bool :=
  wordAt img 15 == crc32c (bytesOf (img.take 15 ++ img.drop 16))

/-- A BIND word in range (Table 3-5). -/
def bindOk (s : State) (b : Word) : Bool :=
  let i := bindIndex b
  field b 10 5 == 0 &&
    (match bindKind b with
     | 0 => true
     | 1 => decide (i < 32)
     | 2 => decide (i < 32)
     | 3 => decide (i < 64)
     | 4 => analogEntry s i
     | 5 => decide (i < 1024)
     | _ => false)

/-- CHECK 0x03 for loop record j. -/
def loopRecOk (s : State) (c : FabCfg) (ws : List (List Word)) (j : Nat) : Bool :=
  let w := ws.getD j []
  let r := loopRec w
  let before := c.loops.take j
  !bit (wordAt w 0) 27 && field (wordAt w 1) 12 20 == 0 && wordAt w 3 == 0
    && decide (r.rateDiv ≤ 10 ∧ r.law ≤ 4 ∧ r.phase < divisor r.rateDiv)
    && bindOk s r.bind && (c.flows.any fun f => f.flow == r.flow)
    && !(before.any fun x => x.loop == r.loop)
    && (bindKind r.bind == 0 ||
        !(before.any fun x => bindKind x.bind == bindKind r.bind && bindIndex x.bind == bindIndex r.bind))

/-- CHECK 0x03 for route record j. -/
def routeRecOk (c : FabCfg) (ws : List (List Word)) (j : Nat) : Bool :=
  let w := ws.getD j []
  let r := routeRec w
  let has := fun l => c.loops.any fun x => x.loop == l
  field (wordAt w 0) 13 3 == 0 && field (wordAt w 0) 20 12 == 0 && r.port != 1
    && (!r.delay || r.srcKind == 3) && has r.dest
    && (match r.srcKind with
        | 1 => decide (r.src < 64)
        | 2 => decide (r.src < 4096)
        | 3 => has r.src
        | 4 => decide (r.src < 512)
        | _ => false)
    && !((c.routes.take j).any fun x => x.dest == r.dest && x.port == r.port)

/-- CHECK 0x03 for flow record j. -/
def flowRecOk (c : FabCfg) (ws : List (List Word)) (j : Nat) : Bool :=
  let w := ws.getD j []
  let r := flowRecOf w
  field (wordAt w 0) 6 2 == 0 && wordAt w 1 == 0 && decide (r.sink ≤ 8 ∧ r.bpSrc ≤ 8)
    && !((c.flows.take j).any fun x => x.flow == r.flow)

/-- First index below n that fails. -/
def firstBad (n : Nat) (ok : Nat → Bool) : Option Nat := (upTo n).find? fun j => !ok j

/-- A loop record in RESULT form: kind 1 and its LOOP. -/
def badLoop (c : FabCfg) (check j : Nat) : Nat := check + 0x100 + ((c.loops.getD j {}).loop) * 65536
def badRoute (c : FabCfg) (check j : Nat) : Nat := check + 0x200 + ((c.routes.getD j {}).dest) * 65536
def badFlow (c : FabCfg) (check j : Nat) : Nat := check + 0x300 + ((c.flows.getD j {}).flow) * 65536

/-- First failing record of one check over loop, route and flow records. -/
def checkRecs (c : FabCfg) (check : Nat) (lp rt fl : Nat → Bool) : Option Nat :=
  match firstBad c.loops.length lp with
  | some j => some (badLoop c check j)
  | none =>
    match firstBad c.routes.length rt with
    | some j => some (badRoute c check j)
    | none => (firstBad c.flows.length fl).map (badFlow c check)

/-- The record of a loop. -/
def recOf (c : FabCfg) (l : Nat) : Option LoopRec := c.loops.find? fun r => r.loop == l

/-- CHECK 0x04 for a loop record: each required port has a source. -/
def portsOk (c : FabCfg) (r : LoopRec) : Bool :=
  (upTo 4).all fun k => r.req / 2 ^ k % 2 == 0 ||
    (if k = 1 then bit r.bind 15 else c.routes.any fun x => x.dest == r.loop && x.port == k)

/-- CHECK 0x05 for a loop record: R41 and R460 for every field port that feeds it. -/
def feedOk (s : State) (c : FabCfg) (r : LoopRec) : Bool :=
  c.routes.all fun x =>
    x.dest != r.loop || x.srcKind != 2 ||
      (match inStation s x.src with
       | none => true
       | some k =>
         let p := fport s (k / 32)
         let cyc := fieldCycle p.speed
         divisor r.rateDiv % cyc == 0 && r.phase % cyc == p.cycPhase % cyc)

/-- CHECK 0x06 for a loop record: the two ends of its cascade links agree (R113). -/
def linkOk (c : FabCfg) (r : LoopRec) : Bool :=
  (bindKind r.bind != 5 || (match recOf c (bindIndex r.bind) with
    | some i => bindOuter i.bind == some r.loop
    | none => false)) &&
  (match bindOuter r.bind with
   | none => true
   | some o => match recOf c o with
     | some x => bindKind x.bind == 5 && bindIndex x.bind == r.loop
     | none => false)

/-- CHECK 0x07 for a loop record with an inner loop (R114). -/
def cascadeRateOk (c : FabCfg) (r : LoopRec) : Bool :=
  bindKind r.bind != 5 || (match recOf c (bindIndex r.bind) with
    | some i => divisor r.rateDiv % divisor i.rateDiv == 0 && r.phase % divisor i.rateDiv == i.phase % divisor i.rateDiv
    | none => false)

/-- CHECK 0x07 for a same-sample link between loops (R180). -/
def linkRateOk (c : FabCfg) (x : Route) : Bool :=
  x.srcKind != 3 || x.delay ||
    (match recOf c x.src, recOf c x.dest with
     | some a, some b =>
       let da := divisor a.rateDiv
       let db := divisor b.rateDiv
       let m := min da db
       (da % db == 0 || db % da == 0) && a.phase % m == b.phase % m
     | _, _ => false)

/-- G of R166. -/
def gateCount (c : FabCfg) : Nat :=
  (c.loops.map fun r => ((upTo 4).filter fun k => r.req / 2 ^ k % 2 == 1 &&
    (k == 1 || c.routes.any fun x => x.dest == r.loop && x.port == k && !x.delay)).length).sum

/-- Sink of a flow. -/
def sinkOf (c : FabCfg) (f : Nat) : Nat := match c.flows.find? fun r => r.flow == f with | some r => r.sink | none => 0

/-- CHECK 0x09 for a loop record: R172. For an entry that no configured station carries, the spec does not say which sink is
right: any field-port sink is taken (log entry 129). -/
def sinkOk (s : State) (c : FabCfg) (r : LoopRec) : Bool :=
  if bindKind r.bind = 4 then
    match outStation s (bindIndex r.bind) with
    | some k => sinkOf c r.flow == k / 32 + 1
    | none => sinkOf c r.flow != 0
  else sinkOf c r.flow == 0

/-- CHECK 0x09 for a flow record: R176. -/
def depthOk (c : FabCfg) (r : FlowRec) : Bool :=
  decide (2 * (c.loops.filter fun x => x.flow == r.flow).length ≤ r.depth)

/-- The flow at which the running total of DEPTH, in ascending flow number, first passes 2048. -/
def depthTotalBad (c : FabCfg) : Option Nat :=
  (upTo 64).find? fun f => (c.flows.any fun r => r.flow == f) &&
    decide (2048 < ((c.flows.filter fun r => decide (r.flow ≤ f)).map fun r => r.depth).sum)

/-- Loops that take a same-sample link from loop l. -/
def nextLoops (c : FabCfg) (l : Nat) : List Nat :=
  let a := (c.routes.filter fun x => x.srcKind == 3 && !x.delay && x.src == l).map fun x => x.dest
  match recOf c l with
  | some r => if bindKind r.bind = 5 then bindIndex r.bind :: a else a
  | none => a

/-- Loops reached in at most k links, breadth first; answers the number of links after which l is reached again. -/
def cycleFrom (c : FabCfg) (l : Nat) : Nat → Nat → List Nat → List Nat → Option Nat
  | 0, _, _, _ => none
  | fuel + 1, n, front, seen =>
    let next := ((front.map (nextLoops c)).flatten).eraseDups
    if next.contains l then some (n + 1)
    else
      let new := next.filter fun x => !seen.contains x
      if new.isEmpty then none else cycleFrom c l fuel (n + 1) new (seen ++ new)

/-- Length of the shortest directed cycle through l (R179). -/
def cycleThrough (c : FabCfg) (l : Nat) : Option Nat := cycleFrom c l (c.loops.length + 1) 0 [l] [l]

/-- CHECK 0x0A. -/
def cycleBad (c : FabCfg) : Option Nat :=
  match (upTo 1024).find? fun l => (recOf c l).isSome && (cycleThrough c l).isSome with
  | none => none
  | some l => some (0x0A + l * 65536 + (cycleThrough c l).getD 0 * 2 ^ 32)

/-! The static load check (R129), in booth cycles -/

/-- Cost charged for a loop. -/
def recCost (r : LoopRec) : Nat :=
  (if r.law = 0 then 32 else if r.law = 1 then 28 else if r.law = 2 then 30 else if r.law = 3 then 16 else 28)
    + (if r.schedSrc = 0 then 0 else 8)

/-- Loops that execute at offset k from the commit sample. -/
def execAt (c : FabCfg) (k : Nat) : List LoopRec :=
  c.loops.filter fun r => k % divisor r.rateDiv == r.phase

/-- W(ℓ). -/
def waitOf (es : List LoopRec) (r : LoopRec) : Nat :=
  ((es.filter fun x => x.loop / 64 == r.loop / 64 && decide (r.prio ≤ x.prio)).map recCost).sum + 16 + 44

/-- Same-sample sources of a loop among those that execute. -/
def sourcesOf (c : FabCfg) (es : List LoopRec) (r : LoopRec) : List Nat :=
  let a := (c.routes.filter fun x => x.srcKind == 3 && !x.delay && x.dest == r.loop).map fun x => x.src
  let b := match bindOuter r.bind with | some o => o :: a | none => a
  b.filter fun l => es.any fun x => x.loop == l

/-- One round of F over the loops of a sample. -/
def finishRound (c : FabCfg) (es : List LoopRec) (f : Tab Nat) : Tab Nat :=
  es.foldl (fun t r => tput t r.loop
    ((sourcesOf c es r).foldl (fun m l => max m (tget 0 f l)) 0 + 240 + waitOf es r + 480)) []

/-- n rounds. -/
def finishRounds (c : FabCfg) (es : List LoopRec) : Nat → Tab Nat → Tab Nat
  | 0, f => f
  | n + 1, f => finishRounds c es n (finishRound c es f)

/-- F(ℓ) of every loop that executes at offset k; chains are acyclic, so as many rounds as loops reach it. -/
def finishAt (c : FabCfg) (k : Nat) : Tab Nat :=
  let es := execAt c k
  finishRounds c es es.length []

/-- CHECK 0x0B in RESULT form: earliest offset, lowest loop, F in 10 ns. An F that its 16 bits cannot hold is not described:
its high bits fall off (log entry 128). -/
def loadBad (c : FabCfg) : Option Nat :=
  match (upTo 1000).find? fun k => (finishAt c k).any fun x => decide (4800 < x.2) with
  | none => none
  | some k =>
    match (finishAt c k).find? fun x => decide (4800 < x.2) with
    | none => none
    | some (l, f) => some (0x0B + l * 65536 + k * 2 ^ 32 + (f + 7) / 8 * 2 ^ 48)

/-- The first check of Table 5-7 that an image fails: its status and RESULT. -/
def fabCheck (s : State) (img : List Word) (len : Nat) : Option (Nat × Nat) :=
  let bad := fun (o : Option Nat) => o.map fun r => (stBadParam, r)
  if !fabHeaderOk img len then some (stBadParam, 1)
  else if !fabCrcOk img then some (stBadParam, 2)
  else
    let c := parseFab img
    let onLoop := fun (f : FabCfg → LoopRec → Bool) (j : Nat) => f c (c.loops.getD j {})
    bad (checkRecs c 3 (loopRecOk s c (loopWords img)) (routeRecOk c (routeWords img)) (flowRecOk c (flowWords img)))
      <|> bad (checkRecs c 4 (onLoop portsOk) (fun _ => true) (fun _ => true))
      <|> bad (checkRecs c 5 (onLoop (feedOk s)) (fun _ => true) (fun _ => true))
      <|> bad (checkRecs c 6 (onLoop linkOk) (fun _ => true) (fun _ => true))
      <|> bad (checkRecs c 7 (onLoop cascadeRateOk) (fun j => linkRateOk c (c.routes.getD j {})) (fun _ => true))
      <|> (if 4096 < 2 * gateCount c then some (stBadParam, 8) else none)
      <|> bad (checkRecs c 9 (onLoop (sinkOk s)) (fun _ => true) (fun j => depthOk c (c.flows.getD j {})
          && depthTotalBad c != some (c.flows.getD j {}).flow))
      <|> (cycleBad c).map (fun r => (stCycleRejected, r))
      <|> bad (loadBad c)

/-! The load's effect (R185, R91, R94) -/

/-- CTRL, SCHED, BIND and TIMING of a loop under its record, or with none; the loop stays in OFF. -/
def loadLoop (sl : Seal) (r : LoopRec) (p : Plane) : Plane :=
  let l := r.loop
  let c := lw p l wCtrl
  let d := divisor r.rateDiv
  let ctrl := setField (setField (setField (setField c 24 4 r.req) 21 3 r.prio) 12 4 r.rateDiv) 8 4 r.law
  let cnt := if r.phase = 0 then d - 1 else r.phase - 1
  let p1 := setLw l wTiming (word (r.phase * 65536 + cnt)) (setLw l wBind r.bind
    (setLw l wSched (word r.schedSrc) (setLw l wCtrl ctrl p)))
  match chanOf (bindKind r.bind) (bindIndex r.bind) with
  | some ch => setOut ch (fenceSafe sl ch) p1
  | none => p1

/-- Clears what the old configuration gave a loop. -/
def unloadLoop (l : Nat) (p : Plane) : Plane :=
  let c := lw p l wCtrl
  setLw l wTiming 0 (setLw l wBind 0 (setLw l wSched 0 (setLw l wCtrl (setField (setField c 21 7 0) 8 8 0) p)))

/-- The whole configuration replaces the old one at its cut. -/
def loadFab (sl : Seal) (c : FabCfg) (p : Plane) : Plane :=
  let old := (loopRecs p).map fun r => r.loop
  let p1 := forEach c.loops (loadLoop sl) (forEach old unloadLoop p)
  setFab { p1.fab with
    cfg := some c
    store := [], heldTok := [], lostFb := [], pend := [], delayed := [], reports := [], ready := [], fired := [], inflight := []
    results := [], lateOut := [], cutOpen := true, bpSeen := [], latchOld := []
    due := (c.loops.filter fun r => r.phase == 0).map fun r => r.loop
    relVal := [], relRq := [], relStat := [], relNow := [], relAfter := [], relPrev := []
    counters := [], flowStat := [] } p1

end Sys2Proof.Machine
end

