-- ==== Sys2Proof/Machine/LoopCmd.lean ====
section
/-! DEFINITION. The loop group of commands (02 R84, R85, 03 R122 to R125, 04 R152 to R157, 05 R183 to R188) and the
dispatcher's own events. -/

namespace Sys2Proof.Machine

/-! Fast path -/

/-- SN stamped on a token: AT_SN, or the first input cut after its placement (R84). -/
def stampOf (c : Sub) (s : State) : Word := if hasTimed c then c.atSn else s.sn + 1

/-- A window write of the same value that waits for the same cut: the later placement stands (R95, 19 R575). Kinds 3 and
4 of the window's queue are SP and MO writes that a host token placed after them replaces. -/
def replaceWin (port l : Nat) (s : State) : State :=
  { s with window := { s.window with writes := s.window.writes.map fun x =>
      if x.1 = l ∧ x.2.1 = port then (x.1, x.2.1 + 3, x.2.2) else x } }

/-- A context-write token (R112). -/
def ctxToken (port l : Nat) (v sn : Word) : CtxWrite :=
  { loop := l, port := port, sn := sn, value := v, par := (mkToken 1 port l v false (BitVec.ofNat 16 sn.toNat)).par }

/-- Places a context-write token in both planes (R16, R112). -/
def placeWrite (port l : Nat) (v sn : Word) (s : State) : State :=
  onPlanes (fun p => setFab { p.fab with ctxWrites := p.fab.ctxWrites ++ [ctxToken port l v sn] } p) (replaceWin port l s)

/-- The placement of LOOP_SET_SP (port 0) or LOOP_SET_OUT (port 1). -/
def opPlaceWrite (port : Nat) (c : Sub) (s : State) : OpOut :=
  let sn := stampOf c s
  okRes (dw sn.toNat) (placeWrite port c.target (par c 0) sn s)

/-- AT_SN more than 100,000 ticks ahead (R84). -/
def tooFar (c : Sub) (s : State) : Bool := hasTimed c && decide (100000 < snDiff c.atSn s.sn)

/-- AT_SN not later than the current SN + 1 (R84). -/
def tooLate (c : Sub) (s : State) : Bool := hasTimed c && !snLater c.atSn (s.sn + 1)

/-- LOOP_SET_SP (R84). Where several of its conditions fail, R84 does not order them: the model tests OWNED_BY_WINDOW, then
TIMEOUT (log entry 104). -/
def opLoopSetSp (c : Sub) (s : State) : OpOut :=
  if tooFar c s then failSt stBadParam s
  else if windowOwns s c.target then failSt stOwnedByWindow s
  else if tooLate c s then failSt stTimeout s
  else if hasTimed c then .wait .timed [] s
  else opPlaceWrite 0 c s

/-- LOOP_SET_OUT (R84, R27). Where several of its conditions fail, R84 does not order them: the model tests
NOT_IN_STATE, OWNED_BY_WINDOW, TIMEOUT and FENCED in this order (log entry 104). -/
def opLoopSetOut (c : Sub) (s : State) : OpOut :=
  let bad : Option Nat := match loopChan (actPlane s) c.target with
    | some ch => if outsideFence s.sealed ch (par c 0) then some ch else none
    | none => none
  if tooFar c s then failSt stBadParam s
  else if loopMode (actPlane s) c.target ≠ 2 then failSt stNotInState s
  else if windowOwns s c.target then failSt stOwnedByWindow s
  else if tooLate c s then failSt stTimeout s
  else match bad with
    | some ch => failSt stFenced (logF6 2 1 ch (cmdId c) 0x11 (par c 0) s)
    | none => if hasTimed c then .wait .timed [] s else opPlaceWrite 1 c s

/-- Word w of loop l's context as of the plane's last flow release. -/
def relLw (p : Plane) (l w : Nat) : Word := tget 0 p.fab.ctxRel (64 * l + w)

/-- LOOP_READ (R85): words as of the last flow release; a read of the active plane that falls inside a switch-over waits
for the election. -/
def opLoopRead (c : Sub) (s : State) : OpOut :=
  let off := (par c 0).toNat
  let n := (par c 1).toNat
  if off % 4 ≠ 0 ∨ 252 < off ∨ n = 0 ∨ 2 < n ∨ (n = 2 ∧ 248 < off) then failSt stBadParam s
  else if par c 2 = 0 ∧ s.ump.sw.isSome then .wait .device [] s
  else withPlane (par c 2) s fun k =>
    let p := planeOf s k
    okRes (dword (relLw p c.target (off / 4)) (if n = 2 then relLw p c.target (off / 4 + 1) else 0)) s

/-- A LOOP_READ that waits for an election. -/
def waitingRead (x : Cmd) : Bool := x.op == 0x12 && x.wait == .device

/-- A waiting read is made. -/
def readOne (x : Cmd) (s : State) : State :=
  finish x.op x.sub (opLoopRead x.sub { s with hif := { s.hif with cmds := s.hif.cmds.erase x } })

/-- Once no switch-over is under way, the reads that waited are made. -/
def readsDone (s : State) : State :=
  if s.ump.sw.isSome then s else forEach (s.hif.cmds.filter waitingRead) readOne s

/-! Mode, context, booths -/

/-- OFF takes a loop out of a pending restore (12 R398). -/
def outOfRestore (l m : Nat) (s : State) : State :=
  if m = 0 then { s with boot := { s.boot with restoreLoops := s.boot.restoreLoops.filter fun k => k != l } } else s

/-- LOOP_SET_MODE (R122); OFF takes a loop out of a pending restore (12 R398). -/
def opLoopSetMode (c : Sub) (s : State) : OpOut :=
  let m := (par c 0).toNat
  if !(decide (m ≤ 4) || m == 6) then failSt stBadParam s
  else if windowOwns s c.target then failSt stOwnedByWindow s
  else if !modeOk (s.dev == .ready) false c.target m (actPlane s) then failSt stNotInState s
  else okSn (onExecSl (fun sl => setMode sl 0 c.target m) (outOfRestore c.target m s))

/-- A context word with an RW field (Table 3-2). -/
def rwWord (w : Nat) : Bool :=
  w == wCtrl || w == wSpTarget || w == wRamp || decide (14 ≤ w ∧ w ≤ 26) || decide (28 ≤ w ∧ w ≤ 43) || w == wStale

/-- The value a LOOP_WRITE leaves in a word: only RW fields of CTRL and STALE change (R92). -/
def mergeWord (w : Nat) (old new : Word) : Word :=
  if w = wCtrl then setField old 17 4 (field new 17 4)
  else if w = wStale then setField old 0 16 (field new 0 16)
  else new

/-- The conditions of R123 on a context. -/
def contextOk (p : Plane) (l : Nat) : Bool :=
  ((upTo 4).all fun i => decide (0 ≤ lwi p l (wKp + i)) && decide (0 ≤ lwi p l (wKd + i)))
    && ([wRamp, wSsRate, wOutRate, wHyst].all fun w => decide (0 ≤ lwi p l w))
    && decide (field (lw p l wWeights) 16 16 ≤ 0x8000 ∧ field (lw p l wWeights) 0 16 ≤ 0x8000)
    && decide (lwi p l wSpMin ≤ lwi p l wSpMax) && decide (lwi p l wOutMin ≤ lwi p l wOutMax)
    && (field (lw p l wSched) 0 2 == 0 ||
        ((upTo 3).all fun i => decide (lwi p l (wBp + i) < lwi p l (wBp + i + 1))))

/-- Writes the words of a LOOP_WRITE, but those in `skip`. -/
def writeContext (l w : Nat) (vs : List Word) (skip : List (Nat × Nat)) (p : Plane) : Plane :=
  forEach vs.zipIdx (fun x q =>
    let k := w + x.2
    if skip.contains (l, k) then q else setLw l k (mergeWord k (lw q l k) x.1) q) p

/-- The parameters of a LOOP_WRITE are in range, whatever the context holds. -/
def loopWriteForm (c : Sub) : Bool :=
  let off := (par c 0).toNat
  let n := (par c 1).toNat
  let w := off / 4
  off % 4 == 0 && decide (1 ≤ n ∧ n ≤ 8 ∧ off + 4 * n ≤ 256)
    && ((upTo 8).all fun i => decide (i < n) || par c (2 + i) == 0)
    && ((upTo n).all fun i => rwWord (w + i)) && (w != 0 || field (par c 2) 4 4 == 0)

/-- LOOP_WRITE (R123). -/
def opLoopWrite (c : Sub) (s : State) : OpOut :=
  let off := (par c 0).toNat
  let n := (par c 1).toNat
  let vs := (upTo n).map fun i => par c (2 + i)
  let w := off / 4
  if !loopWriteForm c then failSt stBadParam s
  else if !contextOk (writeContext c.target w vs [] (actPlane s)) c.target then failSt stBadParam s
  else if w ≤ wSpTarget ∧ wSpTarget < w + n ∧ windowOwns s c.target then failSt stOwnedByWindow s
  else okSn (onExec (fun p => writeContext c.target w vs p.fab.stepNamed p) s)

/-- RESULT of BOOTH_STATUS (R124). -/
def boothStatusWord (p : Plane) (b : Nat) : DWord :=
  let g := group p (b / 4)
  let h := histOf p b
  let on := ((upTo 64).filter fun i => !loopIdle p (64 * b + i)).length
  let load := (h.map fun x => x.load).foldl max 0
  let last := (h.map fun x => x.lastResult).foldl max 0
  let stale := (h.map fun x => x.stale).sum
  dw (g.powered.toNat + 2 * g.keep.toNat + on * 2 ^ 8 + load * 2 ^ 16 + last * 2 ^ 32 + stale % 65536 * 2 ^ 48)

/-- BOOTH_STATUS. -/
def opBoothStatus (c : Sub) (s : State) : OpOut :=
  withPlane (par c 0) s fun k => okRes (boothStatusWord (planeOf s k) c.target) s

/-- BOOTH_KEEP_AWAKE (R125). -/
def opBoothKeepAwake (c : Sub) (s : State) : OpOut :=
  let keep := bit (par c 0) 0
  okSn (onExec (fun p =>
    let p1 := setGroup c.target { group p c.target with keep := keep } p
    if keep then startWake c.target p1 else p1) s)

/-! Models and tests -/

/-- MODEL_LOAD (R152). -/
def opModelLoad (c : Sub) (s : State) : OpOut :=
  let cfg := par c 0
  let thr := par c 5
  let m := loopMode (actPlane s) c.target
  if field cfg 9 3 ≠ 0 ∨ field cfg 29 2 = 3 ∨ 256 < field cfg 0 9 ∨ field thr 16 16 < field thr 0 16
      ∨ (bit cfg 31 ∧ field thr 16 16 = 0) then failSt stBadParam s
  else if m = 5 ∨ m = 7 then failSt stNotInState s
  else okSn (onExec (fun p =>
    let e := entryOf p c.target
    let p1 := setEntry c.target (entryBits (due e 0) (due e 1) (due e 2) true (due e 4) (bit (par c 6) 0)) p
    forEach (upTo 6) (fun i q => setLw c.target (wMcfg + i) (par c i) q) p1) s)

/-- MODEL_REINIT (R153). -/
def opModelReinit (c : Sub) (s : State) : OpOut :=
  let m := loopMode (actPlane s) c.target
  if m = 5 ∨ m = 7 then failSt stNotInState s
  else okSn (onExec (fun p =>
    let e := entryOf p c.target
    setEntry c.target (entryBits (due e 0) (due e 1) (due e 2) true (due e 4) (due e 5)) p) s)

/-- Executions of a SINE step from phase ph at frequency f, and the phase after it. -/
def sineStep (cyc f ph : Nat) : Nat × Nat :=
  let n := (cyc * 2 ^ 32 - ph + f - 1) / f
  (n, ph + n * f - cyc * 2 ^ 32)

/-- Length of a SINE test over k steps, none when a step frequency exceeds 0x7FFF_FFFF. -/
def sineLength (ratio cyc : Nat) : Nat → Nat → Nat → Option Nat
  | 0, _, _ => some 0
  | k + 1, f, ph =>
    if 0x7FFFFFFF < f then none
    else
      let (n, ph1) := sineStep cyc f ph
      (sineLength ratio cyc k ((f * ratio + 32768) / 65536) ph1).map (n + ·)

/-- The test that the words of TEST_START describe (R154). -/
def testFrom (c : Sub) : Test :=
  let m := par c 0
  { status := 1, type := field m 0 4, point := field m 4 1, format := field m 5 1, stopOnFence := bit m 6
    n := field m 8 4, ampl := par c 1, base := (par c 2).toNat, len := (par c 3).toNat
    p4 := par c 4, p5 := par c 5, p6 := par c 6
    reg := if field m 0 4 = 2 then (par c 4).toNat else 0
    freq := if field m 0 4 = 3 then (par c 4).toNat else 0 }

/-- Ranges of TEST_START. With STEP and SINE an n other than 0 is BAD_PARAM, which the spec leaves open (log entry 127). -/
def testRangesOk (c : Sub) : Bool :=
  let t := testFrom c
  let len : Option Nat :=
    if t.type = 3 then sineLength t.p5.toNat (field t.p6 16 16) (field t.p6 0 8) t.p4.toNat 0
    else some (testLength t)
  let kind : Bool :=
    if t.type = 1 then t.n == 0 && decide (1 ≤ t.p5.toNat)
    else if t.type = 2 then
      decide (7 ≤ t.n) && decide (0 < t.ampl.toInt) && t.p4 != 0 && decide (t.p4.toNat < 2 ^ t.n)
        && decide (1 ≤ t.p5.toNat ∧ t.p5.toNat ≤ 256 ∧ 1 ≤ t.p6.toNat ∧ t.p6.toNat ≤ 255)
    else if t.type = 3 then
      t.n == 0 && decide (0 < t.ampl.toInt) && decide (1 ≤ t.p4.toNat ∧ t.p4.toNat ≤ 0x7FFFFFFF ∧ 0x10000 ≤ t.p5.toNat)
        && field t.p6 8 8 == 0
        && decide (1 ≤ field t.p6 16 16 ∧ 1 ≤ field t.p6 0 8 ∧ field t.p6 0 8 ≤ 64)
    else false
  kind && t.ampl != 0 && decide (t.base + t.len ≤ 32768) && (t.format == 0 || t.len % 2 == 0)
    && (match len with
        | some n => decide (n ≤ 16777216)
        | none => false)

/-- Tests that run in the booth of loop l. -/
def boothTests (p : Plane) (l : Nat) : List Test :=
  (p.fab.tests.filter fun x => x.1 / 64 == l / 64 && x.2.status == 1).map fun x => x.2

/-- Loops of the booth of loop l that are in TUNE (R142). -/
def tuneCount (p : Plane) (l : Nat) : Nat := ((upTo 64).filter fun i => loopMode p (l / 64 * 64 + i) == 5).length

/-- Conditions of TEST_START (R154, R147, R142, R150). -/
def testConditions (t : Test) (l : Nat) (p : Plane) : Bool :=
  let m := loopMode p l
  let ts := boothTests p l
  (m == 3 || (m == 2 && t.point == 1)) && !ilPark p l && decide (tuneCount p l < 4)
    && (t.len == 0 || (ts.all fun x => x.len == 0 || decide (t.base + t.len ≤ x.base ∨ x.base + x.len ≤ t.base)))
    && !((upTo 128).any fun n => (sessState p n == 2 || sessState p n == 3) && inScope p n 1 l)
    && (t.len == 0 || !(p.trigs.any fun x => x.2.booth == l / 64 && x.2.state != 0))

/-- TEST_START. -/
def opTestStart (c : Sub) (s : State) : OpOut :=
  let t := testFrom c
  if !testRangesOk c then failSt stBadParam s
  else if s.dev ≠ .run ∨ !testConditions t c.target (actPlane s) then failSt stNotInState s
  else okSn (onExec (fun p =>
    let l := c.target
    let f := loopMode p l
    setTest l t (setEntry l (entryAfter (entryOf p l) f 5) (setLf l wCtrl 28 4 f (setLf l wCtrl 0 4 5 p)))) s)

/-- TEST_STOP (R155). -/
def opTestStop (c : Sub) (s : State) : OpOut :=
  if loopMode (actPlane s) c.target ≠ 5 then failSt stNotInState s
  else okSn (onExec (fun p => setTest c.target { testOf p c.target with stopReq := true } p) s)

/-- TEST_STATUS (R156). -/
def opTestStatus (c : Sub) (s : State) : OpOut :=
  withPlane (par c 0) s fun k =>
    let t := testOf (planeOf s k) c.target
    okRes (dw (t.status + t.cause * 2 ^ 8 + t.fencedSeen.toNat * 2 ^ 16 + t.records * 2 ^ 32)) s

/-- Bytes of capture slots. -/
def captBytes (p : Plane) (b first n : Nat) : List Byte :=
  bytesOf (((upTo n).map fun i => let x := tget (0, 0) p.fab.capt (32768 * b + first + i); [x.1, x.2]).flatten)

/-- CAPT_READ (R157). -/
def opCaptRead (c : Sub) (s : State) : OpOut :=
  let first := (par c 1).toNat
  let n := (par c 2).toNat
  let a := addrAt c 3
  if 32767 < first ∨ n = 0 ∨ 32768 < first + n then failSt stBadParam s
  else if !inWindow s true a (8 * n) then badWindow 0x25 c a s
  else withPlane (par c 0) s fun k =>
    if !(group (planeOf s k) (c.target / 4)).powered then failSt stNotInState s
    else .write a (captBytes (planeOf s k) c.target first n) (dw (8 * n)) s

/-! Dispatch group -/

/-- New grid origin of a field port (15 R459). -/
def gridOrigin (k : Nat) (s : State) : State :=
  let p := fport s k
  { s with field := { s.field with ports := tset {} s.field.ports k { p with grid := 0, epoch := p.epoch + 1 } } }

/-- Every loop is OFF (01 R29, 05 R185), in ascending loop number, so the inner loop of a cascade sees its outer loop leave
only if its own number is the higher (log entry 96). -/
def loopsOff (sl : Seal) (p : Plane) : Plane := forEach (upTo 1024) (fun l q => setMode sl 3 l 0 q) p

/-- DISP_LOAD (R183 to R185); a restore still pending is replaced (12 R398). -/
def opDispLoad (c : Sub) (s : State) : OpOut :=
  let a := addrAt c 0
  let len := (par c 2).toNat
  let img := c.image.take (len / 4)
  if a % 8 ≠ 0 then failSt stBadParam s
  else if !inWindow s false a len then badWindow 0x30 c a s
  else if s.dev ≠ .ready then failSt stNotInState s
  else match fabCheck s img len with
    | some (st, r) => failRes st r s
    | none => okSn (forEach (upTo 8) gridOrigin (onExecSl (fun sl p => loadFab sl (parseFab img) (loopsOff sl p))
        { s with boot := { s.boot with restoreLoops := [] } }))

/-- The configuration with another priority of loop l. -/
def withPrio (c : FabCfg) (l n : Nat) : FabCfg :=
  { c with loops := c.loops.map fun r => if r.loop = l then { r with prio := n } else r }

/-- The configuration with the priorities in force, which CTRL.PRIO of the contexts holds. -/
def livePrio (p : Plane) (c : FabCfg) : FabCfg :=
  { c with loops := c.loops.map fun r => { r with prio := prioOf p r.loop } }

/-- DISP_SET_PRIO (R186). A failing sample is an offset from the commit sample of the DISP_LOAD in force (log entry 97). -/
def opDispSetPrio (c : Sub) (s : State) : OpOut :=
  let n := field (par c 0) 0 3
  match (actPlane s).fab.cfg with
  | none => failSt stBadTarget s
  | some f =>
    if (recOf f c.target).isNone then failSt stBadTarget s
    else match loadBad (withPrio (livePrio (actPlane s) f) c.target n) with
      | some r => failRes stBadParam r s
      | none => okSn (onExec (fun p =>
          setLf c.target wCtrl 21 3 n (setFab { p.fab with cfg := p.fab.cfg.map fun g => withPrio g c.target n } p)) s)

/-- DISP_STATUS (R187). -/
def opDispStatus (c : Sub) (s : State) : OpOut :=
  if 7 < (par c 1).toNat then failSt stBadParam s
  else withPlane (par c 0) s fun k => okRes (dw (tget 0 (planeOf s k).fab.counters (par c 1).toNat)) s

/-- DISP_FLOW_STATUS (R188). -/
def opDispFlowStatus (c : Sub) (s : State) : OpOut :=
  if (flowRec (actPlane s) c.target).isNone then failSt stBadTarget s
  else withPlane (par c 0) s fun k =>
    let p := planeOf s k
    let x := flowStatOf p c.target
    okRes (dw (flowCount p c.target + x.peak * 2 ^ 16 + x.bpTicks * 2 ^ 32 + x.drops * 2 ^ 48)) s

/-- LOOP_SET_SP. -/
def execLoopSetSp (c : Sub) (s : State) : Outcome := hostCmd 0x10 opLoopSetSp c s
/-- LOOP_SET_OUT. -/
def execLoopSetOut (c : Sub) (s : State) : Outcome := hostCmd 0x11 opLoopSetOut c s
/-- LOOP_READ. -/
def execLoopRead (c : Sub) (s : State) : Outcome := hostCmd 0x12 opLoopRead c s
/-- LOOP_SET_MODE. -/
def execLoopSetMode (c : Sub) (s : State) : Outcome := hostCmd 0x13 opLoopSetMode c s
/-- LOOP_WRITE. -/
def execLoopWrite (c : Sub) (s : State) : Outcome := hostCmd 0x14 opLoopWrite c s
/-- BOOTH_STATUS. -/
def execBoothStatus (c : Sub) (s : State) : Outcome := hostCmd 0x15 opBoothStatus c s
/-- BOOTH_KEEP_AWAKE. -/
def execBoothKeepAwake (c : Sub) (s : State) : Outcome := hostCmd 0x16 opBoothKeepAwake c s
/-- MODEL_LOAD. -/
def execModelLoad (c : Sub) (s : State) : Outcome := hostCmd 0x20 opModelLoad c s
/-- MODEL_REINIT. -/
def execModelReinit (c : Sub) (s : State) : Outcome := hostCmd 0x21 opModelReinit c s
/-- TEST_START. -/
def execTestStart (c : Sub) (s : State) : Outcome := hostCmd 0x22 opTestStart c s
/-- TEST_STOP. -/
def execTestStop (c : Sub) (s : State) : Outcome := hostCmd 0x23 opTestStop c s
/-- TEST_STATUS. -/
def execTestStatus (c : Sub) (s : State) : Outcome := hostCmd 0x24 opTestStatus c s
/-- CAPT_READ. -/
def execCaptRead (c : Sub) (s : State) : Outcome := hostCmd 0x25 opCaptRead c s
/-- DISP_LOAD. -/
def execDispLoad (c : Sub) (s : State) : Outcome := hostCmd 0x30 opDispLoad c s
/-- DISP_SET_PRIO. -/
def execDispSetPrio (c : Sub) (s : State) : Outcome := hostCmd 0x31 opDispSetPrio c s
/-- DISP_STATUS. -/
def execDispStatus (c : Sub) (s : State) : Outcome := hostCmd 0x32 opDispStatus c s
/-- DISP_FLOW_STATUS. -/
def execDispFlowStatus (c : Sub) (s : State) : Outcome := hostCmd 0x33 opDispFlowStatus c s

/-! Events of the dispatcher -/

/-- Transmit path of a port as the flows see it (R176): the link is up, and no frame of an earlier sample is under way. -/
def portFree (s : State) (k : Nat) : Bool := (fport s k).linkUp && ((fport s k).sent || (fport s k).txBusy == 0)

/-- One plane takes an operand token: a port held back by R177 keeps it. -/
def takeToken (t : Token) (slot src : Nat) (p : Plane) : Plane :=
  let p0 := reachAt (80 * slot) (settleCut p)
  if srcHeld p0 src then setFab { p0.fab with heldTok := p0.fab.heldTok ++ [(t, src)] } p0 else deliverTok t slot src p0

/-- A plane that finds a parity error discards the token and reports F1 to the umpire (R160). The slice of the dispatcher
that found it is not given: a free one of its sixteen (11 Table 11-7, log entry 119). -/
def reportParity (p : Nat) (s : State) : State :=
  let (v, s1) := takeFree s
  setPstat p { pstat s1 p with report := true, repUnit := some (0x40 + v.toNat % 16) } s1

/-- The copy of a token that each plane receives, under f where its parity holds and under g where it does not; `bad` has
bit 0 set when the copy for Plane A has a parity error, bit 1 when that for Plane B has. -/
def eachCopy (t : Token) (bad : Nat) (f g : Token → Plane → Plane) (s : State) : State :=
  forEach [1, 2] (fun k u =>
    let x := if bad / k % 2 = 1 then hurtToken t else t
    if !computes (pstat u k) then u
    else if tokenSound x then setPlane k (f x (planeOf u k)) u
    else reportParity k (setPlane k (g x (planeOf u k)) u)) s

/-- One token to both planes, each at the same slot (R16, R162), with `bad` as `eachCopy` reads it; bit 2 is set when the
broadcaster finds the error, which then delivers the token to neither (13 R406). -/
def broadcast (t : Token) (slot src bad : Nat) (s : State) : State :=
  if bad / 4 % 2 = 1 then sharedParity (1 + t.loop * 2 ^ 16) s
  else eachCopy t bad (fun x p => takeToken x slot src p) (fun _ p => p) s

/-- A value becomes a token for every route from its source (R161): kind 1 analogue input, 2 station entry,
4 CAN signal. -/
def broadcastFrom (kind src : Nat) (v : Word) (q : Bool) (sn : Word) (slot late : Nat) (s : State) : State :=
  forEach ((routesOf (actPlane s)).filter fun r => r.srcKind == kind && r.src == src)
    (fun r t => broadcast (mkToken 0 r.port r.dest v q (BitVec.ofNat 16 sn.toNat)) slot late 0 t) s

/-- KIND of a token that came by path src. -/
def srcKind (src : Nat) : Nat := if src = 11 then 1 else if src = 12 then 2 else 0

/-- TOKEN_DELIVERY (R160, R165). Slot k of the tick lies at t0 + k × 0.1 µs. `src` is the path: 0 a local analogue input,
1 to 8 FP0 to FP7, 9 a CAN signal. The tokens of the paths from 10 on the device forms and places itself, in both planes:
10 an operand that a conversion, a frame, a CAN signal or a link gave, 11 a context write, 12 feedback; their delivery
decides only which plane's copy has a parity error and is discarded. -/
def execTokenDelivery (loop port : Nat) (v : Word) (q : Bool) (sn : BitVec 16) (slot src bad : Nat) (s : State) : Outcome :=
  let t := mkToken (srcKind src) port loop v q sn
  if 1023 < loop ∨ 3 < port ∨ 99 < slot ∨ 12 < src then .fault .noSuchObject
  else .next (whenRuns s (if src < 10 then broadcast t slot src bad s else eachCopy t bad (fun _ p => p) dropCopy s))

/-- TASK_FIRE (R167). -/
def execTaskFire (booth : Nat) (s : State) : Outcome :=
  if 15 < booth then .fault .noSuchObject
  else .next (whenRuns s (onPlanes (fun p => issueNext booth (settleCut p)) s))

/-- One loop's execution in both planes. -/
def runLoop (loop : Nat) (s : State) : State :=
  whenRuns s (onPlanes (fun p => completeTask (portFree s) loop (settleCut p)) s)

/-- LOOP_EXECUTION (R96). -/
def execLoopExecution (loop : Nat) (s : State) : Outcome :=
  if 1023 < loop then .fault .noSuchObject else .next (runLoop loop s)

/-- COAST_LIMIT_REACHED (R139): the execution in issue at which COAST_CNT passes the limit. -/
def execCoastLimitReached (loop : Nat) (s : State) : Outcome :=
  let t := runLoop loop s
  if 1023 < loop then .fault .noSuchObject
  else .next (if loopMode (actPlane s) loop = 7 ∧ loopMode (actPlane t) loop = 6 then t else s)

/-- STALE_LIMIT_REACHED (R120): the execution in issue at which STALE_RUN stands at STALE_LIM or above. -/
def execStaleLimitReached (loop : Nat) (s : State) : Outcome :=
  let t := runLoop loop s
  let m0 := loopMode (actPlane s) loop
  let m1 := loopMode (actPlane t) loop
  let st := lw (actPlane t) loop wStale
  if 1023 < loop then .fault .noSuchObject
  else .next (if (m0 = 3 ∨ m0 = 4 ∨ m0 = 5) ∧ (m1 = 6 ∨ m1 = 7) ∧ field st 0 16 ≠ 0 ∧ field st 0 16 ≤ field st 16 16
    then t else s)

/-- Domain of booth group g of plane p (18 Table 18-7). -/
def boothDomain (p g : Nat) : Nat := if p = 1 then 0x0A + g else 0x10 + g

/-- Powers a booth group of both planes down; a wake under way ends (R126). -/
def groupsDown (g : Nat) (s : State) : State :=
  forEach [1, 2] (fun k t =>
    let x := group (planeOf t k) g
    if !computes (pstat t k) then t
    else if x.powered then raise 0x1C5 (1 + boothDomain k g * 256) (setPlane k (groupDown g (planeOf t k)) t)
    else if x.wakeAt.isSome then setPlane k (setGroup g { x with wakeAt := none } (planeOf t k)) t
    else t) s

/-- BOOTH_POWER_DOWN (R126). -/
def execBoothPowerDown (g : Nat) (s : State) : Outcome :=
  if 3 < g then .fault .noSuchObject
  else .next (whenRuns s (if 100 ≤ (group (actPlane s) g).quiet ∧ groupQuiet (actPlane s) g then groupsDown g s else s))

/-- Ends the wakes of booth group g that began at least n ticks before the planes' latest cut. -/
def wakeGroup (n g : Nat) (s : State) : State :=
  forEach [1, 2] (fun k t =>
    let p := planeOf t k
    if computes (pstat t k) && wakeDue n (group p g) p.sn then
      raise 0x1C5 (2 + boothDomain k g * 256) (setPlane k (groupUp g p) t)
    else t) s

/-- BOOTH_WAKE_DONE (R128): 40 µs after the cut that started the wake. -/
def execBoothWakeDone (g : Nat) (s : State) : Outcome :=
  if 3 < g then .fault .noSuchObject else .next (whenRuns s (wakeGroup 4 g s))

end Sys2Proof.Machine
end

