-- ==== Sys2Proof/Machine/Axis.lean ====
section
/-! DEFINITION. Motion axes (08): the profile generator, load angle and stall, homing, gearing, the axis commands and
their step actions. -/

namespace Sys2Proof.Machine

/-! Context -/

abbrev xAcfg : Nat := 0
abbrev xAcfg2 : Nat := 1
abbrev xAstat : Nat := 2
abbrev xLastSn : Nat := 3
abbrev xCpos : Nat := 4
abbrev xCvel : Nat := 6
abbrev xCacc : Nat := 8
abbrev xTarget : Nat := 10
abbrev xApos : Nat := 12
abbrev xVmax : Nat := 14
abbrev xAmax : Nat := 15
abbrev xDmax : Nat := 16
abbrev xJmax : Nat := 17
abbrev xQdmax : Nat := 18
abbrev xQjmax : Nat := 19
abbrev xFeLim : Nat := 20
abbrev xCur : Nat := 21
abbrev xLaCfg : Nat := 22
abbrev xLaVmin : Nat := 23
abbrev xKe : Nat := 24
abbrev xEmin : Nat := 25
abbrev xLa : Nat := 26
abbrev xLaRun : Nat := 27
abbrev xHomeVel : Nat := 28
abbrev xHomeCur : Nat := 29
abbrev xHomePos : Nat := 30
abbrev xHomeBack : Nat := 32
abbrev xHomeSpan : Nat := 33
abbrev xGearSrc : Nat := 34
abbrev xGearN : Nat := 35
abbrev xGearD : Nat := 36
abbrev xGearN2 : Nat := 37
abbrev xGearD2 : Nat := 38
abbrev xGearMpos : Nat := 40
abbrev xGearS0 : Nat := 42
abbrev xGearM0 : Nat := 44
abbrev xMpos : Nat := 46
abbrev xLandErr : Nat := 48
abbrev xStepCnt : Nat := 49
abbrev xEngVmax : Nat := 50

/-- A 64-bit field, low word at the lower offset, as a signed number. -/
def x64 (p : Plane) (a w : Nat) : Int := (dword (xw p a w) (xw p a (w + 1))).toInt

/-- Writes a 64-bit field, saturated (R93). -/
def setX64 (a w : Nat) (v : Int) (p : Plane) : Plane :=
  let d : DWord := BitVec.ofInt 64 (clampI (-(2 ^ 63)) (2 ^ 63 - 1) v)
  setXw a (w + 1) (hiWord d) (setXw a w (loWord d) p)

/-- An unsigned word. -/
def xn (p : Plane) (a w : Nat) : Int := (xw p a w).toNat

/-- Replaces field [lo + len - 1 : lo] of an axis word. -/
def setXf (a w lo len v : Nat) (p : Plane) : Plane := setXw a w (setField (xw p a w) lo len v) p

/-- State of Table 8-4. -/
def axState (p : Plane) (a : Nat) : Nat := field (xw p a xAstat) 0 4

/-- What the generator keeps beside the context. -/
def axHid (p : Plane) (a : Nat) : AxHid := tget {} p.axes.hid a

/-- Replaces it. -/
def setAxHid (a : Nat) (h : AxHid) (p : Plane) : Plane :=
  { p with axes := { p.axes with hid := tset {} p.axes.hid a h } }

/-- Axis event (R283). -/
def axEvent (a code detail : Nat) (p : Plane) : Plane :=
  praise (0x100 + a) (word (code + detail * 256 + axState p a * 65536)) p

/-- Sets state and, with it, nothing else. -/
def setAxState (a st : Nat) (p : Plane) : Plane := setXf a xAstat 0 4 st p

/-- DIR as ±1. -/
def axDir (p : Plane) (a : Nat) : Int := if bit (xw p a xAstat) 22 then -1 else 1

/-- Binding fields (Table 8-3). -/
def outKind (p : Plane) (a : Nat) : Nat := field (xw p a xAcfg) 28 4
def cmdEntry (p : Plane) (a : Nat) : Nat := field (xw p a xAcfg) 12 12
def fbKind (p : Plane) (a : Nat) : Nat := field (xw p a xAcfg) 10 2
def emfSrc (p : Plane) (a : Nat) : Nat := field (xw p a xAcfg) 4 2
def fbEntry (p : Plane) (a : Nat) : Nat := field (xw p a xAcfg2) 20 12
def emfAi (p : Plane) (a : Nat) : Nat := field (xw p a xAcfg2) 14 6
def curKind (p : Plane) (a : Nat) : Nat := field (xw p a xAcfg2) 12 2
def curAo (p : Plane) (a : Nat) : Nat := field (xw p a xAcfg2) 7 5

/-- The axis has feedback. -/
def hasFb (p : Plane) (a : Nat) : Bool := fbKind p a != 0

/-! The profile (R261, R262), in units of 2^-96: intermediate results are rounded there (log entry 10) -/

/-- One unit of the profile arithmetic. -/
def fxOne : Nat := 2 ^ 96

/-- Product and quotient in profile units. -/
def fxMul (a b : Int) : Int := rdiv (a * b) fxOne
def fxDiv (a b : Int) : Int := if 0 < b then rdiv (a * fxOne) b.toNat else 0

/-- Integer square root, rounded toward zero: k further bits of the root r. -/
def isqrtBits (n : Nat) : Nat → Nat → Nat
  | 0, r => r
  | k + 1, r => isqrtBits n k (if (r + 2 ^ k) * (r + 2 ^ k) ≤ n then r + 2 ^ k else r)

/-- Square root rounded toward zero. -/
def isqrt (n : Nat) : Nat := isqrtBits n 160 0

/-- Square root in profile units. -/
def fxSqrt (x : Int) : Int := isqrt (x.toNat * fxOne)

/-- Speed at which the acceleration would reach 0. -/
def reach (j u w : Int) : Int := u + fxDiv (fxMul w (w.natAbs)) (2 * j)

/-- Distance to rest under D and J. -/
def brake (dmax j u w : Int) : Int :=
  if w < 0 ∧ u ≤ fxDiv (fxMul w w) (2 * j) then
    let t := fxDiv (-w) j
    fxMul u t + rdiv (fxMul w (fxMul t t)) 2 + rdiv (fxMul j (fxMul t (fxMul t t))) 6
  else
    let a1 := min (fxSqrt (fxMul j u + rdiv (fxMul w w) 2)) dmax
    let t1 := fxDiv (w + a1) j
    let t3 := fxDiv a1 j
    let v1 := u + fxMul w t1 - rdiv (fxMul j (fxMul t1 t1)) 2
    let v2 := fxDiv (fxMul a1 a1) (2 * j)
    let t2 := fxDiv (v1 - v2) a1
    fxMul u t1 + rdiv (fxMul w (fxMul t1 t1)) 2 - rdiv (fxMul j (fxMul t1 (fxMul t1 t1))) 6
      + fxMul v1 t2 - rdiv (fxMul a1 (fxMul t2 t2)) 2
      + fxMul v2 t3 - rdiv (fxMul a1 (fxMul t3 t3)) 2 + rdiv (fxMul j (fxMul t3 (fxMul t3 t3))) 6

/-- The limits of a motion: V, A, D, J in profile units. -/
structure MotionLimits where
  v : Int
  a : Int
  d : Int
  j : Int
  deriving DecidableEq, Repr, Inhabited

/-- Limit words in profile units. -/
def limV (x : Word) : Int := (x.toNat : Int) * 2 ^ 80
def limA (x : Word) : Int := (x.toNat : Int) * 2 ^ 64
def limJ (x : Word) : Int := (x.toNat : Int) * 2 ^ 48

/-- The limits in use (R264). -/
def limitsOf (p : Plane) (a : Nat) : MotionLimits :=
  let st := axState p a
  let quick := bit (xw p a xAstat) 19
  { v := if st = 3 ∨ st = 7 then 0
      else if st = 4 ∧ !(axHid p a).backOff then ((xw p a xHomeVel).toInt.natAbs : Int) * 2 ^ 80
      else limV (xw p a xVmax)
    a := limA (xw p a xAmax)
    d := limA (xw p a (if quick then xQdmax else xDmax))
    j := limJ (xw p a (if quick then xQjmax else xJmax)) }

/-- One candidate jerk: speed, acceleration and distance after the tick. -/
def jerkStep (u w j : Int) : Int × Int × Int := (u + w + rdiv j 2, w + j, u + rdiv w 2 + rdiv j 6)

/-- The jerk keeps the speed limit and the remaining distance d; none is no distance limit. -/
def jerkOk (m : MotionLimits) (d : Option Int) (u w j : Int) : Bool :=
  let (u1, w1, x) := jerkStep u w j
  decide (reach m.j u1 w1 ≤ m.v) &&
    (match d with
     | none => true
     | some r => decide (brake m.d m.j u1 w1 ≤ r - x))

/-- The jerk of R261. -/
def chooseJerk (m : MotionLimits) (d : Option Int) (u w : Int) : Int :=
  let jp := min m.j (m.a - w)
  let j0 := max (-m.j) (min m.j (-w))
  let jm := max (-m.j) (-m.d - w)
  if jerkOk m d u w jp then jp else if jerkOk m d u w j0 then j0 else jm

/-- One tick of a profile: CPOS, CVEL and CACC, and whether the motion lands. -/
def profileTick (a : Nat) (target : Option Int) (p : Plane) : Plane × Bool :=
  let dir := axDir p a
  let m := limitsOf p a
  let u := dir * x64 p a xCvel * 2 ^ 56
  let w := dir * x64 p a xCacc * 2 ^ 48
  let d := target.map fun t => dir * (t - x64 p a xCpos) * 2 ^ 64
  let (u1, w1, x) := jerkStep u w (chooseJerk m d u w)
  let p1 := setX64 a xCacc (rdiv (dir * w1) (2 ^ 48)) (setX64 a xCvel (rdiv (dir * u1) (2 ^ 56))
    (setX64 a xCpos (x64 p a xCpos + rdiv (dir * x) (2 ^ 64)) p))
  (p1, decide (u1 ≤ 0) || (match d with
    | none => false
    | some r => decide (r ≤ x)))

/-- Velocity and acceleration become 0. -/
def axHalt (a : Nat) (p : Plane) : Plane := setX64 a xCacc 0 (setX64 a xCvel 0 p)

/-- LAND_ERR: signed, 2^-32 step, saturating. -/
def setLandErr (a : Nat) (e : Int) (p : Plane) : Plane := setXw a xLandErr (sat32 e) p

/-- Lands on a position (R263). -/
def landAt (a : Nat) (t : Int) (p : Plane) : Plane :=
  axHalt a (setX64 a xCpos t (setLandErr a (t - x64 p a xCpos) p))

/-- Becomes STANDSTILL with event code 0x01. -/
def toStandstill (a detail : Nat) (p : Plane) : Plane :=
  axEvent a 1 detail (setXf a xAstat 19 1 0 (setAxState a 1 p))

/-- Whole step nearest to a P64 position. -/
def wholeStep (x : Int) : Int := rdiv x (2 ^ 32) * 2 ^ 32

/-- Becomes STOPPING, in the direction of its velocity (R257, R277). -/
def toStopping (a : Nat) (quick : Bool) (p : Plane) : Plane :=
  let neg : Bool := if x64 p a xCvel = 0 then bit (xw p a xAstat) 22 else decide (x64 p a xCvel < 0)
  setXf a xAstat 22 1 neg.toNat (setXf a xAstat 19 1 quick.toNat (setAxState a 3 p))

/-! Inputs of a tick (R260, R268, R270, R272) -/

/-- Raw feedback of sample n, none while STALE. -/
def fbRaw (s : State) (p : Plane) (a : Nat) : Option Word :=
  if fbKind p a = 1 then some (tget 0 s.pins.enc (field (xw p a xAcfg) 6 4))
  else if fbKind p a = 2 then
    (if entryMissing s (fbEntry p a) then none else some (inEntryT0 s (fbEntry p a)))
  else none

/-- APOS takes the feedback, extended by signed difference; after a restoration CPOS follows it once (12 R397). -/
def axFeedback (s : State) (a : Nat) (p : Plane) : Plane :=
  match fbRaw s p a with
  | none => p
  | some r =>
    let h := axHid p a
    let x := if h.fbTaken then x64 p a xApos + (r - h.fbLast).toInt * 2 ^ 32 else r.toInt * 2 ^ 32
    let p1 := setX64 a xApos x (setAxHid a { h with fbLast := r, fbTaken := true, adopt := false } p)
    if h.adopt then setX64 a xCpos x p1 else p1

/-- Status word of a remote drive, none while STALE. -/
def drvStatus (s : State) (p : Plane) (a : Nat) : Option Word :=
  if outKind p a = 2 ∧ (fbKind p a = 2 ∨ emfSrc p a = 2) then
    (if entryMissing s (fbEntry p a + 1) then none else some (inEntryT0 s (fbEntry p a + 1)))
  else none

/-- DRV_READY and DRV_FAULT; a fault makes the axis DISABLED (R272). -/
def axDrive (s : State) (a : Nat) (p : Plane) : Plane :=
  if outKind p a = 1 then setXf a xAstat 21 1 1 p
  else
    match drvStatus s p a with
    | none => p
    | some w =>
      let p1 := setXf a xAstat 20 1 (bit w 1).toNat (setXf a xAstat 21 1 (bit w 0).toNat p)
      let st := axState p a
      if bit w 1 ∧ st ≠ 0 ∧ st ≠ 7 then
        axEvent a 5 5 (setXf a xAstat 24 8 5 (setXf a xAstat 19 1 0 (axHalt a (setAxState a 0 p1))))
      else p1

/-- E_T and E_N of the sample in FS, none while STALE. -/
def emfOf (s : State) (p : Plane) (a : Nat) : Option (Int × Int) :=
  if emfSrc p a = 1 then
    let c : AChan := tget {} s.analog.ai (emfAi p a)
    let d : AChan := tget {} s.analog.ai (emfAi p a + 1)
    if c.q || d.q || !c.have_ || !d.have_ || aiOff s (emfAi p a) || aiOff s (emfAi p a + 1) then none else some (c.value.toInt, d.value.toInt)
  else if emfSrc p a = 2 then
    (if entryMissing s (fbEntry p a + 2) then none
     else
      let w := inEntryT0 s (fbEntry p a + 2)
      some ((BitVec.ofNat 16 (field w 16 16)).toInt * 512, (BitVec.ofNat 16 (field w 0 16)).toInt * 512))
  else none

/-- Filtered load angle and EMF ratio of a tick (R268). -/
def emfEval (et en : Int) (a : Nat) (p : Plane) : Plane :=
  let sh := field (xw p a xLaCfg) 4 4
  let old : Int := (BitVec.ofNat 16 (field (xw p a xLa) 16 16)).toInt
  let th := if et = 0 ∧ en = 0 then Config.nullAngle.toInt else angleOf (axDir p a * et) en
  let f := clampI (-32768) 32767 (rdiv (old * 2 ^ sh + (th - old)) (2 ^ sh))
  let amp := isqrt (et * et + en * en).toNat
  let den := (xw p a xKe).toInt.natAbs * (x64 p a xCvel).natAbs
  let rho := if den = 0 then (Config.emfRatio et en).toNat
    else min 0xFFFF (rdiv (amp * 2 ^ 55) den).toNat
  let run := xw p a xLaRun
  let na := if (field (xw p a xLaCfg) 16 16 : Int) < f then satAdd 0xFFFF (field run 0 16) 1 else 0
  let ne := if rho < field (xw p a xEmin) 0 16 then satAdd 0xFFFF (field run 16 16) 1 else 0
  setXw a xLaRun (word (ne * 65536 + na))
    (setXw a xLa (word ((BitVec.ofInt 16 f).toNat * 65536 + rho)) p)

/-- |CVEL| of the previous tick is at least LA_VMIN. -/
def fastEnough (p : Plane) (a : Nat) : Bool :=
  decide ((xw p a xLaVmin).toNat * 2 ^ 24 ≤ (x64 p a xCvel).natAbs)

/-- Load angle of the tick; without evaluation the runs restart. -/
def axEmf (s : State) (a : Nat) (p : Plane) : Plane :=
  match (if fastEnough p a then emfOf s p a else none) with
  | some (et, en) => emfEval et en a p
  | none => if emfSrc p a = 0 then p else setXw a xLaRun 0 p

/-- Cause of a stall declared on this tick (R269, R270): 1 angle, 2 EMF, 3 following error, 0 none. A homing axis that has
taken its reference backs off without one (R273). -/
def stallCause (s : State) (p0 p : Plane) (a : Nat) : Nat :=
  let st := axState p a
  let on : Bool := decide (1 ≤ st ∧ st ≤ 5) && !(st == 4 && (axHid p a).backOff)
  let per := field (xw p a xLaCfg) 8 8
  let run := xw p a xLaRun
  let evaluated := emfSrc p a != 0 && fastEnough p0 a && (emfOf s p0 a).isSome
  if !on then 0
  else if evaluated && field (xw p a xLaCfg) 16 16 != 0x7FFF && decide (per < field run 0 16) then 1
  else if evaluated && decide (per < field run 16 16) then 2
  else if hasFb p a && xw p a xFeLim != 0
      && decide ((xw p a xFeLim).toNat * 2 ^ 16 < (x64 p a xCpos - x64 p a xApos).natAbs) then 3
  else 0

/-- A stall: STALLED, or the reference of a homing search (R271, R273). -/
def axStall (cause a : Nat) (p : Plane) : Plane :=
  let h := axHid p a
  let p1 := axHalt a p
  if axState p a = 4 then
    let hp := x64 p a xHomePos
    let dir := axDir p a
    let p2 := setX64 a xTarget (hp - dir * (xn p a xHomeBack * 2 ^ 16)) (setX64 a xCpos hp p1)
    let p3 := if hasFb p a then setX64 a xApos hp p2 else p2
    setXf a xAstat 22 1 (if dir = 1 then 1 else 0) (setAxHid a { h with backOff := true } p3)
  else axEvent a 2 cause (setXf a xAstat 24 8 cause (setXf a xAstat 19 1 0 (setAxState a 6 p1)))

/-! Gearing (R274 to R277) -/

/-- CPOS of an axis as computed on the previous sample. -/
def cposBefore (p : Plane) (a : Nat) : Int :=
  if (axHid p a).ticked then (axHid p a).prevCpos else x64 p a xCpos

/-- Position of a master in P64. -/
def masterPos (s : State) (p : Plane) (src : Word) : Int :=
  let i := field src 0 6
  if field src 28 4 = 1 then tget 0 s.pins.encPos i * 2 ^ 32 else cposBefore p i

/-- Motion of a master over the last tick, in P64. -/
def masterStep (s : State) (p : Plane) (src : Word) : Int :=
  let i := field src 0 6
  if field src 28 4 = 1 then tget 0 s.pins.encStep i * 2 ^ 32
  else
    let h := axHid p i
    if h.ticked then h.prevCpos - h.prevCpos2 else x64 p i xCpos - h.prevCpos

/-- The slave position for a master position under the ratio in use. -/
def gearPos (p : Plane) (a : Nat) (m : Int) : Int :=
  x64 p a xGearS0 + rdiv ((xw p a xGearN).toInt * (m - x64 p a xGearM0)) (xw p a xGearD).toNat

/-- A scheduled change takes place between two master positions. -/
def crossed (g a b : Int) : Bool := b == g || decide ((a < g ∧ g < b) ∨ (b < g ∧ g < a))

/-- One tick of a geared axis. -/
def gearTick (s : State) (a : Nat) (p : Plane) : Plane :=
  let h := axHid p a
  let m := masterPos s p (xw p a xGearSrc)
  let g := x64 p a xGearMpos
  let p1 := if h.schedArmed && crossed g (x64 p a xMpos) m then
      axEvent a 6 0 (setXw a xGearD (xw p a xGearD2) (setXw a xGearN (xw p a xGearN2) (setX64 a xGearM0 g
        (setX64 a xGearS0 (gearPos p a g) (setAxHid a { h with schedArmed := false } p)))))
    else p
  let c0 := x64 p a xCpos
  let p2 := setX64 a xCpos (gearPos p1 a m) (setX64 a xMpos m p1)
  let c := x64 p2 a xCpos
  let d := if c = c0 then p2 else setXf a xAstat 22 1 (if c < c0 then 1 else 0) p2
  let p3 := setX64 a xCacc ((c - 2 * c0 + h.prevCpos) * 2 ^ 16) (setX64 a xCvel ((c - c0) * 2 ^ 8) d)
  if (xw p a xVmax).toNat * 2 ^ 24 < (x64 p3 a xCvel).natAbs then
    axEvent a 7 4 (setXf a xAstat 24 8 4 (toStopping a true p3))
  else p3

/-! The tick (R261, R263, R273) -/

/-- Motion of a tick, by state. -/
def axMotion (s : State) (a : Nat) (p : Plane) : Plane :=
  let st := axState p a
  let t := x64 p a xTarget
  if st = 2 then
    let (p1, land) := profileTick a (some t) p
    if land then toStandstill a 0 (landAt a t p1) else p1
  else if st = 3 then
    let (p1, land) := profileTick a none p
    if land then toStandstill a 1 (landAt a (wholeStep (x64 p1 a xCpos)) p1) else p1
  else if st = 4 then
    let (p1, land) := profileTick a (some t) p
    let h := axHid p a
    if land then
      toStandstill a (if h.backOff then 2 else 3) (setXf a xAstat 23 1 h.backOff.toNat
        (setAxHid a { h with backOff := false } (landAt a t p1)))
    else p1
  else if st = 5 then gearTick s a p
  else if st = 7 ∧ bit (xw p a xAstat) 19 then
    let (p1, land) := profileTick a none p
    if land then setXf a xAstat 19 1 0 (axHalt a p1) else p1
  else p

/-- Pulses of a local pair for a change of CPOS (R278). -/
def axPulses (c0 : Int) (a : Nat) (p : Plane) : Plane :=
  let k := x64 p a xCpos / 2 ^ 32 - c0 / 2 ^ 32
  if outKind p a = 1 then
    setXw a xStepCnt (BitVec.ofInt 32 ((xw p a xStepCnt).toInt + k))
      (setAxHid a { axHid p a with pulses := k.natAbs, stepNeg := if k = 0 then (axHid p a).stepNeg else decide (k < 0) } p)
  else p

/-- The context of axis a is shown as it stands. -/
def axShow (a : Nat) (p : Plane) : Plane :=
  { p with axes := { p.axes with shown := (p.axes.shown.filter fun x => decide (x.1 < 64 * a))
      ++ (p.axes.ctx.filter fun x => x.1 / 64 == a) ++ p.axes.shown.filter fun x => decide (64 * a + 64 ≤ x.1) } }

/-- The contexts of the sample that ends are those of its computation (R286). -/
def axesShown (p : Plane) : Plane := { p with axes := { p.axes with shown := p.axes.ctx } }

/-- One tick of axis a in one plane: inputs, stall, motion, pulses. -/
def axTick (s : State) (a : Nat) (p : Plane) : Plane :=
  if (axHid p a).ticked then p
  else axShow a <|
    let c0 := x64 p a xCpos
    let p1 := axDrive s a (axFeedback s a p)
    let p2 := axEmf s a p1
    let cause := stallCause s p1 p2 a
    let p3 := if cause ≠ 0 then axStall cause a p2 else axPulses c0 a (axMotion s a p2)
    let p4 := if cause ≠ 0 then setAxHid a { axHid p3 a with pulses := 0 } p3 else p3
    let h := axHid p4 a
    setXw a xLastSn p.sn (setAxHid a { h with ticked := true, prevCpos2 := h.prevCpos, prevCpos := c0 } p4)

/-! Outputs (R279, R280) -/

/-- Current reference, Q1.15. -/
def axCurrent (p : Plane) (a : Nat) : Nat :=
  let st := axState p a
  if st = 0 ∨ st = 7 then 0
  else if st = 1 ∨ st = 6 then field (xw p a xCur) 0 16
  else if st = 4 ∧ !(axHid p a).backOff then field (xw p a xHomeCur) 0 16
  else field (xw p a xCur) 16 16

/-- The current reference as an FS value. -/
def axCurrentFs (p : Plane) (a : Nat) : Word := word (axCurrent p a * 512)

/-- Word i of the output entries of a remote drive. -/
def axOutWord (p : Plane) (a i : Nat) : Word :=
  if i = 0 then xw p a xCpos
  else if i = 1 then xw p a (xCpos + 1)
  else word ((if curKind p a = 2 then axCurrent p a * 65536 else 0)
    + (if axState p a = 4 ∧ !(axHid p a).backOff then 2 else 0)
    + (if axState p a = 0 ∨ axState p a = 7 then 0 else 1))

/-- Axes with a binding: those whose ACFG or ACFG2 is not 0. -/
def boundAxes (p : Plane) : List Nat := ((p.axes.ctx.filter fun x => decide (x.1 % 64 ≤ 1)).map fun x => x.1 / 64).eraseDups

/-- Output entries that the axis uses, and its AO channel (R279, R280). -/
def entries3 (e : Nat) : List Nat := [e, e + 1, e + 2]
def axEntries (p : Plane) (a : Nat) : List Nat := if outKind p a = 2 then entries3 (cmdEntry p a) else []
def axAo (p : Plane) (a : Nat) : Option Nat := if curKind p a = 1 then some (curAo p a) else none

/-- Input entries that the axis uses (R279). -/
def axInputs (p : Plane) (a : Nat) : List Nat := if fbKind p a = 2 ∨ emfSrc p a = 2 then entries3 (fbEntry p a) else []

/-- What an axis sends to channel c, if one drives it: its current reference, or a word of its remote drive. -/
def axisOutput (p : Plane) (c : Nat) : Option Word :=
  (boundAxes p).findSome? fun a =>
    if axAo p a = some c then some (axCurrentFs p a)
    else if 128 ≤ c ∧ (axEntries p a).contains (c - 128) then some (axOutWord p a (c - 128 - cmdEntry p a))
    else none

/-! Safe stop (R282) -/

/-- The axis becomes SAFE_STOPPED; with a monitored stop it runs down under the quick-stop limits. -/
def axSafeStop (a : Nat) (monitored : Bool) (p : Plane) : Plane :=
  if axState p a = 7 then p
  else
    let moving : Bool := monitored && decide (x64 p a xCvel ≠ 0)
    let p1 := if moving then toStopping a true p else setXf a xAstat 19 1 0 (axHalt a p)
    let p2 := if hasFb p a then p1 else setXf a xAstat 23 1 0 p1
    axEvent a 3 0 (setAxState a 7 (setAxHid a { axHid p2 a with backOff := false, schedArmed := false } p2))

/-- The demand is released: DISABLED at the actual position. -/
def axSafeRelease (a : Nat) (p : Plane) : Plane :=
  if axState p a ≠ 7 then p
  else
    let p1 := if hasFb p a then setX64 a xCpos (x64 p a xApos) p else p
    axEvent a 4 0 (setAxState a 0 (setXf a xAstat 19 1 0 (axHalt a p1)))

/-! Commands (R284 to R287): a status, and the plane after an accepted command -/

/-- R266 for a local pair. -/
def pulseOk (p : Plane) (a : Nat) : Bool :=
  let pw := field (xw p a xAcfg) 0 4 + 1
  outKind p a != 1 ||
    (decide (((xw p a xVmax).toNat + 65536) * pw ≤ 45 * 65536)
      && decide (((xw p a xHomeVel).toInt.natAbs + 65536) * pw ≤ 45 * 65536))

/-- Another axis uses the pair, channel or entries (R281). -/
def axClash (p q : Plane) (a : Nat) : Bool :=
  (upTo 64).any fun b => b != a &&
    ((outKind q a == 1 && outKind p b == 1 && field (xw q a xAcfg) 24 4 == field (xw p b xAcfg) 24 4)
      || ((axAo q a).isSome && axAo q a == axAo p b)
      || ((axEntries q a).any fun e => (axEntries p b).contains e)
      || (axInputs q a).any fun e => (axInputs p b).contains e)

/-- ACFG.ENC names the encoder of the axis's safety record under SRC 1 (09 R293, Table 9-2). -/
def sharesSafeEnc (sl : Seal) (a : Nat) (acfg : Word) : Bool :=
  let r := slw sl (0x10C00 / 4 + 16 * a)
  field r 30 2 == 1 && field acfg 6 4 == field r 26 4

/-- A loop drives the channel. -/
def chanBound (p : Plane) (c : Nat) : Bool :=
  (loopRecs p).any fun r => chanOf (bindKind r.bind) (bindIndex r.bind) == some c

/-- AX_CONFIG. DRV_READY and DRV_FAULT become those of the new binding: 1 and 0 for a local pair, and 0 until a remote drive
reports (Table 8-3). -/
def axConfig (sl : Seal) (f : Nat → Word) (a : Nat) (p : Plane) : Nat × Plane :=
  let x := f 0
  let y := f 1
  let q := setXw a xAcfg2 y (setXw a xAcfg x p)
  let own := match p.scan.prog with | some g => g.ownSt | none => []
  if 2 < field x 28 4 ∨ 2 < field x 10 2 ∨ 2 < field x 4 2 ∨ 2 < field y 12 2 ∨ field y 0 7 ≠ 0
      ∨ field y 14 1 ≠ 0 ∨ 4093 < cmdEntry q a ∨ 4093 < fbEntry q a ∨ !pulseOk q a then (stBadParam, p)
  else if sharesSafeEnc sl a x || axClash p q a || ((axEntries q a).any fun e => chanBound p (128 + e) || own.contains e)
      || (match axAo q a with
          | some c => chanBound p c
          | none => false) then (stBadParam, p)
  else if axState p a ≠ 0 then (stNotInState, p)
  else (stOk, setXf a xAstat 20 2 (if outKind q a = 1 then 2 else 0)
    (setXw a xApos 0 (setXw a (xApos + 1) 0 (setAxHid a { axHid q a with fbTaken := false } q))))

/-- RW words of an axis context (Table 8-2). -/
def axRw (w : Nat) : Bool := decide (14 ≤ w ∧ w ≤ 25) || decide (28 ≤ w ∧ w ≤ 33) || w == 50

/-- AX_WRITE: the rules of Table 8-8 are those of the words it covers. -/
def axWrite (f : Nat → Word) (a : Nat) (p : Plane) : Nat × Plane :=
  let off := (f 0).toNat
  let n := (f 1).toNat
  let w := off / 4
  let q := forEach (upTo n) (fun i r => setXw a (w + i) (f (2 + i)) r) p
  let covers : Nat → Bool := fun k => decide (w ≤ k ∧ k < w + n)
  if off % 4 ≠ 0 ∨ n = 0 ∨ 8 < n ∨ !((upTo n).all fun i => axRw (w + i))
      ∨ !((upTo 8).all fun i => decide (i < n) || f (2 + i) == 0) then (stBadParam, p)
  else if field (xw q a xEmin) 16 16 ≠ 0 ∨ field (xw q a xLaCfg) 0 4 ≠ 0 ∨ !pulseOk q a then (stBadParam, p)
  else if ([xVmax, xAmax, xDmax, xJmax, xHomeSpan].any fun k => covers k && xw q a k == 0)
      ∨ ((covers xDmax || covers xQdmax) ∧ (xw q a xQdmax).toNat < (xw q a xDmax).toNat)
      ∨ ((covers xJmax || covers xQjmax) ∧ (xw q a xQjmax).toNat < (xw q a xJmax).toNat) then (stBadParam, p)
  else if 1 < axState p a then (stNotInState, p)
  else (stOk, q)

/-- AX_ENABLE. -/
def axEnable (on : Bool) (a : Nat) (p : Plane) : Nat × Plane :=
  let st := axState p a
  if on then (if st = 0 then (stOk, setAxState a 1 p) else (stNotInState, p))
  else if st = 1 ∨ st = 6 then (stOk, setXf a xAstat 23 1 0 (setAxState a 0 p))
  else (stNotInState, p)

/-- The context with the non-zero limit words of a command (R285). -/
def axLimits (f : Nat → Word) (a : Nat) (p : Plane) : Plane :=
  forEach (upTo 4) (fun i q => if f (3 + i) = 0 then q else setXw a (xVmax + i) (f (3 + i)) q) p

/-- The motion limits are above 0. -/
def limitsSet (p : Plane) (a : Nat) : Bool := [xVmax, xAmax, xDmax, xJmax].all fun k => xw p a k != 0

/-- AX_MOVE (R267, R286). -/
def axMove (f : Nat → Word) (a : Nat) (p : Plane) : Nat × Plane :=
  let st := axState p a
  let q := axLimits f a p
  let t0 := (dword (f 1) (f 2)).toInt
  let t := clampI (-(2 ^ 63)) (2 ^ 63 - 1) (if bit (f 0) 0 then x64 p a xCpos + t0 else t0)
  if !pulseOk q a then (stBadParam, p)
  else if 2 ≤ st ∧ st ≤ 5 then (stTargetLocked, p)
  else if st ≠ 1 then (stNotInState, p)
  else if !limitsSet q a then (stBadParam, p)
  else
    let q1 := setX64 a xTarget t q
    if t = x64 p a xCpos then (stOk, q1)
    else (stOk, setXf a xAstat 19 1 0 (setXf a xAstat 22 1 (if t < x64 p a xCpos then 1 else 0) (setAxState a 2 q1)))

/-- AX_STOP (R277, R286); in STANDSTILL there is nothing to do. -/
def axStop (quick : Bool) (a : Nat) (p : Plane) : Nat × Plane :=
  let st := axState p a
  if st = 1 then (stAlreadyDone, p)
  else if st = 3 then
    (if quick && !bit (xw p a xAstat) 19 then (stOk, setXf a xAstat 19 1 1 p) else (stAlreadyDone, p))
  else if st = 2 ∨ st = 4 ∨ st = 5 then
    (stOk, setAxHid a { axHid p a with backOff := false, schedArmed := false } (toStopping a quick p))
  else (stNotInState, p)

/-- AX_SET_LIMITS (R264, R265): the braking distance is tested where DMAX or JMAX changes. -/
def axSetLimits (f : Nat → Word) (a : Nat) (p : Plane) : Nat × Plane :=
  let st := axState p a
  let q := axLimits f a p
  let m := limitsOf q a
  let dir := axDir p a
  let d := dir * (x64 p a xTarget - x64 p a xCpos) * 2 ^ 64
  if !pulseOk q a then (stBadParam, p)
  else if st = 4 ∨ st = 7 then (stNotInState, p)
  else if st = 2 ∧ (xw q a xDmax ≠ xw p a xDmax ∨ xw q a xJmax ≠ xw p a xJmax) ∧ d < brake m.d m.j (dir * x64 p a xCvel * 2 ^ 56) (dir * x64 p a xCacc * 2 ^ 48) then
    (stNotInState, p)
  else (stOk, if st = 2 ∨ st = 3 ∨ st = 5 then axEvent a 8 0 q else q)

/-- AX_HOME (R273). -/
def axHome (a : Nat) (p : Plane) : Nat × Plane :=
  let v := (xw p a xHomeVel).toInt
  let slow : Bool := decide (v.natAbs < (xw p a xLaVmin).toNat)
  if v = 0 ∨ xw p a xHomeSpan = 0 ∨ !limitsSet p a
      ∨ (xw p a xFeLim = 0 ∧ (emfSrc p a = 0 ∨ slow)) then (stBadParam, p)
  else if axState p a ≠ 1 then (stNotInState, p)
  else
    let dir : Int := if v < 0 then -1 else 1
    (stOk, setX64 a xTarget (x64 p a xCpos + dir * (xn p a xHomeSpan * 2 ^ 32))
      (setXf a xAstat 19 1 0 (setXf a xAstat 22 1 (if v < 0 then 1 else 0)
        (setAxHid a { axHid p a with backOff := false } (setAxState a 4 p)))))

/-- The chain of masters from axis b on reaches axis a. -/
def gearedTo (p : Plane) (a : Nat) : Nat → Nat → Bool
  | 0, _ => false
  | k + 1, b =>
    b == a || (axState p b == 5 && field (xw p b xGearSrc) 28 4 == 2
      && gearedTo p a k (field (xw p b xGearSrc) 0 6))

/-- AX_GEAR (R274). -/
def axGear (s : State) (f : Nat → Word) (a : Nat) (p : Plane) : Nat × Plane :=
  let src := f 0
  let kind := field src 28 4
  let i := field src 0 6
  let n := (f 1).toInt
  let d := (f 2).toNat
  if (kind ≠ 1 ∧ kind ≠ 2) ∨ (kind = 1 ∧ 15 < i) ∨ d = 0 then (stBadParam, p)
  else if axState p a ≠ 1 ∨ (kind = 2 ∧ gearedTo p a 65 i)
      ∨ (xw p a xEngVmax).toNat * 2 ^ 16 * d < (masterStep s p src).natAbs * n.natAbs then (stNotInState, p)
  else
    let m := masterPos s p src
    (stOk, setXw a xGearSrc src (setXw a xGearN (f 1) (setXw a xGearD (f 2) (setX64 a xGearM0 m (setX64 a xMpos m
      (setX64 a xGearS0 (x64 p a xCpos) (setAxHid a { axHid p a with schedArmed := false } (setAxState a 5 p))))))))

/-- AX_GEAR_SCHED (R276). -/
def axGearSched (f : Nat → Word) (a : Nat) (p : Plane) : Nat × Plane :=
  if f 4 = 0 then (stBadParam, p)
  else if axState p a ≠ 5 then (stNotInState, p)
  else
    (stOk, setX64 a xGearMpos (dword (f 1) (f 2)).toInt (setXw a xGearN2 (f 3) (setXw a xGearD2 (f 4)
      (setAxHid a { axHid p a with schedArmed := true } p))))

/-- AX_CLEAR (R271). -/
def axClear (a : Nat) (p : Plane) : Nat × Plane :=
  if axState p a ≠ 6 then (stNotInState, p)
  else
    let p1 := if hasFb p a then setX64 a xCpos (x64 p a xApos) p else p
    (stOk, setXf a xAstat 23 1 0 (setAxState a 1 p1))

/-- An axis command record at a step commit (R287): tested as the host command; STOP at rest is no refusal. -/
def axRecord (s : State) (r : List Word) (a : Nat) (p : Plane) : Nat × Plane :=
  let w := wordAt r 0
  let kind := field w 28 4
  let f := fun i => if i = 0 then (if kind = 5 then word (field w 24 4 * 2 ^ 28 + field w 16 6) else word (field w 0 8))
    else wordAt r i
  let x := if kind = 1 then axMove f a p
    else if kind = 2 then axStop (bit w 0) a p
    else if kind = 3 then axSetLimits f a p
    else if kind = 4 then axHome a p
    else if kind = 5 then axGear s f a p
    else if kind = 6 then axGearSched f a p
    else if kind = 7 then axEnable true a p
    else axEnable false a p
  if kind ≠ 3 ∧ s.dev ≠ .run then (stNotInState, p)
  else if x.1 = stAlreadyDone ∧ axState p a = 1 then (stOk, x.2) else x

/-- Key of an axis command in the list of targets a step named at the present cut. -/
def stepAxis (a : Nat) : Nat × Nat := (1024 + a, 0)

/-- Runs an axis command whose conditions both planes test at the cut (R284), on the state that the cut's step actions left
(R258); `run` for those accepted in RUN only, `cmd` for those a step may give too: an accepted step command of the same
cut prevails over them (R27). -/
def opAx (run cmd : Bool) (a : Nat) (f : State → Plane → Nat × Plane) (s : State) : OpOut :=
  if run && s.dev != .run then failSt stNotInState s
  else
    let st := (f s (actPlane s)).1
    if st = stOk then okSn (onExec (fun p => if cmd && p.fab.stepNamed.contains (stepAxis a) then p else (f s p).2) s) else failSt st s

/-- AX_CONFIG. -/
def opAxConfig (c : Sub) (s : State) : OpOut := opAx false false c.target (fun t p => axConfig t.sealed (par c) c.target p) s
/-- AX_WRITE. -/
def opAxWrite (c : Sub) (s : State) : OpOut := opAx false false c.target (fun _ p => axWrite (par c) c.target p) s
/-- AX_ENABLE. -/
def opAxEnable (c : Sub) (s : State) : OpOut := opAx true true c.target (fun _ p => axEnable (bit (par c 0) 0) c.target p) s
/-- AX_MOVE. -/
def opAxMove (c : Sub) (s : State) : OpOut := opAx true true c.target (fun _ p => axMove (par c) c.target p) s
/-- AX_STOP. -/
def opAxStop (c : Sub) (s : State) : OpOut := opAx true true c.target (fun _ p => axStop (bit (par c 0) 0) c.target p) s
/-- AX_SET_LIMITS. -/
def opAxSetLimits (c : Sub) (s : State) : OpOut := opAx false true c.target (fun _ p => axSetLimits (par c) c.target p) s
/-- AX_HOME. -/
def opAxHome (c : Sub) (s : State) : OpOut := opAx true true c.target (fun _ p => axHome c.target p) s
/-- AX_GEAR. -/
def opAxGear (c : Sub) (s : State) : OpOut := opAx true true c.target (fun t p => axGear t (par c) c.target p) s
/-- AX_GEAR_SCHED. -/
def opAxGearSched (c : Sub) (s : State) : OpOut := opAx true true c.target (fun _ p => axGearSched (par c) c.target p) s
/-- AX_CLEAR. -/
def opAxClear (c : Sub) (s : State) : OpOut := opAx true false c.target (fun _ p => axClear c.target p) s
/-- AX_READ: two words as they stood after the latest computation (R286). -/
def opAxRead (c : Sub) (s : State) : OpOut :=
  let off := (par c 0).toNat
  if off % 4 ≠ 0 ∨ 248 < off then failSt stBadParam s
  else withPlane (par c 1) s fun k =>
    let t := (planeOf s k).axes.shown
    let w := fun i => tget (0 : Word) t (64 * c.target + off / 4 + i)
    okRes (dword (w 0) (w 1)) s

/-- AX_CONFIG. -/
def execAxConfig (c : Sub) (s : State) : Outcome := hostCmd 0x70 opAxConfig c s
/-- AX_WRITE. -/
def execAxWrite (c : Sub) (s : State) : Outcome := hostCmd 0x71 opAxWrite c s
/-- AX_ENABLE. -/
def execAxEnable (c : Sub) (s : State) : Outcome := hostCmd 0x72 opAxEnable c s
/-- AX_MOVE. -/
def execAxMove (c : Sub) (s : State) : Outcome := hostCmd 0x73 opAxMove c s
/-- AX_STOP. -/
def execAxStop (c : Sub) (s : State) : Outcome := hostCmd 0x74 opAxStop c s
/-- AX_SET_LIMITS. -/
def execAxSetLimits (c : Sub) (s : State) : Outcome := hostCmd 0x75 opAxSetLimits c s
/-- AX_HOME. -/
def execAxHome (c : Sub) (s : State) : Outcome := hostCmd 0x76 opAxHome c s
/-- AX_GEAR. -/
def execAxGear (c : Sub) (s : State) : Outcome := hostCmd 0x77 opAxGear c s
/-- AX_GEAR_SCHED. -/
def execAxGearSched (c : Sub) (s : State) : Outcome := hostCmd 0x78 opAxGearSched c s
/-- AX_CLEAR. -/
def execAxClear (c : Sub) (s : State) : Outcome := hostCmd 0x79 opAxClear c s
/-- AX_READ. -/
def execAxRead (c : Sub) (s : State) : Outcome := hostCmd 0x7A opAxRead c s

/-- AXIS_TICK (R261): once a sample, in both planes. -/
def execAxisTick (ax : Nat) (s : State) : Outcome := guarded (decide (ax < 64)) (whenRuns s (onPlanes (axTick s ax) s))

/-- STALL_DECLARED (R269): the tick that declares a stall, or takes the homing reference. -/
def execStallDeclared (ax : Nat) (s : State) : Outcome :=
  let p := actPlane s
  let p1 := axDrive s ax (axFeedback s ax p)
  let stall : Bool := !(axHid p ax).ticked && stallCause s p1 (axEmf s ax p1) ax != 0
  guarded (decide (ax < 64)) (if stall then whenRuns s (onPlanes (axTick s ax) s) else s)

end Sys2Proof.Machine
end

