-- ==== Sys2Proof/Machine/Safe.lean ====
section
/-! DEFINITION. The safety monitor (09 R289 to R310): positions, functions, demands, STO pairs and the black channel. -/

namespace Sys2Proof.Machine

/-! Sealed records (Tables 9-1 to 9-3) -/

/-- Word w of axis a's safety record. -/
def srec (sl : Seal) (a w : Nat) : Word := slw sl (0x10C00 / 4 + 16 * a + w)

/-- SRC, STO_PAIR and SPD_WIN of an axis. -/
def safeSrc (sl : Seal) (a : Nat) : Nat := field (srec sl a 0) 30 2
def safePair (sl : Seal) (a : Nat) : Nat := field (srec sl a 0) 10 4
def spdWin (sl : Seal) (a : Nat) : Nat := field (srec sl a 6) 8 8

/-- Function f (0 SLS, 1 SDI, 2 SLP) is enabled. -/
def safeEn (sl : Seal) (a f : Nat) : Bool := bit (srec sl a 0) (7 + f)

/-- Activation address of function f. -/
def actAddr (sl : Seal) (a f : Nat) : Nat :=
  if f = 0 then field (srec sl a 11) 16 16 else if f = 1 then field (srec sl a 11) 0 16 else field (srec sl a 12) 16 16

/-- STOP_BIT. -/
def stopBit (sl : Seal) (a : Nat) : Nat := field (srec sl a 12) 0 16

/-- Reaction of function f: true SS1. -/
def funcSs1 (sl : Seal) (a f : Nat) : Bool := field (srec sl a 0) (4 - 2 * f) 2 == 1

/-- Word w of connection c's record. -/
def crec (sl : Seal) (c w : Nat) : Word := slw sl (0x11C00 / 4 + 8 * c + w)

/-- The connection is an enabled consumer, or producer. -/
def isConsumer (sl : Seal) (c : Nat) : Bool := bit (crec sl c 1) 31 && !bit (crec sl c 1) 30
def isProducer (sl : Seal) (c : Nat) : Bool := bit (crec sl c 1) 31 && bit (crec sl c 1) 30

/-- LEN of a connection. -/
def connLen (sl : Seal) (c : Nat) : Nat := field (crec sl c 1) 16 8

/-- Channel j of the channel group of pair k, or 0xFFFF. -/
def groupChan (sl : Seal) (k j : Nat) : Nat := field (slw sl (0x12400 / 4 + 32 * k + j / 2)) (16 * (j % 2)) 16

/-- Axes mapped to pair k. -/
def pairAxes (sl : Seal) (k : Nat) : List Nat := (upTo 64).filter fun a => safePair sl a == k

/-- The axis receives the demand of R301. -/
def monitored (sl : Seal) (a : Nat) : Bool := safeSrc sl a != 0 || safePair sl a != 0xF

/-! The monitor's records -/

/-- What the monitor keeps of axis a. -/
def safeAx (p : Plane) (a : Nat) : SafeAx := tget {} p.safe.ax a

/-- Replaces it. -/
def setSafeAx (a : Nat) (x : SafeAx) (p : Plane) : Plane := { p with safe := { p.safe with ax := tset {} p.safe.ax a x } }

/-- Connection c. -/
def connOf (p : Plane) (c : Nat) : Conn := tget {} p.safe.conns c

/-- Replaces connection c. -/
def setConn (c : Nat) (x : Conn) (p : Plane) : Plane := { p with safe := { p.safe with conns := tset {} p.safe.conns c x } }

/-- A safe bit: address [13:8] connection, [7:0] bit; 0 unless the connection is in RUN (R295, R306). -/
def safeBit (p : Plane) (addr : Nat) : Bool :=
  let c := connOf p (addr / 256 % 64)
  c.state == 1 && bit (c.data.getD (addr % 256 / 8) 0) (addr % 8)

/-- The pair is in torque-off: a demand without a running SS1 stands on an axis mapped to it (R299, R300). -/
def pairOff (sl : Seal) (k : Nat) (p : Plane) : Bool :=
  (pairAxes sl k).any fun a => (safeAx p a).demand && (safeAx p a).ss1.isNone

/-- Demand vector of a plane (R291). -/
def demandVector (p : Plane) : List Bool := (upTo 64).map fun a => (safeAx p a).demand

/-! Position and speed (R292 to R294) -/

/-- n / d rounded toward zero. -/
def divZero (n : Int) (d : Nat) : Int := if 0 ≤ n then n / d else -((-n) / d)

/-- The raw safe position of the sample in counts since reset, if it is valid. -/
def rawPos (s : State) (a : Nat) (p : Plane) : Option Int × SafeAx :=
  let x := safeAx p a
  let r0 := srec s.sealed a 0
  if safeSrc s.sealed a = 1 then
    let e := field r0 26 4
    (if tget false s.pins.encIllegal e then none else some (tget 0 s.pins.encPos e), x)
  else
    let c := connOf p (field r0 20 6)
    let v := word (leNat ((c.data.drop (field r0 14 6)).take 4))
    if c.state ≠ 1 then (none, x)
    else
      let ext := if x.taken then x.ext + (v - x.last).toInt else v.toInt
      (some ext, { x with ext := ext, last := v, taken := true })

/-- Takes the position of the sample into the history. -/
def takePos (s : State) (a : Nat) (p : Plane) : SafeAx :=
  let (r, x) := rawPos s a p
  match r with
  | none => { x with validRun := 0, hist := [] }
  | some n =>
    let w := srec s.sealed a 1
    let pos := divZero (n * (BitVec.ofNat 16 (field w 16 16)).toInt) (field w 0 16)
    { x with hist := (pos :: x.hist).take 65, validRun := x.validRun + 1 }

/-- SPOS is valid (R294). -/
def sposValid (sl : Seal) (a : Nat) (x : SafeAx) : Bool := decide (spdWin sl a < x.validRun)

/-- SPOS of the latest sample. -/
def sposOf (x : SafeAx) : Int := x.hist.headD 0

/-- SPOS(n) - SPOS(n - SPD_WIN). -/
def sposDelta (sl : Seal) (a : Nat) (x : SafeAx) : Int := sposOf x - x.hist.getD (spdWin sl a) 0

/-- |v_safe| exceeds a V32 limit. -/
def speedAbove (sl : Seal) (a : Nat) (x : SafeAx) (lim : Int) : Bool :=
  decide (lim * spdWin sl a < (sposDelta sl a x).natAbs * 65536)

/-! Functions (R295, R296) -/

/-- Function f is active on the sample. -/
def funcActive (sl : Seal) (a f : Nat) (x : SafeAx) (p : Plane) : Bool :=
  safeEn sl a f && (actAddr sl a f == 0xFFFF || !safeBit p (actAddr sl a f) || fieldN x.hostAct f 1 == 1)

/-- Bits of the functions that satisfy f. -/
def funcBits (f : Nat → Bool) : Nat := ((upTo 3).map fun i => if f i then 2 ^ i else 0).sum

/-- Bit f of the function bits. -/
def hasFunc (n f : Nat) : Bool := fieldN n f 1 == 1

/-- Event of a function of an axis. -/
def funcEvent (code a f : Nat) (p : Plane) : Plane := praise 0x150 (word (code + a * 256 + f * 65536)) p

/-- Activations of the sample, with the extremes of valid positions and the ages that start at them. -/
def activate (sl : Seal) (a : Nat) (x : SafeAx) (p : Plane) : SafeAx :=
  let act := funcBits fun f => funcActive sl a f x p
  let pos := sposOf x
  let seen := hasFunc act 1 && hasFunc x.active 1 && x.sdiSeen
  let valid := sposValid sl a x
  { x with
    active := act
    slsAge := if hasFunc act 0 && hasFunc x.active 0 then x.slsAge + 1 else 0
    maxSpos := if !valid then x.maxSpos else if seen then max x.maxSpos pos else pos
    minSpos := if !valid then x.minSpos else if seen then min x.minSpos pos else pos
    sdiSeen := seen || (hasFunc act 1 && valid) }

/-- Function f is violated on the sample (R296). -/
def funcViolated (sl : Seal) (a f : Nat) (x : SafeAx) : Bool :=
  if !hasFunc x.active f || !sposValid sl a x then false
  else if f = 0 then
    decide (field (srec sl a 6) 16 16 ≤ x.slsAge) && speedAbove sl a x (srec sl a 2).toNat
  else if f = 1 then
    let tol : Int := (srec sl a 3).toNat
    if bit (srec sl a 0) 6 then decide (x.minSpos + tol < sposOf x) else decide (sposOf x < x.maxSpos - tol)
  else decide (sposOf x < (srec sl a 4).toInt ∨ (srec sl a 5).toInt < sposOf x)

/-- Discrepancy of the sample (R297): the offset is taken as the axis leaves DISABLED. A sample without a valid SPOS gives
no position to compare, so it ends the run, and the offset waits for a valid one (log entry 100). -/
def discrepancy (sl : Seal) (a : Nat) (x : SafeAx) (p : Plane) : SafeAx × Bool :=
  let lim := field (srec sl a 10) 0 24
  let pos := sposOf x
  let c := cposBefore p a / 2 ^ 32
  if axState p a = 0 ∨ lim = 0 ∨ safeSrc sl a = 0 then ({ x with wasDisabled := axState p a == 0, discRun := 0 }, false)
  else if !sposValid sl a x then ({ x with discRun := 0 }, false)
  else
    let x1 := if x.wasDisabled then { x with wasDisabled := false, discOfs := c - pos, discRun := 0 } else x
    let run := if lim < (c - (pos + x1.discOfs)).natAbs then x1.discRun + 1 else 0
    ({ x1 with discRun := run }, decide (field (srec sl a 10) 24 8 < run))

/-! Demands and reactions (R297 to R300) -/

/-- Causes that replace another latched one, because they bar every release (R310, log entry 12). -/
def barring (cause : Nat) : Bool := cause == 9 || cause == 10 || cause == 11

/-- Latches a demand with its reaction on one axis, without the pair. -/
def latchDemand (sl : Seal) (a cause : Nat) (ss1 : Bool) (p : Plane) : Plane :=
  let x := safeAx p a
  if x.demand then
    let y := if barring cause then { x with cause := cause } else x
    if ss1 then setSafeAx a y p else setSafeAx a { y with ss1 := none } p
  else
    let vd : Int := (sposDelta sl a x).natAbs
    setSafeAx a { x with demand := true, cause := cause, ss1 := if ss1 then some { vd := vd } else none } (axSafeStop a ss1 p)

/-- Every axis of a pair in torque-off becomes SAFE_STOPPED; one without a demand takes cause 0x0D (R300). -/
def spreadPair (sl : Seal) (k : Nat) (p : Plane) : Plane :=
  if !pairOff sl k p then p
  else forEach (pairAxes sl k) (fun a q =>
    let x := safeAx q a
    if x.demand then axSafeStop a false (setSafeAx a { x with ss1 := none } q)
    else axSafeStop a false (setSafeAx a { x with demand := true, cause := 0xD, ss1 := none } q)) p

/-- Spreads torque-off over every pair, with the event of each pair that just lost torque. -/
def spreadPairs (sl : Seal) (before : Plane) (p : Plane) : Plane :=
  forEach (upTo 8) (fun k q =>
    if pairOff sl k q && !pairOff sl k before then
      let first := ((pairAxes sl k).find? fun a => (safeAx q a).demand && (safeAx q a).ss1.isNone).getD 0
      praise (0x140 + k) (word (1 + first * 256)) (spreadPair sl k q)
    else q) p

/-- A demand on an axis, with its pair (R298, R300). -/
def demand (sl : Seal) (a cause : Nat) (ss1 : Bool) (p : Plane) : Plane :=
  spreadPairs sl p (latchDemand sl a cause ss1 p)

/-- Every axis with a demand is SAFE_STOPPED (R298, 08 R282): one restored with a demand of the reset among them. -/
def stopDemanded (p : Plane) : Plane :=
  forEach (upTo 64) (fun a q => if (safeAx q a).demand then axSafeStop a false q else q) p

/-- The demand of R301 on every axis it names. -/
def demandReady (sl : Seal) (p : Plane) : Plane :=
  stopDemanded (spreadPairs sl p (forEach ((upTo 64).filter (monitored sl)) (fun a q => latchDemand sl a 0xC false q) p))

/-- Entry into SAFE: pair k goes to torque-off (R300, R301, R317). -/
def pairSafe (sl : Seal) (k : Nat) (p : Plane) : Plane :=
  let axes := pairAxes sl k
  let p1 := forEach axes (fun a q =>
    let x := safeAx q a
    setSafeAx a { x with demand := true, cause := if x.demand then x.cause else 0xD, ss1 := none } q) p
  if tget false p.safe.lines k then praise (0x140 + k) (word (1 + axes.headD 0 * 256)) p1 else p1

/-- Entry into SAFE: every pair goes to torque-off, and every axis becomes SAFE_STOPPED (R301, 08 R259). -/
def pairsSafe (sl : Seal) (p : Plane) : Plane :=
  forEach (upTo 64) (fun a q => axSafeStop a false q) (forEach (upTo 8) (pairSafe sl) p)

/-- One tick of a running SS1: the record, and whether torque goes off, with the envelope broken (R298). -/
def ss1Tick (sl : Seal) (a : Nat) (x : SafeAx) : SafeAx × Bool × Bool :=
  match x.ss1 with
  | none => (x, false, false)
  | some z =>
    let n := z.n + 1
    let win : Int := spdWin sl a
    let known := safeSrc sl a != 0 && sposValid sl a x
    let slow := known && !speedAbove sl a x (srec sl a 9).toNat
    let run := if slow then z.zeroRun + 1 else 0
    let late : Int := ((n - field (srec sl a 7) 0 16 : Nat) : Int)
    let env : Int := z.vd * 2 ^ 32 - ((srec sl a 8).toNat : Int) * late * win
    let lim : Int := max env (((srec sl a 9).toNat : Int) * 2 ^ 16 * win)
    let broken := known && decide (lim < (sposDelta sl a x).natAbs * 2 ^ 32)
    ({ x with ss1 := some { z with n := n, zeroRun := run } },
      decide (10 ≤ run) || decide (field (srec sl a 7) 16 16 ≤ n) || broken, broken)

/-- Demands of one axis on the sample: causes in order, each with its reaction (true SS1). -/
def demandsOf (sl : Seal) (a : Nat) (x : SafeAx) (disc : Bool) (p : Plane) : List (Nat × Bool) :=
  let rStop := field (srec sl a 6) 6 2 == 1
  (if hasFunc x.violated 0 then [(1, funcSs1 sl a 0)] else [])
    ++ (if hasFunc x.violated 2 then [(2, funcSs1 sl a 2)] else [])
    ++ (if hasFunc x.violated 1 then [(3, funcSs1 sl a 1)] else [])
    ++ (if stopBit sl a != 0xFFFF && !safeBit p (stopBit sl a) then [(4, rStop)] else [])
    ++ (if x.hostStop then [(5, rStop)] else [])
    ++ (if disc then [(6, field (srec sl a 6) 4 2 == 1)] else [])
    ++ (if safeSrc sl a != 0 && !sposValid sl a x then [(8, false)] else [])

/-- The monitor's evaluation of one axis (R292 to R298). -/
def safeEvalAx (s : State) (a : Nat) (p : Plane) : Plane :=
  let sl := s.sealed
  let x0 := if safeSrc sl a = 0 then safeAx p a else takePos s a p
  let old := safeAx p a
  let x1 := activate sl a x0 p
  let viol := funcBits fun f => funcViolated sl a f x1
  let (x2, disc) := discrepancy sl a { x1 with violated := viol } p
  let (x3, off, broken) := ss1Tick sl a x2
  let x4 := if off then { x3 with ss1 := none, cause := if broken then 7 else x3.cause } else x3
  let ds := demandsOf sl a x4 disc p
  let p1 := setSafeAx a { x4 with hostStop := false } p
  let p2 := forEach (upTo 3) (fun f q =>
    let q1 := if hasFunc x4.active f && !hasFunc old.active f then funcEvent 1 a f q
      else if !hasFunc x4.active f && hasFunc old.active f then funcEvent 2 a f q else q
    if hasFunc viol f && !hasFunc old.violated f then funcEvent 3 a f q1 else q1) p1
  let sto := ds.any fun d => !d.2
  match ds with
  | [] => p2
  | d :: _ => latchDemand sl a d.1 (!sto) p2

/-- A connection in RUN whose time expectation has run out fails (R306). -/
def failConn (c cause : Nat) (p : Plane) : Plane :=
  let x := connOf p c
  if x.state = 2 then p
  else praise (0x148 + c / 8) (word (1 + c * 256 + cause * 65536)) (setConn c { x with state := 2, cause := cause, haveSeq := false } p)

/-- The watchdogs that stand at 0. -/
def watchdogs (p : Plane) : Plane :=
  forEach (upTo 64) (fun c q => if (connOf q c).state = 1 ∧ (connOf q c).wdt = 0 then failConn c 1 q else q) p

/-- The monitor computes in this device state (R290). -/
def monitorRuns (s : State) : Bool := s.boot.firstCommit && s.dev != .off && s.dev != .standby

/-- The monitor's evaluation of a sample, once per tick. -/
def safeEval (s : State) (p : Plane) : Plane :=
  if p.safe.done || !monitorRuns s then p
  else
    let p0 := watchdogs { p with safe := { p.safe with done := true } }
    spreadPairs s.sealed p0 (forEach (upTo 64) (safeEvalAx s) p0)

/-! Release (R310) and status (R309) -/

/-- The release conditions hold for axis a. -/
def releaseOk (s : State) (a : Nat) (p : Plane) : Bool :=
  let x := safeAx p a
  let sl := s.sealed
  s.dev == .run && !barring x.cause && x.ss1.isNone && x.violated == 0
    && (stopBit sl a == 0xFFFF || safeBit p (stopBit sl a))
    && (safeSrc sl a == 0 || sposValid sl a x) && !x.hostStop

/-- Both monitors agree under R291. -/
def monitorsAgree (s : State) : Bool :=
  !(computes s.ump.a && computes s.ump.b) || demandVector s.planeA == demandVector s.planeB

/-- Safety status word (Table 9-5). -/
def safetyWord (s : State) (a : Nat) (p : Plane) : Word :=
  let x := safeAx p a
  let k := safePair s.sealed a
  word (x.cause * 2 ^ 24 + (if tget false p.safe.lines k then 2 ^ 15 else 0) + (if x.ss1.isSome then 2 ^ 14 else 0)
    + (if x.demand then 2 ^ 13 else 0) + (if releaseOk s a p && monitorsAgree s then 2 ^ 12 else 0)
    + (if sposValid s.sealed a x then 2 ^ 11 else 0) + x.hostAct * 16 + x.active)

/-- |v_safe| as V32, rounded under R93. -/
def speedV32 (sl : Seal) (a : Nat) (x : SafeAx) : Word :=
  word (min 0xFFFFFFFF (rdiv ((sposDelta sl a x).natAbs * 65536) (spdWin sl a)).toNat)

/-- Pairs that permit torque, as bits. -/
def pairsOn (p : Plane) : Nat := ((upTo 8).map fun k => if tget false p.safe.lines k then 2 ^ k else 0).sum

/-- SAFE_STATUS (R318). -/
def opSafeStatus (c : Sub) (s : State) : OpOut :=
  withPlane (par c 0) s fun k =>
    let p := planeOf s k
    let a := c.target
    if a = 64 then
      let gen := match (if s.sealed.slot = 0 then s.sealed.slot0 else s.sealed.slot1) with
        | some t => tget 0 t 2
        | none => (0 : Word)
      okRes (dw (s.sealed.matched.toNat + (if s.sealed.valid then 0 else 2) + (if s.sealed.openAsserted then 4 else 0)
        + (if s.sealed.staged.isSome then 8 else 0) + field gen 0 16 * 2 ^ 16 + s.boot.sealSw.toNat * 2 ^ 32
        + pairsOn p * 2 ^ 48)) s
    else
      let x := safeAx p a
      if safeSrc s.sealed a ≠ 0 ∧ sposValid s.sealed a x then
        okRes (dword (safetyWord s a p) (speedV32 s.sealed a x)) s
      else
        let (v, s1) := takeFree s
        okRes (dword (safetyWord s a p) (loWord v)) s1

/-- SAFE_REQUEST. -/
def opSafeRequest (c : Sub) (s : State) : OpOut :=
  let w := (par c 0).toNat
  if (upTo 3).any fun f => hasFunc w f && !safeEn s.sealed c.target f then failSt stBadParam s
  else okSn (onExec (fun p =>
    let x := safeAx p c.target
    setSafeAx c.target { x with hostAct := w % 8, hostStop := x.hostStop || hasFunc w 3 } p) s)

/-- Release of a pair in one plane: demands clear and the axes become DISABLED. -/
def releasePair (sl : Seal) (k : Nat) (p : Plane) : Plane :=
  praise (0x140 + k) 2 (forEach (pairAxes sl k) (fun a q =>
    axSafeRelease a (setSafeAx a { safeAx q a with demand := false, cause := 0, ss1 := none } q)) p)

/-- SAFE_RESET (R310). -/
def opSafeReset (c : Sub) (s : State) : OpOut :=
  let p := actPlane s
  let axes := pairAxes s.sealed c.target
  match axes.find? fun a => !releaseOk s a p with
  | some a => failRes stNotInState (a + (safeAx p a).cause * 256) s
  | none =>
    if s.dev ≠ .run ∨ !monitorsAgree s then
      let a := axes.headD 0
      failRes stNotInState (a + (safeAx p a).cause * 256) s
    else okSn (onExecSl (fun sl => releasePair sl c.target) s)

/-- SCONN_STATUS. -/
def opSconnStatus (c : Sub) (s : State) : OpOut :=
  withPlane (par c 0) s fun k =>
    let x := connOf (planeOf s k) c.target
    okRes (dw (x.state + x.cause * 2 ^ 4 + x.lastSeq * 2 ^ 16 + x.crcErr * 2 ^ 32 + x.dup * 2 ^ 48)) s

/-- SAFE_STATUS. -/
def execSafeStatus (c : Sub) (s : State) : Outcome := hostCmd 0x80 opSafeStatus c s
/-- SAFE_REQUEST. -/
def execSafeRequest (c : Sub) (s : State) : Outcome := hostCmd 0x81 opSafeRequest c s
/-- SAFE_RESET. -/
def execSafeReset (c : Sub) (s : State) : Outcome := hostCmd 0x82 opSafeReset c s
/-- SCONN_STATUS. -/
def execSconnStatus (c : Sub) (s : State) : Outcome := hostCmd 0x83 opSconnStatus c s

/-! The black channel (R304 to R308) -/

/-- k steps of the safety CRC register, most significant bit first. -/
def scrcBits : Nat → Nat → Nat
  | 0, r => r
  | k + 1, r => scrcBits k (if 2 ^ 31 ≤ r then (2 * r % 2 ^ 32) ^^^ 0x814141AB else 2 * r)

/-- Safety CRC over bytes (R305). -/
def safetyCrc (bs : List Byte) : Nat := bs.foldl (fun r b => scrcBits 8 (r ^^^ (b.toNat * 2 ^ 24))) 0

/-- A little-endian number in the bytes of a PDU. -/
def pduNum (pdu : List Byte) (i n : Nat) : Nat := leNat ((pdu.drop i).take n)

/-- Length and CRC of a PDU. -/
def pduSound (pdu : List Byte) : Bool :=
  let len := pduNum pdu 8 1
  pdu.length == 16 + len && safetyCrc (pdu.take (12 + len)) == pduNum pdu (12 + len) 4

/-- Acceptance of a PDU (R304, R306). -/
def acceptPdu (sl : Seal) (c : Nat) (pdu : List Byte) (p : Plane) : Plane :=
  let x := connOf p c
  let seq := pduNum pdu 4 2
  let run := x.state == 1 || (x.state == 0 && x.haveSeq && seq == (x.lastSeq + 1) % 65536)
  let p1 := setConn c { x with
    state := if run then 1 else 0
    lastSeq := seq, haveSeq := true, lastPdu := pdu
    wdt := min (pduNum pdu 6 2) (field (crec sl c 3) 0 16)
    data := (pdu.drop 12).take (pduNum pdu 8 1) } p
  if run && x.state != 1 then praise (0x148 + c / 8) (word (2 + c * 256)) p1 else p1

/-- One PDU for a consumer connection (R306). -/
def receivePdu (sl : Seal) (c : Nat) (pdu : List Byte) (p0 : Plane) : Plane :=
  let p := watchdogs p0
  let x := connOf p c
  let seq := pduNum pdu 4 2
  if !isConsumer sl c then p
  else if !pduSound pdu then setConn c { x with crcErr := satAdd 0xFFFF x.crcErr 1 } p
  else if pduNum pdu 0 4 ≠ (crec sl c 0).toNat ∨ pduNum pdu 8 1 ≠ connLen sl c then failConn c 2 p
  else if x.state = 1 ∧ seq = x.lastSeq then
    if pdu = x.lastPdu then setConn c { x with dup := satAdd 0xFFFF x.dup 1 } p else failConn c 4 p
  else if x.state = 1 ∧ seq ≠ (x.lastSeq + 1) % 65536 then failConn c 3 p
  else acceptPdu sl c pdu p

/-- A PDU is delivered: it counts from the next sample (R306). -/
def holdPdu (c : Nat) (pdu : List Byte) (p : Plane) : Plane := { p with safe := { p.safe with pdus := p.safe.pdus ++ [(c, pdu)] } }

/-- The monitor's part of an input cut: the PDUs delivered by then are taken in order of arrival, and time expectations
count (R306). -/
def safeCut (sl : Seal) (p : Plane) : Plane :=
  let p1 := watchdogs { p with safe := { p.safe with done := false, pdus := [] } }
  let p2 := forEach p.safe.pdus (fun x q => receivePdu sl x.1 x.2 q) p1
  forEach (p2.safe.conns.map fun x => x.1) (fun c q =>
    let x := connOf q c
    if x.state = 1 then setConn c { x with wdt := x.wdt - 1 } q else q) p2

/-- Status half of axis a in a producer's data. -/
def statusHalf (s : State) (a : Nat) (p : Plane) : Nat := if a < 64 then field (safetyWord s a p) 0 16 else 0

/-- The PDU that a producer sends on the present sample (R307). -/
def buildPdu (s : State) (c : Nat) (p : Plane) : List Byte :=
  let sl := s.sealed
  let x := connOf p c
  let len := connLen sl c
  let fa := field (crec sl c 4) 0 6
  let hdr := [crec sl c 0, word (x.txSeq + field (crec sl c 3) 0 16 * 65536), word (len + (if x.txFirst then 256 else 0))]
  let dat := (upTo (len / 4)).map fun i => word (statusHalf s (fa + 2 * i) p + statusHalf s (fa + 2 * i + 1) p * 65536)
  let bs := bytesOf (hdr ++ dat)
  bs ++ wordBytes (word (safetyCrc bs))

/-- A producer's PDU is due on the present sample and not yet sent. -/
def pduDue (s : State) (c : Nat) (p : Plane) : Bool :=
  let per := field (crec s.sealed c 1) 0 16
  isProducer s.sealed c && per != 0 && s.ump.ticks % per == 0 && (connOf p c).txAt != some s.ump.ticks

/-- Sends a producer's PDU. -/
def sendPdu (s : State) (c : Nat) (p : Plane) : Plane :=
  let x := connOf p c
  if pduDue s c p && monitorRuns s then
    setConn c { x with txPdu := buildPdu s c p, txSeq := (x.txSeq + 1) % 65536, txFirst := false, txAt := some s.ump.ticks } p
  else p

/-! Events -/

/-- SAFETY_EVALUATION (R296). -/
def execSafetyEvaluation (s : State) : Outcome := .next (onPlanes (safeEval s) s)

/-- DISCREPANCY_DEMAND (R297): the evaluation of the sample, where it raises cause 0x06 on the axis. -/
def execDiscrepancyDemand (ax : Nat) (s : State) : Outcome :=
  let t := onPlanes (safeEval s) s
  guarded (decide (ax < 64))
    (if (safeAx (actPlane t) ax).demand && (safeAx (actPlane t) ax).cause == 6 && !(safeAx (actPlane s) ax).demand then t else s)

/-- SS1_TORQUE_OFF (R298): the evaluation of the sample, where it ends the axis's SS1 with torque off. -/
def execSs1TorqueOff (ax : Nat) (s : State) : Outcome :=
  let t := onPlanes (safeEval s) s
  guarded (decide (ax < 64))
    (if (safeAx (actPlane s) ax).ss1.isSome && (safeAx (actPlane t) ax).ss1.isNone then t else s)

/-- Line (0 A, 1 B) of pair k that pulses on the present tick (R303). -/
def pulseLine (s : State) (k : Nat) : Option Nat :=
  let t := s.ump.ticks % 1000
  if t = 10 * k then some 0 else if t = 10 * k + 500 then some 1 else none

/-- A line that does not follow its test pulse (R303). Both planes take the fault (R16). -/
def lineFault (sl : Seal) (k line : Nat) (p : Plane) : Plane :=
  praise (0x140 + k) (word (3 + line * 256))
    (spreadPairs sl p (forEach (pairAxes sl k) (fun a q => latchDemand sl a 9 false q) p))

/-- STO_TEST_PULSE (R303). -/
def execStoTestPulse (pair : Nat) (ok : Bool) (s : State) : Outcome :=
  guarded (decide (pair < 8)) (match pulseLine s pair with
    | none => s
    | some l =>
      let high := tget false (planeOf s (l + 1)).safe.lines pair
      if high && !ok then onPlanesSl (fun sl => lineFault sl pair l) s else s)

/-- SAFETY_PDU_RECEIVE (R306): the PDU is taken at the next input cut. -/
def execSafetyPduReceive (conn : Nat) (pdu : List Byte) (s : State) : Outcome :=
  guarded (decide (conn < 64)) (onPlanes (holdPdu conn pdu) s)

/-- SAFETY_WATCHDOG_EXPIRY (R306): the time expectation has run out at the latest cut. -/
def execSafetyWatchdogExpiry (conn : Nat) (s : State) : Outcome :=
  guarded (decide (conn < 64)) (onPlanes (fun p =>
    if (connOf p conn).state = 1 ∧ (connOf p conn).wdt = 0 then failConn conn 1 p else p) s)

end Sys2Proof.Machine
end

