-- ==== Sys2Proof/Machine/Seal.lean ====
section
/-! DEFINITION. The sealed block (09 R311 to R316): its check, its copies, and its reading at a reset. -/

namespace Sys2Proof.Machine

/-- Bytes of a sealed block image. -/
def sealBytes : Nat := 0x13000

/-- The table of an image's words. -/
def sealTab (ws : List Word) : Tab Word := tsetMany 0 [] 0 (ws.take (sealBytes / 4))

/-- Word i of a copy or image. -/
def sealWord (t : Tab Word) (i : Nat) : Word := tget 0 t i

/-- The words of an image in order. -/
def sealWords (t : Tab Word) : List Word := (upTo (sealBytes / 4)).map (sealWord t)

/-- CRC-32C over every byte but bytes 60 to 63 (Table 9-1). -/
def sealCrc (t : Tab Word) : Word := crc32c (bytesOf (((sealWords t).take 15) ++ (sealWords t).drop 16))

/-- MAGIC, VERSION and LENGTH. -/
def sealHeader (t : Tab Word) : Bool :=
  sealWord t 0 == 0x4C535841 && sealWord t 1 == 1 && sealWord t 3 == 0x13000

/-- A copy is valid (R313). -/
def sealValid (c : Option (Tab Word)) : Bool :=
  match c with
  | none => false
  | some t => sealHeader t && sealWord t 15 == sealCrc t

/-- GEN of a copy. -/
def sealGen (c : Option (Tab Word)) : Nat :=
  match c with
  | none => 0
  | some t => (sealWord t 2).toNat

/-- Slot of the newer valid copy, if one is valid. -/
def newerSlot (sl : Seal) : Option Nat :=
  if sealValid sl.slot0 && (!sealValid sl.slot1 || decide (sealGen sl.slot1 ≤ sealGen sl.slot0)) then some 0
  else if sealValid sl.slot1 then some 1 else none

/-- Copy in a slot. -/
def sealCopy (sl : Seal) (k : Nat) : Option (Tab Word) := if k = 0 then sl.slot0 else sl.slot1

/-- Replaces the copy in a slot. -/
def setCopy (k : Nat) (c : Option (Tab Word)) (sl : Seal) : Seal :=
  if k = 0 then { sl with slot0 := c } else { sl with slot1 := c }

/-! The seal check (R312) -/

/-- The image as if it were in force. -/
def asForce (t : Tab Word) : Seal := { regs := t, valid := true }

/-- Analogue-valued channel (R20): a station entry is one while its ANALOG bit is set. -/
def analogChan (sl : Seal) (c : Nat) : Bool :=
  decide (c < 128) || bit (slw sl (0x10840 / 4 + (c - 128) / 32)) ((c - 128) % 32)

/-- A channel's fence fails the check of R21. -/
def fenceFails (sl : Seal) (c : Nat) : Bool :=
  analogChan sl c && (decide ((fence sl c 3).toInt < (fence sl c 0).toInt)
    || decide ((fence sl c 1).toInt < (fence sl c 3).toInt) || decide ((fence sl c 2).toInt ≤ 0))

/-- A safe bit address that the image does not carry: a producer, or a bit beyond LEN. -/
def badSafeBit (sl : Seal) (addr : Nat) : Bool :=
  addr != 0xFFFF && (bit (crec sl (addr / 256 % 64) 1) 30 || decide (8 * connLen sl (addr / 256 % 64) ≤ addr % 256))

/-- An axis safety record that R312 refuses. Its safe bit addresses are tested whether or not their functions are enabled;
SPOS_CONN and SPOS_BYTE name something under SRC 2 only (R292, log entry 101). A STO_PAIR of 8 and more names no pair (R301). -/
def badAxisRec (sl : Seal) (a : Nat) : Bool :=
  let src := safeSrc sl a
  ((upTo 3).any fun f => badSafeBit sl (actAddr sl a f)) || badSafeBit sl (stopBit sl a)
    || (src == 2 && (bit (crec sl (field (srec sl a 0) 20 6) 1) 30
      || decide (connLen sl (field (srec sl a 0) 20 6) < field (srec sl a 0) 14 6 + 4)))
    || (src == 1 && safeEn sl a 2) || (src != 0 && decide (8 ≤ safePair sl a))

/-- A connection record that R308 refuses: the format follows the MODE of its CAN channel (log entry 20). -/
def badConnRec (s : State) (sl : Seal) (c : Nat) : Bool :=
  let w := crec sl c 1
  let len := connLen sl c
  let mode := field (tget {} s.can.chans (field w 24 4) : CanChan).cfg 30 2
  bit w 31 && field w 28 2 == 2 && (mode == 0 || ((mode == 1 || bit (crec sl c 2) 31) && (len == 12 || decide (20 ≤ len ∧ len ≤ 28))))

/-- The seal check: 0, or CHECK with the record index in bits [31:16] of the result. -/
def sealCheck (s : State) (t : Tab Word) : Nat :=
  let sl := asForce t
  if !sealHeader t || field (sealWord t 4) 16 16 != 0 || ((upTo 9).any fun i => sealWord t (6 + i) != 0) then 1
  else if sealWord t 15 ≠ sealCrc t then 2
  else
    match (upTo 4224).find? (fenceFails sl) with
    | some c => 3 + c * 65536
    | none =>
      match (upTo 64).find? (badAxisRec sl) with
      | some a => 3 + a * 65536
      | none =>
        match (upTo 64).find? (badConnRec s sl) with
        | some c => 3 + c * 65536
        | none =>
          let code := field (sealWord t 4) 0 16
          let gen := match newerSlot s.sealed with
            | some k => (sealGen (sealCopy s.sealed k) + 1) % 2 ^ 32
            | none => 1
          if code = 0 ∨ code = 0xFFFF ∨ (sealWord t 2).toNat ≠ gen then 3 else 0

/-! Commands (R315, R316, R318) -/

/-- SEAL_STAGE. -/
def opSealStage (c : Sub) (s : State) : OpOut :=
  let a := addrAt c 0
  if (par c 2).toNat ≠ sealBytes then failSt stBadParam s
  else if !inWindow s false a sealBytes then badWindow 0x84 c a s
  else if !s.sealed.openAsserted || s.dev != .ready then failSt stNotInState s
  else if !lockOpen s then failSt stLocked s
  else
    let t := sealTab c.image
    let k := sealCheck s t
    if k ≠ 0 then failRes stBadParam k s
    else okRes 0 (raise 0x151 3 { s with sealed := { s.sealed with staged := some t } })

/-- Slot that a SEAL_COMMIT writes (R316). -/
def writeSlot (sl : Seal) : Nat :=
  match newerSlot sl with
  | some 0 => 1
  | _ => 0

/-- SEAL_COMMIT: the write begins, so that the copy written to is no valid one until its read-back. -/
def opSealCommit (c : Sub) (s : State) : OpOut :=
  let _ := c
  if s.sealed.staged.isNone || !s.sealed.openAsserted || s.dev != .ready then failSt stNotInState s
  else if !lockOpen s then failSt stLocked s
  else
    let k := writeSlot s.sealed
    .wait .device [word k] { s with sealed := setCopy k none s.sealed }

/-- The read-back of a SEAL_COMMIT succeeds: its commit point, unless R315 fails by now. -/
def sealCommitted (k : Nat) (s : State) : OpOut :=
  match s.sealed.staged with
  | none => failSt stNotInState s
  | some t =>
    if !s.sealed.openAsserted || s.dev != .ready then failSt stNotInState s
    else if !lockOpen s then failSt stLocked s
    else okRes (dw (sealWord t 2).toNat) (raise 0x151 4 { s with sealed := setCopy k (some t) s.sealed })

/-- SEAL_READ: 8 bytes of a copy, key bytes 0; a copy that nothing was ever written to holds free values. -/
def opSealRead (c : Sub) (s : State) : OpOut :=
  let o := (par c 0).toNat
  let k := if par c 1 = 0 then s.sealed.slot else 1 - s.sealed.slot
  if o % 8 ≠ 0 ∨ sealBytes ≤ o then failSt stBadParam s
  else if 0x12800 ≤ o ∧ o < 0x12820 then okRes 0 s
  else
    match sealCopy s.sealed k with
    | some t => okRes (dword (sealWord t (o / 4)) (sealWord t (o / 4 + 1))) s
    | none =>
      let (v, s1) := takeFree s
      okRes v s1

/-- SEAL_STAGE. -/
def execSealStage (c : Sub) (s : State) : Outcome := hostCmd 0x84 opSealStage c s
/-- SEAL_COMMIT. -/
def execSealCommit (c : Sub) (s : State) : Outcome := hostCmd 0x85 opSealCommit c s
/-- SEAL_READ. -/
def execSealRead (c : Sub) (s : State) : Outcome := hostCmd 0x86 opSealRead c s

/-- SEAL_OPEN_ASSERT (R315): the row stands for the cut that is the hundredth with SEAL_OPEN high. -/
def execSealOpenAssert (s : State) : Outcome :=
  .next { s with sealed := { s.sealed with openAsserted := true, openFell := false } }

/-- SEAL_OPEN_DEASSERT (R315): SEAL_OPEN falls; it counts as asserted until the next cut. -/
def execSealOpenDeassert (s : State) : Outcome := .next { s with sealed := { s.sealed with openFell := true } }

/-- SEAL_OPEN at an input cut. -/
def sealOpenCut (s : State) : State :=
  if s.sealed.openFell then { s with sealed := { s.sealed with openAsserted := false, openFell := false } } else s

/-! The seal at reset (R313, R314) -/

/-- Events that the planes raised before the first cut are posted at once, with SN 0, PRE_TICK and plane 0 (R516). -/
def postPre (s : State) : State :=
  let es := (actPlane s).evs.map fun e => { e with sn := 0, plane := 0, preTick := true }
  postList es { s with planeA := { s.planeA with evs := [] }, planeB := { s.planeB with evs := [] } }

/-- A demand of the reset on every axis that `which` names, in both planes. -/
def resetDemand (cause : Nat) (which : Nat → Bool) (s : State) : State :=
  let f := fun p => forEach ((upTo 64).filter which) (fun a q => latchDemand s.sealed a cause false q) p
  { s with planeA := f s.planeA, planeB := f s.planeB }

/-- Loads the SL registers from the copy in force. -/
def loadSeal (s : State) : State :=
  match newerSlot s.sealed with
  | none => raise 0x151 2 { s with sealed := { s.sealed with regs := [], valid := false, slot := 0, read := true, matched := false, failed := [] } }
  | some k =>
    let t := (sealCopy s.sealed k).getD []
    let s1 := { s with sealed := { s.sealed with
      regs := t, valid := true, slot := k, read := true
      matched := s.boot.sealSw == BitVec.ofNat 16 (field (sealWord t 4) 0 16)
      failed := (upTo 4224).filter (fenceFails (asForce t)) } }
    if sealValid (sealCopy s.sealed (1 - k)) then s1 else raise 0x151 5 s1

/-- The sealed-block read of start-up: the registers, the seal, every fence, and the demands that follow
(R21, R301, R309, R313, R314). -/
def sealedRead (s : State) : State :=
  let s1 := resetDemand 0xC (monitored (loadSeal s).sealed) (loadSeal s)
  let s2 :=
    if !s1.sealed.valid then resetDemand 0xB (fun _ => true) s1
    else if !s1.sealed.matched then raise 0x151 1 (resetDemand 0xA (fun a => safePair s1.sealed a != 0xF) s1)
    else s1
  postPre (forEach s2.sealed.failed (fun c t => logF6 4 5 c 0xFFFFFFFF 0 0 t) s2)

end Sys2Proof.Machine
end

