-- ==== Sys2Proof/Machine/Xlat.lean ====
section
/-! DEFINITION. DMA channels and address translation (13 R415 to R423): walk and suspension. -/

namespace Sys2Proof.Machine

/-- DMA channel k. -/
def dmaCh (s : State) (k : Nat) : DmaCh := tget {} s.mem.chans k

/-- Replaces DMA channel k. -/
def setDmaCh (k : Nat) (v : DmaCh) (s : State) : State := setMem { s.mem with chans := tset {} s.mem.chans k v } s

/-- Channel k is IDLE; its registers keep the cause, the address and the count of the transfer that ended until the next
one starts (log entry 87). -/
def idleCh (k : Nat) (s : State) : State :=
  let x := dmaCh s k
  setDmaCh k { cause := x.cause, faultVa := x.faultVa, done := x.done } s

/-- A TLB miss, in XLAT_MISSES and in MEM_STATUS. -/
def countMiss (s : State) : State :=
  countMem 5 (setMem { s.mem with xlatMisses := word (satAdd 0xFFFFFFFF s.mem.xlatMisses.toNat 1) } s)

/-- A miss is counted, and the channel's page waits for its walk. -/
def tlbMiss (ch : Nat) (s : State) : State :=
  let s1 := countMiss s
  setDmaCh ch { dmaCh s1 ch with walk := true } s1

/-- Suspends channel ch (R423): events of the fault and of the suspension. -/
def suspend (ch cause va : Nat) (s : State) : State :=
  let x := dmaCh s ch
  raise 0x1E5 (1 + ch * 2 ^ 8 + cause * 2 ^ 16) (raise 0x1E2 (1 + ch * 2 ^ 8 + cause * 2 ^ 16)
    (countMem 4 (setDmaCh ch { x with state := 2, cause := cause, faultVa := va, walk := false, suspTicks := 0 } s)))

/-- A page ahead, whose walk has failed, holds address a: the cause (R423). -/
def failedAt (x : DmaCh) (a : Nat) : Option Nat := x.failed.bind fun f => if f.1 / 4096 = a / 4096 then some f.2 else none

/-! What waits for a page of channel 0 -/

/-- An ABORT completes once the ABORTED of its target is posted (02 R72). -/
def settleAbort (x : Cmd) (s : State) : State :=
  if x.op == 0x03 && x.wait == .device
      && !s.hif.posts.any (fun e => e.qp == (wordAt x.aux 0).toNat && e.tag.toNat == (wordAt x.aux 1).toNat % 65536) then
    completeWaiting (fun c => c == x) stOk (dw (wordAt x.aux 2).toNat) s
  else s

/-- Every ABORT that can complete does. -/
def settleAborts (s : State) : State := forEach s.hif.cmds settleAbort s

/-- Whatever waits for a page of channel 0 goes on as far as it can: a page may have come with the walk of any channel. -/
def drainAll (s : State) : State :=
  settleAborts (forEach (s.hif.posts.map fun e => e.qp).eraseDups drainPosts s)

/-! The walk -/

/-- What a walk finds: a leaf (page shift, page address, permissions and the fourth-level table), or a cause. -/
inductive Walked where
  | leaf (shift page perm table : Nat)
  | fails (cause : Nat)
  deriving DecidableEq, Repr

/-- Reserved bits of an entry that must be 0 (Table 13-11). -/
def pteReserved (e : DWord) : Bool := field e 52 12 != 0 || field e 8 4 != 0 || field e 3 4 != 0

/-- Address field of an entry. -/
def pteAddr (e : DWord) : Nat := field e 12 40 * 4096

/-- Walk from a level on, over the entries that the table reads return; a read that returns none is a bus error. -/
def walkFrom (level table : Nat) : List DWord → Walked
  | [] => .fails 5
  | e :: r =>
    let shift := 48 - 9 * level
    let leaf : Bool := level == 4 || ((level == 2 || level == 3) && bit e 7)
    if !bit e 0 then .fails 1
    else if pteReserved e then .fails 3
    else if leaf then
      if pteAddr e % 2 ^ shift ≠ 0 then .fails 3 else .leaf shift (pteAddr e) (field e 0 3) table
    else if level < 4 then walkFrom (level + 1) (pteAddr e) r
    else .fails 3

/-- The channel's walk cache covers address a. -/
def walkCached (s : State) (ch a : Nat) : Option Nat :=
  let x : Nat × Nat := tget (0, 0) s.mem.walk ch
  if x.2 ≠ 0 ∧ x.1 = a / 2 ^ 21 then some x.2 else none

/-- The walk of channel ch for address a, with the permission of its direction. -/
def walkPage (s : State) (ch a : Nat) (wr : Bool) (pte : List DWord) : Walked :=
  if 2 ^ 48 ≤ a then .fails 4
  else
    let w := match walkCached s ch a with
      | some t => walkFrom 4 t pte
      | none => walkFrom 1 (field s.mem.xlatRoot 12 40 * 4096) pte
    match w with
    | .leaf sh page perm t => if permits perm wr then .leaf sh page perm t else .fails 2
    | .fails c => .fails c

/-- Enters a leaf into the TLB, least recently used out, and its table into the walk cache. -/
def tlbFill (ch a sh page perm table : Nat) (s : State) : State :=
  setMem { s.mem with
    tlb := ((a / 2 ^ sh, sh, page, perm) :: s.mem.tlb.filter fun x => !decide (a / 2 ^ x.2.1 = x.1)).take 256
    walk := if sh = 12 then tset (0, 0) s.mem.walk ch (a / 2 ^ 21, table) else s.mem.walk } s

/-! Working buffers (R402, R403) -/

/-- DRAM offset of the working buffer of a plane (Table 13-1). -/
def bufBase (p : Nat) : Nat := if p = 1 then 0x180000000 else 0x1C0000000

/-- Words of a plane's working buffer, from its start. -/
def planeBuf (s : State) (p : Nat) : List Word := if p = 1 then s.mem.bufA else s.mem.bufB

/-- Replaces them. -/
def setPlaneBuf (p : Nat) (l : List Word) (s : State) : State :=
  setMem (if p = 1 then { s.mem with bufA := l } else { s.mem with bufB := l }) s

/-- The planes that execute write words into their working buffers from word n on. -/
def stageWords (n : Nat) (l : List Word) (s : State) : State :=
  forEach ([1, 2].filter fun p => computes (pstat s p)) (fun p t => setPlaneBuf p ((planeBuf t p).take n ++ l) t) s

end Sys2Proof.Machine
end

