-- ==== Sys2Proof/Machine/Record.lean ====
section
/-! DEFINITION. Trigger engines, mask tests and the recorder (10). -/

namespace Sys2Proof.Machine

/-! Mask tests (R339 to R342) -/

/-- Mask test m. -/
def maskOf (p : Plane) (m : Nat) : MaskTest := tget {} p.masks m

/-- Replaces mask test m. -/
def setMask (m : Nat) (t : MaskTest) (p : Plane) : Plane := { p with masks := tset {} p.masks m t }

/-- The live session that names a mask test in its scope (R190, R341). -/
def maskRunner (p : Plane) (m : Nat) : Option Nat := (upTo 128).find? fun n => sessLive p n && inScope p n 8 m

/-- The session that a mask test belongs to: one that is not IDLE and names it in its scope (R339). -/
def maskOwner (p : Plane) (m : Nat) : Option Nat :=
  (upTo 128).find? fun n => sessState p n != 0 && inScope p n 8 m

/-- Blocks of step table memory taken by recipe images and envelopes (R197, R339). -/
def blocksUsed (p : Plane) : Nat :=
  ((p.sess.imgs.filterMap fun x => x.2).map fun i => (i.len + 65535) / 65536).sum
    + (p.masks.filter fun x => x.2.img.isSome).length

/-- Arms a test at the present cut (R342). -/
def maskArm (m : Nat) (p : Plane) : Plane :=
  let t := maskOf p m
  setMask m { t with state := 2, armSn := p.sn, pc := 0, skipped := 0, base := none, vioTau := 0 } p

/-- Disarms a test: one that is armed, has passed or is violated becomes LOADED. -/
def maskDisarm (m : Nat) (p : Plane) : Plane :=
  let t := maskOf p m
  if 2 ≤ t.state then setMask m { t with state := 1 } p else p

/-- Disarms the tests of a session that becomes ABORTING or DONE (R342). -/
def masksOff (n : Nat) (p : Plane) : Plane :=
  forEach (upTo 256) (fun m q => if inScope q n 8 m then maskDisarm m q else q) p

/-- T, LO and HI of point i of an envelope. -/
def ptT (img : List Word) (i : Nat) : Nat := (wordAt img (8 + 4 * i)).toNat
def ptLo (img : List Word) (i : Nat) : Int := (wordAt img (9 + 4 * i)).toInt
def ptHi (img : List Word) (i : Nat) : Int := (wordAt img (10 + 4 * i)).toInt

/-- Number of points. -/
def nPt (img : List Word) : Nat := field (wordAt img 2) 0 12

/-- A limit interpolated at τ between points i and i + 1 (R340). -/
def ptLerp (img : List Word) (v : Nat → Int) (i t : Nat) : Int :=
  let d := ptT img (i + 1) - ptT img i
  rdiv (v i * d + (v (i + 1) - v i) * ((t : Int) - ptT img i)) d

/-- The event of a mask test. -/
def maskEvent (code m hi : Nat) (p : Plane) : Plane :=
  praise (0x170 + m / 16) (word (code + m * 256 + hi % 65536 * 65536)) p

/-- What a violation on the present sample does (R341). -/
def maskViolated (img : List Word) (m tau : Nat) (p : Plane) : Plane :=
  let act := field (wordAt img 4) 8 2
  let trg := field (wordAt img 4) 16 5
  let p1 := maskEvent 1 m tau p
  let p2 := match maskRunner p m with
    | none => p1
    | some n =>
      if act = 1 then { p1 with sess := { p1.sess with maskHold := p1.sess.maskHold ++ [n] } }
      else if act = 2 then setSw n 0 (setBit (sw p1 n 0) 25 true) p1
      else p1
  if trg < 16 then { p2 with trigs := tmod {} p2.trigs trg fun t => { t with maskHit := some m } } else p2

/-- Evaluation of one armed test on the present sample (R340). -/
def maskEval (s : State) (m : Nat) (p : Plane) : Plane :=
  let t := maskOf p m
  match t.img with
  | none => p
  | some img =>
    if t.state ≠ 2 then p
    else
      let tau := (p.sn - t.armSn).toNat
      let last := nPt img - 1
      if ptT img last ≤ tau then maskEvent 2 m 0 (setMask m { t with state := 4 } p)
      else
        let i := ((upTo last).filter fun k => decide (ptT img k ≤ tau)).length - 1
        let w3 := wordAt img 3
        let x := signalOf s p (field w3 28 4) (field w3 12 4) (field w3 0 12)
        if x.2 then setMask m { t with skipped := satAdd 0xFFFF t.skipped 1 } p
        else
          let rel := bit (wordAt img 4) 0
          let base := if rel then some (t.base.getD x.1) else t.base
          let v := if rel then x.1.toInt - (base.getD 0).toInt else x.1.toInt
          if v < ptLerp img (ptLo img) i tau ∨ ptLerp img (ptHi img) i tau < v then
            if field (wordAt img 4) 24 8 ≤ t.pc then
              maskViolated img m tau (setMask m { t with base := base, state := 3, vioTau := tau, vioSn := p.sn } p)
            else setMask m { t with base := base, pc := t.pc + 1 } p
          else setMask m { t with base := base, pc := 0 } p

/-- Every armed test, in ascending order. -/
def masksEval (s : State) (p : Plane) : Plane := forEach (p.masks.map fun x => x.1) (maskEval s) p

/-! Trigger engines (R333 to R338) -/

/-- Engine e. -/
def trigOf (p : Plane) (e : Nat) : Trig := tget {} p.trigs e

/-- Replaces engine e. -/
def setTrig (e : Nat) (t : Trig) (p : Plane) : Plane := { p with trigs := tset {} p.trigs e t }

/-- Slots per record and records that the range holds (R334). -/
def trigK (t : Trig) : Nat := (t.sigs.length + 2) / 2
def trigC (t : Trig) : Nat := t.len / trigK t

/-- Event of an engine. -/
def trigEvent (e d : Nat) (p : Plane) : Plane := praise (0x160 + e) (word d) p

/-- FILLING passes to ARMED after PRE ticks (R335). -/
def trigArm (e : Nat) (p : Plane) : Plane :=
  let t := trigOf p e
  if t.state = 1 ∧ t.pre ≤ t.n then trigEvent e 1 (setTrig e { t with state := 2 } p) else p

/-- TRIGGERED passes to DONE after the record of g + POST - 1 (R335). -/
def trigDone (e : Nat) (p : Plane) : Plane :=
  let t := trigOf p e
  if t.state = 3 ∧ t.post ≤ t.sinceG then trigEvent e 3 (setTrig e { t with state := 4 } p) else p

/-- The words of one tick's record (R334). -/
def trigWords (t : Trig) (p : Plane) : List Word :=
  let loop := fun (x : Nat) => 64 * t.booth + x % 64
  let st := ((t.sigs.zipIdx).map fun x => if relStale p (loop x.1) then 2 ^ x.2 else 0).sum
  word (field p.sn 0 16 * 65536 + st) :: t.sigs.map fun x => relSignal p (loop x) (x / 64)

/-- Writes the record of the present tick; r counts the ticks since START (R334). -/
def trigWrite (e : Nat) (p : Plane) : Plane :=
  let t := trigOf p e
  let ws := trigWords t p
  let r := t.n % trigC t
  let p1 := forEach (upTo (trigK t)) (fun i q =>
    setCapt t.booth (t.base + trigK t * r + i) (wordAt ws (2 * i), wordAt ws (2 * i + 1)) q) p
  setTrig e { t with due := false, n := t.n + 1, sinceG := if t.state = 3 then t.sinceG + 1 else t.sinceG } p1

/-- The record of the present tick, where it is due: it is written when every result of the tick is there (R173). -/
def trigWriteDue (e : Nat) (p : Plane) : Plane := if (trigOf p e).due then trigWrite e p else p

/-- The engine's own condition on the present sample, and the value kept for the next (R336). -/
def trigCond (s : State) (t : Trig) (p : Plane) : Bool × Option Word :=
  if t.cond = 1 ∨ t.cond = 2 then
    if relStale p t.index || firedLate p t.index then (false, t.prev)
    else
      let x := relSignal p t.index t.sel
      match t.prev with
      | none => (false, some x)
      | some o =>
        (if t.cond = 1 then decide (o.toInt ≤ t.level.toInt ∧ t.level.toInt < x.toInt)
         else decide (t.level.toInt ≤ o.toInt ∧ x.toInt < t.level.toInt), some x)
  else if t.cond = 3 ∨ t.cond = 4 then
    let g := gpLevel s t.index
    match t.prev with
    | none => (false, some (word g.toNat))
    | some o => (decide (o.toNat ≠ g.toNat) && g == (t.cond == 3), some (word g.toNat))
  else if t.cond = 5 then
    (p.sess.committed.contains t.index && (t.step == 0xFFF || field (sw p t.index 0) 0 12 == t.step), none)
  else (false, none)

/-- One engine on the present sample: its record falls due, and its trigger or stop is decided (R335 to R337). -/
def trigEval (s : State) (e : Nat) (p : Plane) : Plane :=
  let t := trigOf p e
  let clear := fun (x : Trig) => { x with force := false, maskHit := none }
  if t.state = 0 ∨ t.state = 4 then setTrig e (clear t) p
  else
    let (hit, prev) := trigCond s t p
    let cause := if hit then 1 else if t.maskHit.isSome then 2 else if t.force then 3 else 0
    let t1 := clear { t with prev := prev, due := true }
    if t.state = 1 then
      setTrig e { t1 with missed := t.missed + (if hit then 1 else 0) + (if t.maskHit.isSome then 1 else 0) } p
    else if t.state = 2 then
      if cause = 0 then setTrig e t1 p
      else
        let first := t.base + trigK t * ((t.n - t.pre) % trigC t)
        trigEvent e (2 + cause * 256 + field p.sn 0 16 * 65536)
          (setTrig e { t1 with state := 3, g := p.sn, sinceG := 0, first := first } p)
    else
      match t.maskHit with
      | some m => trigEvent e (4 + m * 256) (setTrig e { t1 with state := 4, stopped := true } p)
      | none => setTrig e t1 p

/-- Every engine. -/
def trigsEval (s : State) (p : Plane) : Plane := forEach (upTo 16) (trigEval s) p

/-- At the end of a sample every engine has written its record, and one whose window is complete is DONE (R335). -/
def trigsSettle (p : Plane) : Plane := forEach (upTo 16) (fun e q => trigDone e (trigWriteDue e q)) p

/-- At a cut, an engine that has filled PRE ticks is ARMED (R335). -/
def trigsArm (p : Plane) : Plane := forEach (upTo 16) trigArm p

/-- Every engine becomes IDLE (R338). -/
def trigsIdle (p : Plane) : Plane :=
  forEach (upTo 16) (fun e q => setTrig e { trigOf q e with state := 0, maskHit := none, force := false, due := false } q) p

/-! Records (R324 to R327) -/

/-- Record length in bytes. -/
def recBytes (r : Rec) : Nat := 4 * r.words.length
def recsBytes (l : List Rec) : Nat := (l.map recBytes).sum

/-- Size of the staging buffer and of the record ring (R329, R402). -/
def stagingSize : Nat := 524288
def ringSize : Nat := 6442450944

/-- CRC-32C over every byte of a record but those of word k. -/
def recCrc (ws : List Word) (k : Nat) : Word := crc32c (bytesOf (ws.take k ++ ws.drop (k + 1)))

/-- A record from its type, flags, sequence number, body and the place of its CRC. -/
def mkRec (type flags : Nat) (seq a b : Word) (body : List Word) (k : Nat) : Rec :=
  let n := body.length + 2
  let ws := word (type * 2 ^ 24 + flags * 65536 + n / 2) :: seq :: body
  { seq := seq, snFirst := a, snLast := b, words := ws.set k (recCrc ws k) }

/-- A gap record (R327). -/
def gapRec (seq a b : Word) (n cause : Nat) (sw_ : Bool) : Rec := mkRec 4 sw_.toNat seq a b [a, b, word n, word cause, 0, 0] 7

/-- A switch-over fell within the record's ticks (Table 10-1). -/
def recSwitch (x : Rec) : Bool := bit (wordAt x.words 0) 16

/-- Changes the recorder. -/
def onRec (f : Recorder → Recorder) (s : State) : State := { s with recorder := f s.recorder }

/-- Records of the ring that the stream has not copied (R331). -/
def unread (r : Recorder) : List Rec :=
  if r.stream.run then r.ring.filter fun x => !snLater r.stream.nextSeq x.seq else []

/-- The earlier, and the later, of two ticks. -/
def snFirst (a b : Word) : Word := if snLater a b then b else a
def snLast (a b : Word) : Word := if snLater b a then b else a

/-- A record that cannot be staged is lost (R329, R331); the first of a gap is reported. -/
def loseStaged (cause : Nat) (a b : Word) (sw_ : Bool) (s : State) : State :=
  let r := s.recorder
  let g := match r.gap with
    | some (f, l, n, c, w) => some (snFirst f a, snLast l b, n + 1, c, w || sw_)
    | none => some (a, b, 1, cause, sw_)
  let s1 := onRec (fun q => { q with gap := g, lost := q.lost + 1 }) s
  if r.gap.isNone then raise 0x1F0 (1 + cause * 256) s1 else s1

/-- A record lost before it was staged takes its SEQ with it. -/
def loseRec (cause : Nat) (a b : Word) (sw_ : Bool) (s : State) : State :=
  onRec (fun q => { q with seq := q.seq + 1 }) (loseStaged cause a b sw_ s)

/-- Why n bytes more cannot be staged: 1 staging full, 2 ring full in MODE STOP. -/
def noRoom (r : Recorder) (n : Nat) : Option Nat :=
  if stagingSize < recsBytes r.staging - r.moved + n then some 1
  else if r.stream.run && r.stream.stopMode && decide (ringSize < recsBytes (unread r) + recsBytes r.staging + n) then some 2
  else none

/-- Appends a record to the staging buffer. -/
def pushRec (x : Rec) (s : State) : State :=
  onRec (fun r =>
    let st := r.staging ++ [x]
    { r with staging := st, seq := r.seq + 1, peak := max r.peak (recsBytes st - r.moved) }) s

/-- Stages the pending gap record as soon as there is room; a snapshot follows it (R325, R329). -/
def stageGap (s : State) : State :=
  match s.recorder.gap with
  | none => s
  | some (a, b, n, c, w) =>
    if (noRoom s.recorder 32).isSome then s
    else onRec (fun r => { r with gap := none, snapshotDue := true }) (pushRec (gapRec s.recorder.seq a b n c w) s)

/-- Stages a record, or loses it. -/
def stageRec (type flags : Nat) (a b : Word) (body : List Word) (k : Nat) (s : State) : State :=
  let s1 := stageGap s
  let x := mkRec type flags s1.recorder.seq a b body k
  match noRoom s1.recorder (recBytes x) with
  | some c => loseRec c a b (recSwitch x) s1
  | none => pushRec x s1

/-! Digital points (R319, R325) -/

/-- Entries of the digital modules among a station's modules, from entry e on. -/
def digitalEntries (out : Bool) : List (Nat × Nat × Nat) → Nat → List Nat
  | [], _ => []
  | m :: r, e =>
    let n := if m.1 = 3 then 0 else if out then m.2.1 else m.2.2
    (if m.1 = 1 then (upTo n).map (e + ·) else []) ++ digitalEntries out r (e + n)

/-- The digital point words of the present tick by POINT, with their STALE bit. -/
def pointWords (s : State) : Tab (Word × Bool) :=
  let st := s.field.stations.filter fun x => x.2.en
  let ins := (st.map fun x => digitalEntries false x.2.mods x.2.inBase).flatten
  let outs := (st.map fun x => digitalEntries true x.2.mods x.2.outBase).flatten
  let gp := (upTo 4).map fun w => (0x2000 + w, word (((upTo 32).map fun i => if gpLevel s (32 * w + i) then 2 ^ i else 0).sum), false)
  let sto := word (((upTo 8).map fun k =>
    (if tget false s.planeA.safe.lines k then 2 ^ (2 * k) else 0)
      + (if tget false s.planeB.safe.lines k then 2 ^ (2 * k + 1) else 0)).sum)
  let t1 := ins.foldl (fun t e => tput (tdel t e) e (inEntryT0 s e, entryMissing s e)) []
  let t2 := outs.foldl (fun t e => tput (tdel t (0x1000 + e)) (0x1000 + e) (tget 0 s.outs.st e, false)) t1
  t2 ++ gp ++ [(0x2004, sto, false)]

/-- Words of an edge record's entries. -/
def edgeWords (l : List (Nat × Word × Bool × Word)) : List Word :=
  (l.map fun x => [word ((if x.2.2.1 then 2 ^ 31 else 0) + x.1), 0, x.2.2.2, x.2.1]).flatten

/-- A list in pieces of at most 256. -/
def chunks (n : Nat) : Nat → List α → List (List α)
  | 0, _ => []
  | _, [] => []
  | k + 1, l => l.take n :: chunks n k (l.drop n)

/-- Edge records of the tick n: every changed word, or every word in a snapshot (R325). -/
def edgeTick (sw_ : Bool) (n : Word) (cur : Tab (Word × Bool)) (s : State) : State :=
  let snap := s.recorder.snapshotDue
  let l := cur.filterMap fun x =>
    let o := tget 0 s.recorder.points x.1
    if snap then some (x.1, x.2.1, x.2.2, (0xFFFFFFFF : Word))
    else if o = x.2.1 then none else some (x.1, x.2.1, x.2.2, o ^^^ x.2.1)
  let s1 := onRec (fun r => { r with snapshotDue := false, points := cur.foldl (fun t x => tset 0 t x.1 x.2.1) [] }) s
  if !s.recorder.edges then s1
  else forEach (chunks 256 (l.length + 1) l) (fun g t =>
    stageRec 2 (sw_.toNat + 4 * snap.toNat) n n ([n, word g.length, 0, 0, 0, 0] ++ edgeWords g) 7 t) s1

/-! Interval records (R321 to R324) -/

/-- Recording of booth b. -/
def boothRec (s : State) (b : Nat) : BoothRec := tget {} s.recorder.booths b

/-- Replaces the recording of booth b. -/
def setBoothRec (b : Nat) (v : BoothRec) (s : State) : State :=
  onRec (fun r => { r with booths := tset {} r.booths b v }) s

/-- The mask of the slots of booth b that satisfy f. -/
def slotMask (b : Nat) (f : Nat → Bool) : Nat :=
  ((upTo 64).map fun i => if f (64 * b + i) then 2 ^ i else 0).sum

/-- Bitwise or of two masks. -/
def orMask (a b : Nat) : Nat := a ||| b

/-- One tick n of a booth's interval (R322, R323): k is the plane that supplies it, p its content. -/
def boothTick (sw_ : Bool) (n : Word) (k : Nat) (p : Plane) (b : Nat) (s : State) : State :=
  let x := boothRec s b
  if x.intv = 0 then s
  else
    let now := fun l => p.fab.relNow.contains l
    let y := if x.isOpen then x else { intv := x.intv, isOpen := true, sn0 := n }
    let mm := (upTo 256).foldl (fun t i =>
      let l := 64 * b + i / 4
      let v := if configured p l then relSignal p l (i % 4) else 0
      let lo := tget 0 t (2 * i)
      let hi := tget 0 t (2 * i + 1)
      if x.isOpen then tset 0 (tset 0 t (2 * i) (if v.toInt < lo.toInt then v else lo)) (2 * i + 1) (if hi.toInt < v.toInt then v else hi)
      else tset 0 (tset 0 t (2 * i) v) (2 * i + 1) v) y.minmax
    setBoothRec b { y with
      nTick := y.nTick + 1
      exec := orMask y.exec (slotMask b now)
      stale := orMask y.stale (slotMask b fun l => now l && relStale p l)
      fenced := orMask y.fenced (slotMask b fun l => now l && qual p l 4)
      planes := orMask y.planes k
      switch := y.switch || sw_
      minmax := mm } s

/-- The words of a 64-bit mask. -/
def maskWords (m : Nat) : List Word := [word m, word (m / 2 ^ 32)]

/-- Closes the open interval of booth b with its record. -/
def closeInterval (partial_ : Bool) (b : Nat) (s : State) : State :=
  let x := boothRec s b
  if !x.isOpen then s
  else
    let conf := slotMask b (configured (actPlane s))
    let body := [x.sn0, word (b * 2 ^ 28 + x.nTick)] ++ maskWords x.exec ++ maskWords x.stale ++ maskWords x.fenced
      ++ maskWords conf ++ [word x.planes, 0, 0, 0] ++ (upTo 512).map fun i => tget 0 x.minmax i
    stageRec 1 (x.switch.toNat + 2 * partial_.toNat) x.sn0 (x.sn0 + word x.nTick - 1) body 15
      (setBoothRec b { intv := x.intv } s)

/-- The interval of booth b is complete. -/
def intervalDue (s : State) (b : Nat) : Bool :=
  let x := boothRec s b
  x.isOpen && decide (x.intv ≤ x.nTick)

/-- Closes the complete intervals of booths 0 to n - 1. -/
def closeDue (n : Nat) (s : State) : State :=
  forEach (upTo n) (fun b t => if intervalDue t b then closeInterval false b t else t) s

/-- REC_CONFIG takes effect: the edges on or off, or a new interval for a booth. -/
def setRecording (b n : Nat) (s : State) : State :=
  if b = 16 then onRec (fun r => { r with edges := n == 1 }) s
  else setBoothRec b { intv := n } (closeInterval true b s)

/-- The REC_CONFIGs that committed at or before tick n take effect before its sample. -/
def cfgBefore (n : Word) (s : State) : State :=
  let now := s.recorder.cfgDue.filter fun x => !snLater x.2.2 n
  forEach now (fun x t => setRecording x.1 x.2.1 t)
    (onRec (fun r => { r with cfgDue := r.cfgDue.filter fun x => snLater x.2.2 n }) s)

/-- The plane that the present sample is written from, and whether a switch-over covers it: while one is carried out, the
samples before the first unvouched one still come from the old plane (R328, 11 R363). -/
def recPlane (s : State) : Nat × Bool :=
  match s.ump.sw with
  | some x => if snLater x.firstBad s.sn then (x.old, false) else (otherPlane x.old, true)
  | none => (readNo s, s.recorder.switch)

/-- Writes the time record that is due (R326), as plane k supplies it. -/
def timeRecordOf (k : Nat) (sw_ : Bool) (s : State) : State :=
  match s.recorder.timeDue with
  | none => s
  | some n =>
    let t := tnsAt s n
    stageRec 3 sw_.toNat n n [n, 0, loWord t, hiWord t, word k, 0] 7 (onRec (fun r => { r with timeDue := none }) s)

/-- The same for the present sample. -/
def timeRecord (s : State) : State := timeRecordOf (recPlane s).1 (recPlane s).2 s

/-- Records one sample, as it stood, from plane k. -/
def recSample (sw_ : Bool) (k : Nat) (h : HeldTick) (s : State) : State :=
  forEach (upTo 16) (fun b t => boothTick sw_ h.sn k (if k = 1 then h.planeA else h.planeB) b t) (edgeTick sw_ h.sn h.points s)

/-- The present sample. -/
def sampleNow (s : State) : HeldTick := { sn := s.sn, planeA := s.planeA, planeB := s.planeB, points := pointWords s }

/-- The present sample is taken once, from the plane in force; during a check roll it is held (R328). -/
def recTick (s : State) : State :=
  let r := s.recorder
  if !r.running || r.taken || r.stopDue then s
  else
    let s1 := onRec (fun q => { q with taken := true }) s
    if s.ump.roll.isSome then { s1 with recHeld := s1.recHeld ++ [sampleNow s] }
    else recSample (recPlane s).2 (recPlane s).1 (sampleNow s) s1

/-- Recording stops: open intervals close PARTIAL (R320). -/
def recHalt (s : State) : State :=
  if !s.recorder.running then s
  else
    let s1 := forEach (upTo 16) (fun b t => if intervalDue t b then closeInterval false b t else closeInterval true b t) s
    raise 0x1F0 4 (onRec (fun r => { r with running := false, stopDue := false, cfgDue := [] }) s1)

/-- A held sample is recorded, behind the configurations that committed before it, and the time record of its tick. -/
def recHeldTick (switched : Bool) (k : Nat) (h : HeldTick) (s : State) : State :=
  let s1 := closeDue 16 (recSample switched k h (cfgBefore h.sn s))
  match s1.recorder.timeDue with
  | some n => if snLater n h.sn then s1 else timeRecordOf k switched s1
  | none => s1

/-- The umpire has decided: the held samples are recorded from plane k, marked where it took over. -/
def recDecide (switched : Bool) (k : Nat) (s : State) : State :=
  let s1 := cfgBefore s.sn (forEach s.recHeld (recHeldTick switched k) { s with recHeld := [] })
  if s1.recorder.stopDue then recHalt s1 else s1

/-- Whatever the recorder still owes for the sample before a cut; while samples are held, their records come first. -/
def recFlush (s : State) : State :=
  if s.recorder.running then
    let s1 := closeDue 16 (recTick s)
    if s1.recHeld.isEmpty then timeRecord s1 else s1
  else s

/-- Recording starts at a cut: fresh grids, a time record and a snapshot (R320, R325, R326). -/
def recStart (s : State) : State :=
  let again := s.recorder.started
  let s1 := onRec (fun r => { r with
    running := true, started := true, ticks := 0, timeDue := some s.sn, snapshotDue := true, taken := false
    booths := r.booths.map fun x => (x.1, { intv := x.2.intv }) }) s
  if again then raise 0x1F0 5 s1 else s1

/-- Recording begins where it does not run (R320). -/
def recBegin (s : State) : State := if s.recorder.running || s.mem.dram == 2 then s else recStart s

/-- The recorder's part of an input cut, after `recFlush`: it starts in READY and RUN, and its ticks count. -/
def recCut (s : State) : State :=
  if !s.recorder.running then
    if s.dev == .ready || s.dev == .run then recBegin s else s
  else
    onRec (fun r =>
      let n := r.ticks + 1
      { r with ticks := n, taken := false, switch := false, timeDue := if n % 100000 = 0 then some s.sn else r.timeDue }) s

/-- Recording stops; the samples that a check roll holds are recorded first, once it has decided (R320, R328,
log entry 108). -/
def recStop (s : State) : State :=
  if s.recHeld.isEmpty then recHalt s else onRec (fun r => { r with stopDue := true }) s


/-! The ring (R329, R331) -/

/-- The stream gives the record under way up: what of it is copied is taken back (log entry 102). -/
def streamBack (t : Stream) : Stream := { t with tail := t.tail - t.off, off := 0, fetched := 0 }

/-- The oldest records leave a full ring; unread ones are dropped from the stream, and a snapshot will follow their gap
record (R325, R331). Where a record goes of which a part is copied, the stream goes back to its start, so that the gap
record takes its place (log entry 102). -/
def ringTrim : Nat → Recorder → Recorder
  | 0, r => r
  | k + 1, r =>
    match r.ring with
    | [] => r
    | x :: rest =>
      if recsBytes r.ring + r.moved ≤ ringSize then r
      else
        let isUnread : Bool := r.stream.run && !snLater r.stream.nextSeq x.seq
        let r1 := { r with ring := rest }
        ringTrim k (if isUnread then
          { r1 with
            lost := r1.lost + 1
            snapshotDue := true
            stream := { streamBack r1.stream with
              nextSeq := x.seq + 1
              drop := match r1.stream.drop with
                | some (q, a, b, n, w) => some (q, snFirst a x.snFirst, snLast b x.snLast, n + 1, w || recSwitch x)
                | none => some (x.seq, x.snFirst, x.snLast, 1, recSwitch x) } }
        else r1)

/-- Source 0x1F0 code 0x02 when unread records pass three quarters of the ring (R331). -/
def ringLevel (s : State) : State :=
  let u := recsBytes (unread s.recorder)
  if s.recorder.stream.above75 then
    if 2 * u < ringSize then onRec (fun r => { r with stream := { r.stream with above75 := false } }) s else s
  else if 3 * ringSize < 4 * u then
    raise 0x1F0 2 (onRec (fun r => { r with stream := { r.stream with above75 := true } }) s)
  else s

/-- Records whose writing is complete enter the ring. -/
def ringTake : Nat → Recorder → Recorder
  | 0, r => r
  | k + 1, r =>
    match r.staging with
    | [] => { r with moved := 0 }
    | x :: rest =>
      if recBytes x ≤ r.moved then
        ringTake k { r with
          staging := rest, moved := r.moved - recBytes x, written := r.written + 1
          ring := r.ring ++ [{ x with off := (r.pos + ringSize - r.moved) % ringSize }] }
      else r

/-- In MODE STOP a staged record that would overwrite unread ones is lost (R331). -/
def stopStaged : Nat → State → State
  | 0, s => s
  | k + 1, s =>
    match s.recorder.staging with
    | [] => s
    | x :: rest =>
      let r := s.recorder
      if r.stream.run && r.stream.stopMode && r.moved == 0 && decide (ringSize < recsBytes (unread r) + recBytes x) then
        stopStaged k (loseStaged 2 x.snFirst x.snLast (recSwitch x) (onRec (fun q => { q with staging := rest }) s))
      else s

/-- Bytes that the next burst of the recorder writes: up to the next 256-byte boundary (13 R408). -/
def ringBytes (r : Recorder) : Nat := min (256 - r.pos % 256) (recsBytes r.staging - r.moved)

/-- DRAM bytes a to a + n - 1 are written: they read without error again. -/
def mendDram (a n : Nat) (s : State) : State :=
  setMem { s.mem with bad := s.mem.bad.flatMap fun x =>
    [(x.1, min x.2 a), (max x.1 (a + n), x.2)].filter fun y => decide (y.1 < y.2) } s

/-- One burst of staging into the ring. -/
def ringBurst (s0 : State) : State :=
  let s := stopStaged s0.recorder.staging.length s0
  let r := s.recorder
  let n := ringBytes r
  let r1 := ringTake (r.staging.length + 1) { r with moved := r.moved + n, pos := (r.pos + n) % ringSize }
  let r2 := ringTrim r1.ring.length r1
  let s1 := { mendDram r.pos n s with recorder := r2 }
  let s2 := if r.lost < r2.lost ∧ r.stream.drop.isNone then raise 0x1F0 (1 + 1 * 256) s1 else s1
  ringLevel (stageGap s2)

/-- DRAM bytes a to a + n - 1 hold some that cannot be corrected. -/
def dramBad (s : State) (a n : Nat) : Bool := s.mem.bad.any fun x => decide (x.1 < a + n ∧ a < x.2)

/-- The copy of a record that the host gets (R327). -/
def copyOf (s : State) (x : Rec) : Rec :=
  if x.bad || dramBad s x.off (recBytes x) then gapRec x.seq x.snFirst x.snLast 1 3 (recSwitch x) else x

/-! The stream (R330) -/

/-- Words of the status block. -/
def statusWords (s : State) : List Word :=
  let t := s.recorder.stream
  [word t.tail, t.lastSeq, word s.recorder.lost, word ((t.run && !t.err).toNat + 2 * t.err.toNat)]

/-- Changes the stream. -/
def onStream (f : Stream → Stream) (s : State) : State := onRec (fun r => { r with stream := f r.stream }) s

/-- CH1 stops (R419, Table 13-7) at host address a; it stays STOPPED until the next REC_STREAM, whose command it serves (log
entry 121). -/
def streamHalt (cause a : Nat) (s : State) : State :=
  raise 0x1F0 3 (raise 0x1E5 (3 + 1 * 256 + cause * 65536)
    (setDmaCh 1 { dmaCh s 1 with state := 3, cause := cause, faultVa := a, walk := false }
      (onStream (fun t => { streamBack t with run := false, err := true }) s)))

/-- An access of CH1 at a falls outside the windows (R425). -/
def streamOutside (a : Nat) (s : State) : State :=
  streamHalt 6 a (logF6 3 2 1 0xFFFFFFFF 0 (word a) (raise 0x1E3 (1 + 1 * 256) (countMem 6 s)))

/-- CH1 misses the TLB at a. -/
def streamMiss (a : Nat) (wr : Bool) (s : State) : State := tlbMiss 1 (onStream (fun t => { t with va := a, vaWr := wr }) s)

/-- CH1 is suspended at a (R419, R423). -/
def streamFault (cause a : Nat) (wr : Bool) (s : State) : State :=
  raise 0x1F0 3 (suspend 1 cause a (onStream (fun t => { t with err := true, va := a, vaWr := wr }) s))

/-- Writes the status block, which passes the same checks as every burst of CH1 (R420, R425); it waits where its page does. -/
def streamStatus (s0 : State) : State :=
  let s := onStream (fun t => { t with statusDue := false }) s0
  let a := s.recorder.stream.statusAddr
  if !inWindow s true a 16 then (if s.recorder.stream.run then streamOutside a s else s)
  else match translate s true a with
    | .ready => hostWrite (busOf s a) (bytesOf (statusWords s)) (tlbTouch a s)
    | .miss => streamMiss a true (onStream (fun t => { t with statusDue := true }) s)
    | .fails c => if (dmaCh s 1).state = 2 then s else streamFault c a true s

/-- The stream stops on an error of CH1. -/
def streamFail (cause a : Nat) (s : State) : State := streamStatus (streamHalt cause a s)

/-- CH1 is suspended by a translation fault: the stream waits for a resumption. -/
def streamSuspend (cause a : Nat) (wr : Bool) (s : State) : State := streamStatus (streamFault cause a wr s)

/-- The record that the stream copies next, as it stands in the ring: the gap of dropped ones, or the first unread. -/
def streamNext (s : State) : Option Rec :=
  match s.recorder.stream.drop with
  | some (q, a, b, n, w) => some (gapRec q a b n s.recorder.stream.dropCause w)
  | none => (unread s.recorder).head?.map fun x => if x.bad then gapRec x.seq x.snFirst x.snLast 1 3 (recSwitch x) else x

/-- The record that DMA_RD bursts read for the stream: the first unread one, until the whole of it is read. -/
def streamReads (s : State) : Option Rec :=
  let t := s.recorder.stream
  if !t.run || t.drop.isSome then none
  else (unread s.recorder).head?.bind fun x => if x.bad || decide (recBytes x ≤ t.fetched) then none else some x

/-- The stream has a burst ready: its record is read from DRAM in full, since a record that fails there goes out as a gap
record (R327, log entry 120). -/
def streamReady (s : State) : Bool :=
  s.recorder.stream.run && (dmaCh s 1).state == 0 && !(dmaCh s 1).walk && (streamReads s).isNone && (streamNext s).isSome

/-- Bytes of the host ring that the device may write: all but one unit of what the host has released. -/
def streamFree (t : Stream) (head : Nat) : Nat := (head + t.size - t.tail - 8) % t.size

/-- An access of CH1 to address a passes the window check and the translation, or the stream waits or stops
(R419, R423, R425). -/
def streamGuard (wr : Bool) (a n : Nat) (s : State) (k : State → State) : State :=
  if (dmaCh s 1).walk || (dmaCh s 1).state == 2 then s
  else if !inWindow s wr a n then streamStatus (streamOutside a s)
  else
    match translate s wr a with
    | .ready => k (tlbTouch a s)
    | .miss => match failedAt (dmaCh s 1) a with
      | some c => streamSuspend c a wr (setDmaCh 1 { dmaCh s 1 with failed := none } s)
      | none => streamMiss a wr s
    | .fails c => streamSuspend c a wr s

/-- The ring's copy of a record cannot be corrected, so that a gap record of cause 0x03 goes out for it (R327). -/
def inRingBad (s : State) (q : Word) : Bool := s.recorder.ring.any fun x => x.seq == q && x.bad

/-- One burst of the record under way; the loss of an uncorrectable record is reported with its gap record (R343). -/
def streamCopy (x : Rec) (s0 : State) (head : Nat) : State :=
  let t := s0.recorder.stream
  let a := t.addr + t.tail
  let n := min (min 256 (256 - a % 256)) (recBytes x - t.off)
  if streamFree t head < n then s0
  else streamGuard true a n s0 fun s =>
    let s1 := stally 0x91 1 (hostWrite (busOf s a) (((bytesOf x.words).drop t.off).take n) s)
    let done : Bool := t.off + n == recBytes x
    let s2 := onStream (fun y => { y with
      tail := (y.tail + n) % y.size
      off := if done then 0 else y.off + n
      fetched := if done then 0 else y.fetched
      lastSeq := if done then x.seq else y.lastSeq
      nextSeq := if done ∧ y.drop.isNone then x.seq + 1 else y.nextSeq
      drop := if done then none else y.drop
      dropCause := if done then 1 else y.dropCause
      run := if done ∧ y.stopReq then false else y.run }) (setDmaCh 1 { dmaCh s1 1 with retries := 0 } s1)
    let s3 := if done && inRingBad s x.seq then
      raise 0x1F0 (1 + 3 * 256) (onRec (fun r => { r with snapshotDue := true }) s2) else s2
    ringLevel (streamStatus s3)

/-- The stream's part of a burst boundary: head is the read offset found at HEAD_ADDR, which is read first (R330). -/
def streamStep (head : Nat) (s0 : State) : State :=
  streamGuard false s0.recorder.stream.headAddr 4 s0 fun s =>
    let t := s.recorder.stream
    match streamNext s with
    | none => s
    | some x =>
      let left := t.size - t.tail
      if t.off = 0 ∧ left < recBytes x then
        if streamFree t head < left then s
        else streamGuard true (t.addr + t.tail) 8 s fun u => streamStatus (onStream (fun y => { y with tail := 0 })
          (hostWrite (busOf u (t.addr + t.tail)) (bytesOf [word (left / 8), 0]) u))
      else streamCopy x s head

/-- Records lost as one: first SEQ, first and last tick, count, and whether a switch-over fell within them. -/
def spanOf : List Rec → Option (Word × Word × Word × Nat × Bool)
  | [] => none
  | x :: r => some (r.foldl (fun g y => (g.1, snFirst g.2.1 y.snFirst, snLast g.2.2.1 y.snLast, g.2.2.2.1 + 1, g.2.2.2.2 || recSwitch y))
      (x.seq, x.snFirst, x.snLast, 1, recSwitch x))

/-- Two such spans as one. -/
def joinSpan (a b : Option (Word × Word × Word × Nat × Bool)) : Option (Word × Word × Word × Nat × Bool) :=
  match a, b with
  | none, b => b
  | a, none => a
  | some x, some y => some (x.1, snFirst x.2.1 y.2.1, snLast x.2.2.1 y.2.2.1, x.2.2.2.1 + y.2.2.2.1, x.2.2.2.2 || y.2.2.2.2)

/-- The DRAM is declared lost (13 R407): recording stops, what stood in the ring and in staging is lost, and a gap
record of cause 0x03 goes from the staging buffer to the host ring if a stream runs; it stands for records that were
dropped before too. -/
def recLost (s : State) : State :=
  let s1 := recHalt s
  let gone := (if s1.recorder.stream.run then unread s1.recorder else s1.recorder.ring) ++ s1.recorder.staging
  let s2 := if gone.isEmpty then s1 else raise 0x1F0 (1 + 3 * 256) s1
  let gap := (joinSpan s1.recorder.stream.drop (spanOf gone)).getD (s1.recorder.seq, s.sn, s.sn, 0, false)
  onRec (fun r => { r with
    ring := [], staging := [], moved := 0, lost := r.lost + gone.length
    stream := if r.stream.run then { streamBack r.stream with drop := some gap, dropCause := 3 } else r.stream }) s2

/-! Commands (R344) -/

/-- REC_CONFIG; during a check roll it waits behind the samples held for the verdict (R321, R328). -/
def opRecConfig (c : Sub) (s : State) : OpOut :=
  let n := (par c 0).toNat
  if (c.target = 16 ∧ 1 < n) ∨ 100000 < n then failSt stBadParam s
  else if s.recHeld.isEmpty then okSn (setRecording c.target n s)
  else okSn (onRec (fun r => { r with cfgDue := r.cfgDue ++ [(c.target, n, s.sn)] }) s)

/-- Sequence number of the oldest record in the ring, while it holds one. -/
def oldestSeq (s : State) : Option Word := s.recorder.ring.head?.map fun x => x.seq

/-- The record of a sequence number stands in the ring. -/
def inRing (s : State) (q : Word) : Bool := s.recorder.ring.any fun x => x.seq == q

/-- A result that names the oldest SEQ; while the ring is empty it is free (log entry 2). -/
def oldestFail (s : State) : OpOut :=
  match oldestSeq s with
  | some q => .done stNotInState (dw (q.toNat * 2 ^ 32)) s
  | none => let (v, s1) := takeFree s
    .done stNotInState (dw (v.toNat / 2 ^ 32 * 2 ^ 32)) s1

/-- REC_STREAM START 0: the stream ends after the record in progress. -/
def stopStream (s : State) : State :=
  if s.recorder.stream.off = 0 then streamStatus (setDmaCh 1 {} (onStream (fun t => { t with run := false }) s))
  else onStream (fun t => { t with stopReq := true }) s

/-- REC_STREAM. -/
def opRecStream (c : Sub) (s : State) : OpOut :=
  let a := addrAt c 0
  let size := (par c 2).toNat
  let head := addrAt c 3
  let stat := addrAt c 5
  let nxt := match s.recorder.staging with
    | x :: _ => x.seq
    | [] => s.recorder.seq
  let first := if bit (par c 7) 2 then nxt else par c 8
  if s.mem.dram = 2 && !bit (par c 7) 0 then failSt stNotInState s
  else if !bit (par c 7) 0 then
    let s1 := stopStream s
    .done stOk (dword s.sn s.recorder.stream.nextSeq) s1
  else if a % 8 ≠ 0 ∨ size < 65536 ∨ 1073741824 < size ∨ size % 4096 ≠ 0 then failSt stBadParam s
  else if !inWindow s true a size then badWindow 0x91 c a s
  else if !inWindow s false head 4 then badWindow 0x91 c head s
  else if !inWindow s true stat 16 then badWindow 0x91 c stat s
  else if s.mem.dram = 2 then failSt stNotInState s
  else if !bit (par c 7) 2 && !inRing s first then oldestFail s
  else
    .done stOk (dword s.sn first) (onStream (fun t => { t with
      run := true, addr := a, size := size, headAddr := head, statusAddr := stat, stopMode := bit (par c 7) 1
      tail := 0, nextSeq := first, err := false, above75 := false, off := 0, stopReq := false, drop := none, dropCause := 1
      qp := c.qp, tag := c.tag, fetched := 0, statusDue := false }) (setDmaCh 1 {} s))

/-- REC_STATUS. -/
def opRecStatus (c : Sub) (s : State) : OpOut :=
  let r := s.recorder
  let orFree := fun (o : Option Word) => match o with
    | some q => okRes (dw q.toNat) s
    | none => let (v, s1) := takeFree s
      okRes v s1
  match (par c 0).toNat with
  | 0 => okRes (dw r.written) s
  | 1 => okRes (dw r.lost) s
  | 2 => orFree (oldestSeq s)
  | 3 => orFree (r.ring.getLast?.map fun x => x.seq)
  | 4 => okRes (dw (recsBytes (unread r))) s
  | 5 => okRes (dw r.peak) s
  | _ => failSt stBadParam s

/-- Whole records until a count or a byte limit. -/
def takeRecs : Nat → Nat → List Rec → List Rec
  | 0, _, _ => []
  | _, _, [] => []
  | n + 1, lim, x :: r => if recBytes x ≤ lim then x :: takeRecs n (lim - recBytes x) r else []

/-- The records that a REC_FETCH copies, as they stand in the ring. -/
def fetchRecs (c : Sub) (s : State) : List Rec :=
  takeRecs (par c 1).toNat (par c 4).toNat (s.recorder.ring.dropWhile fun x => x.seq != par c 0)

/-- REC_FETCH. -/
def opRecFetch (c : Sub) (s : State) : OpOut :=
  let n := (par c 1).toNat
  let a := addrAt c 2
  let lim := (par c 4).toNat
  if n = 0 ∨ 65536 < n then failSt stBadParam s
  else if !inWindow s true a lim then badWindow 0x93 c a s
  else if s.mem.dram = 2 ∨ !inRing s (par c 0) then failSt stNotInState s
  else
    let l := (fetchRecs c s).map (copyOf s)
    .write a ((l.map fun x => bytesOf x.words).flatten) (dword (word (recsBytes l)) (word l.length)) s

/-- The engine that the words of TRIG_CONFIG describe (Table 10-11). -/
def trigFrom (c : Sub) : Trig :=
  let n := field (par c 0) 4 3 + 1
  let w6 := par c 6
  let cond := field w6 28 4
  { booth := field (par c 0) 0 4
    sigs := (upTo n).map fun i => field (par c (1 + i / 4)) (8 * (i % 4)) 8
    base := field (par c 3) 0 15, len := field (par c 3) 16 16
    pre := (par c 4).toNat, post := (par c 5).toNat
    cond := cond, step := field w6 16 12, sel := field w6 12 4, index := field w6 0 10, level := par c 7 }

/-- Ranges of TRIG_CONFIG. -/
def trigRangesOk (t : Trig) : Bool :=
  decide (t.base + t.len ≤ 32768) && decide (1 ≤ t.pre ∧ 1 ≤ t.post ∧ t.pre + t.post ≤ trigC t)
    && (t.cond == 0 || (decide (t.cond ≤ 2) && decide (t.sel ≤ 3)) || ((t.cond == 3 || t.cond == 4) && decide (t.index ≤ 127))
      || (t.cond == 5 && decide (t.index ≤ 127)))

/-- The range of an engine is free of other engines and of test captures (R150, R333). -/
def trigRangeFree (e : Nat) (t : Trig) (p : Plane) : Bool :=
  ((upTo 16).all fun k => k == e || (let u := trigOf p k
    u.state == 0 || u.booth != t.booth || decide (u.base + u.len ≤ t.base ∨ t.base + t.len ≤ u.base)))
    && (p.fab.tests.all fun x => x.1 / 64 != t.booth || x.2.status != 1 || x.2.len == 0)

/-- TRIG_CONFIG. -/
def opTrigConfig (c : Sub) (s : State) : OpOut :=
  let t := trigFrom c
  let p := actPlane s
  if !trigRangesOk t then failSt stBadParam s
  else if (trigOf p c.target).state ≠ 0 ∨ !trigRangeFree c.target t p then failSt stNotInState s
  else okSn (onExec (setTrig c.target t) s)

/-- START of an engine at the present cut. -/
def trigStart (e : Nat) (p : Plane) : Plane :=
  let t := trigOf p e
  setTrig e { t with
    state := 1, start := p.sn, n := 0, sinceG := 0, missed := 0, stopped := false, prev := none, force := false
    maskHit := none, g := 0, first := 0 } p

/-- TRIG_CTRL. -/
def opTrigCtrl (c : Sub) (s : State) : OpOut :=
  let p := actPlane s
  let t := trigOf p c.target
  let e := c.target
  let op := (par c 0).toNat
  if 2 < op then failSt stBadParam s
  else if s.dev ≠ .run ∨ !(group p (t.booth / 4)).powered then failSt stNotInState s
  else if op = 0 then
    if (t.state = 0 ∨ t.state = 4) ∧ trigC t ≠ 0 ∧ trigRangeFree e t p then okSn (onExec (trigStart e) s)
    else failSt stNotInState s
  else if op = 1 then
    if t.state = 2 then okSn (onExec (fun q => setTrig e { trigOf q e with force := true } q) s) else failSt stNotInState s
  else okSn (onExec (fun q => setTrig e { trigOf q e with state := 0, force := false, maskHit := none } q) s)

/-- TRIG_STATUS. -/
def opTrigStatus (c : Sub) (s : State) : OpOut :=
  withPlane (par c 0) s fun k =>
    let t := trigOf (planeOf s k) c.target
    okRes (dw (t.state + t.stopped.toNat * 8 + t.first % 65536 * 65536 + t.g.toNat * 2 ^ 32)) s

/-- Check 0x01 of MASK_LOAD: the header. -/
def maskHeaderOk (img : List Word) (len : Nat) : Bool :=
  wordAt img 0 == 0x4B4D5841 && wordAt img 1 == 1 && decide (2 ≤ (wordAt img 2).toNat ∧ (wordAt img 2).toNat ≤ 4094)
    && wordAt img 6 == 0 && len == 32 + 16 * nPt img

/-- Check 0x03: the fields of words 3 and 4, and the points. -/
def maskFieldsOk (img : List Word) : Bool :=
  let w3 := wordAt img 3
  let w4 := wordAt img 4
  let kind := field w3 28 4
  let ix := field w3 0 12
  field w3 16 12 == 0 && field w4 21 3 == 0 && field w4 10 6 == 0 && field w4 1 7 == 0
    && (if kind = 1 then decide (field w3 12 4 ≤ 3 ∧ ix ≤ 1023)
        else field w3 12 4 == 0 && (if kind = 2 then decide (ix ≤ 63) else kind == 3))
    && decide (field w4 16 5 ≤ 15 ∨ field w4 16 5 = 31) && decide (field w4 8 2 ≤ 2)
    && ptT img 0 == 0
    && ((upTo (nPt img)).all fun i => decide (ptLo img i ≤ ptHi img i) && wordAt img (11 + 4 * i) == 0
          && (i + 1 == nPt img || decide (ptT img i < ptT img (i + 1))))

/-- The first failing check of MASK_LOAD. -/
def maskCheck (p : Plane) (img : List Word) (len : Nat) : Option Nat :=
  if !maskHeaderOk img len then some 1
  else if recCrc img 7 ≠ wordAt img 7 then some 2
  else if !maskFieldsOk img then some 3
  else if 256 ≤ blocksUsed p then some 4
  else none

/-- MASK_LOAD. -/
def opMaskLoad (c : Sub) (s : State) : OpOut :=
  let a := addrAt c 0
  let len := (par c 2).toNat
  let img := c.image.take (len / 4)
  let p := actPlane s
  if !inWindow s false a len then badWindow 0x97 c a s
  else if (maskOf p c.target).state = 2 then failSt stNotInState s
  else match maskCheck p img len with
    | some k => failRes stBadParam k s
    | none => okSn (onExec (setMask c.target { img := some img, state := 1 }) s)

/-- MASK_ARM. -/
def opMaskArm (c : Sub) (s : State) : OpOut :=
  let p := actPlane s
  if s.dev ≠ .run ∨ (maskOwner p c.target).isSome then failSt stNotInState s
  else match (maskOf p c.target).img with
    | none => failSt stNotInState s
    | some img =>
      if field (wordAt img 4) 8 2 ≠ 0 then failSt stBadParam s
      else okSn (onExec (fun q => if bit (par c 0) 0 then maskArm c.target q else maskDisarm c.target q) s)

/-- MASK_STATUS. -/
def opMaskStatus (c : Sub) (s : State) : OpOut :=
  withPlane (par c 0) s fun k =>
    let t := maskOf (planeOf s k) c.target
    okRes (dw (t.state + t.pc * 2 ^ 8 + t.skipped * 2 ^ 16 + t.vioTau * 2 ^ 32)) s

/-- REC_CONFIG. -/
def execRecConfig (c : Sub) (s : State) : Outcome := hostCmd 0x90 opRecConfig c s
/-- REC_STREAM. -/
def execRecStream (c : Sub) (s : State) : Outcome := hostCmd 0x91 opRecStream c s
/-- REC_STATUS. -/
def execRecStatus (c : Sub) (s : State) : Outcome := hostCmd 0x92 opRecStatus c s
/-- REC_FETCH. -/
def execRecFetch (c : Sub) (s : State) : Outcome := hostCmd 0x93 opRecFetch c s
/-- TRIG_CONFIG. -/
def execTrigConfig (c : Sub) (s : State) : Outcome := hostCmd 0x94 opTrigConfig c s
/-- TRIG_CTRL. -/
def execTrigCtrl (c : Sub) (s : State) : Outcome := hostCmd 0x95 opTrigCtrl c s
/-- TRIG_STATUS. -/
def execTrigStatus (c : Sub) (s : State) : Outcome := hostCmd 0x96 opTrigStatus c s
/-- MASK_LOAD. -/
def execMaskLoad (c : Sub) (s : State) : Outcome := hostCmd 0x97 opMaskLoad c s
/-- MASK_ARM. -/
def execMaskArm (c : Sub) (s : State) : Outcome := hostCmd 0x98 opMaskArm c s
/-- MASK_STATUS. -/
def execMaskStatus (c : Sub) (s : State) : Outcome := hostCmd 0x99 opMaskStatus c s

/-! Events -/

/-- TRIGGER_ARMED (R335). -/
def execTriggerArmed (eng : Nat) (s : State) : Outcome := guarded (decide (eng < 16)) (whenRuns s (onPlanes (trigArm eng) s))

/-- TRIGGER_WINDOW_COMPLETE (R335). -/
def execTriggerWindowComplete (eng : Nat) (s : State) : Outcome := guarded (decide (eng < 16)) (whenRuns s (onPlanes (fun p => trigDone eng (trigWriteDue eng p)) s))

end Sys2Proof.Machine
end

