-- ==== Sys2Proof/Machine/Session.lean ====
section
/-! DEFINITION. Recipe sessions (06): step commits, the resolution of one cut, end conditions, images and commands. -/

namespace Sys2Proof.Machine

/-! The session record -/

/-- States of Table 6-1. -/
abbrev ssIdle : Nat := 0
abbrev ssLoaded : Nat := 1
abbrev ssRunning : Nat := 2
abbrev ssHeld : Nat := 3
abbrev ssAborting : Nat := 4
abbrev ssDone : Nat := 5
abbrev ssFaulted : Nat := 6
abbrev ssRestored : Nat := 7

/-- Words of the record (Table 6-10). -/
abbrev wSstate : Nat := 0
abbrev wStepT : Nat := 1
abbrev wCommitSn : Nat := 2
abbrev wPend : Nat := 3
abbrev wRunT : Nat := 4
abbrev wHeldT : Nat := 5
abbrev wPersist : Nat := 6
abbrev wBase : Nat := 7
abbrev wCounts : Nat := 11
abbrev wRecipeId : Nat := 12
abbrev wImageCrc : Nat := 13
abbrev wStepId : Nat := 14
abbrev wSessAux : Nat := 15

/-- Hold causes as bits of SSTATE.HOLD (Table 6-3). -/
abbrev hcIl : Nat := 0
abbrev hcIlLatched : Nat := 1
abbrev hcMask : Nat := 2
abbrev hcVeto : Nat := 3
abbrev hcHost : Nat := 4
abbrev hcRefuse : Nat := 5

/-- Replaces a field of a session word. -/
def setSf (n w lo len v : Nat) (p : Plane) : Plane := setSw n w (setField (sw p n w) lo len v) p

/-- Changes the recipe engine's own lists. -/
def setSess (v : Sess) (p : Plane) : Plane := { p with sess := v }

/-- Current step, hold causes, VETO_ARMED and PEND of a session. -/
def sessStep (p : Plane) (n : Nat) : Nat := field (sw p n wSstate) 0 12
def sessHold (p : Plane) (n : Nat) : Nat := field (sw p n wSstate) 16 6
def vetoArmed (p : Plane) (n : Nat) : Bool := bit (sw p n wSstate) 25
def pendStep (p : Plane) (n : Nat) : Nat := field (sw p n wPend) 16 16
def pendSrc (p : Plane) (n : Nat) : Nat := field (sw p n wPend) 8 8

/-- Latches a transition. -/
def setPend (n step src : Nat) (p : Plane) : Plane :=
  setSw n wPend (word (step * 65536 + src * 256 + field (sw p n wPend) 0 8)) p

/-- A code of Table 6-12. -/
def sessEvent (n code detail : Nat) (p : Plane) : Plane :=
  praise (0x080 + n) (word (code + sessStep p n * 256 + detail * 2 ^ 20)) p

/-- The same with the code of a host's REASON. -/
def sessEventExt (n code detail : Nat) (ext : List Word) (p : Plane) : Plane :=
  { p with evs := p.evs ++
    [{ sn := p.sn, src := 0x080 + n, data := word (code + sessStep p n * 256 + detail * 2 ^ 20), ext := ext }] }

/-- HELD and DONE of WSTAT (19 Table 19-4). -/
def flagSess (n st : Nat) (p : Plane) : Plane :=
  if st = ssHeld ∨ st = ssDone then
    setSess { p.sess with wflags := tmod 0 p.sess.wflags n fun w => setBit w (if st = ssHeld then 3 else 2) true } p
  else p

/-- Changes a session's state; the change is noted for its checkpoint (R211). -/
def setSessState (n st : Nat) (p : Plane) : Plane :=
  let p1 := setSf n wSstate 28 4 st p
  if sessState p n = st then p1
  else flagSess n st (setSess { p1.sess with changed := p1.sess.changed ++ [n], kept := tdel p1.sess.kept n } p1)

/-- Sets hold causes, with the event of those newly set and its extension words. -/
def addHoldExt (n causes : Nat) (ext : List Word) (p : Plane) : Plane :=
  let old := sessHold p n
  let new := orMask old causes - old
  if new = 0 then p else sessEventExt n 2 new ext (setSf n wSstate 16 6 (orMask old causes) p)

/-- The same without extension words. -/
def addHold (n causes : Nat) (p : Plane) : Plane := addHoldExt n causes [] p

/-- The session's interlock hold request as of the latest output commit (R236). -/
def ilHold (p : Plane) (n : Nat) : Bool := bit (tget 0 p.scan.holdSeen (n / 32)) (n % 32)

/-- A dropped request: 1 advance, 2 hold, 3 advance naming a step not in the recipe (R208). -/
def dropReq (what n : Nat) (p : Plane) : Plane :=
  let p1 := if what = 2 then p else setSf n wCounts 16 16 (satAdd 0xFFFF (field (sw p n wCounts) 16 16) 1) p
  sessEvent n 8 what p1

/-- Entry into DONE (R210, R342). -/
def sessDone (n code : Nat) (p : Plane) : Plane :=
  let p1 := setSf n wSessAux 0 4 0 (setSf n wSstate 16 6 0 (setSf n wSstate 25 1 0 p))
  let p2 := setSw n wPend (word (0xFFFF0000 + code)) p1
  sessEvent n 5 code (masksOff n (setSessState n ssDone p2))

/-! Step records (Table 6-6) -/

/-- Word w of step k. -/
def stepWord (i : SessImg) (k w : Nat) : Word := wordAt (i.steps.getD k []) w

/-- N_STEP. -/
def nStep (i : SessImg) : Nat := i.steps.length
/-- N_ACT, N_END, ON_REFUSE, ACT_FIRST, DURATION, NEXT, ON_ABORT and GOTOe of step k. -/
def stepNAct (i : SessImg) (k : Nat) : Nat := field (stepWord i k 0) 20 12
def stepNEnd (i : SessImg) (k : Nat) : Nat := field (stepWord i k 0) 12 4
def stepOnRefuse (i : SessImg) (k : Nat) : Nat := field (stepWord i k 0) 2 2
def stepActFirst (i : SessImg) (k : Nat) : Nat := field (stepWord i k 1) 0 17
def stepDuration (i : SessImg) (k : Nat) : Nat := (stepWord i k 2).toNat
def stepNext (i : SessImg) (k : Nat) : Nat := field (stepWord i k 3) 16 16
def stepOnAbort (i : SessImg) (k : Nat) : Nat := field (stepWord i k 3) 0 16
def stepGoto (i : SessImg) (k e : Nat) : Nat := field (stepWord i k (12 + e / 2)) (if e % 2 = 0 then 16 else 0) 16

/-! Actions (Table 6-7) -/

/-- KIND, HALF and INDEX of an action entry. -/
def actKind (a : Word × Word) : Nat := field a.1 28 4
def actHalf (a : Word × Word) : Nat := field a.1 15 1
def actIndex (a : Word × Word) : Nat := field a.1 0 12

/-- Output channel of an action of kind 6, 8, 9 or 0xA. -/
def actChan (a : Word × Word) : Option Nat :=
  let k := actKind a
  if k = 6 then some (128 + actIndex a) else if k = 8 then some (64 + actIndex a)
  else if k = 9 then some (actIndex a) else if k = 0xA then some (32 + actIndex a) else none

/-- The scan engine owns a GP pin, or a station output entry (R234). -/
def ownsGp (p : Plane) (pin : Nat) : Bool := match p.scan.prog with | some g => g.ownGp.contains pin | none => false
def ownsSt (p : Plane) (e : Nat) : Bool := match p.scan.prog with | some g => g.ownSt.contains e | none => false

/-- Key of a GP pin's level among the output registers. -/
def gpKey (pin : Nat) : Nat := 4224 + pin

/-- A GP pattern: the pins of the group that the mask names, but those the scan engine owns. -/
def actGp (g : Nat) (v : Word) (p : Plane) : Plane :=
  forEach (upTo 16) (fun i q =>
    if !bit v (16 + i) then q
    else if ownsGp q (16 * g + i) then ptally 0x02 1 q
    else setOut (gpKey (16 * g + i)) (word (bit v i).toNat) q) p

/-- A masked half of a station output entry. -/
def actHalfWord (e half : Nat) (v : Word) (p : Plane) : Plane :=
  let o := outReg p (128 + e)
  let n := (upTo 16).foldl (fun (x : Word) i => if bit v (16 + i) then setBit x (16 * half + i) (bit v i) else x) o
  setOut (128 + e) n p

/-- Notes a loop word, or an axis, that a step named on the present cut (R27). -/
def nameTarget (x : Nat × Nat) (p : Plane) : Plane := setFab { p.fab with stepNamed := p.fab.stepNamed ++ [x] } p

/-- An axis drives channel c: an action that names it is refused (08 R281). -/
def axisDrives (p : Plane) (c : Nat) : Bool :=
  (boundAxes p).any fun a => axAo p a == some c || (axEntries p a).any fun e => 128 + e == c

/-- A step commit that names a loop in TUNE ends its test; without a mode action that takes it elsewhere, the loop takes
PREV_MODE (R207, 04 R146, R147). -/
def endTest (l : Nat) (p : Plane) : Plane :=
  if loopMode p l = 5 then setLf l wCtrl 0 4 (prevMode p l) (abortTest l 2 p) else p

/-- Loops that a step names by SP_TARGET, RAMP_RATE or OUT, and by no mode action. -/
def namedLoops (acts : List (Word × Word)) : List Nat :=
  let by_ := fun (ks : List Nat) => (acts.filter fun a => ks.contains (actKind a)).map actIndex
  (by_ [1, 2, 4]).filter fun l => !(by_ [3]).contains l

/-- One action other than OUT: whether its target refuses it, and the plane. -/
def applyAction (s : State) (i : SessImg) (a : Word × Word) (p : Plane) : Bool × Plane :=
  let x := actIndex a
  let v := a.2
  match actKind a with
  | 1 => (false, nameTarget (x, wSpTarget) (setLw x wSpTarget v p))
  | 2 => (false, nameTarget (x, wRamp) (setLw x wRamp v p))
  | 3 =>
    if modeOk (s.dev == .ready) true x v.toNat p then (false, setMode s.sealed 1 x v.toNat p)
    else (true, endTest x (boothEv 1 x (1 * 65536 + v.toNat * 2 ^ 24) p))
  | 5 => (false, actGp x v p)
  | 7 => if axisDrives p (128 + x) then (true, p)
    else (false, if ownsSt p x then ptally 0x02 1 p else actHalfWord x (actHalf a) v p)
  | 0xB =>
    let r := axRecord s (i.axcmds.getD v.toNat []) x p
    if r.1 = stOk then (false, nameTarget (stepAxis x) r.2) else (true, p)
  | 0xC =>
    if v = 0 then (false, maskDisarm x p)
    else if (maskOf p x).img.isNone then (true, p) else (false, maskArm x p)
  | _ =>
    match actChan a with
    | none => (false, p)
    | some c => if axisDrives p c then (true, p)
      else if 32 ≤ c ∧ c < 64 ∧ (tget {} s.analog.cl (c - 32) : CLoop).use then (false, p)
      else (false, if 128 ≤ c ∧ ownsSt p (c - 128) then ptally 0x02 1 p else setOut c v p)

/-- An OUT action, after the cut's mode changes (R206). -/
def applyOut (a : Word × Word) (p : Plane) : Bool × Plane :=
  let l := actIndex a
  if loopMode p l = 2 then (false, nameTarget (l, wOut) (writeOut l a.2 p)) else (true, p)

/-- Every action of a step in image order, OUT actions last, after the tests that the step ends: the positions refused, in ascending order. -/
def applyStep (s : State) (i : SessImg) (k : Nat) (p : Plane) : List Nat × Plane :=
  let acts := ((i.acts.drop (stepActFirst i k)).take (stepNAct i k)).zipIdx
  let run := fun (f : Word × Word → Plane → Bool × Plane) (l : List ((Word × Word) × Nat)) (r : List Nat × Plane) =>
    l.foldl (fun r a => let x := f a.1 r.2; (if x.1 then r.1 ++ [a.2] else r.1, x.2)) r
  let r0 := forEach (namedLoops (acts.map fun a => a.1)) endTest p
  let r1 := run (applyAction s i) (acts.filter fun a => actKind a.1 != 4) ([], r0)
  let r2 := run applyOut (acts.filter fun a => actKind a.1 == 4) r1
  ((List.range (stepNAct i k)).filter fun j => r2.1.contains j, r2.2)

/-- What the refusals of a commit do (R206, R209). -/
def onRefusal (n mode : Nat) (refused : List Nat) (p : Plane) : Plane :=
  match refused with
  | [] => p
  | first :: _ =>
    let cnt := satAdd 0xFFFF (field (sw p n wCounts) 0 16) refused.length
    let p1 := forEach refused (fun j q => sessEvent n 7 j q) (setSf n wCounts 0 16 cnt p)
    if sessState p n = ssAborting ∨ mode = 0 then p1
    else if mode = 1 then setSessState n ssHeld (addHold n (2 ^ hcRefuse) p1)
    else if mode = 2 then sessEvent n 6 first (setSessState n ssFaulted p1)
    else setSess { p1.sess with refuseAbort := p1.sess.refuseAbort ++ [n] } p1

/-- The commit of step k (R204 to R206); one that would exceed the limit of the cut is deferred whole (R205). -/
def commitStep (s : State) (n k src : Nat) (p : Plane) : Plane :=
  let i := sessImg p n
  if 4096 < p.sess.actCount + stepNAct i k then
    sessEvent n 9 0 (setPend n k src (setSess { p.sess with deferred := p.sess.deferred ++ [n] } p))
  else
    let p0 := setSess { p.sess with actCount := p.sess.actCount + stepNAct i k } p
    let (refused, p1) := applyStep s i k p0
    let p2 := setSf n wSstate 0 12 k (setSf n wSstate 25 1 0 (setSw n wStepT 0 p1))
    let p3 := setSf n wPend 8 24 0xFFFF00 (setSw n wPersist 0 (setSf n wSessAux 0 4 0 p2))
    let p4 := setSw n wStepId (stepWord i k 14) (setSw n wCommitSn p.sn p3)
    let p5 := setSess { p4.sess with
      committed := p4.sess.committed ++ [n], steps := tmod 0 p4.sess.steps n fun k => (k + 1) % 100 } p4
    onRefusal n (stepOnRefuse i k) refused (sessEvent n 1 src p5)

/-- The latched transition takes place: a step commit, or END (R208, R210). -/
def commitPend (s : State) (n : Nat) (p : Plane) : Plane :=
  if pendStep p n = 0xFFFF then
    sessDone n (if sessState p n = ssAborting then (if p.sess.onRefuse.contains n then 3 else 2) else 1) p
  else commitStep s n (pendStep p n) (pendSrc p n) p

/-- The on-abort step of an abort (R209). -/
def abortTarget (i : SessImg) (k step : Nat) : Nat :=
  if step ≠ 0xFFFF then step else if stepOnAbort i k ≠ 0xFFFF then stepOnAbort i k else i.defAbort

/-- An abort at the present cut (R208, R209). -/
def sessAbort (s : State) (n step : Nat) (refuse : Bool) (reason : Word) (p : Plane) : Plane :=
  if sessState p n = ssAborting then sessDone n 4 p
  else
    let t := abortTarget (sessImg p n) (sessStep p n) step
    let p1 := sessEventExt n 4 refuse.toNat [reason] p
    let p2 := setSess { p1.sess with
      onRefuse := if refuse then p1.sess.onRefuse ++ [n] else p1.sess.onRefuse.filter fun x => x != n } p1
    if t = 0xFFFE then sessDone n (if refuse then 3 else 2) p2
    else
      let p3 := masksOff n (setSf n wSstate 25 1 0 (setSf n wSstate 16 6 0 p2))
      commitStep s n t 9 (setPend n 0xFFFF 0 (setSessState n ssAborting p3))

/-! One cut (R208) -/

/-- Latches an advance: 0xFFFF is the NEXT of the current step (R86). -/
def latchAdvance (n step : Nat) (p : Plane) : Plane :=
  setPend n (if step = 0xFFFF then stepNext (sessImg p n) (sessStep p n) else step) 6 p

/-- The advances of a cut, in order of placement: the first fills an empty PEND, the others are dropped. -/
def takeAdvances (n : Nat) (l : List SessReq) (p : Plane) : Plane :=
  forEach l (fun r q => if pendSrc q n = 0 then latchAdvance n r.arg q else dropReq 1 n q) p

/-- A change of the counted times of the record: RUN_T or HELD_T. -/
def countTime (n : Nat) (p : Plane) : Plane :=
  let st := sessState p n
  if st = ssRunning ∨ st = ssAborting then setSw n wRunT (sw p n wRunT + 1) p
  else if st = ssHeld ∨ st = ssFaulted then setSw n wHeldT (sw p n wHeldT + 1) p
  else p

/-- Sets and clears the hold causes present at a cut (Table 6-3). The event of a host hold records its REASON (02 R86, log entry
81). -/
def cutHolds (n : Nat) (holds : List SessReq) (p : Plane) : Plane :=
  let il := ilHold p n
  let had := bit (sw p n wSstate) 16
  let p1 := if il then p else setSf n wSstate 16 1 0 p
  let p2 := match holds.getLast? with
    | some r => setSf n wSessAux 16 16 r.arg p1
    | none => p1
  addHoldExt n ((if il then 2 ^ hcIl else 0) + (if il && !had && (sessImg p n).ilLatch then 2 ^ hcIlLatched else 0)
    + (if p.sess.maskHold.contains n then 2 ^ hcMask else 0) + (if holds.isEmpty then 0 else 2 ^ hcHost))
    ((holds.getLast?.map fun r => word r.arg).toList) p2

/-- The RUNNING branch of R208 without a hold: the step timer counts and a latched transition may commit. -/
def runBranch (s : State) (n : Nat) (advs : List SessReq) (p : Plane) : Plane :=
  let p1 := takeAdvances n advs (setSw n wStepT (sw p n wStepT + 1) p)
  let src := pendSrc p1 n
  if sessState p n = ssRunning ∧ 1 ≤ src ∧ src ≤ 5 ∧ vetoArmed p1 n then
    setSessState n ssHeld (addHold n (2 ^ hcVeto) p1)
  else if src ≠ 0 ∧ (10 ≤ (sw p1 n wStepT).toNat ∨ src = 8 ∨ src = 9) then commitPend s n p1
  else p1

/-- An advance to a step that the recipe does not have: it is dropped first, whatever the state. -/
def strayReq (i : SessImg) (r : SessReq) : Bool := !r.hold && r.arg != 0xFFFF && decide (nStep i ≤ r.arg)

/-- The requests of one session at a cut, without an abort. -/
def resolveReqs (s : State) (n : Nat) (rs : List SessReq) (p : Plane) : Plane :=
  let i := sessImg p n
  let st := sessState p n
  let p0 := forEach (rs.filter (strayReq i)) (fun _ q => dropReq 3 n q) p
  let rest := rs.filter fun r => !strayReq i r
  let advs := rest.filter fun r => !r.hold
  let holds := rest.filter fun r => r.hold
  let dropAll := fun (q : Plane) => forEach rest (fun r t => dropReq (if r.hold then 2 else 1) n t) q
  if st = ssAborting then runBranch s n [] (dropAll p0)
  else if st = ssRunning then
    let p1 := cutHolds n holds p0
    if sessHold p1 n ≠ 0 then takeAdvances n advs (setSessState n ssHeld p1)
    else runBranch s n advs p1
  else if st = ssHeld then
    let p1 := forEach advs (fun _ q => dropReq 1 n q) (cutHolds n holds p0)
    if sessHold p1 n = 0 then sessEvent n 3 0 (setSessState n ssRunning p1) else p1
  else dropAll (if st = ssFaulted ∨ st = ssRestored then cutHolds n [] p0 else p0)

/-- The requests of session n stamped for the present cut. -/
def dueReqs (n : Nat) (p : Plane) : List SessReq :=
  p.sess.reqs.filter fun r => !snLater r.sn p.sn && r.session == n

/-- Every request of the list is dropped. -/
def dropReqs (n : Nat) (rs : List SessReq) (p : Plane) : Plane :=
  forEach rs (fun r q => dropReq (if r.hold then 2 else 1) n q) p

/-- One session at a cut: an abort under ON_REFUSE, or its requests, holds and latched transition (R208). A session
that an abort settled at this cut takes no part. -/
def resolveSession (s : State) (n : Nat) (p : Plane) : Plane :=
  if p.sess.settled.contains n then p
  else
    let rs := dueReqs n p
    let p0 := countTime n (setSess { p.sess with settled := p.sess.settled ++ [n] } p)
    let st := sessState p n
    if p.sess.auto.contains n ∧ (st = ssRunning ∨ st = ssHeld) then sessAbort s n 0xFFFF true 0 (dropReqs n rs p0)
    else if rs.isEmpty ∧ !sessLive p n then p0
    else resolveReqs s n rs p0

/-- An abort from outside settles session n at the present cut: its requests are dropped (R208). -/
def abortTakes (n : Nat) (p : Plane) : Plane :=
  dropReqs n (dueReqs n p) (countTime n (setSess { p.sess with settled := p.sess.settled ++ [n] } p))

/-- The cut opens: what it has committed and settled starts empty. -/
def sessionsOpen (p : Plane) : Plane :=
  let se := p.sess
  setSess { se with
    early := se.deferred, auto := se.refuseAbort, settled := []
    refuseAbort := [], deferred := [], actCount := 0, committed := [], changed := [], kept := [], evald := [] } p

/-- Sessions deferred to this cut, but for those that an abort from outside takes at it (R205, R208). -/
def sessionsEarly (s : State) (aborts : List Nat) (p : Plane) : Plane :=
  forEach (p.sess.early.filter fun n => !aborts.contains n) (resolveSession s) p

/-- Aborts under ON_REFUSE at the cut (R205). -/
def sessionsAbort (s : State) (p : Plane) : Plane := forEach p.sess.auto (resolveSession s) p

/-- The cut's requests and mask holds are spent. -/
def sessionsClose (p : Plane) : Plane :=
  setSess { p.sess with
    maskHold := [], reqs := p.sess.reqs.filter fun r => snLater r.sn p.sn, early := [], auto := [] } p

/-! End conditions (R200 to R203) -/

/-- The signal of an end condition, and whether it is STALE. -/
def condSignal (s : State) (n : Nat) (a b : Word) (p : Plane) : Int × Bool :=
  let k := field a 28 4
  let x := field a 0 12
  let flag := fun (v : Bool) => ((v.toNat : Int), false)
  if 1 ≤ k ∧ k ≤ 3 then let v := signalOf s p k (field a 12 4) x; (v.1.toInt, v.2)
  else if k = 4 then flag (gpLevel s x)
  else if k = 5 then flag (axState p x == field a 12 4)
  else if k = 6 then flag (bit (tget 0 p.scan.doneData (b.toNat / 32)) (b.toNat % 32))
  else if k = 7 then ((sw p n wStepT).toNat, false)
  else
    let m := maskOf p x
    flag (m.state == 3 && !snLater (sw p n wCommitSn) m.vioSn)

/-- THRESHOLD as the kind reads it. -/
def condThreshold (a b : Word) : Int :=
  let k := field a 28 4
  if 1 ≤ k ∧ k ≤ 3 then b.toInt else if k = 7 then b.toNat else 0

/-- Condition e of the current step on the present sample: whether it is met, and the plane (R202). -/
def evalCond (s : State) (n e : Nat) (p : Plane) : Bool × Plane :=
  let i := sessImg p n
  let k := sessStep p n
  let a := stepWord i k (4 + 2 * e)
  let b := stepWord i k (5 + 2 * e)
  if field a 28 4 = 0 then (false, p)
  else
    let x := condSignal s n a b p
    if x.2 then (false, p)
    else
      let rel := bit a 25
      let fresh := rel && !bit (sw p n wSessAux) e
      let p1 := if fresh then setSf n wSessAux e 1 1 (setSw n (wBase + e) (BitVec.ofInt 32 x.1) p) else p
      let v := if rel then x.1 - (sw p1 n (wBase + e)).toInt else x.1
      let t := condThreshold a b
      let holds : Bool := if field a 26 2 = 1 then decide (v < t) else decide (t < v)
      let pc := field (sw p1 n wPersist) (8 * e) 8
      if !holds then (false, setSf n wPersist (8 * e) 8 0 p1)
      else if field a 16 8 ≤ pc then (true, p1)
      else (false, setSf n wPersist (8 * e) 8 (pc + 1) p1)

/-- The duration is due on the present sample (R202). -/
def durationDue (p : Plane) (n : Nat) : Bool :=
  let d := stepDuration (sessImg p n) (sessStep p n)
  d != 0 && decide (d ≤ (sw p n wStepT).toNat + 1)

/-- End conditions and duration of one session on the released values of the sample (R202, R203). -/
def sessEval (s : State) (n : Nat) (p : Plane) : Plane :=
  let st := sessState p n
  if (st ≠ ssRunning ∧ st ≠ ssAborting) ∨ p.sess.evald.contains n then p
  else
    let i := sessImg p n
    let k := sessStep p n
    let p0 := setSess { p.sess with kept := tset [] p.sess.kept n ((upTo 16).map (sw p n)) } p
    let r := (upTo (stepNEnd i k)).foldl (fun (r : Option Nat × Plane) e =>
      let x := evalCond s n e r.2
      (if r.1.isNone && x.1 then some e else r.1, x.2)) (none, p0)
    let p1 := setSess { r.2.sess with evald := r.2.sess.evald ++ [n] } r.2
    if pendSrc p n ≠ 0 then p1
    else match r.1 with
      | some e => setPend n (stepGoto i k e) (e + 1) p1
      | none => if durationDue p n then setPend n (stepNext i k) 5 p1 else p1

/-- Every session. -/
def sessionsEval (s : State) (p : Plane) : Plane :=
  forEach ((upTo 128).filter fun n => sessState p n == ssRunning || sessState p n == ssAborting) (sessEval s) p

/-- STEP_DURATION_DUE (R202): the session's evaluation of the present sample, where it latches the duration. -/
def durationStep (s : State) (n : Nat) (p : Plane) : Plane :=
  let q := sessEval s n p
  if pendSrc p n = 0 ∧ pendSrc q n = 5 then q else p

/-- The device passes from RUN to READY: FAULTED and RESTORED sessions end (Table 6-2). -/
def sessionsLeaveRun (p : Plane) : Plane :=
  forEach (upTo 128) (fun n q => if sessState q n = ssFaulted ∨ sessState q n = ssRestored then sessDone n 5 q else q) p

/-! Images (R196 to R200, Table 6-14) -/

/-- The image that the words spell. -/
def parseSess (img : List Word) (len : Nat) : SessImg :=
  let w := fun k => wordAt img k
  let nScope := field (w 2) 16 13
  let nSt := field (w 2) 0 13
  let nAct := field (w 3) 0 17
  let nAx := field (w 4) 0 16
  let iSt := 16 + nScope
  let iAct := iSt + 16 * nSt
  let iAx := iAct + 2 * nAct
  { first := field (w 5) 0 12, defAbort := field (w 5) 16 16, ilLatch := bit (w 6) 0, recipeId := w 7, crc := w 15
    scope := (img.drop 16).take nScope
    steps := pieces img iSt 16 nSt
    acts := (pieces img iAct 2 nAct).map fun x => (wordAt x 0, wordAt x 1)
    axcmds := pieces img iAx 8 nAx
    len := len }

/-- Check 0x01. -/
def sessHeaderOk (img : List Word) (len : Nat) : Bool :=
  let w := fun k => wordAt img k
  let nScope := field (w 2) 16 13
  let nSt := field (w 2) 0 13
  w 0 == 0x50525841 && field (w 1) 0 16 == 1
    && field (w 2) 13 3 == 0 && field (w 2) 29 3 == 0 && decide (1 ≤ nSt ∧ nSt ≤ 4096 ∧ nScope ≤ 4096 ∧ nScope % 2 = 0)
    && decide ((w 3).toNat ≤ 131072) && decide ((w 4).toNat ≤ 4096) && field (w 5) 12 4 == 0 && field (w 6) 1 31 == 0
    && ((upTo 7).all fun k => w (8 + k) == 0)
    && len == 64 + 4 * nScope + 64 * nSt + 8 * (w 3).toNat + 32 * (w 4).toNat

/-- A step reference in range. -/
def stepRefOk (i : SessImg) (x : Nat) (others : List Nat) : Bool := decide (x < nStep i) || others.contains x

/-- Largest INDEX of a scope record's kind. -/
def scopeMax (kind : Nat) : Nat := [0, 1024, 8, 4096, 64, 32, 32, 64, 256].getD kind 0

/-- A scope record under check 0x04. -/
def scopeRecOk (w : Word) : Bool :=
  w == 0 || (decide (1 ≤ field w 28 4 ∧ field w 28 4 ≤ 8) && field w 12 16 == 0 && decide (field w 0 12 < scopeMax (field w 28 4)))

/-- A step record under check 0x04. -/
def stepRecOk (i : SessImg) (k : Nat) : Bool :=
  let w := fun j => stepWord i k j
  let n := stepNEnd i k
  field (w 0) 16 4 == 0 && field (w 0) 4 8 == 0 && field (w 0) 0 2 == 0 && decide (n ≤ 4 ∧ stepNAct i k ≤ 2048)
    && field (w 1) 17 15 == 0 && decide (stepActFirst i k + stepNAct i k ≤ i.acts.length)
    && stepRefOk i (stepNext i k) [0xFFFF] && stepRefOk i (stepOnAbort i k) [0xFFFE, 0xFFFF]
    && ((upTo 4).all fun e => if e < n then
          field (w (4 + 2 * e)) 28 4 == 0 || stepRefOk i (stepGoto i k e) [0xFFFF]
        else w (4 + 2 * e) == 0 && w (5 + 2 * e) == 0 && stepGoto i k e == 0)
    && w 15 == 0

/-- An end condition under check 0x04. Kinds 0x6 and 0x7 name no object, and their INDEX is a field without a meaning, so
0 (DEDUCED, log entry 56). -/
def condOk (i : SessImg) (k e : Nat) : Bool :=
  let a := stepWord i k (4 + 2 * e)
  let b := stepWord i k (5 + 2 * e)
  let kind := field a 28 4
  let sel := field a 12 4
  let x := field a 0 12
  let plain := field a 26 2 == 0 && !bit a 25
  !bit a 24 && decide (field a 26 2 ≤ 1) &&
    (match kind with
      | 0 => a == 0 && b == 0 && stepGoto i k e == 0
      | 1 => decide (sel ≤ 3 ∧ x ≤ 1023)
      | 2 => sel == 0 && decide (x ≤ 63)
      | 3 => sel == 0
      | 4 => sel == 0 && plain && b == 0 && decide (x ≤ 127)
      | 5 => decide (sel ≤ 7 ∧ x ≤ 63) && plain && b == 0
      | 6 => sel == 0 && x == 0 && plain && decide (b.toNat < 2 ^ 21)
      | 7 => sel == 0 && x == 0
      | 8 => sel == 0 && plain && b == 0 && decide (x ≤ 255)
      | _ => false)

/-- An action entry under check 0x04. -/
def actOk (i : SessImg) (a : Word × Word) : Bool :=
  let k := actKind a
  let v := a.2
  field a.1 16 12 == 0 && field a.1 12 3 == 0 && (k == 7 || actHalf a == 0)
    && decide (actIndex a < [0, 1024, 1024, 1024, 1024, 8, 4096, 4096, 64, 32, 32, 64, 256].getD k 0)
    && (if k = 2 then decide (0 ≤ v.toInt) else if k = 3 then decide (v.toNat ≤ 4) || v == 6
        else if k = 0xB then decide (v.toNat < i.axcmds.length) else if k = 0xC then decide (v.toNat ≤ 1) else true)

/-- An axis command record under check 0x04 (R287). -/
def axRecOk (r : List Word) : Bool :=
  let w := wordAt r 0
  let kind := field w 28 4
  let op := [0, 0x73, 0x74, 0x75, 0x76, 0x77, 0x78, 0x72, 0x72].getD kind 0
  let mask := match opInfo op with
    | some x => x.masks
    | none => []
  decide (1 ≤ kind ∧ kind ≤ 8)
    && (if kind = 5 then
          field w 22 2 == 0 && field w 0 16 == 0
            && (if field w 24 4 = 1 then decide (field w 16 6 ≤ 15) else field w 24 4 == 2)
        else field w 1 27 == 0 && (bit w 0 == false || kind == 1 || kind == 2))
    && masksHold (r.drop 1) (mask.drop 1)

/-- Scope record that an action needs. -/
def actScope (a : Word × Word) : Word :=
  scopeWord ([0, 1, 1, 1, 1, 2, 3, 3, 4, 5, 6, 7, 8].getD (actKind a) 0) (actIndex a)

/-- First index for which a check fails. -/
def firstFail (n : Nat) (ok : Nat → Bool) : Option Nat := (upTo n).find? fun j => !ok j

/-- RESULT of a failing item: CHECK, kind, step and position. -/
def sessResult (check kind step pos : Nat) : Nat := check + kind * 2 ^ 8 + step * 2 ^ 16 + pos * 2 ^ 32

/-- RESULT of a failing action entry j: the lowest step that includes it, or its index with bit 49. -/
def actResult (i : SessImg) (check j : Nat) : Nat :=
  match (upTo (nStep i)).find? fun k => decide (stepActFirst i k ≤ j ∧ j < stepActFirst i k + stepNAct i k) with
  | some k => sessResult check 3 k (j - stepActFirst i k)
  | none => sessResult check 3 0 j + 2 ^ 49

/-- Check 0x04 over the items in image order. -/
def sessCheck4 (i : SessImg) : Option Nat :=
  if i.first ≥ nStep i ∨ !stepRefOk i i.defAbort [0xFFFE] then some (sessResult 4 0 0 0)
  else match firstFail i.scope.length fun j => scopeRecOk (wordAt i.scope j) with
    | some j => some (sessResult 4 1 0 j)
    | none =>
      match (upTo (nStep i)).findSome? fun k =>
          if !stepRecOk i k then some (sessResult 4 2 k 0)
          else (firstFail (stepNEnd i k) (condOk i k)).map fun e => sessResult 4 4 k e with
      | some r => some r
      | none =>
        match firstFail i.acts.length fun j => actOk i (i.acts.getD j (0, 0)) with
        | some j => some (actResult i 4 j)
        | none => (firstFail i.axcmds.length fun j => axRecOk (i.axcmds.getD j [])).map fun j => sessResult 4 5 0 j

/-- Check 0x05. -/
def sessCheck5 (i : SessImg) : Option Nat :=
  match firstFail i.scope.length fun j => wordAt i.scope j == 0 || !((i.scope.take j).contains (wordAt i.scope j)) with
  | some j => some (sessResult 5 1 0 j)
  | none => (firstFail i.acts.length fun j => i.scope.contains (actScope (i.acts.getD j (0, 0)))).map fun j => actResult i 5 j

/-- The first failing check of SESS_LOAD (Table 6-14). -/
def sessCheck (p : Plane) (n : Nat) (img : List Word) (len : Nat) : Option Nat :=
  let i := parseSess img len
  if !sessHeaderOk img len then some (sessResult 1 0 0 0)
  else if recCrc img 15 ≠ wordAt img 15 then some (sessResult 2 0 0 0)
  else if 256 < blocksUsed p + (len + 65535) / 65536 then some (sessResult 3 0 0 0)
  else match sessCheck4 i with
    | some r => some r
    | none => match sessCheck5 i with
      | some r => some r
      | none =>
        match firstFail (nStep i) fun k =>
            let d := stepDuration i k
            (d == 0 && stepNEnd i k != 0) || decide (10 ≤ d) with
        | some k => some (sessResult 6 2 k 0)
        | none => if sessState p n = ssRestored ∧ i.crc ≠ sw p n wImageCrc then some (sessResult 7 0 0 0) else none

/-- The first live session whose scope shares an object with a scope (R190). -/
def scopeConflict (p : Plane) (n : Nat) (scope : List Word) : Option Nat :=
  (upTo 128).find? fun m => m != n && sessLive p m && (sessScope p m).any fun w => w != 0 && scope.contains w

/-! Commands -/

/-- A recipe-group command on a session owned by the window (R215). -/
def ownedByWindow (p : Plane) (n : Nat) : Bool := bit (sw p n wSstate) 27

/-- Places a request for the cut of its stamp (R86). -/
def placeReq (n : Nat) (hold : Bool) (arg : Nat) (sn : Word) (s : State) : State :=
  onPlanes (fun p => setSess { p.sess with reqs := p.sess.reqs ++ [{ session := n, hold := hold, arg := arg, sn := sn }] } p) s

/-- The placement of SESS_ADVANCE or SESS_HOLD. -/
def opPlaceReq (hold : Bool) (c : Sub) (s : State) : OpOut :=
  let sn := stampOf c s
  okRes (dw sn.toNat) (placeReq c.target hold (par c 0).toNat sn s)

/-- SESS_ADVANCE and SESS_HOLD (R86). RUNNING and the window's ownership of a timed one are tested here, at acceptance, and
not again at its placement (log entry 72). Where several conditions fail, the order is OWNED_BY_WINDOW, NOT_IN_STATE, TIMEOUT
(log entry 104). -/
def opSessReq (hold : Bool) (c : Sub) (s : State) : OpOut :=
  let p := actPlane s
  if tooFar c s then failSt stBadParam s
  else if ownedByWindow p c.target then failSt stOwnedByWindow s
  else if sessState p c.target ≠ ssRunning then failSt stNotInState s
  else if tooLate c s then failSt stTimeout s
  else if hasTimed c then .wait .timed [] s
  else opPlaceReq hold c s

/-- SESS_ADVANCE. -/
def opSessAdvance (c : Sub) (s : State) : OpOut := opSessReq false c s
/-- SESS_HOLD. -/
def opSessHold (c : Sub) (s : State) : OpOut := opSessReq true c s

/-- Puts a checked image into a session (R216, R212). -/
def loadSess (n : Nat) (i : SessImg) (p : Plane) : Plane :=
  let p1 := setSess { p.sess with imgs := tset none p.sess.imgs n (some i) } p
  if sessState p n = ssRestored then setSf n wSstate 26 1 0 p1
  else setSw n wImageCrc i.crc (setSw n wRecipeId i.recipeId (setSf n wSstate 26 1 0 (setSessState n ssLoaded p1)))

/-- SESS_LOAD (R216). -/
def opSessLoad (c : Sub) (s : State) : OpOut :=
  let p := actPlane s
  let n := c.target
  let a := addrAt c 0
  let len := (par c 2).toNat
  let st := sessState p n
  let img := c.image.take (len / 4)
  if a % 8 ≠ 0 ∨ 1048576 < len then failSt stBadParam s
  else if !inWindow s false a len then badWindow 0x42 c a s
  else if ownedByWindow p n then failSt stOwnedByWindow s
  else if st ≠ ssIdle ∧ st ≠ ssDone ∧ st ≠ ssRestored then failSt stNotInState s
  else match sessCheck p n img len with
    | some r => failRes stBadParam r s
    | none =>
      let i := parseSess img len
      match (if st = ssRestored then scopeConflict p n i.scope else none) with
      | some m => failRes stNotInState m s
      | none => okSn (onExec (loadSess n i) s)

/-- The first action that names a channel or entry bound to a loop (R217, check 0x11). -/
def boundAction (p : Plane) (i : SessImg) : Option Nat :=
  firstFail i.acts.length fun j => match actChan (i.acts.getD j (0, 0)) with
    | some c => !chanBound p c
    | none => true

/-- Output channel whose fence a value of an action must respect (R217). -/
def fencedChan (p : Plane) (a : Word × Word) : Option Nat :=
  match actKind a with
  | 4 => loopChan p (actIndex a)
  | 8 => some (64 + actIndex a)
  | 9 => some (actIndex a)
  | 0xA => some (32 + actIndex a)
  | _ => none

/-- The first action whose value lies outside its channel's fence (check 0x12). -/
def fencedAction (sl : Seal) (p : Plane) (i : SessImg) : Option Nat :=
  firstFail i.acts.length fun j => match fencedChan p (i.acts.getD j (0, 0)) with
    | some c => !outsideFence sl c (i.acts.getD j (0, 0)).2
    | none => true

/-- SESS_START at its cut (R217, R236). -/
def startSess (s : State) (n k : Nat) (p : Plane) : Plane :=
  let p1 := setSessState n ssRunning (setSw n wCounts 0 (setSw n wHeldT 0 (setSw n wRunT 0 (setSw n wPend 0xFFFF0000 p))))
  let p2 := commitStep s n k 8 (setSess { p1.sess with onRefuse := p1.sess.onRefuse.filter fun x => x != n } p1)
  if ilHold p2 n ∧ sessState p2 n = ssRunning then setSessState n ssHeld (cutHolds n [] p2) else p2

/-- SESS_START. -/
def opSessStart (c : Sub) (s : State) : OpOut :=
  let p := actPlane s
  let n := c.target
  let i := sessImg p n
  let st := sessState p n
  let k := field (par c 0) 0 16
  if ownedByWindow p n then failSt stOwnedByWindow s
  else if s.dev ≠ .run ∨ (st ≠ ssLoaded ∧ st ≠ ssDone) ∨ nStep i = 0 then failSt stNotInState s
  else if k ≠ 0xFFFF ∧ nStep i ≤ k then failSt stBadParam s
  else match scopeConflict p n i.scope with
    | some m => failRes stNotInState m s
    | none =>
      match boundAction p i with
      | some j => failRes stBadParam (actResult i 0x11 j) s
      | none =>
        match fencedAction s.sealed p i with
        | some j =>
          let a := i.acts.getD j (0, 0)
          .done stFenced (dw (actResult i 0x12 j)) (logF6 2 1 ((fencedChan p a).getD 0) (cmdId c) 0x43 a.2 s)
        | none => okSn (onExec (startSess s n (if k = 0xFFFF then i.first else k)) s)

/-- SESS_RESUME at its cut r (R218). An interlock hold that a RESTORED session meets sets IL_LATCHED with IL (Table 6-3). -/
def resumeSess (n k : Nat) (p : Plane) : Plane :=
  let il := ilHold p n
  let st := sessState p n
  let had := decide (st = ssHeld) && bit (sw p n wSstate) 16
  let p1 := setSf n wSstate 25 1 0 (setSf n wSstate 16 6 (if il && had then 1 else 0) p)
  let p2 := if k = 0xFFFF then p1 else setPend n k 7 p1
  if il then
    setSessState n ssHeld (addHold n (2 ^ hcIl + (if !had && (sessImg p n).ilLatch then 2 ^ hcIlLatched else 0)) p2)
  else sessEvent n 3 0 (setSessState n ssRunning p2)

/-- SESS_RESUME. -/
def opSessResume (c : Sub) (s : State) : OpOut :=
  let p := actPlane s
  let n := c.target
  let st := sessState p n
  let k := field (par c 0) 0 16
  if ownedByWindow p n then failSt stOwnedByWindow s
  else if st ≠ ssHeld ∧ !(st = ssRestored ∧ !bit (sw p n wSstate) 26) then failSt stNotInState s
  else if k ≠ 0xFFFF ∧ nStep (sessImg p n) ≤ k then failSt stBadParam s
  else .done stOk (dw (s.sn.toNat + (if ilHold p n then 2 ^ 32 else 0))) (onExec (resumeSess n k) s)

/-- SESS_ABORT (R219). -/
def opSessAbort (c : Sub) (s : State) : OpOut :=
  let p := actPlane s
  let n := c.target
  let st := sessState p n
  let k := field (par c 0) 0 16
  if ownedByWindow p n then failSt stOwnedByWindow s
  else if st ≠ ssRunning ∧ st ≠ ssHeld ∧ st ≠ ssFaulted ∧ st ≠ ssRestored ∧ st ≠ ssAborting then failSt stNotInState s
  else if (st = ssAborting ∨ bit (sw p n wSstate) 26) ∧ k ≠ 0xFFFE then failSt stNotInState s
  else if k ≠ 0xFFFE ∧ k ≠ 0xFFFF ∧ nStep (sessImg p n) ≤ k then failSt stBadParam s
  else okSn (onExec (sessAbort s n k false (par c 1)) s)

/-- SESS_START and SESS_ABORT are staged: they commit at the next input cut, where their tests take place, an abort before
the other claims on the session, a start in the place of its session among the commits (R205, R208). -/
def stageSess (_c : Sub) (s : State) : OpOut := .wait .cut [] s

/-- SESS_UNLOAD (R220). -/
def opSessUnload (c : Sub) (s : State) : OpOut :=
  let p := actPlane s
  let n := c.target
  let st := sessState p n
  if ownedByWindow p n then failSt stOwnedByWindow s
  else if st ≠ ssLoaded ∧ st ≠ ssDone then failSt stNotInState s
  else okSn (onExec (fun q => setSess { q.sess with imgs := tset none q.sess.imgs n none } (setSessState n ssIdle q)) s)

/-- SESS_STATUS (R221). -/
def opSessStatus (c : Sub) (s : State) : OpOut :=
  let off := (par c 1).toNat
  if off % 4 ≠ 0 ∨ 56 < off then failSt stBadParam s
  else withPlane (par c 0) s fun k =>
    let p := planeOf s k
    okRes (dword (sw p c.target (off / 4)) (sw p c.target (off / 4 + 1))) s

/-- SESS_ADVANCE. -/
def execSessAdvance (c : Sub) (s : State) : Outcome := hostCmd 0x40 opSessAdvance c s
/-- SESS_HOLD. -/
def execSessHold (c : Sub) (s : State) : Outcome := hostCmd 0x41 opSessHold c s
/-- SESS_LOAD. -/
def execSessLoad (c : Sub) (s : State) : Outcome := hostCmd 0x42 opSessLoad c s
/-- SESS_START. -/
def execSessStart (c : Sub) (s : State) : Outcome := hostCmd 0x43 stageSess c s
/-- SESS_RESUME. -/
def execSessResume (c : Sub) (s : State) : Outcome := hostCmd 0x44 opSessResume c s
/-- SESS_ABORT. -/
def execSessAbort (c : Sub) (s : State) : Outcome := hostCmd 0x45 stageSess c s
/-- SESS_UNLOAD. -/
def execSessUnload (c : Sub) (s : State) : Outcome := hostCmd 0x46 opSessUnload c s
/-- SESS_STATUS. -/
def execSessStatus (c : Sub) (s : State) : Outcome := hostCmd 0x47 opSessStatus c s

/-- STEP_DURATION_DUE (R202). -/
def execStepDurationDue (sess : Nat) (s : State) : Outcome :=
  guarded (decide (sess < 128)) (whenRuns s (onPlanes (durationStep s sess) s))

end Sys2Proof.Machine
end

