-- ==== Sys2Proof/Machine/Analog.lean ====
section
/-! DEFINITION. The analogue front end, PWM and GP pins (14): conversions, rotations, current loops and commands. -/

namespace Sys2Proof.Machine

/-! Groups and converters (R431, R432) -/

/-- Group g after reset: converters 3g, 3g + 1 and 3g + 2 in the roles. -/
def groupReset (g : Nat) : AGroup := { roleA := some (3 * g), roleB := some (3 * g + 1), spare := some (3 * g + 2) }

/-- Group g. -/
def agroup (s : State) (g : Nat) : AGroup := tget (groupReset g) s.analog.groups g

/-- Replaces the front end's state. -/
def setAnalog (a : Analog) (s : State) : State := { s with analog := a }

/-- Replaces group g. -/
def setAgroup (g : Nat) (x : AGroup) (s : State) : State :=
  setAnalog { s.analog with groups := tset (groupReset g) s.analog.groups g x } s

/-- Replaces input channel ch. -/
def setAi (ch : Nat) (x : AChan) (s : State) : State := setAnalog { s.analog with ai := tset {} s.analog.ai ch x } s

/-- Raises a group's event. -/
def groupEvent (g code d1 d2 : Nat) (s : State) : State := raise (0x1B0 + g) (code + d1 * 256 + d2 * 65536) s

/-- Fields of AI_CFG (Table 14-2). -/
def aiMode (w : Word) : Nat := field w 30 2
def aiInj (w : Word) : Bool := bit w 26
def aiOvs (w : Word) : Nat := 2 ^ field w 24 2
def aiSkip (w : Word) : Nat := [1, 2, 4, 5, 10].getD (field w 20 4) 1
def aiLead (w : Word) : Nat := field w 0 8

/-- NE 43 check in force. -/
def aiNe43 (w : Word) : Bool := aiMode w == 2 && bit w 27

/-- Length of a conversion in units of 5 ns. -/
def convTime (low : Bool) : Nat := if low then 400 else 100

/-- Coefficients O and G of a converter in a mode, for a channel's range. -/
def coefOf (s : State) (conv : Nat) (low : Bool) (w : Word) : Int × Int :=
  tget (0, 16777216) s.analog.coef (8 * conv + (if low then 4 else 0) + (if aiMode w = 2 then 3 else field w 28 2))

/-! The schedule (R436 to R438), in units of 5 ns from t0 of the present tick -/

/-- Regular channels of group g that are converted for the sample t ticks after the present one. -/
def dueChans (s : State) (g t : Nat) : List Nat :=
  ((upTo 16).map (16 * g + ·)).filter fun ch =>
    let w := aiCfg s ch
    aiMode w != 0 && !aiInj w && ((aiOf s ch).cfgAge + t) % aiSkip w == 0

/-- Scheduled start of a channel's entry. -/
def entryStart (s : State) (ch : Nat) : Int := 2000 - 20 * (aiLead (aiCfg s ch) : Int)

/-- Insertion in order of start, then of channel. -/
def startInsert (s : State) (ch : Nat) : List Nat → List Nat
  | [] => [ch]
  | a :: r => if entryStart s a ≤ entryStart s ch then a :: startInsert s ch r else ch :: a :: r

/-- Entries of a tick in order of start. -/
def entryOrder (s : State) (chs : List Nat) : List Nat := chs.foldl (fun l c => startInsert s c l) []

/-- An entry that R436 places: channel, role A, and its end; `none` for an entry it cannot place. -/
def placeEntries (s : State) (low : Bool) : List Nat → Int → Int → List (Nat × Option Bool)
  | [], _, _ => []
  | ch :: r, freeA, freeB =>
    let b := entryStart s ch
    let e := b + aiOvs (aiCfg s ch) * convTime low
    if 1980 < e then (ch, none) :: placeEntries s low r freeA freeB
    else if freeA ≤ b then (ch, some true) :: placeEntries s low r e freeB
    else if freeB ≤ b then (ch, some false) :: placeEntries s low r freeA e
    else (ch, none) :: placeEntries s low r freeA freeB

/-- Placement of the entries of the sample t ticks after the present one. -/
def schedule (s : State) (low : Bool) (g t : Nat) : List (Nat × Option Bool) :=
  placeEntries s low (entryOrder s (dueChans s g t)) (-100000) (-100000)

/-- First channel of group g that R436 refuses, over a period of 20 ticks. -/
def scheduleBad (s : State) (low : Bool) (g : Nat) : Option Nat :=
  ((upTo 20).findSome? fun t => (schedule s low g t).find? fun x => x.2.isNone).map fun x => x.1

/-- Start of an entry of role A behind the injected sequences it meets (R438). -/
def displaced (dur : Int) (runs : List (Int × Int)) (b : Int) : Int :=
  runs.foldl (fun x r => if x < r.2 ∧ r.1 < x + dur then r.2 else x) b

/-- Entries of role A that end too late behind injected work. -/
def droppedFrom (s : State) (low : Bool) (runs : List (Int × Int)) : List Nat → Int → List Nat
  | [], _ => []
  | ch :: r, prev =>
    let dur : Int := aiOvs (aiCfg s ch) * convTime low
    let b := displaced dur runs (max (entryStart s ch) prev)
    if 1980 < b + dur then ch :: droppedFrom s low runs r prev else droppedFrom s low runs r (b + dur)

/-- Regular channels of group g that the present tick drops. -/
def droppedChans (s : State) (g : Nat) : List Nat :=
  let x := agroup s g
  if x.runs.isEmpty then []
  else droppedFrom s x.low x.runs (((schedule s x.low g 1).filter fun e => e.2 == some true).map fun e => e.1) (-100000)

/-! Values (R432, R434, R435) -/

/-- Sum of the corrected codes, with 24 fractional bits. -/
def corrSum (c : Int × Int) (codes : List Int) : Int := (codes.map fun x => c.2 * (x - c.1)).sum

/-- The channel's value from N conversions. -/
def aiValue (x : AChan) (n : Nat) (sum : Int) : Word :=
  sat32 (rdiv (x.scale.toInt * sum + x.offs.toInt * n * 2 ^ 41) (n * 2 ^ 41))

/-- The current lies outside 3.6 mA to 21.0 mA; and within 3.8 mA to 20.5 mA. -/
def ne43Out (n : Nat) (sum : Int) : Bool :=
  decide (64 * sum < 9 * (n * 2 ^ 41 : Int)) || decide (105 * (n * 2 ^ 41 : Int) < 128 * sum)
def ne43In (n : Nat) (sum : Int) : Bool :=
  decide (19 * (n * 2 ^ 41 : Int) ≤ 128 * sum) && decide (256 * sum ≤ 205 * (n * 2 ^ 41 : Int))

/-- A conversion of channel ch by a converter: the channel's record, with the value and quality in `out`. -/
def convertAi (s : State) (ch conv : Nat) (low : Bool) (codes : List Int) : AChan × (Word × Bool) :=
  let w := aiCfg s ch
  let n := aiOvs w
  let x := aiOf s ch
  let sum := corrSum (coefOf s conv low w) codes
  let x1 := { x with ovr := codes.any fun c => c == -131072 || c == 131071 }
  let fails := aiNe43 w && ne43Out n sum
  if aiNe43 w && (x.nfail || fails) then
    ({ x1 with nfail := true, nin := ne43In n sum, nrun := if ne43In n sum then x.nrun else 0 }, (x.value, true))
  else (x1, (aiValue x n sum, false))

/-- Events of a conversion. -/
def convEvents (ch : Nat) (old new : AChan) (s : State) : State :=
  let s1 := if new.ovr && !old.ovr then raise 0x1B4 (1 + ch * 256) s else s
  if new.nfail && !old.nfail then raise 0x1B4 (2 + ch * 256) s1 else s1

/-- A domain of the front end is in service (R430). -/
def afeUp (s : State) (k : Nat) : Bool := !tget false s.outs.afeOff k

/-- A converter fails (R442). -/
def convFailed (g conv cause : Nat) (s : State) : State :=
  groupEvent g 2 conv cause (setAnalog { s.analog with failed := s.analog.failed ++ [conv] } s)

/-- Ends the AFE_CAL commands of a group. -/
def endCal (g st : Nat) (r : DWord) (s : State) : State :=
  forEach (s.hif.cmds.filter fun c => c.op == 0xC5 && c.wait == .device && c.sub.target == g)
    (fun c t => completeWaiting (fun x => x == c) st r t) s

/-- AI_CONVERSION (R436): a due regular channel of a working role converts; its value becomes a token for the
coming sample. A conversion that fails its parity is withheld (R442). -/
def execAiConversion (ch : Nat) (codes : List Int) (parityBad : Bool) (s : State) : Outcome :=
  let g := ch / 16
  let x := agroup s g
  let role := (schedule s x.low g 1).find? fun e => e.1 == ch
  let conv := match role with
    | some (_, some true) => x.roleA
    | some (_, some false) => x.roleB
    | _ => none
  guarded (decide (ch < 64)) (match role, conv with
    | some (_, some a), some k =>
      if !afeUp s (g / 2) || (aiOf s ch).nxt.isSome || (aiOf s ch).test.isSome || (droppedChans s g).contains ch
        || codes.length != aiOvs (aiCfg s ch) then s
      else if parityBad then
        if s.analog.failed.contains k then s
        else convFailed g k 3 (setAgroup g (if a then { x with failA := true } else { x with failB := true }) s)
      else
        let (y, v) := convertAi s ch k x.low codes
        broadcastFrom 1 ch v.1 v.2 (s.sn + 1) 99 0 (convEvents ch (aiOf s ch) y (setAi ch { y with nxt := some v } s))
    | _, _ => s)

/-- NE43_RECOVERY (R435). -/
def execNe43Recovery (ch : Nat) (s : State) : Outcome :=
  let x := aiOf s ch
  guarded (decide (ch < 64)) (if x.nfail && decide (10 ≤ x.nrun)
    then raise 0x1B4 (3 + ch * 256) (setAi ch { x with nfail := false, nrun := 0 } s) else s)

/-- An injected conversion that ends at e: a result by t0 - 0.1 µs serves the coming sample, a later one that after it. One
without codes fails its parity and is withheld (R442). -/
def injectOne (g : Nat) (e : Int) (ch : Nat) (codes : List Int) (s : State) : State :=
  let x := agroup s g
  match x.roleA with
  | none => s
  | some k =>
    if !afeUp s (g / 2) || (aiOf s ch).test.isSome then s
    else if codes.isEmpty then
      if s.analog.failed.contains k then s else convFailed g k 3 (setAgroup g { x with failA := true } s)
    else
      let (y, v) := convertAi s ch k x.low codes
      convEvents ch (aiOf s ch) y (setAi ch (if e ≤ 1980 then { y with nxt := some v } else { y with pend := some v }) s)

/-- The injected conversions of group g that end in the present tick. -/
def injectDue (g : Nat) (s : State) : State :=
  let x := agroup s g
  forEach (x.todo.filter fun t => decide (t.1 ≤ 2000)) (fun t u => injectOne g t.1 t.2.1 t.2.2 u)
    (setAgroup g { x with todo := x.todo.filter fun t => !decide (t.1 ≤ 2000) } s)

/-- The conversions of a sequence that begins at `at_`, back to back. -/
def injectPlan (s : State) (low : Bool) : List Nat → List (List Int) → Int → List (Int × Nat × List Int)
  | [], _, _ => []
  | ch :: r, codes, at_ =>
    let e := at_ + aiOvs (aiCfg s ch) * convTime low
    (e, ch, codes.headD []) :: injectPlan s low r codes.tail e

/-- The trigger source of group g can show an edge: a PW waveform that is driven and changes, or a GP input. -/
def trigLive (s : State) (g : Nat) : Bool :=
  let x := agroup s g
  let w : Pwm := tget {} s.analog.pw x.trigPin
  if x.trig = 1 ∨ x.trig = 2 then
    w.running && !(w.high == 0 || decide (w.period ≤ w.high)) && !tget false s.outs.afeOff (x.trigPin / 32)
  else decide (3 ≤ x.trig) && !tget false s.analog.gpDir x.trigPin

/-- Begin of the sequence that a trigger at `came` starts: DELAY later, behind one that still runs then (log entry 122). -/
def seqStart (x : AGroup) (came : Int) : Int := x.runs.foldl (fun b r => max b r.2) (came + x.delay)

/-- INJECTED_TRIGGER (R438): the trigger arrives at at5ns; codes are what the conversions of its sequence will return, each
in number as OVS says, or none where it fails its parity. -/
def execInjectedTrigger (g at5ns : Nat) (codes : List (List Int)) (s : State) : Outcome :=
  let x := agroup s g
  let came : Int := at5ns
  let fits := (x.inj.zip codes).all fun y => y.2.isEmpty || y.2.length == aiOvs (aiCfg s y.1)
  guarded (decide (g < 4) && decide (at5ns < 2000)) (
    if !trigLive s g ∨ x.inj = [] ∨ !afeUp s (g / 2) ∨ codes.length ≠ x.inj.length ∨ !fits then s
    else if x.runs.any fun r => decide (r.1 ≤ came ∧ came < r.2) then
      let s1 := setAgroup g { x with injMiss := x.injMiss + 1, missTick := true } s
      if x.missTick then s1 else groupEvent g 5 0 0 s1
    else if x.roleA.isNone then s
    else
      let b := seqStart x came
      let plan := injectPlan s x.low x.inj codes b
      let e := plan.foldl (fun m t => max m t.1) b
      injectDue g (setAgroup g { x with runs := x.runs ++ [(b, e)], todo := x.todo ++ plan } s))

/-! Rotating calibration (R441 to R443) -/

/-- Begins a rotation. -/
def startRotation (g : Nat) (s : State) : State :=
  let x := agroup s g
  setAgroup g { x with rot := 1, dupTicks := 0, calTicks := 0, rotB := x.nextB } s

/-- CAL_ROTATION_START (R441): CAL_PERIOD has passed. -/
def execCalRotationStart (g : Nat) (s : State) : Outcome :=
  let x := agroup s g
  guarded (decide (g < 4)) (if x.rot = 0 ∧ x.spare.isSome ∧ x.calPeriod * 100000 ≤ x.calTicks then startRotation g s else s)

/-- CAL_HANDOVER (R441, R442): after 64 ticks of duplicates, with their largest difference. -/
def execCalHandover (g diff : Nat) (s : State) : Outcome :=
  let x := agroup s g
  guarded (decide (g < 4)) (
    match x.spare with
    | none => s
    | some k =>
      if x.rot ≠ 1 ∨ x.dupTicks < 64 then s
      else if x.calTol < diff then
        endCal g stBadParam 1 (groupEvent g 3 0 0 (convFailed g k 1 (setAgroup g { x with rot := 0, spare := none } s)))
      else
        setAgroup g { x with
          roleA := if x.rotB then x.roleA else some k
          roleB := if x.rotB then some k else x.roleB
          spare := if x.rotB then x.roleB else x.roleA
          rot := 2
          nextB := !x.rotB
          handSn := s.sn } s)

/-- CAL_COEFF_LOADED (R441, R442): the outgoing converter has measured itself; coefficients by mode and range. -/
def execCalCoeffLoaded (g : Nat) (coef : List (Int × Int)) (ok : Bool) (s : State) : Outcome :=
  let x := agroup s g
  guarded (decide (g < 4)) (
    match x.spare with
    | none => s
    | some k =>
      if x.rot ≠ 2 then s
      else if !ok then
        endCal g stNotInState 0 (groupEvent g 3 0 0 (convFailed g k 2 (setAgroup g { x with rot := 0, spare := none } s)))
      else
        let s1 := setAnalog { s.analog with coef := tsetMany (0, 16777216) s.analog.coef (8 * k) (coef.take 8) } s
        endCal g stOk (dw x.handSn.toNat)
          (groupEvent g 1 k 0 (setAgroup g { x with rot := 0, rotations := x.rotations + 1 } s1)))

/-- A role whose converter failed takes the spare at the cut (R442). -/
def replaceRole (b : Bool) (g : Nat) (s : State) : State :=
  let x := agroup s g
  if !(if b then x.failB else x.failA) then s
  else
    let x1 := if b then { x with roleB := x.spare, failB := false } else { x with roleA := x.spare, failA := false }
    let x2 := { x1 with spare := none, rot := 0 }
    let s1 := endCal g stNotInState 0 (setAgroup g x2 s)
    if x.spare.isSome then groupEvent g 3 0 0 s1 else s1

/-! The input cut: every channel delivers one value for the new sample (R439) -/

/-- Ends a sample for a channel: its value and quality of the new one. -/
def settleAi (ch : Nat) (x : AChan) (v : Word) (q : Bool) (fresh : Bool) (s : State) : State :=
  setAi ch { x with
    value := v, q := q
    have_ := x.have_ || fresh
    age := if fresh then 0 else x.age + 1
    nrun := if x.nfail && x.nin && x.test.isNone then x.nrun + 1 else x.nrun
    cfgAge := x.cfgAge + 1
    nxt := x.pend, pend := none } s

/-- The channel's last value as a token for the sample to come. -/
def lastToken (ch : Nat) (q : Bool) (x : AChan) (s : State) : State :=
  settleAi ch x x.value q false (broadcastFrom 1 ch x.value q (s.sn + 1) 99 0 s)

/-- One channel at the cut. -/
def cutAi (drops : List Nat) (roleLost : List Nat) (dueNow : List Nat) (ch : Nat) (s : State) : State :=
  let w := aiCfg s ch
  let x := aiOf s ch
  if aiMode w = 0 then setAi ch { x with cfgAge := x.cfgAge + 1, nxt := none, pend := none } s
  else if x.test.isSome then lastToken ch true x s
  else if aiInj w then
    match x.nxt with
    | some (v, q) => settleAi ch x v q (!q) (broadcastFrom 1 ch v q (s.sn + 1) 99 0 s)
    | none => lastToken ch (x.nfail || roleLost.contains ch || !x.have_ || decide (field w 8 8 < x.age + 1)) x s
  else
    match x.nxt with
    | some (v, q) => settleAi ch x v q (!q) s
    | none =>
      if drops.contains ch then
        lastToken ch true { x with drops := satAdd 0xFFFF x.drops 1 } s
      else if roleLost.contains ch then lastToken ch true x s
      else if dueNow.contains ch then settleAi ch x x.value x.q false s
      else lastToken ch (x.nfail || !x.have_) x s

/-- Channels whose entries a role without a converter would serve: injected ones with role A, a regular one with the role
of its next entry (R442). -/
def roleLost (s : State) (g : Nat) : List Nat :=
  let x := agroup s g
  if x.roleA.isSome && x.roleB.isSome then []
  else
    let plan := (upTo 20).flatMap fun t => schedule s x.low g (t + 1)
    let lost := fun (a : Bool) => (if a then x.roleA else x.roleB).isNone
    ((upTo 16).map (16 * g + ·)).filter fun ch =>
      if aiInj (aiCfg s ch) then lost true
      else match plan.find? fun e => e.1 == ch with
        | some e => lost (e.2 == some true)
        | none => false

/-- One group at the cut: its channels, drops, failed roles and counters. -/
def cutAgroup (g : Nat) (s : State) : State :=
  let x := agroup s g
  let sch := schedule s x.low g 1
  let drops := (droppedChans s g).filter fun ch => (aiOf s ch).nxt.isNone
  let s1 := forEach ((upTo 16).map (16 * g + ·)) (cutAi drops (roleLost s g) (sch.map fun e => e.1)) s
  let y := agroup s1 g
  let s2 := setAgroup g { y with
    regDrop := y.regDrop + drops.length
    runs := (y.runs.map fun r => (r.1 - 2000, r.2 - 2000)).filter fun r => decide (-2000 < r.2)
    todo := y.todo.map fun t => (t.1 - 2000, t.2)
    missTick := false
    calTicks := y.calTicks + 1
    dupTicks := if y.rot = 1 then y.dupTicks + 1 else y.dupTicks } s1
  let s3 := if drops.isEmpty then s2 else groupEvent g 4 drops.length 0 s2
  injectDue g (replaceRole true g (replaceRole false g s3))

/-- The periods of the PWM outputs are counted from the next t0. -/
def pwmCut (s : State) : State :=
  setAnalog { s.analog with pw := s.analog.pw.map fun x => (x.1, { x.2 with next := x.2.next - 2000 }) } s

/-- The front end's part of an input cut, before SN advances. -/
def analogCut (s : State) : State := pwmCut (forEach [0, 1, 2, 3] cutAgroup s)

/-! Use of a channel (R444) -/

/-- An end condition of a session's current step names the channel. -/
def condNamesAi (p : Plane) (ch n : Nat) : Bool :=
  let st := sessState p n
  let i := sessImg p n
  let k := sessStep p n
  (st == ssRunning || st == ssHeld) && (upTo (stepNEnd i k)).any fun e =>
    let a := stepWord i k (4 + 2 * e)
    field a 28 4 == 2 && field a 0 12 == ch

/-- The channel is in use. -/
def aiInUse (s : State) (ch : Nat) : Bool :=
  let p := actPlane s
  ((routesOf p).any fun r => r.srcKind == 1 && r.src == ch && !loopIdle p r.dest)
    || ((upTo 64).any fun a => emfSrc p a == 1 && (emfAi p a == ch || emfAi p a + 1 == ch) && axState p a != 0)
    || ((upTo 128).any fun n => condNamesAi p ch n)
    || (p.masks.any fun m => m.2.state == 2 && (match m.2.img with
      | some img => field (wordAt img 3) 28 4 == 2 && field (wordAt img 3) 0 12 == ch
      | none => false))

/-! Commands (R455, Table 14-7) -/

/-- BAD_PARAM under R436 with the failing channel, or the state with its completion. -/
def ifScheduled (low : Bool) (g : Nat) (s0 s : State) : OpOut :=
  match scheduleBad s low g with
  | some ch => failRes stBadParam ch s0
  | none => okSn s

/-- AI_CFG is in range. -/
def aiCfgOk (ch : Nat) (w : Word) : Bool :=
  decide (aiMode w < 3) && (aiMode w != 2 || decide (32 ≤ ch)) && (aiMode w == 2 || decide (field w 28 2 < 3))
    && decide (field w 20 4 ≤ 4) && field w 8 8 != 0 && decide (6 ≤ aiLead w ∧ aiLead w ≤ 100)

/-- AI_CONFIG. -/
def opAiConfig (c : Sub) (s : State) : OpOut :=
  let w := par c 0
  let ch := c.target
  if !aiCfgOk ch w then failSt stBadParam s
  else if s.dev != .ready && aiInUse s ch then failSt stNotInState s
  else
    let x := aiOf s ch
    ifScheduled (agroup s (ch / 16)).low (ch / 16) s (setAi ch { x with
      cfg := some w, scale := par c 1, offs := par c 2, cfgAge := 0
      nxt := none, pend := none
      have_ := x.have_ && aiInj w == aiInj (aiCfg s ch)
      nfail := x.nfail && aiNe43 w, nrun := 0 } s)

/-- Channels of an injected list word. -/
def injList (w : Word) : List Nat := ((upTo 4).map fun i => field w (8 * i) 8).filter fun n => n != 0xFF

/-- What AFE_SEQ itself says is in range. -/
def seqForm (c : Sub) : Bool :=
  let k := field (par c 0) 0 4
  let l := injList (par c 2)
  decide (k ≤ 4) && !((k == 1 || k == 2) && decide (63 < field (par c 0) 8 7)) && l.all (fun ch => ch / 16 == c.target)
    && l.eraseDups == l

/-- AFE_SEQ. -/
def opAfeSeq (c : Sub) (s : State) : OpOut :=
  let k := field (par c 0) 0 4
  let pin := field (par c 0) 8 7
  let l := injList (par c 2)
  let g := c.target
  if !seqForm c ∨ l.any (fun ch => !aiInj (aiCfg s ch)) then
    failSt stBadParam s
  else if s.dev ≠ .ready then failSt stNotInState s
  else ifScheduled (agroup s g).low g s
    (setAgroup g { agroup s g with trig := k, trigPin := pin, delay := field (par c 1) 0 16, inj := l } s)

/-- AO_CONFIG. -/
def opAoConfig (c : Sub) (s : State) : OpOut :=
  if 2 < (par c 0).toNat then failSt stBadParam s
  else if s.dev ≠ .ready then failSt stNotInState s
  else okSn (setAnalog { s.analog with aoRange := tset 0 s.analog.aoRange c.target (par c 0).toNat } s)

/-- Current loop k. -/
def clOf (s : State) (k : Nat) : CLoop := tget {} s.analog.cl k

/-- Replaces current loop k. -/
def setCl (k : Nat) (x : CLoop) (s : State) : State := setAnalog { s.analog with cl := tset {} s.analog.cl k x } s

/-- The alarm condition of a retransmit channel (R449). -/
def alarmDue (s : State) (k : Nat) : Bool :=
  let x := clOf s k
  let m := loopMode (actPlane s) x.src
  x.use && (m ≤ 1 || m == 6 || m == 7 || decide (x.dly ≤ x.rqRun))

/-- An alarm that the configuration in force no longer gives ends with its event (R449). -/
def alarmEnds (k : Nat) (s : State) : State :=
  if (clOf s k).alarm && !alarmDue s k then
    raise 0x1B5 (6 + k * 256) (setCl k { clOf s k with alarm := false, alarmClamped := false } s)
  else s

/-- The values addressed to a retransmit channel are discarded (R448): none stands when it becomes a control channel. -/
def clFresh (k : Nat) (s : State) : State :=
  onPlanes (fun p => setFab { p.fab with outReg := p.fab.outReg.filter fun x => x.1 != 32 + k } p) s

/-- CL_CONFIG. -/
def opClConfig (c : Sub) (s : State) : OpOut :=
  let w := par c 0
  if field w 2 2 = 3 ∨ (bit w 0 ∧ field w 8 8 = 0) then failSt stBadParam s
  else if s.dev ≠ .ready then failSt stNotInState s
  else
    let x := clOf s c.target
    let s1 := if x.use && !bit w 0 then clFresh c.target s else s
    okSn (alarmEnds c.target (setCl c.target { x with
      use := bit w 0, dir := field w 2 2, dly := field w 8 8, sel := field w 16 2, src := field w 22 10
      rqRun := if x.use && x.src == field w 22 10 && x.sel == field w 16 2 then x.rqRun else 0 } s1))

/-- PW_CONFIG: a new period origin. -/
def opPwConfig (c : Sub) (s : State) : OpOut :=
  if (par c 0).toNat < 200 then failSt stBadParam s
  else if s.dev ≠ .ready then failSt stNotInState s
  else
    let x : Pwm := tget {} s.analog.pw c.target
    let y : Pwm := { x with
      period := (par c 0).toNat, centre := bit (par c 1) 0, invert := bit (par c 1) 1, running := false, next := 1500 }
    okSn (setAnalog { s.analog with pw := tset {} s.analog.pw c.target y } s)

/-- AFE_CAL (R443). -/
def opAfeCal (c : Sub) (s : State) : OpOut :=
  let per := field (par c 0) 0 12
  let tol := field (par c 0) 12 8
  let x := agroup s c.target
  if 3600 < per then failSt stBadParam s
  else if x.spare.isNone then failSt stNotInState s
  else
    let x1 := { x with calPeriod := if per = 0 then x.calPeriod else per, calTol := if tol = 0 then x.calTol else tol }
    let s1 := setAgroup c.target x1 s
    .wait .device [] (if x.rot = 0 then startRotation c.target s1 else s1)

/-- AFE_TEST (R444). -/
def opAfeTest (c : Sub) (s : State) : OpOut :=
  let k := (par c 0).toNat
  let t := c.target
  if k = 3 then failSt stBadParam s
  else if decide (64 ≤ t) != (k == 0) then failSt stBadTarget s
  else if k = 0 then
    let x := agroup s (t - 64)
    if x.rot ≠ 0 ∨ x.spare.isNone then failSt stNotInState s
    else .wait .device [] (setAgroup (t - 64) { x with test0 := true } s)
  else if k = 2 ∧ aiMode (aiCfg s t) ≠ 2 then failSt stBadParam s
  else if aiInUse s t || (aiOf s t).test.isSome then failSt stNotInState s
  else .wait .device [] (setAi t { aiOf s t with test := some k, nxt := none, pend := none } s)

/-- Kind of the test that runs on a channel, or, from 64 on, on a group. -/
def testKind (s : State) (ch : Nat) : Option Nat :=
  if ch < 64 then (aiOf s ch).test else if (agroup s (ch - 64)).test0 then some 0 else none

/-- RESULT of a test, from the reading that it took: KIND 1 says whether the reading moved by more than 0.25 FS. -/
def testResult (s : State) (ch k : Nat) (res : Word) : DWord :=
  if k = 1 then dw (if fsOne < 4 * ((res.toInt - (aiOf s ch).value.toInt).natAbs : Int) then 1 else 0) else dw res.toNat

/-- AFE_TEST_DONE (R444): the test of a channel, or of group ch - 64, ends: for KIND 0 and KIND 2 with the error, for KIND 1
with the reading under the applied current. An aborted command's test ends here, too (log entry 69). -/
def execAfeTestDone (ch : Nat) (res : Word) (s : State) : Outcome :=
  guarded (decide (ch < 68)) (
    match testKind s ch with
    | none => s
    | some k =>
      let g := if ch < 64 then ch / 16 else ch - 64
      let s1 := if ch < 64 then setAi ch { aiOf s ch with test := none } s else setAgroup g { agroup s g with test0 := false } s
      let s2 := groupEvent g 6 (if ch < 64 then ch else 0) k s1
      completeWaiting (fun x => x.op == 0xC6 && x.wait == .device && x.sub.target == ch) stOk (testResult s ch k res) s2)

/-- AI status word (Table 14-5). -/
def aiStatusWord (s : State) (ch : Nat) : Word :=
  let x := aiOf s ch
  word ((if aiOff s ch then 0 else 1) + (if x.q then 2 else 0) + (if x.ovr then 4 else 0) + (if x.nfail then 8 else 0)
    + (if x.test.isSome then 16 else 0) + min 255 x.age * 256 + x.drops * 65536)

/-- Alarm direction in force. -/
def alarmHiOf (s : State) (x : CLoop) : Bool := if x.dir = 0 then s.boot.alarmHi else x.dir == 2

/-- CL status word (Table 14-5). -/
def clStatusWord (s : State) (k : Nat) : Word :=
  let x := clOf s k
  word ((if alarmHiOf s x then 1 else 0) + (if x.use then 2 else 0) + (if x.drvLimit then 4 else 0)
    + (if x.lost && !x.open_ then 8 else 0) + (if x.open_ then 16 else 0) + (if x.sat then 32 else 0)
    + (if x.alarm then 64 else 0) + (if x.alarmClamped then 128 else 0) + x.shortCnt * 65536)

/-- AFE_STATUS (R453). -/
def opAfeStatus (c : Sub) (s : State) : OpOut :=
  let t := c.target
  if t < 64 then okRes (dword (aiStatusWord s t) (aiOf s t).value) s
  else if t < 96 then okRes (dword (clStatusWord s (t - 64)) (clOf s (t - 64)).im) s
  else if t < 128 then
    okRes (dw ((if tget false s.analog.ovld (t - 96) then 1 else 0) + tget 0 s.analog.aoRange (t - 96) * 2)) s
  else if t < 132 then
    let x := agroup s (t - 128)
    okRes (dw (x.roleA.getD 0xF + x.roleB.getD 0xF * 16 + x.spare.getD 0xF * 256 + (if x.low then 4096 else 0)
      + (if x.rot = 0 then 0 else 8192) + x.rotations % 65536 * 65536 + x.regDrop % 2 ^ 32 * 2 ^ 32)) s
  else okRes (dw s.analog.loopv) s

/-- AFE_MODE (R440). -/
def opAfeMode (c : Sub) (s : State) : OpOut :=
  let low := bit (par c 0) 0
  ifScheduled low c.target s (setAgroup c.target { agroup s c.target with low := low } s)

/-- Sealed safe level of a GP pin (09 Table 9-1). -/
def gpSafe (sl : Seal) (n : Nat) : Bool := bit (slw sl (0x10A40 / 4 + n / 32)) (n % 32)

/-- Sets the direction of one pin; an output drives its sealed safe level (R611). -/
def setGpDir (n : Nat) (out : Bool) (s : State) : State :=
  let lvl := out && gpSafe s.sealed n
  let f := setOut (gpKey n) (word lvl.toNat)
  { s with
    analog := { s.analog with gpDir := tset false s.analog.gpDir n out }
    outs := { s.outs with gp := tset false s.outs.gp n lvl }
    planeA := f s.planeA
    planeB := f s.planeB }

/-- GP_CONFIG (R611). -/
def opGpConfig (c : Sub) (s : State) : OpOut :=
  let w := par c 0
  if c.target = 3 ∧ s.boot.legacyEn then failSt stBadParam s
  else if s.dev ≠ .ready ∨ (upTo 32).any (fun b => !bit w b && ownsGp (actPlane s) (32 * c.target + b)) then failSt stNotInState s
  else okSn (forEach (upTo 32) (fun b t => setGpDir (32 * c.target + b) (bit w b) t) s)

/-- AI_CONFIG. -/
def execAiConfig (c : Sub) (s : State) : Outcome := hostCmd 0xC0 opAiConfig c s
/-- AFE_SEQ. -/
def execAfeSeq (c : Sub) (s : State) : Outcome := hostCmd 0xC1 opAfeSeq c s
/-- AO_CONFIG. -/
def execAoConfig (c : Sub) (s : State) : Outcome := hostCmd 0xC2 opAoConfig c s
/-- CL_CONFIG. -/
def execClConfig (c : Sub) (s : State) : Outcome := hostCmd 0xC3 opClConfig c s
/-- PW_CONFIG. -/
def execPwConfig (c : Sub) (s : State) : Outcome := hostCmd 0xC4 opPwConfig c s
/-- AFE_CAL. -/
def execAfeCal (c : Sub) (s : State) : Outcome := hostCmd 0xC5 opAfeCal c s
/-- AFE_TEST. -/
def execAfeTest (c : Sub) (s : State) : Outcome := hostCmd 0xC6 opAfeTest c s
/-- AFE_STATUS. -/
def execAfeStatus (c : Sub) (s : State) : Outcome := hostCmd 0xC7 opAfeStatus c s
/-- AFE_MODE. -/
def execAfeMode (c : Sub) (s : State) : Outcome := hostCmd 0xC8 opAfeMode c s
/-- GP_CONFIG. -/
def execGpConfig (c : Sub) (s : State) : Outcome := hostCmd 0xC9 opGpConfig c s

/-! Current loops (R449 to R452) -/

/-- Value of current loop k committed on the previous tick. -/
def clBefore (s : State) (k : Nat) : Int := (tget 0 s.outs.chan (32 + k)).toInt

/-- CL_MEASURE (R450, R451): measured current in FS, and the gate drive at its limit. -/
def execClMeasure (k : Nat) (im : Word) (lim : Bool) (s : State) : Outcome :=
  let x := clOf s k
  let u := clBefore s k
  let d := u - im.toInt
  let short := decide (5 * fsOne < 1000 * d) && lim
  let good := decide (1000 * (d.natAbs : Int) ≤ 5 * fsOne) && !lim
  let low := decide (10000 * im.toInt < -2375 * fsOne)
  let y := { x with
    im := im, drvLimit := lim
    shortCnt := if short then satAdd 255 x.shortCnt 1 else 0
    goodRun := if good then x.goodRun + 1 else 0
    openRun := if low && lim && decide (-524288 ≤ u) then x.openRun + 1 else 0 }
  guarded (decide (k < 32)) (if x.open_ && !low then raise 0x1B5 (4 + k * 256) (setCl k { y with open_ := false } s)
    else setCl k y s)

/-- COMPLIANCE_LOST (R450). -/
def execComplianceLost (k : Nat) (s : State) : Outcome :=
  let x := clOf s k
  guarded (decide (k < 32)) (if 3 ≤ x.shortCnt ∧ !x.lost ∧ !x.open_
    then raise 0x1B5 (1 + k * 256) (setCl k { x with lost := true } s) else s)

/-- COMPLIANCE_RESTORED (R450). -/
def execComplianceRestored (k : Nat) (s : State) : Outcome :=
  let x := clOf s k
  guarded (decide (k < 32)) (if x.lost ∧ 10 ≤ x.goodRun
    then raise 0x1B5 (2 + k * 256) (setCl k { x with lost := false } s) else s)

/-- CL_OPEN (R451). -/
def execClOpen (k : Nat) (s : State) : Outcome :=
  let x := clOf s k
  guarded (decide (k < 32)) (if 3 ≤ x.openRun ∧ !x.open_
    then raise 0x1B5 (3 + k * 256) (setCl k { x with open_ := true } s) else s)

/-- RETRANSMIT_ALARM (R449). -/
def execRetransmitAlarm (k : Nat) (s : State) : Outcome :=
  let x := clOf s k
  guarded (decide (k < 32)) (
    if alarmDue s k = x.alarm then s
    else raise 0x1B5 ((if x.alarm then 6 else 5) + k * 256) (setCl k { x with alarm := !x.alarm } s))

/-- LOOPV lies within 9.8 V to 30.2 V. -/
def loopvBand (v : Nat) : Bool := decide (980 ≤ v ∧ v ≤ 3020)

/-- The condition of LOOPV after a measurement, from the condition and the measurement before (R452; log entry 43): a fall
below 10.0 V or a rise above 30.0 V, and a return into 9.8 V to 30.2 V from outside it, or into 10.0 V to 30.0 V. -/
def loopvNext (st prev v : Nat) : Nat :=
  if 1000 ≤ v ∧ v ≤ 3000 then 0
  else
    let out := if v < 1000 then 1 else 2
    if !loopvBand v then out
    else if st = 0 then (if loopvBand prev && !decide (1000 ≤ prev ∧ prev ≤ 3000) then 0 else out)
    else if !loopvBand prev then 0 else st

/-- LOOPV_MEASURE (R452), in units of 10 mV. -/
def execLoopvMeasure (v : Nat) (s : State) : Outcome :=
  let st := s.analog.loopvState
  let new := loopvNext st s.analog.loopv v
  let s1 := setAnalog { s.analog with loopv := v % 65536, loopvState := new } s
  .next (if new = st then s1 else raise 0x1B6 ((if new = 0 then 3 else new) + v % 65536 * 65536) s1)

/-- AO_OVERLOAD (R445). -/
def execAoOverload (k : Nat) (acting : Bool) (s : State) : Outcome :=
  guarded (decide (k < 32)) (
    if tget false s.analog.ovld k = acting then s
    else raise 0x1B7 ((if acting then 1 else 2) + k * 256)
      (setAnalog { s.analog with ovld := tset false s.analog.ovld k acting } s))

/-- The level of PWk at count n of the present period (R446). -/
def pwmLevel (x : Pwm) (n : Nat) : Bool :=
  let from_ := if x.centre then (x.period - x.high) / 2 else 0
  decide (from_ ≤ n ∧ n < from_ + x.high) != x.invert

/-- The level that PWk keeps through the whole of the present period, where it does. -/
def pwmSteady (x : Pwm) : Option Bool :=
  if x.high = 0 then some x.invert else if x.period ≤ x.high then some (!x.invert) else none

/-- PWM_PERIOD_START (R446): the period that is due takes the latest committed duty. -/
def execPwmPeriodStart (k : Nat) (s : State) : Outcome :=
  let x : Pwm := tget {} s.analog.pw k
  let u := tget 0 s.outs.chan (64 + k)
  let h := (rdiv (clampI 0 fsOne u.toInt * x.period) 16777216).toNat
  guarded (decide (k < 64)) (if 2000 ≤ x.next then s
    else setAnalog { s.analog with
      pw := tset {} s.analog.pw k { x with high := h, duty := u, running := true, next := x.next + x.period } } s)

end Sys2Proof.Machine
end

