-- ==== Sys2Proof/Machine/Clock.lean ====
section
/-! DEFINITION. Clocks, management levels, gates, frequency counters and power domains (18). -/

namespace Sys2Proof.Machine

/-- Clock record of plane p. -/
def pclk (s : State) (p : Nat) : PClk := if p = 1 then s.clock.a else s.clock.b

/-- Replaces the clock record of plane p. -/
def setPclk (p : Nat) (v : PClk) (s : State) : State :=
  if p = 1 then { s with clock := { s.clock with a := v } } else { s with clock := { s.clock with b := v } }

/-- Clock source of Table 18-1. -/
def clkSrc (s : State) (k : Nat) : ClkSrc := tget {} s.clock.srcs k

/-- Replaces a clock source. -/
def setClkSrc (k : Nat) (v : ClkSrc) (s : State) : State :=
  { s with clock := { s.clock with srcs := tset {} s.clock.srcs k v } }

/-- Replaces frequency counter k. -/
def setCounter (k : Nat) (v : FCount) (s : State) : State :=
  { s with clock := { s.clock with counters := tset {} s.clock.counters k v } }

/-! Power domains (R560 to R562) -/

/-- Plane of a plane domain of Table 18-7. -/
def domPlane (d : Nat) : Nat := if d < 0x0E then 1 else 2

/-- A power domain is powered; a booth group is powered with its plane's core unless it stands in retention. -/
def domPowered (s : State) (d : Nat) : Bool :=
  if 0x0A ≤ d ∧ d < 0x0E then
    tget false s.clock.powered 0x09 && (tget {} s.planeA.fab.groups (d - 0x0A) : Group).powered
  else if 0x10 ≤ d ∧ d < 0x14 then
    tget false s.clock.powered 0x0F && (tget {} s.planeB.fab.groups (d - 0x10) : Group).powered
  else tget false s.clock.powered d

/-- Booth group g of plane p stands in retention: powered down on a powered core. -/
def inRetention (s : State) (p g : Nat) : Bool :=
  tget false s.clock.powered (if p = 1 then 0x09 else 0x0F) && !(tget {} (planeOf s p).fab.groups g : Group).powered

/-- Powers a domain up or down, with its event (Table 18-11). -/
def setPower (d : Nat) (on : Bool) (s : State) : State :=
  if tget false s.clock.powered d = on then s
  else raise 0x1C5 ((if on then 2 else 1) + d * 256)
    { s with clock := { s.clock with powered := tset false s.clock.powered d on } }

/-! Gates (R558) -/

/-- The gate is ON. -/
def gateIsOn (s : State) (g : Nat) : Bool := !tget false s.clock.gateOff g

/-- Parent of a gate in Table 18-6; IO is its own. -/
def gateParent (g : Nat) : Nat :=
  if 0x02 ≤ g ∧ g ≤ 0x13 then 1 else 0

/-- The gate's own block is in use (Table 18-6). -/
def gateInUse (s : State) (g : Nat) : Bool :=
  if g = 0x00 then (upTo 0x19).any fun k => k != 0 && gateIsOn s k
  else if g = 0x01 then (upTo 0x14).any fun k => decide (2 ≤ k) && gateIsOn s k
  else if g ≤ 0x09 then (tget {} s.field.ports (g - 0x02) : FPort).speed != 0
  else if g ≤ 0x0B then (tget {} s.field.mgt (g - 0x0A) : MgtPort).mode != 0
  else if g ≤ 0x13 then (tget {} s.can.chans (g - 0x0C) : CanChan).state != 0
  else if g = 0x14 then s.trace.run
  else if g ≤ 0x16 then tget 0 s.clock.outSel (g - 0x15) != 0
  else if g = 0x17 then s.window.legacy
  else (upTo 8).any fun k => (tget {} s.clock.counters k : FCount).busy

/-- The gate and the gates below it, in ascending order. -/
def gateSubtree (g : Nat) : List Nat :=
  if g = 0 then upTo 0x19 else if g = 1 then (upTo 0x14).filter fun k => decide (1 ≤ k) else [g]

/-- Switches one gate, with its event when it changes. -/
def setGate (g : Nat) (on : Bool) (s : State) : State :=
  if gateIsOn s g = on then s
  else raise 0x1C6 ((if on then 2 else 1) + g * 256)
    { s with clock := { s.clock with gateOff := tset false s.clock.gateOff g (!on) } }

/-- Turns a gate and every gate above it ON, as a command does that puts its block into use. -/
def useGate (g : Nat) (s : State) : State := setGate g true (setGate (gateParent g) true (setGate 0 true s))

/-! Management levels (R555 to R557) -/

/-- VID code of a level (Table 18-5). -/
def vidCode (l : Nat) : Nat := if l = 0 then 0xF else if l = 1 then 0x7 else 0x0

/-- The state level of R557; on the way from IDLE to RUN it is that of RUN (R563). -/
def stateLevel (s : State) : Nat :=
  match s.dev with
  | .ready | .run => 0
  | .start => if s.clock.bootRaised then 0 else 2
  | .idle => if s.clock.idleWake.isSome then 0 else 2
  | _ => 2

/-- The level in force: the slowest of the state level, the ceiling and a droop fall-back. -/
def levelInForce (s : State) : Nat := max (max (stateLevel s) s.clock.ceil) (s.clock.fallback.getD 0)

/-- Plane p's management complex is powered. -/
def mgtPowered (s : State) (p : Nat) : Bool := tget false s.clock.powered (if p = 1 then 0x08 else 0x0E)

/-- Moves plane p to a level at a cut: down at once, up with VID now and the clock after SETTLE ticks. -/
def levelPlane (target cause p : Nat) (s : State) : State :=
  let k := pclk s p
  if !mgtPowered s p then s
  else if k.level < target then setPclk p { k with level := target, vid := vidCode target, settle := none } s
  else if target < k.level then
    setPclk p { k with
      vid := vidCode target
      settle := match k.settle with
        | some (_, n, c) => some (target, n, c)
        | none => some (target, s.clock.settle, cause) } s
  else setPclk p { k with vid := vidCode target, settle := none } s

/-- Event of a level change. -/
def levelEvent (old new cause : Nat) (s : State) : State :=
  if old = new then s else raise 0x1C3 (1 + new * 256 + old * 4096 + cause * 65536) s

/-- Brings both planes to the level in force at a cut (R556). A step down is reported at once, a step up
when the clock takes the new divisor. -/
def applyLevel (cause : Nat) (s : State) : State :=
  let t := levelInForce s
  let old := min (pclk s 1).level (pclk s 2).level
  let oldP := if mgtPowered s 1 && mgtPowered s 2 then old else if mgtPowered s 1 then (pclk s 1).level else (pclk s 2).level
  let s1 := levelPlane t cause 2 (levelPlane t cause 1 s)
  if (mgtPowered s 1 || mgtPowered s 2) && decide (oldP < t) then levelEvent oldP t cause s1 else s1

/-- Both powered planes run at the level in force. -/
def levelReached (s : State) : Bool :=
  [1, 2].all fun p => !mgtPowered s p || (pclk s p).level == levelInForce s

/-- One more tick of every settle. -/
def settleTick (s : State) : State :=
  forEach [1, 2] (fun p t =>
    match (pclk t p).settle with
    | some (l, n, c) => setPclk p { pclk t p with settle := some (l, n - 1, c) } t
    | none => t) s

/-- Once the level in force is reached, every DVFS_SET that waits for it completes, oldest first (02 R65). -/
def completeDvfs (s : State) : State :=
  if levelReached s then
    forEach (s.hif.cmds.filter fun x => x.op == 0x08 && x.wait == .device)
      (fun x t => completeWaiting (fun c => c == x) stOk (dw t.sn.toNat) t) s
  else s

/-- The part of an input cut that belongs to the management levels: settles count, and a plane that does
not yet follow the level in force starts to; where a later command has lowered that level, those that waited complete. -/
def levelCut (s : State) : State :=
  let s1 := completeDvfs (settleTick s)
  if [1, 2].all (fun p => !mgtPowered s1 p || (pclk s1 p).level == levelInForce s1 || (pclk s1 p).settle.isSome)
  then s1 else applyLevel (if s1.clock.fallback.isSome then 3 else 2) s1

/-! Commands -/

/-- Signed value limited to 8 bits. -/
def satByte (x : Int) : Nat := (BitVec.ofInt 8 (clampI (-128) 127 x)).toNat

/-- RESULT of CLK_STATUS for plane p (Table 18-13). -/
def clkStatusWord (s : State) (p : Nat) : DWord :=
  let k := pclk s p
  let both := computes s.ump.a && computes s.ump.b
  dw ((if s.clock.ceil < 4 then s.clock.ceil * 2 ^ 6 else 0) + s.clock.settle * 2 ^ 8
    + (if s.clock.frcLost then 2 ^ 16 else 0) + (if s.clock.umpSlow then 2 ^ 17 else 0)
    + (if (clkSrc s (p - 1)).stable then 2 ^ 18 else 0) + (if k.locked then 2 ^ 19 else 0)
    + (if k.coast then 2 ^ 20 else 0) + (if s.clock.fallback.isSome then 2 ^ 21 else 0)
    + k.level * 2 ^ 22 + (if both then satByte s.clock.delta else 0) * 2 ^ 24 + k.trim.toNat * 2 ^ 32)

/-- CLK_STATUS (R567, Table 18-13). -/
def opClkStatus (c : Sub) (s : State) : OpOut :=
  let p := (par c 0).toNat
  if p ≠ 1 ∧ p ≠ 2 then failSt stBadParam s
  else if !mgtPowered s p then failSt stNotInState s
  else okRes (clkStatusWord s p) s

/-- CLK_MEASURE (R554, R567). -/
def opClkMeasure (c : Sub) (s : State) : OpOut :=
  let meas := field (par c 0) 0 6
  let ref := field (par c 0) 8 6
  let gate := (par c 1).toNat
  if 0x14 ≤ meas ∨ 0x14 ≤ ref ∨ gate = 0 ∨ 16777216 < gate then failSt stBadParam s
  else if (tget {} s.clock.counters c.target : FCount).busy then failSt stNotInState s
  else
    let s1 := useGate 0x18 s
    .wait .device [] (setCounter c.target { busy := true, tag := c.tag, qp := c.qp, meas, ref, gate } s1)

/-- CLK_GATE (R558). -/
def opClkGate (c : Sub) (s : State) : OpOut :=
  if par c 0 = 0 then okSn (useGate c.target s)
  else
    match (gateSubtree c.target).find? (gateInUse s) with
    | some g => failRes stNotInState g s
    | none => okSn (setGate c.target false s)

/-- RESULT of PWR_STATUS. -/
def pwrStatusWord (s : State) : DWord :=
  dw (((upTo 20).map fun d => if domPowered s d then 2 ^ d else 0).sum
    + ((upTo 8).map fun i => if inRetention s (i / 4 + 1) (i % 4) then 2 ^ (20 + i) else 0).sum
    + s.clock.a.level * 2 ^ 32 + s.clock.b.level * 2 ^ 34)

/-- PWR_STATUS (R567). -/
def opPwrStatus (_c : Sub) (s : State) : OpOut := okRes (pwrStatusWord s) s

/-- DVFS_SET (R556, R557): completes when both planes run at the level in force. -/
def opDvfsSet (c : Sub) (s : State) : OpOut :=
  let n := field (par c 0) 8 8
  let ceil := field (par c 0) 0 2
  if ceil = 3 ∨ 20 < n then failSt stBadParam s
  else
    let s1 := applyLevel 1 { s with clock := { s.clock with ceil := ceil, settle := if n = 0 then s.clock.settle else n } }
    if levelReached s1 then okSn s1 else .wait .device [] s1

/-- CLKOUT_CFG (R559). -/
def opClkoutCfg (c : Sub) (s : State) : OpOut :=
  let sel := field (par c 0) 0 3
  let n := field (par c 0) 16 16
  if 3 < sel ∨ (sel = 2 ∧ n = 0) then failSt stBadParam s
  else
    let s1 := if sel = 0 then s else useGate (0x15 + c.target) s
    okSn { s1 with clock := { s1.clock with
      outSel := tset 0 s1.clock.outSel c.target sel
      outN := tset 0 s1.clock.outN c.target (if sel = 2 then n else 0) } }

/-- CLK_STATUS. -/
def execClkStatus (c : Sub) (s : State) : Outcome := hostCmd 0x04 opClkStatus c s
/-- CLK_MEASURE. -/
def execClkMeasure (c : Sub) (s : State) : Outcome := hostCmd 0x05 opClkMeasure c s
/-- CLK_GATE. -/
def execClkGate (c : Sub) (s : State) : Outcome := hostCmd 0x06 opClkGate c s
/-- PWR_STATUS. -/
def execPwrStatus (c : Sub) (s : State) : Outcome := hostCmd 0x07 opPwrStatus c s
/-- DVFS_SET. -/
def execDvfsSet (c : Sub) (s : State) : Outcome := hostCmd 0x08 opDvfsSet c s
/-- CLKOUT_CFG. -/
def execClkoutCfg (c : Sub) (s : State) : Outcome := hostCmd 0x09 opClkoutCfg c s

/-! Events -/

/-- A clock of Tables 18-1 and 18-4 whose source is stopped or whose domain is unpowered counts 0 (R554). -/
def clkStopped (s : State) (k : Nat) : Bool :=
  if k ≤ 4 then !(clkSrc s k).running
  else if k = 5 then !(s.clock.a.locked || s.clock.a.coast)
  else if k = 6 then !(s.clock.b.locked || s.clock.b.coast)
  else if k = 7 then false
  else if k ≤ 0x0F then !tget false s.clock.powered 0x05 || (tget {} s.field.ports (k - 8) : FPort).speed == 0
  else if k ≤ 0x11 then !tget false s.clock.powered 0x05 || (tget {} s.field.mgt (k - 0x10) : MgtPort).mode == 0
  else if k = 0x12 then activeNo s == 0
  else false

/-- MEASUREMENT_DONE (R554): the gate ends with a count, or 10 s pass without its end. -/
def execMeasurementDone (ctr : Nat) (count : Word) (timeout : Bool) (s : State) : Outcome :=
  let f : FCount := tget {} s.clock.counters ctr
  if !f.busy then guarded (decide (ctr < 8)) s
  else
    let s1 := setCounter ctr {} s
    let n := if clkStopped s f.meas then 0 else count
    let mine : Cmd → Bool := fun x => x.op == 0x05 && x.wait == .device && x.sub.qp == f.qp && x.sub.tag == f.tag
    .next (if timeout then completeWaiting mine stTimeout 0 s1
      else completeWaiting mine stOk (dword n (word f.gate)) (raise 0x1C7 (1 + ctr * 256) s1))

/-- Largest magnitude and step of TRIM (R542, R545). -/
def trimLimit : Int := 0x00A3D70A
def trimStep : Int := 42950

/-- The plane that TRIM steers: the one that is not ACTIVE; B before the election (R545, R546). -/
def steered (s : State) : Nat := if activeNo s = 2 then 1 else 2

/-- TICK_ALIGNMENT (R545, R546, R549): the edge difference of a tick, and the TRIM the umpire's law asks for,
within the largest step and the limits. -/
def execTickAlignment (delta : Int) (trim : Word) (s : State) : Outcome :=
  let p := steered s
  let k := pclk s p
  if !(computes s.ump.a && computes s.ump.b) then .next s
  else
    let old := k.trim.toInt
    let new := clampI (-trimLimit) trimLimit (clampI (old - trimStep) (old + trimStep) trim.toInt)
    let within : Bool := decide (delta ≤ 20) && decide (-20 ≤ delta)
    let s1 := setPclk p { k with
      trim := BitVec.ofInt 32 new
      alignRun := if within then k.alignRun + 1 else 0
      limitRun := if new = trimLimit ∨ new = -trimLimit then k.limitRun + 1 else 0 }
      { s with clock := { s.clock with delta := delta } }
    .next (if 80 < delta.natAbs then raise 0x1D6 (1 + delta.natAbs / 4 % 65536 * 256) s1 else s1)

/-- PLANE_ALIGNED (R546). -/
def execPlaneAligned (plane : Nat) (s : State) : Outcome :=
  let k := pclk s plane
  if plane ≠ 1 ∧ plane ≠ 2 then .fault .noSuchObject
  else .next (if k.alignRun < 100 ∨ k.aligned then s
    else raise 0x1C2 (2 + plane * 256) (setPclk plane { k with aligned := true } s))

/-- TRIM_LIMIT (R549): TRIM has stood at its limit for 100 consecutive ticks. -/
def execTrimLimit (plane : Nat) (s : State) : Outcome :=
  let k := pclk s plane
  if plane ≠ 1 ∧ plane ≠ 2 then .fault .noSuchObject
  else .next (if k.limitRun < 100 then s
    else raise 0x1C2 (1 + plane * 256) (setPclk plane { k with limitRun := 0 } s))

/-- DROOP_FALLBACK (R557): the plane steps down one level at once; the other follows at the next cut. -/
def execDroopFallback (plane : Nat) (s : State) : Outcome :=
  let k := pclk s plane
  if plane ≠ 1 ∧ plane ≠ 2 then .fault .noSuchObject
  else if !mgtPowered s plane || k.level == 2 then .next s
  else
    let l := k.level + 1
    .next (levelEvent k.level l 3 (setPclk plane { k with level := l, vid := vidCode l, settle := none }
      { s with clock := { s.clock with fallback := some (max l (s.clock.fallback.getD 0)) } }))

/-- DROOP_RELEASE (R557): the fall-back is released in both planes together. -/
def execDroopRelease (s : State) : Outcome :=
  .next (if s.clock.fallback.isNone then s else applyLevel 4 { s with clock := { s.clock with fallback := none } })

/-- LEVEL_SETTLE_EXPIRY (R556): SETTLE ticks after a step up, the clock takes the new divisor; the change is
reported once, with the second plane. -/
def execLevelSettleExpiry (plane : Nat) (s : State) : Outcome :=
  let k := pclk s plane
  if plane ≠ 1 ∧ plane ≠ 2 then .fault .noSuchObject
  else
    match k.settle with
    | some (l, 0, cause) =>
      let s1 := setPclk plane { k with level := l, settle := none } s
      let last := (pclk s (otherPlane plane)).settle.isNone
      .next (completeDvfs (if last then levelEvent k.level l cause s1 else s1))
    | _ => .next s

end Sys2Proof.Machine
end

