-- ==== Sys2Proof/Machine/Can.lean ====
section
/-! DEFINITION. The CAN channels (16): configuration, the transmit FIFO and its sources, time master, reception,
receive signals, fault confinement, and what a switch-over does to a channel (11 R362). -/

namespace Sys2Proof.Machine

/-! The channels -/

/-- Channel ch. -/
def canCh (s : State) (ch : Nat) : CanChan := tget {} s.can.chans ch

/-- Replaces channel ch. -/
def setCan (ch : Nat) (v : CanChan) (s : State) : State :=
  { s with can := { s.can with chans := tset {} s.can.chans ch v } }

/-- Replaces receive signal k. -/
def setSignal (k : Nat) (v : CanSignal) (s : State) : State :=
  { s with can := { s.can with signals := tset {} s.can.signals k v } }

/-- Shadow FIFO of channel ch. -/
def canShadow (s : State) (ch : Nat) : List TxEnt := tget [] s.can.shadow ch

/-- Replaces the shadow FIFO of channel ch. -/
def setShadow (ch : Nat) (v : List TxEnt) (s : State) : State :=
  { s with can := { s.can with shadow := tset [] s.can.shadow ch v } }

/-- Source 0x1A0 + 2c, or 0x1A1 + 2c with k = 1. -/
def canEv (ch k data : Nat) (s : State) : State := raise (0x1A0 + 2 * ch + k) data s

/-- Adds 1 to counter k of CAN_STATUS. -/
def canCount (ch k : Nat) (s : State) : State :=
  let c := canCh s ch
  setCan ch { c with counts := tmod 0 c.counts k (fun n => (n + 1) % 2 ^ 32) } s

/-- MODE, LISTEN, RETX, AUTO_REC, REF_EN (Table 16-2). -/
def canMode (c : CanChan) : Nat := field c.cfg 30 2
def canListen (c : CanChan) : Bool := bit c.cfg 29
def canRefEn (c : CanChan) : Bool := bit c.cfg 22

/-- The channel takes part in bus traffic. -/
def canOnline (c : CanChan) : Bool := c.state == 2 || c.state == 3

/-- The channel may send: on line, and not listen only. -/
def canSends (c : CanChan) : Bool := canOnline c && !canListen c

/-- Channels release messages (R491). -/
def canReleases (s : State) : Bool := s.dev == .ready || s.dev == .run || s.dev == .idle

/-- A frame that left the bus unsent is sent again, but not once SAFE has discarded the FIFO (R491). -/
def offBus (s : State) (l : List TxEnt) : List TxEnt :=
  if canReleases s then l.map fun e => { e with onBus := false } else []

/-- A change of state, with its event (R490, Table 16-5). A channel that leaves its bus has nothing on it. -/
def canState (ch st : Nat) (s : State) : State :=
  let c := canCh s ch
  let tx := if st = 2 ∨ st = 3 then c.tx else offBus s c.tx
  if c.state = st then s
  else canEv ch 0 (1 + st * 2 ^ 8 + c.state * 2 ^ 12) (setCan ch { c with state := st, tx := tx } s)

/-! Fault confinement (R490, R510; ISO 11898-1) -/

/-- The state that the error counters call for; on entry to BUS_OFF with AUTO_REC, recovery begins at once. -/
def confine (ch : Nat) (s : State) : State :=
  let c := canCh s ch
  if !canOnline c then s
  else if 255 < c.tec then
    let s1 := canState ch 4 s
    if bit c.cfg 28 then canState ch 5 s1 else s1
  else canState ch (if 127 < c.tec ∨ 127 < c.recv then 3 else 2) s

/-- A transmit error: TEC rises by 8. -/
def txErrorCount (ch : Nat) (s : State) : State :=
  let c := canCh s ch
  confine ch (setCan ch { c with tec := c.tec + 8 } s)

/-- REC after a frame received without error: one less; from above 127, a value from 119 to 127 that
ISO 11898-1 leaves to the controller. -/
def recDown (ch : Nat) (s : State) : State :=
  let c := canCh s ch
  if 127 < c.recv then
    let (v, s1) := takeFree s
    confine ch (setCan ch { c with recv := 119 + v.toNat % 9 } s1)
  else setCan ch { c with recv := c.recv - 1 } s

/-! The transmit FIFO (R496, R498 to R500) -/

/-- Data bytes held. -/
def txBytes (l : List TxEnt) : Nat := (l.map fun e => e.frame.data.length).sum

/-- The FIFO, with what further entries are reserved, has room for a message. -/
def txRoom (c : CanChan) (more : List Nat) (len : Nat) : Bool :=
  decide (c.tx.length + c.held.length + more.length < 32)
    && decide (txBytes c.tx + txBytes c.held + more.sum + len ≤ 16384)

/-- Insertion in order of release: by sample, then by source (R496). -/
def txInsert (e : TxEnt) : List TxEnt → List TxEnt
  | [] => [e]
  | a :: r => if a.sn = e.sn ∧ e.key < a.key ∧ !a.onBus then e :: a :: r else a :: txInsert e r

/-- The STANDBY plane, if there is one. -/
def standbyNo (s : State) : Option Nat := if s.ump.a.code = 2 then some 1 else if s.ump.b.code = 2 then some 2 else none

/-- The umpire is carrying out a switch-over or a check roll: channels take nothing from either plane (11 R359). -/
def canWaits (s : State) : Bool := s.ump.sw.isSome || s.ump.roll.isSome

/-- Both planes release an entry, given what each plane would send: the active plane's enters the FIFO, the
standby plane's the shadow FIFO (R496, 11 R362). -/
def canRelease (ch : Nat) (e : Plane → TxEnt) (s : State) : State :=
  let c := canCh s ch
  let s1 := match standbyNo s with
    | some p => setShadow ch (txInsert (e (planeOf s p)) (canShadow s ch)) s
    | none => s
  if !canWaits s then setCan ch { c with tx := txInsert (e (actPlane s)) c.tx } s1
  else if s.ump.sw.isSome then s1
  else setCan ch { c with held := txInsert (e (actPlane s)) c.held } s1

/-- A release that finds no room is discarded, with code 0x03 once per tick (R498). -/
def canDrop (ch : Nat) (s : State) : State :=
  let s1 := canCount ch 0 s
  let c := canCh s1 ch
  if c.dropTick then s1 else canEv ch 0 3 (setCan ch { c with dropTick := true } s1)

/-- Releases an entry where the FIFO has room, and discards it otherwise. -/
def canPlace (ch : Nat) (e : Plane → TxEnt) (s : State) : State :=
  if txRoom (canCh s ch) [] (e (actPlane s)).frame.data.length then canRelease ch e s else canDrop ch s

/-- The head entry takes the bus at the next idle; a reference message that waits goes first (R502), and in SAFE none begins
(R491). -/
def startHead (ch : Nat) (s : State) : State :=
  let c := canCh s ch
  match c.tx with
  | e :: r => if canSends c && canReleases s && (e.onBus || !c.refPend) then setCan ch { c with tx := { e with onBus := true } :: r } s else s
  | [] => s

/-- Two entries carry the two planes' copies of one message. -/
def sameEntry (a b : TxEnt) : Bool := a.sn == b.sn && a.key == b.key && a.tag == b.tag

/-- Takes the head entry and its shadow copy out of the FIFOs. -/
def popHead (ch : Nat) (s : State) : State :=
  let c := canCh s ch
  match c.tx with
  | e :: r =>
    setShadow ch ((canShadow s ch).filter fun x => !sameEntry x e)
      (setCan ch { c with tx := r } s)
  | [] => s

/-! Safety PDUs (R496, R498, 09 R307, R308) -/

/-- Channel of a CAN connection. -/
def canConn (sl : Seal) (c : Nat) : Option Nat :=
  if bit (crec sl c 1) 31 && field (crec sl c 1) 28 2 == 2 then some (field (crec sl c 1) 24 3) else none

/-- Format of a channel's PDUs: CAN XL where MODE enables it and the identifier is one of 11 bits (R489), else CAN FD (log
entry 20). -/
def pduFmt (c : CanChan) (ide : Bool) : Nat := if canMode c = 2 ∧ !ide then 2 else 1

/-- A plane's PDU of connection c as a message. -/
def pduEntry (s : State) (ch c : Nat) (p : Plane) : TxEnt :=
  let w := crec s.sealed c 2
  { frame := { id := if bit w 31 then field w 0 29 else field w 0 11, ide := bit w 31, fmt := pduFmt (canCh s ch) (bit w 31), data := (connOf p c).txPdu }
    sn := s.sn, key := c }

/-- SAFETY_PDU_SEND of one connection: the PDU in both planes, and its message on CAN where MODE enables CAN FD (R489). -/
def sendOne (c : Nat) (s : State) : State :=
  let due := pduDue s c (actPlane s) && monitorRuns s
  let s1 := onPlanes (sendPdu s c) s
  match canConn s.sealed c with
  | some ch => if due && canReleases s && canMode (canCh s ch) != 0 then canPlace ch (pduEntry s ch c) s1 else s1
  | none => s1

/-- SAFETY_PDU_SEND (09 R307). -/
def execSafetyPduSend (conn : Nat) (s : State) : Outcome := guarded (decide (conn < 64)) (sendOne conn s)

/-! Scheduled messages (R497) -/

/-- Slot k of a channel. -/
def canSlot (c : CanChan) (k : Nat) : CanSlot := tget {} c.slots k

/-- The slot's message is due on the present sample and not yet released. -/
def slotDue (x : CanSlot) : Bool :=
  bit x.p0 31 && !x.sent && ((x.count : Int) - (field x.p2 16 16 : Int)) % (field x.p2 0 16 : Int) == 0

/-- A word of a scheduled message. -/
def schedWord (s : State) (p : Plane) (w : Word) : Word :=
  if field w 30 2 = 1 then relSignal p (field w 2 10) (field w 0 2)
  else if field w 30 2 = 2 then (aiOf s (field w 0 6)).value
  else 0

/-- A plane's scheduled message. -/
def schedEntry (s : State) (ch k : Nat) (p : Plane) : TxEnt :=
  let x := canSlot (canCh s ch) k
  let f := field x.p0 29 2
  let len := field x.p0 0 6
  let ide := bit x.p1 31
  { frame := { id := if ide then field x.p1 0 29 else field x.p1 0 11, ide := ide
               fmt := if f = 0 then 0 else 1, brs := f == 2
               data := (bytesOf ((upTo 8).map fun i => schedWord s p (wordAt x.srcs i))).take len }
    sn := s.sn, key := 64 + k }

/-- MODE enables the format of the slot's message (R489). -/
def slotFits (c : CanChan) (x : CanSlot) : Bool := field x.p0 29 2 == 0 || canMode c != 0

/-- CAN_SCHED_RELEASE of one slot. -/
def releaseSlot (ch k : Nat) (s : State) : State :=
  let c := canCh s ch
  let x := canSlot c k
  if slotDue x && canReleases s && s.boot.firstCommit && slotFits c x then
    canPlace ch (schedEntry s ch k) (setCan ch { c with slots := tset {} c.slots k { x with sent := true } } s)
  else s

/-- CAN_SCHED_RELEASE (R497). -/
def execCanSchedRelease (ch slot : Nat) (s : State) : Outcome :=
  guarded (decide (ch < 8) && decide (slot < 32)) (releaseSlot ch slot s)

/-! CAN_SEND (R496) -/

/-- Lengths of the PDUs and scheduled messages of a channel that are due on the present sample and come first. -/
def dueFirst (s : State) (ch : Nat) : List Nat :=
  ((upTo 64).filterMap fun c =>
      if canConn s.sealed c == some ch && pduDue s c (actPlane s) && monitorRuns s then some (16 + connLen s.sealed c) else none)
    ++ ((upTo 32).filterMap fun k =>
      let x := canSlot (canCh s ch) k
      if slotDue x && slotFits (canCh s ch) x then some (field x.p0 0 6) else none)

/-- Message of an image: header and data of Table 16-6. -/
def sendFrom (img : List Word) : CanFrame :=
  let w0 := wordAt img 0
  let w1 := wordAt img 1
  let ide := bit w0 29
  { id := if ide then field w0 0 29 else field w0 0 11, ide := ide, fmt := field w0 30 2
    brs := bit w1 19, esi := bit w1 18, xl := field w1 0 16 + (if bit w1 17 then 2 ^ 16 else 0)
    af := wordAt img 2, data := (bytesOf (img.drop 8)).take (field w1 20 12) }

/-- Data lengths that a format allows. -/
def lenAllowed (fmt len : Nat) : Bool :=
  if fmt = 0 then decide (len ≤ 8)
  else if fmt = 1 then decide (len ≤ 8) || [12, 16, 20, 24, 32, 48, 64].contains len
  else decide (1 ≤ len ∧ len ≤ 2048)

/-- Bytes of a message in host memory (R513). -/
def messageBytes (len : Nat) : Nat := 32 + (len + 7) / 8 * 8

/-- Places or ends one waiting CAN_SEND at the release of the present sample. -/
def sendWaiting (x : Cmd) (s : State) : State :=
  let ch := x.sub.target
  let f := sendFrom x.sub.image
  let age := snDiff s.sn (wordAt x.aux 0)
  let mine : Cmd → Bool := fun y => y.op == 0xE4 && y.wait == .device && y.sub.qp == x.sub.qp && y.sub.tag == x.sub.tag
  if txRoom (canCh s ch) (dueFirst s ch) f.data.length then
    completeWaiting mine stOk (dw s.sn.toNat)
      (canRelease ch (fun _ => { frame := f, tag := x.sub.tag, evt := bit (par x.sub 2) 16, sn := s.sn, key := 128 }) s)
  else if (field (par x.sub 2) 0 16 : Int) ≤ age then completeWaiting mine stTimeout 0 s
  else s

/-- The messages of CAN_SEND at a sample's release, in order of acceptance. -/
def canSendAll (s : State) : State :=
  if s.ump.sw.isSome || !canReleases s then s
  else forEach (s.hif.cmds.filter fun x => x.op == 0xE4 && x.wait == .device) sendWaiting s

/-- The message of a CAN_SEND is in range, whatever the channel's mode. -/
def messageOk (c : Sub) : Bool :=
  let w1 := wordAt c.image 1
  field (wordAt c.image 0) 30 2 != 3 && !(field (wordAt c.image 0) 30 2 == 2 && bit (wordAt c.image 0) 29) && lenAllowed (field (wordAt c.image 0) 30 2) (field w1 20 12) && !bit w1 16
    && ((upTo 5).all fun i => wordAt c.image (3 + i) == 0)

/-- CAN_SEND. -/
def opCanSend (c : Sub) (s : State) : OpOut :=
  let x := canCh s c.target
  let a := addrAt c 0
  let fmt := field (wordAt c.image 0) 30 2
  let len := field (wordAt c.image 1) 20 12
  if !inWindow s false a (messageBytes len) then badWindow 0xE4 c a s
  else if !messageOk c ∨ canMode x < fmt then failSt stBadParam s
  else if x.state = 0 ∨ x.state = 4 ∨ canListen x ∨ s.dev = .safe then failSt stNotInState s
  else .wait .device [s.sn] s

/-! Configuration -/

/-- A phase segment layout that R493 admits: total in tq at least `least`, SJW at most both phase segments. -/
def segsOk (prop ph1 ph2 sjw least : Nat) : Bool :=
  decide (sjw ≤ ph1) && decide (sjw ≤ ph2) && decide (least ≤ 1 + prop + ph1 + ph2)

/-- CAN_NBT. -/
def nbtOk (w : Word) : Bool :=
  decide (2 ≤ field w 5 6 + 1) && segsOk (field w 17 6 + 1) (field w 11 6 + 1) (field w 5 6 + 1) (field w 0 5 + 1) 8

/-- CAN_DBT and CAN_XBT. -/
def dbtOk (w : Word) : Bool := segsOk (field w 22 5) (field w 17 5 + 1) (field w 12 5 + 1) (field w 8 4 + 1) 5

/-- Length of a data bit in units of 5 ns. -/
def dataBit (w : Word) : Nat := (field w 27 5 + 1) * (1 + field w 22 5 + (field w 17 5 + 1) + (field w 12 5 + 1))

/-- CAN_CONFIG (R493). The cycle count of the first reference message is 0, the one after 63. -/
def opCanConfig (c : Sub) (s : State) : OpOut :=
  let cfg := par c 0
  let xbt := par c 3
  let pwm := par c 4
  let cyc := (par c 5).toNat
  let x := canCh s c.target
  if field cfg 30 2 = 3 ∨ !nbtOk (par c 1) ∨ !dbtOk (par c 2) ∨ !dbtOk xbt ∨ dataBit xbt < 20
      ∨ (bit pwm 0 ∧ field pwm 8 6 + field pwm 16 6 ≠ dataBit xbt) ∨ (bit cfg 22 ∧ cyc < 10) then failSt stBadParam s
  else if x.state ≠ 0 then failSt stNotInState s
  else okSn (setCan c.target { x with
    cfg := cfg, nbt := par c 1, dbt := par c 2, xbt := xbt, pwm := pwm, refCyc := cyc
    refAge := 0, refPend := false, refCycle := 63 } s)

/-- CAN_FILTER (R504). -/
def opCanFilter (c : Sub) (s : State) : OpOut :=
  let ch := c.target / 64
  let f := c.target % 64
  let x := canCh s ch
  if 4 < field (par c 2) 29 3 then failSt stBadParam s
  else okSn (setCan ch { x with filters := tsetMany 0 x.filters (4 * f) [par c 0, par c 1, par c 2, par c 3] } s)

/-- A loop routed from the signal is out of OFF and PARK. -/
def signalInUse (s : State) (k : Nat) : Bool :=
  (routesOf (actPlane s)).any fun r => r.srcKind == 4 && r.src == k && !loopIdle (actPlane s) r.dest

/-- CAN_SIGNAL (R507). -/
def opCanSignal (c : Sub) (s : State) : OpOut :=
  let w := par c 0
  let age := (par c 3).toNat
  if field w 28 2 = 3 ∨ (bit w 31 ∧ age = 0) then failSt stBadParam s
  else if s.dev ≠ .ready ∧ signalInUse s c.target then failSt stNotInState s
  else okSn (setSignal c.target { p0 := w, scale := par c 1, offs := par c 2, maxAge := age } s)

/-- A word source of a scheduling slot that Table 16-7 does not define: kind 3, or a bit outside the kind's fields. -/
def badWordSrc (v : Word) : Bool :=
  field v 30 2 == 3 || (field v 30 2 == 0 && v != 0) || (field v 30 2 == 2 && field v 6 6 != 0)

/-- CAN_SCHED (R497). -/
def opCanSched (c : Sub) (s : State) : OpOut :=
  let ch := c.target / 32
  let w := par c 0
  let f := field w 29 2
  let len := field w 0 6
  let srcs := (upTo 8).map fun i => par c (3 + i)
  let x := canCh s ch
  if srcs.any badWordSrc then failSt stBadParam s
  else if bit w 31 && (f == 3 || !lenAllowed (if f = 0 then 0 else 1) len || decide (32 < len)) then failSt stBadParam s
  else okSn (setCan ch { x with slots := tset {} x.slots (c.target % 32) { p0 := w, p1 := par c 1, p2 := par c 2, srcs := srcs } } s)

/-- CAN_CTRL (R490, R499, R510). Enabling starts with both error counters at 0. -/
def opCanCtrl (c : Sub) (s : State) : OpOut :=
  let ch := c.target
  let x := canCh s ch
  let op := (par c 0).toNat
  if op = 0 then okSn (canState ch 0 s)
  else if op = 1 then
    if x.state = 0 then okSn (canState ch 1 (setCan ch { x with tec := 0, recv := 0 } (useGate (0x0C + ch) s))) else okSn s
  else if op = 2 then
    if x.state = 4 then okSn (canState ch 5 s) else failSt stNotInState s
  else
    let keep := x.tx.filter fun e => e.onBus
    okSn (setShadow ch ((canShadow s ch).filter fun e => keep.any (sameEntry e)) (setCan ch { x with tx := keep, held := [] } s))

/-- A received frame as it lies in host memory (Table 16-6). -/
def rxBytes (e : RxEnt) (hp : Option Nat) : List Byte :=
  let f := e.frame
  let w0 := f.fmt * 2 ^ 30 + (if f.ide then 2 ^ 29 else 0) + f.id % 2 ^ 29
  let w1 := f.data.length * 2 ^ 20 + f.brs.toNat * 2 ^ 19 + f.esi.toNat * 2 ^ 18 + f.xl / 2 ^ 16 % 2 * 2 ^ 17
    + f.rtr.toNat * 2 ^ 16 + f.xl % 2 ^ 16
  let w7 := e.filter * 2 ^ 26 + (match hp with
    | some k => 2 ^ 25 + k * 2 ^ 23
    | none => 0) + e.ovw.toNat
  bytesOf [word w0, word w1, f.af, 0, loWord e.tstamp, hiWord e.tstamp, e.sn, word w7]
    ++ f.data ++ List.replicate ((8 - f.data.length % 8) % 8) 0

/-- The entries of a FIFO that a read takes: at most n, within `room` bytes. -/
def rxTake : Nat → Nat → List RxEnt → List RxEnt
  | 0, _, _ => []
  | _, _, [] => []
  | n + 1, room, e :: r =>
    let b := messageBytes e.frame.data.length
    if b ≤ room then e :: rxTake n (room - b) r else []

/-- The messages whose last byte stands among the first n bytes of a transfer, with the number of their bytes (R513). -/
def framesIn : Nat → Nat → List Byte → List (List Byte)
  | 0, _, _ => []
  | k + 1, n, bs =>
    let m := messageBytes (leNat ((bs.drop 4).take 4) / 2 ^ 20)
    if bs.isEmpty ∨ n < m then [] else bs.take m :: framesIn k (n - m) (bs.drop m)

/-- A channel serves a CAN_RX_READ of CAN channel ch. -/
def readsRx (s : State) (ch : Nat) (x : DmaCh) : Bool :=
  x.state != 0 && s.hif.cmds.any fun c => c.op == 0xE6 && c.sub.target == ch && c.sub.qp == x.qp && c.sub.tag == x.tag

/-- A message leaves the FIFO, or the buffer, that it was read from. -/
def rxLeaves (bs : List Byte) (c : CanChan) : CanChan :=
  match c.rx.find? fun e => rxBytes e none == bs with
  | some e => { c with rx := c.rx.erase e }
  | none => { c with hp := c.hp.filter fun x => match x.2 with
      | some e => rxBytes e (some x.1) != bs
      | none => false }

/-- The messages that a channel has written when its transfer stands at n bytes, and not before at m, leave (R506). -/
def rxWritten (x : DmaCh) (m n : Nat) (s : State) : State :=
  let gone := (framesIn 64 n x.data).drop (framesIn 64 m x.data).length
  forEach (upTo 8) (fun ch t => if readsRx t ch x then setCan ch (gone.foldl (fun c b => rxLeaves b c) (canCh t ch)) t else t) s

/-- The messages of the FIFO that no transfer under way carries. -/
def rxFree (s : State) (ch : Nat) : List RxEnt :=
  let busy := (s.mem.chans.filter fun x => readsRx s ch x.2).flatMap fun x =>
    (framesIn 64 x.2.data.length x.2.data).drop (framesIn 64 x.2.done x.2.data).length
  busy.foldl (fun l b => match l.find? fun e => rxBytes e none == b with | some e => l.erase e | none => l) (canCh s ch).rx

/-- CAN_RX_READ (R505, R506): messages leave as they are written. -/
def opCanRxRead (c : Sub) (s : State) : OpOut :=
  let ch := c.target
  let x := canCh s ch
  let n := (par c 1).toNat
  let a := addrAt c 2
  let room := (par c 4).toNat
  let k := field (par c 0) 1 2
  if n = 0 ∨ 64 < n then failSt stBadParam s
  else if !inWindow s true a room then badWindow 0xE6 c a s
  else if bit (par c 0) 0 then
    match tget none x.hp k with
    | some e =>
      let bs := rxBytes e (some k)
      if bs.length ≤ room then .write a bs (dword (word bs.length) 1) s
      else okRes 0 s
    | none => okRes 0 s
  else
    let es := rxTake n room (rxFree s ch)
    let bs := es.flatMap fun e => rxBytes e none
    .write a bs (dword (word bs.length) (word es.length)) s

/-- CAN_STATUS (Table 16-7). TEC above 255 does not fit its field, whose value is then free. -/
def opCanStatus (c : Sub) (s : State) : OpOut :=
  let x := canCh s c.target
  let which := (par c 0).toNat
  if 9 < which then failSt stBadParam s
  else
    let hi := if which = 9 then (loWord x.timeMark).toNat else tget 0 x.counts which
    let r (tec : Nat) : DWord := dw (x.state + tec % 256 * 2 ^ 8 + x.recv % 256 * 2 ^ 16 + x.tx.length % 64 * 2 ^ 24 + hi * 2 ^ 32)
    if 255 < x.tec then
      let (v, s1) := takeFree s
      okRes (r v.toNat) s1
    else okRes (r x.tec) s

/-- CAN_CONFIG. -/
def execCanConfig (c : Sub) (s : State) : Outcome := hostCmd 0xE0 opCanConfig c s
/-- CAN_FILTER. -/
def execCanFilter (c : Sub) (s : State) : Outcome := hostCmd 0xE1 opCanFilter c s
/-- CAN_SIGNAL. -/
def execCanSignal (c : Sub) (s : State) : Outcome := hostCmd 0xE2 opCanSignal c s
/-- CAN_SCHED. -/
def execCanSched (c : Sub) (s : State) : Outcome := hostCmd 0xE3 opCanSched c s
/-- CAN_SEND. -/
def execCanSend (c : Sub) (s : State) : Outcome := hostCmd 0xE4 opCanSend c s
/-- CAN_CTRL. -/
def execCanCtrl (c : Sub) (s : State) : Outcome := hostCmd 0xE5 opCanCtrl c s
/-- CAN_RX_READ. -/
def execCanRxRead (c : Sub) (s : State) : Outcome := hostCmd 0xE6 opCanRxRead c s
/-- CAN_STATUS. -/
def execCanStatus (c : Sub) (s : State) : Outcome := hostCmd 0xE7 opCanStatus c s

/-! Reception (R504 to R509) -/

/-- Word w of filter f. -/
def canFilterWord (c : CanChan) (f w : Nat) : Word := tget 0 c.filters (4 * f + w)

/-- ACTION of filter f. -/
def filterAction (c : CanChan) (f : Nat) : Nat := field (canFilterWord c f 2) 29 3

/-- Filter f matches the frame. The XL acceptance field is one of CAN XL frames only. -/
def filterMatches (c : CanChan) (fr : CanFrame) (f : Nat) : Bool :=
  let w0 := canFilterWord c f 0
  let w2 := canFilterWord c f 2
  let mask := field (canFilterWord c f 1) 0 29
  filterAction c f != 0 && (field w0 30 2 == 3 || field w0 30 2 == fr.fmt) && bit w0 29 == fr.ide
    && decide (field w0 0 29 &&& mask = fr.id &&& mask)
    && (!bit w2 23 || (fr.fmt == 2 && canFilterWord c f 3 == fr.af))

/-- The first filter that matches. -/
def firstFilter (c : CanChan) (fr : CanFrame) : Option Nat := (upTo 64).find? (filterMatches c fr)

/-- A frame for high-priority buffer k (R505). -/
def toBuffer (ch k : Nat) (e : RxEnt) (s : State) : State :=
  let c := canCh s ch
  let full := (tget none c.hp k : Option RxEnt).isSome
  let s1 := setCan ch { c with hp := tset none c.hp k (some { e with ovw := full }) } s
  if full then canEv ch 1 (5 + k * 2 ^ 8) (canCount ch 3 s1) else canEv ch 1 (1 + k) s1

/-- A frame for the receive FIFO (R506). -/
def toFifo (ch : Nat) (e : RxEnt) (s : State) : State :=
  let c := canCh s ch
  let bytes := (c.rx.map fun x => x.frame.data.length).sum + e.frame.data.length
  if 64 ≤ c.rx.length ∨ 32768 < bytes then
    let s1 := canCount ch 2 s
    let d := canCh s1 ch
    if d.ovfTick then s1 else canEv ch 1 7 (setCan ch { d with ovfTick := true } s1)
  else
    let s1 := setCan ch { c with rx := c.rx ++ [e] } s
    if c.rx.isEmpty then canEv ch 1 6 s1 else s1

/-- Width in bytes of a signal. -/
def sigBytes (g : CanSignal) : Nat := 2 ^ field g.p0 28 2

/-- Value of a signal from the raw bytes (R507). -/
def sigValue (g : CanSignal) (raw : Nat) : Word :=
  let bits := 8 * sigBytes g
  let signed := bit g.p0 30
  let r : Int := if signed ∧ 2 ^ (bits - 1) ≤ raw then (raw : Int) - 2 ^ bits else raw
  let sh := if signed then bits - 1 else bits
  fsRound (g.scale.toInt * r + g.offs.toInt * 2 ^ sh) sh

/-- Offers an accepted frame to signal k. -/
def extract (ch f k : Nat) (d : List Byte) (s : State) : State :=
  let g : CanSignal := tget {} s.can.signals k
  if !bit g.p0 31 || field g.p0 0 3 != ch || field g.p0 8 6 != f then s
  else
    let off := field g.p0 16 11
    let n := sigBytes g
    if d.length < off + n then canCount ch 8 s
    else setSignal k { g with value := sigValue g (leNat ((d.drop off).take n)), age := some 0 } s

/-- Consumer connection that the identifier of a frame names (R509). -/
def frameConn (s : State) (ch : Nat) (fr : CanFrame) : Option Nat :=
  (upTo 64).find? fun c =>
    let w := crec s.sealed c 2
    isConsumer s.sealed c && canConn s.sealed c == some ch && bit w 31 == fr.ide
      && (if fr.ide then field w 0 29 == fr.id else field w 0 11 == fr.id) && fr.fmt != 0

/-- Where the filters send a frame (R504). -/
def filterFrame (ch : Nat) (fr : CanFrame) (t : DWord) (s : State) : State :=
  let c := canCh s ch
  let e : RxEnt := { frame := fr, tstamp := t, sn := s.sn + 1 }
  match firstFilter c fr with
  | some f =>
    let a := filterAction c f
    let s1 := if a = 2 then toFifo ch { e with filter := f } s
      else if a = 3 then toBuffer ch (field (canFilterWord c f 2) 24 2) { e with filter := f } s else s
    if a = 1 then s1
    else forEach (s1.can.signals.map fun x => x.1) (fun k u => extract ch f k fr.data u) s1
  | none =>
    if bit c.cfg 23 then
      let (v, s1) := takeFree s
      toFifo ch { e with filter := v.toNat % 64 } s1
    else s

/-- A whole frame: the safety monitors first, whatever the filters decide, then the filters. -/
def receiveFrame (ch : Nat) (fr : CanFrame) (t : DWord) (s : State) : State :=
  let s1 := recDown ch (canCount ch 6 s)
  let s2 := match frameConn s1 ch fr with
    | some c => onPlanesSl (fun sl => receivePdu sl c fr.data) s1
    | none => s1
  filterFrame ch fr t s2

/-- CAN_FRAME_RECEIVE (R489, R503 to R509). -/
def execCanFrameReceive (ch : Nat) (f : CanFrame) (tstamp : DWord) (s : State) : Outcome :=
  let c := canCh s ch
  guarded (decide (ch < 8))
    (if !canOnline c || decide (canMode c < f.fmt) || (f.fmt == 2 && f.ide) || !lenAllowed f.fmt f.data.length then s
    else if canRefEn c && !f.ide && f.fmt != 2 && f.id == field c.cfg 11 11 then canEv ch 0 6 s
    else receiveFrame ch f tstamp s)

/-! The bus (R499, R502, R503, R510, R511) -/

/-- CAN_TX_COMPLETE (R499). -/
def execCanTxComplete (ch : Nat) (s : State) : Outcome :=
  let c := canCh s ch
  guarded (decide (ch < 8)) (match c.tx with
    | e :: _ =>
      if !canSends c then s
      else
        let s1 := popHead ch (setCan ch { c with tec := c.tec - 1 } s)
        let s2 := confine ch (canCount ch 5 s1)
        startHead ch (if e.evt then canEv ch 0 (2 + e.tag.toNat * 2 ^ 16) s2 else s2)
    | [] => s)

/-- The head entry's transmission ended in an error: it is sent again, up to RETX times, but not in SAFE (R491). -/
def retryHead (ch : Nat) (e : TxEnt) (r : List TxEnt) (s : State) : State :=
  let c := canCh s ch
  let retx := field c.cfg 24 4
  if !canReleases s then setCan ch { c with tx := r } s
  else if retx ≠ 15 ∧ retx ≤ e.errs then startHead ch (canEv ch 0 4 (canCount ch 1 (popHead ch s)))
  else setCan ch { c with tx := { e with errs := e.errs + 1 } :: r } s

/-- CAN_TX_ERROR (R499, R510). -/
def execCanTxError (ch : Nat) (s : State) : Outcome :=
  let c := canCh s ch
  guarded (decide (ch < 8)) (match c.tx with
    | e :: r => if !canSends c then s else txErrorCount ch (retryHead ch e r s)
    | [] => s)

/-- CAN_ARBITRATION_LOST (R499): the entry stays at the head. -/
def execCanArbitrationLost (ch : Nat) (s : State) : Outcome :=
  let c := canCh s ch
  guarded (decide (ch < 8)) (match c.tx with
    | e :: r => if !canSends c then s else setCan ch { c with tx := offBus s [e] ++ r } s
    | [] => s)

/-- The reference message of cycle n: a classic base frame with REF_ID and one byte (R502). -/
def refFrame (cfg : Word) (n : Nat) : CanFrame := { id := field cfg 11 11, data := [BitVec.ofNat 8 n] }

/-- A reference message falls due: an unsent one is replaced, with REF_LATE (R502, R503). -/
def presentRef (ch : Nat) (s : State) : State :=
  let c := canCh s ch
  let s1 := if c.refPend then canEv ch 0 5 (canCount ch 4 s) else s
  let d := canCh s1 ch
  let n := (d.refCycle + 1) % 64
  setCan ch { d with refPend := true, refCycle := n, refTx := some (refFrame d.cfg n) } s1

/-- The waiting reference message has gone out, and the FIFO head may follow. The device time of its start of frame, an
instant of the present tick, is the cycle's time mark. -/
def sentRef (ch : Nat) (s : State) : State :=
  let c := canCh s ch
  let (v, s1) := takeFree s
  startHead ch (confine ch (canCount ch 5 (setCan ch { c with
    refPend := false, timeMark := tnsOf (tqIn s (v.toNat % 4000 : Nat)), tec := c.tec - 1 } s1)))

/-- REFERENCE_MESSAGE (R502, R503): presented on a due sample, or, with `sent`, sent, once no frame is on the bus. -/
def execReferenceMessage (ch : Nat) (sent : Bool) (s : State) : Outcome :=
  let c := canCh s ch
  guarded (decide (ch < 8))
    (if !canRefEn c || !canReleases s || c.state == 0 then s
    else if sent then (if c.refPend && canSends c && !c.tx.any (fun e => e.onBus) then sentRef ch s else s)
    else if c.refAge % c.refCyc = 0 then presentRef ch s else s)

/-- BUS_OFF_RECOVERY (R510). -/
def execBusOffRecovery (ch : Nat) (s : State) : Outcome :=
  let c := canCh s ch
  guarded (decide (ch < 8))
    (if c.state = 5 then startHead ch (canState ch 2 (setCan ch { c with tec := 0, recv := 0 } s)) else s)

/-- CAN_INTEGRATION_DONE (R490). -/
def execCanIntegrationDone (ch : Nat) (s : State) : Outcome :=
  guarded (decide (ch < 8)) (if (canCh s ch).state = 1 then startHead ch (canState ch 2 s) else s)

/-- CAN_RECEIVE_ERROR (R510). -/
def execCanReceiveError (ch : Nat) (s : State) : Outcome :=
  let c := canCh s ch
  guarded (decide (ch < 8))
    (if canOnline c then confine ch (setCan ch { c with recv := min 255 (c.recv + 1) } s) else s)

/-! Parts of other steps -/

/-- Tokens of the receive signals for the coming sample (R508). -/
def signalTokens (s : State) : State :=
  forEach s.can.signals (fun x t =>
    let g := x.2
    if !bit g.p0 31 then t
    else
      let q := match g.age with
        | some n => decide (g.maxAge < n)
        | none => true
      broadcastFrom 4 x.1 g.value q (s.sn + 1) 99 9 (setSignal x.1 { g with age := g.age.map fun n => n + 1 } t)) s

/-- One channel at an input cut: slots and the reference cycle count, and codes may be raised again. -/
def cutChan (c : CanChan) : CanChan :=
  { c with
    slots := c.slots.map fun x => (x.1, { x.2 with count := x.2.count + 1, sent := false })
    refAge := if canRefEn c then c.refAge + 1 else 0
    dropTick := false, ovfTick := false }

/-- The channels' part of an input cut, before SN advances. -/
def canCut (s : State) : State :=
  forEach (upTo 8) (fun ch t => startHead ch (setCan ch (cutChan (canCh t ch)) t)) (signalTokens s)

/-- Destroys the frame on the bus of an error-active channel (R511, 11 R362). -/
def destroyHead (ch : Nat) (s : State) : State :=
  canEv ch 0 7 (canCount ch 7 (txErrorCount ch s))

/-- What an election makes of a channel that destroys the frame on the bus where `hurts` holds: T is the first unvouched
sample. -/
def canPass (t : Word) (ch : Nat) (hurts : Bool) (s : State) : State :=
  let c := canCh s ch
  let late : TxEnt → Bool := fun e => !snLater t e.sn
  let stands : TxEnt → Bool := fun e => !late e || (e.onBus && !hurts)
  let kept := c.tx.filter stands
  let destroyed := c.tx.any fun e => late e && e.onBus && hurts
  let copies := (canShadow s ch).filter late
  let fresh := copies.filter fun e => !(kept.any (sameEntry e))
  let s1 := stally 0x83 (copies.length - fresh.length)
    (setShadow ch [] (setCan ch { c with tx := kept ++ fresh, held := [] } s))
  startHead ch (if destroyed then destroyHead ch s1 else s1)

/-- A channel at an election that changes the active plane (11 R362). A channel that is error active destroys a frame of T
or later, unless the election falls in the last two bits of its end-of-frame field; where in the frame it falls is free
(log entry 118). -/
def canSwitch (t : Word) (ch : Nat) (s : State) : State :=
  let c := canCh s ch
  if c.state = 2 ∧ c.tx.any (fun e => !snLater t e.sn && e.onBus) then
    let (v, s1) := takeFree s
    canPass t ch (v.toNat % 2 == 0) s1
  else canPass t ch false s

/-- A check roll leaves the active plane in place: its held entries follow. -/
def canResume (ch : Nat) (s : State) : State :=
  let c := canCh s ch
  setCan ch { c with tx := c.tx ++ c.held, held := [] } s

/-- Entry into SAFE (R491): the frame on the bus is finished, everything else discarded. -/
def canSafe (ch : Nat) (s : State) : State :=
  let c := canCh s ch
  setShadow ch [] (setCan ch { c with tx := c.tx.filter fun e => e.onBus, held := [], refPend := false } s)

/-- The channels lose their supply and come back (18 Table 18-10): INTEGRATING. -/
def canSupply (ch : Nat) (s : State) : State := if (canCh s ch).state = 0 then s else canState ch 1 s

end Sys2Proof.Machine
end

