-- ==== Sys2Proof/Machine/Scan.lean ====
section
/-! DEFINITION. The interlock scan engine (07): data table, instructions, cycles, modes, images and commands. -/

namespace Sys2Proof.Machine

/-! Data table (Table 7-2) -/

/-- Changes the scan engine of a plane. -/
def setScan (x : Scan) (p : Plane) : Plane := { p with scan := x }

/-- Word a of the data table as the executing cycle sees it. -/
def sd (p : Plane) (a : Nat) : Word := tget 0 p.scan.data a

/-- Writes word a. -/
def setSd (a : Nat) (v : Word) (p : Plane) : Plane := setScan { p.scan with data := tset 0 p.scan.data a v } p

/-- Bit at bit address b, and writing it. -/
def sbit (p : Plane) (b : Nat) : Bool := bit (sd p (b / 32)) (b % 32)
def setSbit (b : Nat) (v : Bool) (p : Plane) : Plane := setSd (b / 32) (setBit (sd p (b / 32)) (b % 32) v) p

/-- First words of areas. -/
abbrev aOutSt : Nat := 0x4000
abbrev aOutGp : Nat := 0x5000
abbrev aPark : Nat := 0x5100
abbrev aHold : Nat := 0x5120
abbrev aForce : Nat := 0x5140
abbrev aArm : Nat := 0x51D0
abbrev aTmr : Nat := 0x8000
abbrev aCtr : Nat := 0x9000
abbrev aEdge : Nat := 0xA000
abbrev aDev : Nat := 0x3190

/-- The areas, by first and last word. -/
def scanAreas : List (Nat × Nat) :=
  [(0x0000, 0x0FFF), (0x1000, 0x103F), (0x1040, 0x1043), (0x2000, 0x2FFF), (0x3000, 0x307F), (0x3080, 0x30BF),
    (0x30C0, 0x30FF), (0x3100, 0x310F), (0x3110, 0x318F), (0x3190, 0x3192), (0x4000, 0x4FFF), (0x5000, 0x5003),
    (0x5100, 0x511F), (0x5120, 0x5123), (0x5140, 0x51C3), (0x51D0, 0x51D7), (0x6000, 0x6FFF), (0x7000, 0x77FF),
    (0x8000, 0x8FFF), (0x9000, 0x9FFF), (0xA000, 0xA0FF)]

/-- The area of a word. -/
def areaOf (a : Nat) : Option (Nat × Nat) := scanAreas.find? fun r => decide (r.1 ≤ a ∧ a ≤ r.2)

/-- A word of an input area. -/
def isInput (a : Nat) : Bool := decide (a ≤ 0x3192)

/-- A word that the program may read. -/
def progReads (a : Nat) : Bool := (areaOf a).isSome && decide (a < aEdge)

/-- A word that an instruction may write: owned outputs are tested under check 0x06. -/
def progWrites (a : Nat) : Bool :=
  decide (0x4000 ≤ a ∧ a ≤ 0x4FFF) || decide (0x5000 ≤ a ∧ a ≤ 0x5003) || decide (0x51D0 ≤ a ∧ a ≤ 0x51D7)
    || decide (0x6000 ≤ a ∧ a ≤ 0x6FFF) || (decide (0x8000 ≤ a ∧ a ≤ 0x8FFF) && a % 4 == 0)
    || (decide (0x9000 ≤ a ∧ a ≤ 0x9FFF) && decide (a % 4 ≤ 1))

/-- A word that SCAN_WRITE may change (R242). -/
def onlineWord (a : Nat) : Bool :=
  decide (0x6000 ≤ a ∧ a ≤ 0x6FFF) || decide (0x7000 ≤ a ∧ a ≤ 0x77FF) || (decide (0x8000 ≤ a ∧ a ≤ 0x8FFF) && a % 4 == 0)
    || (decide (0x9000 ≤ a ∧ a ≤ 0x9FFF) && decide (a % 4 ≤ 1))

/-! Instruction words (Table 7-3) -/

/-- A word of formats N, B and X. -/
def wordX (op x : Nat) : DWord := dw (op * 2 ^ 58 + x)
/-- Format W2. -/
def wordW2 (op a b : Nat) : DWord := dw (op * 2 ^ 58 + a * 2 ^ 32 + b * 2 ^ 16)
/-- Format W3. -/
def wordW3 (op lo x hi : Nat) : DWord := dw (op * 2 ^ 58 + lo * 2 ^ 32 + x * 2 ^ 16 + hi)
/-- Formats I and E. -/
def wordI (op d v : Nat) : DWord := dw (op * 2 ^ 58 + d * 2 ^ 32 + v)

/-- Fields of an instruction word. -/
def iOp (w : DWord) : Nat := field w 58 6
def iB (w : DWord) : Nat := field w 0 21
def iX (w : DWord) : Nat := field w 0 13
def iA (w : DWord) : Nat := field w 32 16
def iMid (w : DWord) : Nat := field w 16 16
def iLow (w : DWord) : Nat := field w 0 16

/-- Format of an opcode: 0 N, 1 B, 2 X, 3 W2, 4 W3, 5 I, 6 E, 7 RUNG. -/
def iFormat (op : Nat) : Option Nat :=
  if op = 0 ∨ (6 ≤ op ∧ op ≤ 9) ∨ op = 0x3F then some 0
  else if op = 1 then some 7
  else if (2 ≤ op ∧ op ≤ 5) ∨ (0xA ≤ op ∧ op ≤ 0xC) then some 1
  else if op = 0xD ∨ op = 0xE ∨ (0x10 ≤ op ∧ op ≤ 0x16) ∨ (0x21 ≤ op ∧ op ≤ 0x23) then some 2
  else if (0x18 ≤ op ∧ op ≤ 0x1D) ∨ op = 0x1F then some 3
  else if op = 0x1E then some 4
  else if op = 0x20 then some 5
  else if op = 0x24 then some 6
  else none

/-- The word holds nothing outside its format. -/
def iReservedOk (w : DWord) : Bool :=
  let f := iFormat (iOp w)
  let same := fun (v : DWord) => v == w
  if f = some 0 then same (wordX (iOp w) 0)
  else if f = some 1 then same (wordX (iOp w) (iB w))
  else if f = some 2 then same (wordX (iOp w) (iX w))
  else if f = some 7 then same (wordX (iOp w) (iLow w))
  else if f = some 3 then same (wordW2 (iOp w) (iA w) (iMid w))
  else if f = some 4 then same (wordW3 (iOp w) (iA w) (iMid w) (iLow w))
  else if f = some 5 then same (wordI (iOp w) (iA w) (loWord w).toNat)
  else if f = some 6 then same (wordI (iOp w) (field w 32 13) (iLow w))
  else false

/-! Instructions: their effect on the plane, with the cost in units of 1.25 ns (Table 7-4) -/

/-- RLO. -/
def rloOf (p : Plane) : Bool := p.scan.rlo

/-- Sets RLO. -/
def setRlo (b : Bool) (p : Plane) : Plane := setScan { p.scan with rlo := b } p

/-- Adds to the execution time. -/
def addCost (n : Nat) (p : Plane) : Plane := setScan { p.scan with cost := p.scan.cost + n } p

/-- NOP. -/
def iNop (p : Plane) : Plane := addCost 2 p
/-- RUNG. -/
def iRung (n : Nat) (p : Plane) : Plane := addCost 2 (setScan { p.scan with rlo := true, stack := [], rung := n } p)
/-- AND. -/
def iAnd (a : Nat) (p : Plane) : Plane := addCost 2 (setRlo (rloOf p && sbit p a) p)
/-- ANDN. -/
def iAndn (a : Nat) (p : Plane) : Plane := addCost 2 (setRlo (rloOf p && !sbit p a) p)
/-- OR. -/
def iOr (a : Nat) (p : Plane) : Plane := addCost 2 (setRlo (rloOf p || sbit p a) p)
/-- ORN. -/
def iOrn (a : Nat) (p : Plane) : Plane := addCost 2 (setRlo (rloOf p || !sbit p a) p)
/-- PUSH. -/
def iPush (p : Plane) : Plane := addCost 2 (setScan { p.scan with stack := p.scan.rlo :: p.scan.stack, rlo := true } p)
/-- POPAND. -/
def iPopand (p : Plane) : Plane :=
  addCost 2 (setScan { p.scan with rlo := p.scan.stack.headD false && p.scan.rlo, stack := p.scan.stack.tail } p)
/-- POPOR. -/
def iPopor (p : Plane) : Plane :=
  addCost 2 (setScan { p.scan with rlo := p.scan.stack.headD false || p.scan.rlo, stack := p.scan.stack.tail } p)
/-- NOT. -/
def iNot (p : Plane) : Plane := addCost 2 (setRlo (!rloOf p) p)
/-- OUT. -/
def iOut (a : Nat) (p : Plane) : Plane := addCost 4 (setSbit a (rloOf p) p)
/-- SET. -/
def iSet (a : Nat) (p : Plane) : Plane := if rloOf p then addCost 4 (setSbit a true p) else addCost 2 p
/-- RST. -/
def iRst (a : Nat) (p : Plane) : Plane := if rloOf p then addCost 4 (setSbit a false p) else addCost 2 p

/-- Bit address of an edge bit. -/
def edgeBit (x : Nat) : Nat := aEdge * 32 + x

/-- R_EDGE; a priming cycle detects no edge (R233). -/
def iREdge (x : Nat) (p : Plane) : Plane :=
  let r := rloOf p
  addCost 2 (setRlo (r && !sbit p (edgeBit x) && !p.scan.priming) (setSbit (edgeBit x) r p))
/-- F_EDGE. -/
def iFEdge (x : Nat) (p : Plane) : Plane :=
  let r := rloOf p
  addCost 2 (setRlo (!r && sbit p (edgeBit x) && !p.scan.priming) (setSbit (edgeBit x) r p))

/-- A timer record: PRE, PRE_ACT, ACC, IN, TT, Q (R227). -/
structure Timer where
  pre : Nat
  act : Nat
  acc : Nat
  inp : Bool
  tt : Bool
  q : Bool

/-- Timer x. -/
def timerOf (p : Plane) (x : Nat) : Timer :=
  let st := sd p (aTmr + 4 * x + 3)
  { pre := (sd p (aTmr + 4 * x)).toNat, act := (sd p (aTmr + 4 * x + 1)).toNat, acc := (sd p (aTmr + 4 * x + 2)).toNat
    inp := bit st 0, tt := bit st 1, q := bit st 2 }

/-- Writes a timer back, but PRE. -/
def setTimer (x : Nat) (t : Timer) (p : Plane) : Plane :=
  setSd (aTmr + 4 * x + 3) (word (t.inp.toNat + 2 * t.tt.toNat + 4 * t.q.toNat))
    (setSd (aTmr + 4 * x + 2) (word t.acc) (setSd (aTmr + 4 * x + 1) (word t.act) p))

/-- TON (R231). -/
def tonStep (r : Bool) (d : Nat) (t : Timer) : Timer :=
  let t1 := if r && !t.inp then { t with act := t.pre, acc := 0, tt := true }
    else if r && t.tt then { t with acc := min (t.acc + d) t.act } else t
  let t2 := if r then t1 else { t1 with acc := 0, tt := false }
  let on := r && decide (t2.act ≤ t2.acc)
  { t2 with tt := t2.tt && !on, q := on, inp := r }
/-- TOF. -/
def tofStep (r : Bool) (d : Nat) (t : Timer) : Timer :=
  let t1 := if r then { t with acc := 0, tt := false, q := true }
    else if t.inp then { t with act := t.pre, acc := 0, tt := true }
    else if t.tt then { t with acc := min (t.acc + d) t.act } else t
  let done := !r && t1.tt && decide (t1.act ≤ t1.acc)
  { t1 with tt := t1.tt && !done, q := t1.q && !done, inp := r }
/-- TP; a priming cycle starts no pulse. -/
def tpStep (prime r : Bool) (d : Nat) (t : Timer) : Timer :=
  let t1 := if r && !t.inp && !t.tt && !prime then { t with act := t.pre, acc := 0, tt := true, q := true }
    else if t.tt then { t with acc := min (t.acc + d) t.act } else t
  let done := t1.tt && decide (t1.act ≤ t1.acc)
  { t1 with tt := t1.tt && !done, q := t1.q && !done, inp := r }

/-- A timer instruction: RLO = Q. -/
def iTimer (f : Bool → Nat → Timer → Timer) (x : Nat) (p : Plane) : Plane :=
  let t := f (rloOf p) p.scan.delta (timerOf p x)
  addCost 8 (setRlo t.q (setTimer x t p))
/-- TON. -/
def iTon (x : Nat) (p : Plane) : Plane := iTimer tonStep x p
/-- TOF. -/
def iTof (x : Nat) (p : Plane) : Plane := iTimer tofStep x p
/-- TP. -/
def iTp (x : Nat) (p : Plane) : Plane := iTimer (tpStep p.scan.priming) x p
/-- TRES. -/
def iTres (x : Nat) (p : Plane) : Plane :=
  addCost 4 (if rloOf p then setTimer x { timerOf p x with acc := 0, tt := false, q := false } p else p)

/-- STAT of counter x for an accumulator and memory bits (R232). -/
def ctrStat (p : Plane) (x : Nat) (acc : Int) (cu cd : Bool) : Word :=
  word (cu.toNat + 2 * cd.toNat + 4 * (decide ((sd p (aCtr + 4 * x)).toInt ≤ acc)).toNat + 8 * (decide (acc ≤ 0)).toNat)

/-- Writes ACC and STAT of counter x. -/
def setCtr (x : Nat) (acc : Int) (cu cd : Bool) (p : Plane) : Plane :=
  setSd (aCtr + 4 * x + 2) (ctrStat p x acc cu cd) (setSd (aCtr + 4 * x + 1) (BitVec.ofInt 32 acc) p)

/-- CTU. -/
def iCtu (x : Nat) (p : Plane) : Plane :=
  let st := sd p (aCtr + 4 * x + 2)
  let acc := (sd p (aCtr + 4 * x + 1)).toInt
  let n := if rloOf p && !bit st 0 && !p.scan.priming then min (acc + 1) 0x7FFFFFFF else acc
  let q := setCtr x n (rloOf p) (bit st 1) p
  addCost 8 (setRlo (bit (sd q (aCtr + 4 * x + 2)) 2) q)
/-- CTD. -/
def iCtd (x : Nat) (p : Plane) : Plane :=
  let st := sd p (aCtr + 4 * x + 2)
  let acc := (sd p (aCtr + 4 * x + 1)).toInt
  let n := if rloOf p && !bit st 1 && !p.scan.priming then max (acc - 1) (-0x80000000) else acc
  let q := setCtr x n (bit st 0) (rloOf p) p
  addCost 8 (setRlo (bit (sd q (aCtr + 4 * x + 2)) 3) q)
/-- CRES. -/
def iCres (x : Nat) (p : Plane) : Plane :=
  let st := sd p (aCtr + 4 * x + 2)
  addCost 4 (if rloOf p then setCtr x 0 (bit st 0) (bit st 1) p else p)

/-- A comparison of two words as signed numbers. -/
def iCmp (f : Int → Int → Bool) (a b : Nat) (p : Plane) : Plane :=
  addCost 4 (setRlo (rloOf p && f (sd p a).toInt (sd p b).toInt) p)
/-- CGT. -/
def iCgt (a b : Nat) (p : Plane) : Plane := iCmp (fun x y => decide (y < x)) a b p
/-- CGE. -/
def iCge (a b : Nat) (p : Plane) : Plane := iCmp (fun x y => decide (y ≤ x)) a b p
/-- CLT. -/
def iClt (a b : Nat) (p : Plane) : Plane := iCmp (fun x y => decide (x < y)) a b p
/-- CLE. -/
def iCle (a b : Nat) (p : Plane) : Plane := iCmp (fun x y => decide (x ≤ y)) a b p
/-- CEQ. -/
def iCeq (a b : Nat) (p : Plane) : Plane := iCmp (fun x y => x == y) a b p
/-- CNE. -/
def iCne (a b : Nat) (p : Plane) : Plane := iCmp (fun x y => x != y) a b p
/-- LIM. -/
def iLim (lo x hi : Nat) (p : Plane) : Plane :=
  addCost 6 (setRlo (rloOf p && decide ((sd p lo).toInt ≤ (sd p x).toInt ∧ (sd p x).toInt ≤ (sd p hi).toInt)) p)

/-- The value a word write leaves: in a word of OUT_GP only owned pins change (R234). -/
def ownedMerge (p : Plane) (a : Nat) (v : Word) : Word :=
  if aOutGp ≤ a ∧ a ≤ 0x5003 then
    (upTo 32).foldl (fun (x : Word) i => if ownsGp p (32 * (a - aOutGp) + i) then setBit x i (bit v i) else x) (sd p a)
  else v

/-- MOV. -/
def iMov (a b : Nat) (p : Plane) : Plane :=
  if rloOf p then addCost 6 (setSd b (ownedMerge p b (sd p a)) p) else addCost 4 p
/-- MOVI. -/
def iMovi (a : Nat) (v : Word) (p : Plane) : Plane :=
  if rloOf p then addCost 6 (setSd a (ownedMerge p a v) p) else addCost 4 p
/-- HOLDS. -/
def iHolds (x : Nat) (p : Plane) : Plane := addCost 4 (setSbit (aHold * 32 + x) (rloOf p) p)
/-- PARK. -/
def iPark (x : Nat) (p : Plane) : Plane := addCost 4 (setSbit (aPark * 32 + x) (rloOf p) p)
/-- FORCE. -/
def iForce (x : Nat) (p : Plane) : Plane := addCost 4 (setSbit (aForce * 32 + x) (rloOf p) p)
/-- EVT (R238); a priming cycle raises none. -/
def iEvt (e code : Nat) (p : Plane) : Plane :=
  let r := rloOf p
  let p1 := if r && !sbit p (edgeBit e) && !p.scan.priming then praise 0x1F5 (word (code + p.scan.rung * 65536)) p else p
  addCost 4 (setSbit (edgeBit e) r p1)
/-- END: the cycle has finished. -/
def iEnd (p : Plane) : Plane :=
  setScan { p.scan with
    executing := false, finished := true, lastTime := p.scan.cost, maxTime := max p.scan.maxTime p.scan.cost } p

/-- The effect of an instruction word. -/
def iRun (w : DWord) (p : Plane) : Plane :=
  match iOp w with
  | 0x01 => iRung (iLow w) p
  | 0x02 => iAnd (iB w) p
  | 0x03 => iAndn (iB w) p
  | 0x04 => iOr (iB w) p
  | 0x05 => iOrn (iB w) p
  | 0x06 => iPush p
  | 0x07 => iPopand p
  | 0x08 => iPopor p
  | 0x09 => iNot p
  | 0x0A => iOut (iB w) p
  | 0x0B => iSet (iB w) p
  | 0x0C => iRst (iB w) p
  | 0x0D => iREdge (iX w) p
  | 0x0E => iFEdge (iX w) p
  | 0x10 => iTon (iX w) p
  | 0x11 => iTof (iX w) p
  | 0x12 => iTp (iX w) p
  | 0x13 => iTres (iX w) p
  | 0x14 => iCtu (iX w) p
  | 0x15 => iCtd (iX w) p
  | 0x16 => iCres (iX w) p
  | 0x18 => iCgt (iA w) (iMid w) p
  | 0x19 => iCge (iA w) (iMid w) p
  | 0x1A => iClt (iA w) (iMid w) p
  | 0x1B => iCle (iA w) (iMid w) p
  | 0x1C => iCeq (iA w) (iMid w) p
  | 0x1D => iCne (iA w) (iMid w) p
  | 0x1E => iLim (iA w) (iMid w) (iLow w) p
  | 0x1F => iMov (iA w) (iMid w) p
  | 0x20 => iMovi (iA w) (loWord w) p
  | 0x21 => iHolds (iX w) p
  | 0x22 => iPark (iX w) p
  | 0x23 => iForce (iX w) p
  | 0x24 => iEvt (field w 32 13) (iLow w) p
  | 0x3F => iEnd p
  | _ => iNop p

/-! Cycles (R222 to R229) -/

/-- The engine's device states (R239). -/
def scanOn (s : State) : Bool := s.dev == .ready || s.dev == .run || s.dev == .idle

/-- The instruction that the executing cycle takes next. -/
def nextInstr (p : Plane) : Option DWord :=
  if p.scan.executing then
    match p.scan.prog with
    | some g => g.instrs[p.scan.pc]?
    | none => none
  else none

/-- One instruction of the executing cycle, with f as its effect. -/
def scanAdvance (f : Plane → Plane) (p : Plane) : Plane := f (setScan { p.scan with pc := p.scan.pc + 1 } p)

/-- The rest of the executing cycle within a budget in cost units. -/
def scanRun (budget : Nat) : Nat → Plane → Plane
  | 0, p => p
  | k + 1, p =>
    match nextInstr p with
    | none => p
    | some w =>
      let q := scanAdvance (iRun w) p
      if budget < q.scan.cost then p else scanRun budget k q

/-- Words to copy into a table at addresses from `base` on, by a key map. -/
def copyWords (l : List (Nat × Word)) (t : Tab Word) : Tab Word :=
  l.foldl (fun t x => tset 0 t x.1 x.2) t

/-- One bit of a table set. -/
def orBitAt (b : Nat) (t : Tab Word) : Tab Word := tmod 0 t (b / 32) fun w => setBit w (b % 32) true

/-- The input areas that a cycle starting on the present sample reads (R228). -/
def inputImage (s : State) (p : Plane) (delta : Nat) : Tab Word :=
  let ai := (upTo 64).map fun c => (0x1000 + c, if aiOff s c then 0 else (aiOf s c).value)
  let gp := (upTo 4).map fun w => (0x1040 + w, word (((upTo 32).map fun i => if gpLevel s (32 * w + i) then 2 ^ i else 0).sum))
  let lp := (p.fab.relVal.filter fun x => x.1 % 4 != 3).map fun x => (0x2000 + x.1, x.2)
  let ls := p.fab.relStat.map fun x => (0x2003 + 4 * x.1, x.2)
  let se := (p.sess.recs.filter fun x => x.1 % 16 == 0).map fun x => (0x3000 + x.1 / 16, x.2)
  let ax := p.axes.before.zipIdx.map fun x => (0x3080 + x.2, word x.1)
  let sf := p.safe.before.zipIdx.map fun x => (0x30C0 + x.2, x.1)
  let t0 := copyWords (s.field.inT0 ++ ai ++ gp ++ lp ++ ls ++ se ++ ax ++ sf) []
  let t1 := (s.field.onT0.map fun x => 2 * x.1) ++ (s.field.armT0.map fun x => 2 * x.1 + 1)
  let t1 := t1.foldl (fun t b => orBitAt (0x3100 * 32 + b) t) t0
  let t2 := s.field.mqT0.foldl (fun t x => if x.2 then orBitAt (0x3110 * 32 + x.1) t else t) t1
  copyWords [(aDev, p.sn), (aDev + 1, word delta), (aDev + 2, word (min 15 p.scan.ovrCnt))] t2

/-- The axis and safety words of a sample as it ends, for the scan image of the next (R228). -/
def keepWords (s : State) (p : Plane) : Plane :=
  if p.scan.prog.isNone then p
  else { p with
    axes := { p.axes with before := (upTo 64).map (axState p) }
    safe := { p.safe with before := (upTo 64).map fun a => safetyWord s a p } }

/-- A table with its input areas replaced. -/
def withInputs (inp old : Tab Word) : Tab Word := inp ++ old.filter fun x => !isInput x.1

/-- Request bits that an action instruction of the program names, as bit addresses (R240). -/
def namedBits (g : ScanProg) : List Nat :=
  g.instrs.filterMap fun w =>
    if iOp w = 0x21 then some (aHold * 32 + iX w) else if iOp w = 0x22 then some (aPark * 32 + iX w)
    else if iOp w = 0x23 then some (aForce * 32 + iX w) else none

/-- A request word with the bits that the program does not name cleared. -/
def keepNamed (named : List Nat) (a : Nat) (w : Word) : Word :=
  (upTo 32).foldl (fun (x : Word) i => if bit w i && !named.contains (a * 32 + i) then setBit x i false else x) w

/-- The request words of the first RUN cycle: bits no action instruction names are cleared (R240). -/
def clearRequests (g : ScanProg) (t : Tab Word) : Tab Word :=
  let named := namedBits g
  t.filterMap fun x =>
    if aPark ≤ x.1 ∧ x.1 ≤ 0x51C3 then
      let w := keepNamed named x.1 x.2
      if w = 0 then none else some (x.1, w)
    else some x

/-- A cycle starts on the present sample (R222, R226, R228, R233). -/
def startCycle (s : State) (p : Plane) : Plane :=
  match p.scan.prog with
  | none => p
  | some g =>
    let c := p.scan
    let d := if c.firstCycle then g.period else c.sinceStart
    let t := if c.clearReq then clearRequests g c.data else c.data
    setScan { c with
      base := c.data, data := withInputs (inputImage s p d) t
      executing := true, finished := false, gridStart := false, sinceStart := 0, delta := d
      priming := c.clearReq, clearReq := false, firstCycle := false
      pc := 0, rlo := false, stack := [], rung := 0, cost := 0 } p

/-- A cycle executes, or has finished and not yet written its outputs. -/
def scanBusy (p : Plane) : Bool := p.scan.executing || p.scan.finished

/-- A SCAN_WRITE that waits. -/
def isScanWrite (x : Cmd) : Bool := x.op == 0x62 && x.wait == .device

/-- SCAN_WRITEs that wait, in order of acceptance. -/
def scanWrites (s : State) : List Cmd := s.hif.cmds.filter isScanWrite

/-- A SCAN_WRITE with no cycle to carry it; SCAN_READ shows it once a cycle has completed (R252, log entry 57). -/
def writeStanding (a : Nat) (v : Word) (p : Plane) : Plane :=
  praise 0x1F4 5 (setScan { p.scan with data := tset 0 p.scan.data a v } p)

/-- Applies and completes the SCAN_WRITEs that wait, each with its event (R242, R238). -/
def commitWrites (f : Nat → Word → Plane → Plane) (s : State) : State :=
  let l := scanWrites s
  if l.isEmpty then s
  else forEach l (fun _ t => completeWaiting isScanWrite stOk (dw s.sn.toNat) t)
    (onPlanes (forEach l fun x => f (wordAt x.aux 0).toNat (wordAt x.aux 1)) s)

/-- A write that a starting cycle takes. -/
def writeStarting (a : Nat) (v : Word) (p : Plane) : Plane := praise 0x1F4 5 (setSd a v p)

/-- SCAN_CYCLE_START: at a grid start cut in RUN with no cycle executing, the writes and then the cycle. -/
def scanStart (s : State) : State :=
  let p := actPlane s
  if scanOn s && p.scan.mode == 1 && p.scan.gridStart && !scanBusy p then
    let s1 := commitWrites writeStarting s
    onPlanes (startCycle s1) s1
  else s

/-- Mode event (R238). -/
def scanModeEvent (m : Nat) (p : Plane) : Plane := praise 0x1F4 (word (1 + m * 256)) p

/-- Output write of a finished cycle (R223, R246): the stations to which an arm request goes leave their ARM bit. -/
def scanWriteOut (s : State) (p : Plane) : Plane :=
  let arms := (upTo 256).filter fun k => sbit p (aArm * 32 + k) && (station s k).online && !(station s k).armed
  let p1 := forEach arms (fun k q => praise 0x1F4 (word (4 + k * 256)) (setSbit (aArm * 32 + k) false q)) p
  let c := p1.scan
  setScan { c with
    finished := false, doneData := c.data, imageLive := true
    image := c.data.filter fun x => decide (aOutSt ≤ x.1 ∧ x.1 ≤ 0x51C3)
    armSent := c.armSent ++ arms } p1

/-- The grid's last tick of a period. -/
def lastTick (p : Plane) : Bool :=
  match p.scan.prog with
  | some g => p.scan.grid == (g.period : Int) - 1
  | none => false

/-- The execution deadline of a period (R225). -/
def scanDeadline (s : State) (p0 : Plane) : Plane :=
  if !scanOn s || p0.scan.mode != 1 || !lastTick p0 || p0.scan.dlDone then p0
  else
    let n := match p0.scan.prog with | some g => g.instrs.length | none => 0
    let tol := match p0.scan.prog with | some g => g.ovrTol | none => 0
    let per := match p0.scan.prog with | some g => g.period | none => 0
    let p := scanRun (8000 * p0.scan.sinceStart + 2400) n (setScan { p0.scan with dlDone := true } p0)
    let c := p.scan
    if c.finished then
      scanWriteOut s (setScan { c with ovrCnt := if c.sinceStart < per then 0 else c.ovrCnt } p)
    else if c.executing then
      let p1 := praise 0x1F4 2 (setScan { c with ovrCnt := c.ovrCnt + 1, ovrTotal := satAdd 0xFFFF c.ovrTotal 1 } p)
      if tol < c.ovrCnt + 1 then
        scanModeEvent 0 (praise 0x1F4 3 (setScan { p1.scan with
          mode := 0, fault := true, executing := false, data := c.base, imageLive := false } p1))
      else p1
    else p

/-- The arm requests of an output write reach the ports: those of the active plane (R246, R474). -/
def takeArms (s : State) : State :=
  let l := (actPlane s).scan.armSent
  let st := l.foldl (fun t k => tmod {} t k fun (x : Station) => { x with armReq := true }) s.field.stations
  onPlanes (fun p => setScan { p.scan with armSent := [] } p) { s with field := { s.field with stations := st } }

/-- SCAN_DEADLINE in both planes. -/
def scanDeadlineAll (s : State) : State := takeArms (onPlanes (scanDeadline s) s)

/-- The shadow read of HOLD at a grid start cut (R241). -/
def shadowRead (s : State) (p : Plane) : Plane :=
  if scanOn s && p.scan.mode == 2 && p.scan.gridStart then
    let per := match p.scan.prog with | some g => g.period | none => 0
    setScan { p.scan with shadow := some (inputImage s p per), gridStart := false } p
  else p

/-! Modes (R239, R240) -/

/-- Puts a plane's engine into a mode at the present cut (Table 7-6). -/
def enterMode (m : Nat) (p : Plane) : Plane :=
  let c := p.scan
  let ph : Int := match c.prog with | some g => g.phase | none => 0
  scanModeEvent m (setScan (
    if m = 1 then
      if c.mode = 0 then
        { c with mode := 1, fault := false, ovrCnt := 0, grid := -ph, gridStart := ph == 0, firstCycle := true, clearReq := true }
      else { c with mode := 1, firstCycle := true, lockRun := false }
    else if m = 0 then
      { c with mode := 0, executing := false, finished := false, imageLive := false, gridStart := false, lockRun := false }
    else { c with mode := 2 }) p)

/-- The change from mode f to mode m may commit now: from RUN, and from HOLD to RUN, only at a grid start cut at
which no cycle executes. -/
def modeNow (p : Plane) (m : Nat) : Bool :=
  if p.scan.mode = 0 ∨ (p.scan.mode = 2 ∧ m = 0) then true else p.scan.gridStart && !scanBusy p

/-- A SCAN_MODE that waits. -/
def isScanMode (x : Cmd) : Bool := x.op == 0x61 && x.wait == .device

/-- The oldest waiting SCAN_MODE, if its cut has come. -/
def commitMode (s : State) : State :=
  match s.hif.cmds.find? isScanMode with
  | none => s
  | some x =>
    let m := (wordAt x.aux 0).toNat
    let p := actPlane s
    if p.scan.mode = m then completeWaiting isScanMode stOk (dw s.sn.toNat) s
    else if p.scan.mode = 0 ∧ (m = 2 ∨ p.scan.prog.isNone) then completeWaiting isScanMode stNotInState 0 s
    else if modeNow p m then completeWaiting isScanMode stOk (dw s.sn.toNat) (onPlanes (enterMode m) s)
    else s

/-- An engine that was in HOLD when the field lock closed returns to RUN at its next grid start cut (17 Table 17-9). -/
def lockReturn (p : Plane) : Plane :=
  if p.scan.lockRun && p.scan.mode == 2 && modeNow p 1 then enterMode 1 p else p

/-- What the engine still owes for the tick before a cut. -/
def scanFlush (s : State) : State := scanDeadlineAll (scanStart s)

/-- The grid at a cut (R222). -/
def scanGrid (p : Plane) : Plane :=
  let c := p.scan
  let c1 := { c with sinceStart := c.sinceStart + 1, dlDone := false, gridStart := false }
  match c.prog with
  | none => setScan c1 p
  | some g =>
    if c.mode = 0 then setScan c1 p
    else
      let n := if c.grid + 1 = g.period then 0 else c.grid + 1
      setScan { c1 with grid := n, gridStart := n == 0 } p

/-- The executing cycle goes on up to a time within the present tick, `x` cost units past t0 + 2.0 µs (R223, R224); on
the last tick of a period not before the deadline is handled. -/
def scanProgress (x : Nat) (s : State) : State :=
  onPlanes (fun p =>
    if !scanOn s || p.scan.mode != 1 || (lastTick p && !p.scan.dlDone) then p
    else scanRun (8000 * p.scan.sinceStart + x) (match p.scan.prog with | some g => g.instrs.length | none => 0) p) s

/-- The engine's part of an input cut, after `scanFlush`: grid, mode changes, and writes outside RUN. -/
def scanCut (s : State) : State :=
  if !scanOn s then s
  else
    let s1 := onExec lockReturn (commitMode (commitMode (onPlanes scanGrid s)))
    if (actPlane s1).scan.mode = 1 then s1 else commitWrites writeStanding s1

/-! Park and hold requests at the cut (R235, R236) -/

/-- A request word of the image. -/
def imageWord (p : Plane) (a : Nat) : Word := tget 0 p.scan.image a

/-- Parks and releases at the cut after an output commit, and the hold requests then in effect. -/
def requestsCut (sl : Seal) (p : Plane) : Plane :=
  let now := (upTo 32).foldl (fun t w => tset 0 t w (imageWord p (aPark + w))) []
  let hold := (upTo 4).foldl (fun t w => tset 0 t w (imageWord p (aHold + w))) []
  let ls := (upTo 1024).filter fun l => bit (tget 0 now (l / 32)) (l % 32) != bit (tget 0 p.scan.parkSeen (l / 32)) (l % 32)
  let p1 := forEach ls (fun l q =>
    if bit (tget 0 now (l / 32)) (l % 32) then
      setLf l wCtrl 16 1 1 (if loopMode q l = 0 then q else setMode sl 2 l 1 q)
    else setLf l wCtrl 16 1 0 q) p
  setScan { p1.scan with parkSeen := now, holdSeen := hold } p1

/-! Images (R249, Table 7-8) -/

/-- N_INSTR, N_OWN, N_INIT and P of an image. -/
def nInstr (img : List Word) : Nat := field (wordAt img 2) 0 16
def nOwn (img : List Word) : Nat := field (wordAt img 3) 0 13
def nInit (img : List Word) : Nat := field (wordAt img 3) 16 16
def progPeriod (img : List Word) : Nat :=
  let n := field (wordAt img 4) 0 14
  if n = 0 then 100 else n

/-- Instruction words, owned records and initial-value records of an image. -/
def progInstrs (img : List Word) : List DWord := (pieces img 16 2 (nInstr img)).map fun x => dword (wordAt x 0) (wordAt x 1)
def progOwned (img : List Word) : List Word := (img.drop (16 + 2 * nInstr img)).take (nOwn img)
def progInits (img : List Word) : List (Word × Word) :=
  (pieces img (16 + 2 * nInstr img + nOwn img) 2 (nInit img)).map fun x => (wordAt x 0, wordAt x 1)

/-- The program that an image spells. -/
def parseProg (img : List Word) : ScanProg :=
  { instrs := progInstrs img
    ownGp := (progOwned img).filterMap fun w => if field w 28 4 = 1 then some (field w 0 12) else none
    ownSt := (progOwned img).filterMap fun w => if field w 28 4 = 2 then some (field w 0 12) else none
    period := progPeriod img, phase := field (wordAt img 4) 16 14, ovrTol := field (wordAt img 5) 0 4, progId := wordAt img 6 }

/-- Check 0x01. -/
def progHeaderOk (img : List Word) (len : Nat) : Bool :=
  let w := fun k => wordAt img k
  w 0 == 0x4C525841 && field (w 1) 0 16 == 1 && field (w 1) 16 16 == 0 && field (w 2) 16 16 == 0
    && decide (1 ≤ nInstr img ∧ nInstr img ≤ 32768 ∧ nOwn img ≤ 4224 ∧ nOwn img % 2 = 0 ∧ nInit img ≤ 8192)
    && field (w 3) 13 3 == 0 && field (w 4) 14 2 == 0 && field (w 4) 30 2 == 0 && field (w 5) 4 28 == 0
    && ((upTo 8).all fun k => w (7 + k) == 0)
    && len == 64 + 8 * nInstr img + 4 * nOwn img + 8 * nInit img

/-- Check 0x03 for instruction j. -/
def instrFormOk (n j : Nat) (w : DWord) : Bool := iReservedOk w && ((iOp w == 0x3F) == (j + 1 == n))

/-- Words that an instruction reads and writes, by address. -/
def instrReads (w : DWord) : List Nat :=
  let f := iFormat (iOp w)
  if f = some 1 then (if iOp w ≤ 5 then [iB w / 32] else [])
  else if f = some 3 then (if iOp w = 0x1F then [iA w] else [iA w, iMid w])
  else if f = some 4 then [iA w, iMid w, iLow w] else []
def instrWrites (w : DWord) : List Nat :=
  let f := iFormat (iOp w)
  if f = some 1 then (if iOp w ≤ 5 then [] else [iB w / 32])
  else if iOp w = 0x1F then [iMid w] else if f = some 5 then [iA w] else []

/-- Check 0x04 for an instruction. -/
def instrAreaOk (w : DWord) : Bool := (instrReads w).all progReads && (instrWrites w).all progWrites

/-- Index limit of a format X instruction (check 0x05). -/
def indexLimit (op : Nat) : Nat :=
  if op = 0xD ∨ op = 0xE then 8192 else if op ≤ 0x16 then 1024 else if op = 0x21 then 128 else if op = 0x22 then 1024 else 4224

/-- Stack depth after an instruction, if the stack rule of R230 allows it. -/
def stackAfter (w : DWord) (d : Nat) : Option Nat :=
  if iOp w = 6 then (if d < 8 then some (d + 1) else none)
  else if iOp w = 7 ∨ iOp w = 8 then (if d = 0 then none else some (d - 1))
  else if iOp w = 1 ∨ iOp w = 0x3F then (if d = 0 then some 0 else none)
  else some d

/-- First instruction that fails check 0x05. -/
def stackFail : List DWord → Nat → Nat → Option Nat
  | [], _, _ => none
  | w :: r, j, d =>
    if iFormat (iOp w) = some 2 ∧ indexLimit (iOp w) ≤ iX w then some j
    else match stackAfter w d with
      | none => some j
      | some e => stackFail r (j + 1) e

/-- Check 0x06 for an instruction: outputs are written only where owned. -/
def instrOwnOk (g : ScanProg) (w : DWord) : Bool :=
  (instrWrites w).all fun a =>
    if aOutSt ≤ a ∧ a ≤ 0x4FFF then g.ownSt.contains (a - aOutSt)
    else if aOutGp ≤ a ∧ a ≤ 0x5003 then
      (if iFormat (iOp w) = some 1 then g.ownGp.contains (iB w - aOutGp * 32)
       else g.ownGp.any fun n => n / 32 == a - aOutGp)
    else true

/-- Check 0x06 for owned record j: valid, unique, a GP output, an entry bound to no loop (R234). -/
def ownedOk (s : State) (p : Plane) (l : List Word) (j : Nat) : Bool :=
  let w := wordAt l j
  let x := field w 0 12
  w == 0 || (field w 12 16 == 0 && !((l.take j).contains w)
    && (if field w 28 4 = 1 then decide (x ≤ 127) && tget false s.analog.gpDir x
        else field w 28 4 == 2 && !chanBound p (128 + x)))

/-- Check 0x06 for an initial-value record. -/
def initOk (x : Word × Word) : Bool :=
  let a := x.1.toNat
  decide (0x6000 ≤ a ∧ a ≤ 0x77FF) && (areaOf a).isSome || (decide (0x8000 ≤ a ∧ a ≤ 0x9FFF) && a % 4 == 0)

/-- Smallest and largest execution time in cost units (R224). -/
def instrCost (op : Nat) : Nat × Nat :=
  if op ≤ 9 ∨ op = 0xD ∨ op = 0xE then (2, 2)
  else if op = 0xA then (4, 4)
  else if op = 0xB ∨ op = 0xC then (2, 4)
  else if (0x10 ≤ op ∧ op ≤ 0x12) ∨ op = 0x14 ∨ op = 0x15 then (8, 8)
  else if op = 0x1E then (6, 6)
  else if op = 0x1F ∨ op = 0x20 then (4, 6)
  else if op = 0x3F then (0, 0)
  else (4, 4)
def progTimes (l : List DWord) : Nat × Nat :=
  ((l.map fun w => (instrCost (iOp w)).1).sum, (l.map fun w => (instrCost (iOp w)).2).sum)

/-- Execution budget of a period in cost units (R223). -/
def budgetOf (per : Nat) : Nat := (per - 1) * 8000 + 2400

/-- RESULT of a failing check. -/
def progResult (check kind ix : Nat) : Nat := check + kind * 256 + ix * 65536

/-- The first failing check of SCAN_LOAD (Table 7-8). -/
def progCheck (s : State) (p : Plane) (img : List Word) (len : Nat) (keep : Bool) : Option Nat :=
  let g := parseProg img
  let n := g.instrs.length
  let at_ := fun j => g.instrs.getD j 0
  let own := progOwned img
  let ini := progInits img
  if !progHeaderOk img len then some (progResult 1 0 0)
  else if recCrc img 15 ≠ wordAt img 15 then some (progResult 2 0 0)
  else match firstFail n fun j => instrFormOk n j (at_ j) with
    | some j => some (progResult 3 0 j)
    | none => match firstFail n fun j => instrAreaOk (at_ j) with
      | some j => some (progResult 4 0 j)
      | none => match stackFail g.instrs 0 0 with
        | some j => some (progResult 5 0 j)
        | none => match firstFail n fun j => instrOwnOk g (at_ j) with
          | some j => some (progResult 6 0 j)
          | none => match firstFail own.length (ownedOk s p own) with
            | some j => some (progResult 6 1 j)
            | none => match firstFail ini.length fun j => initOk (ini.getD j (0, 0)) with
              | some j => some (progResult 6 2 j)
              | none =>
                if g.period < 10 ∨ 10000 < g.period ∨ g.period ≤ g.phase ∨ budgetOf g.period < (progTimes g.instrs).1 then
                  some (progResult 7 0 0)
                else if keep ∧ wordAt img 15 ≠ p.scan.progCrc then some (progResult 8 0 0)
                else none

/-- A word of M, K, TMR, CTR or EDGE. -/
def loadClears (a : Nat) : Bool := decide (0x6000 ≤ a)

/-- The program replaces the old one at its cut (R249); no cycle executes then. SCAN_READ still returns the words of the latest
completed cycle (R252, log entry 57). -/
def loadProg (img : List Word) (keep : Bool) (p : Plane) : Plane :=
  let c := p.scan
  let d := if keep then c.data
    else (progInits img).foldl (fun t x => tset 0 t x.1.toNat x.2) (c.data.filter fun x => !loadClears x.1)
  setScan { c with prog := some (parseProg img), progCrc := wordAt img 15, maxTime := 0, shadow := none, data := d } p

/-! Commands -/

/-- Cost units as units of 10 ns, rounded up. -/
def tens (n : Nat) : Nat := (n + 7) / 8

/-- SCAN_LOAD (R249). -/
def opScanLoad (c : Sub) (s : State) : OpOut :=
  let a := addrAt c 0
  let len := (par c 2).toNat
  let img := c.image.take (len / 4)
  let keep := bit (par c 3) 0
  let p := actPlane s
  if a % 8 ≠ 0 then failSt stBadParam s
  else if !inWindow s false a len then badWindow 0x60 c a s
  else if p.scan.mode ≠ 0 then failSt stNotInState s
  else match progCheck s p img len keep with
    | some r => failRes stBadParam r s
    | none =>
      let t := progTimes (progInstrs img)
      .done stOk (dw (s.sn.toNat + tens t.2 % 65536 * 2 ^ 32 + tens t.1 % 65536 * 2 ^ 48)) (onExec (loadProg img keep) s)

/-- SCAN_MODE (R250). -/
def opScanMode (c : Sub) (s : State) : OpOut :=
  let m := (par c 0).toNat
  let p := actPlane s
  if m = 3 then failSt stBadParam s
  else if p.scan.mode = m then okSn s
  else if m = 2 ∧ p.scan.mode = 0 then failSt stNotInState s
  else if m = 2 ∧ !lockOpen s then failSt stLocked s
  else if m = 1 ∧ p.scan.prog.isNone then failSt stNotInState s
  else if modeNow p m then okSn (onExec (enterMode m) s)
  else .wait .device [word m] s

/-- SCAN_WRITE (R251, R242). -/
def opScanWrite (c : Sub) (s : State) : OpOut :=
  let a := (par c 0).toNat
  let p := actPlane s
  if !onlineWord a then failSt stBadParam s
  else if p.scan.prog.isNone then failSt stNotInState s
  else if p.scan.mode = 1 then .wait .device [par c 0, par c 1] s
  else okSn (onExec (writeStanding a (par c 1)) s)

/-- SCAN_READ (R252). -/
def opScanRead (c : Sub) (s : State) : OpOut :=
  let a := (par c 0).toNat
  let n := (par c 1).toNat
  let sh := bit (par c 2) 0
  let inArea : Bool := match areaOf a with
    | some r => decide (a + n - 1 ≤ r.2)
    | none => false
  if n = 0 ∨ 2 < n ∨ !inArea ∨ (sh ∧ !isInput a) then failSt stBadParam s
  else withPlane (word (field (par c 2) 1 2)) s fun k =>
    let x := (planeOf s k).scan
    let rd := fun (t : Tab Word) => okRes (dword (tget 0 t a) (if n = 2 then tget 0 t (a + 1) else 0)) s
    if sh then
      match x.shadow with
      | some t => rd t
      | none => failSt stNotInState s
    else rd x.doneData

/-- SCAN_STATUS (R253). -/
def opScanStatus (c : Sub) (s : State) : OpOut :=
  withPlane (par c 0) s fun k =>
    let x := (planeOf s k).scan
    okRes (dw (x.mode + x.fault.toNat * 4 + x.prog.isSome.toNat * 8 + min 15 x.ovrCnt * 16 + x.ovrTotal * 256
      + tens x.lastTime % 65536 * 2 ^ 32 + tens x.maxTime % 65536 * 2 ^ 48)) s

/-- SCAN_LOAD. -/
def execScanLoad (c : Sub) (s : State) : Outcome := hostCmd 0x60 opScanLoad c s
/-- SCAN_MODE. -/
def execScanMode (c : Sub) (s : State) : Outcome := hostCmd 0x61 opScanMode c s
/-- SCAN_WRITE. -/
def execScanWrite (c : Sub) (s : State) : Outcome := hostCmd 0x62 opScanWrite c s
/-- SCAN_READ. -/
def execScanRead (c : Sub) (s : State) : Outcome := hostCmd 0x63 opScanRead c s
/-- SCAN_STATUS. -/
def execScanStatus (c : Sub) (s : State) : Outcome := hostCmd 0x64 opScanStatus c s

/-! Events: a cycle's start, deadline and shadow read, and its instructions -/

/-- SCAN_CYCLE_START (R228). -/
def execScanCycleStart (s : State) : Outcome := .next (scanStart s)

/-- SCAN_DEADLINE (R225). -/
def execScanDeadline (s : State) : Outcome := .next (scanDeadlineAll s)

/-- SCAN_SHADOW_READ (R241). -/
def execScanShadowRead (s : State) : Outcome := .next (onPlanes (shadowRead s) s)

/-- The executing cycle takes instruction word w when it is the program's next one (log entry 13), in the device states in
which the engine runs (R239). -/
def takeInstr (w : DWord) (f : Plane → Plane) (s : State) : State :=
  if scanOn s then onPlanes (fun p => if nextInstr p = some w then scanAdvance f p else p) s else s

/-- A row of format N. -/
def instrRow (w : DWord) (f : Plane → Plane) (s : State) : Outcome := .next (takeInstr w f s)
/-- A row of format B or X: one operand below a limit. -/
def instrX (op lim x : Nat) (f : Nat → Plane → Plane) (s : State) : Outcome :=
  guarded (decide (x < lim)) (takeInstr (wordX op x) (f x) s)
/-- A row of format W2: two word addresses. -/
def instrW2 (op a b : Nat) (f : Nat → Nat → Plane → Plane) (s : State) : Outcome :=
  guarded (decide (a < 65536 ∧ b < 65536)) (takeInstr (wordW2 op a b) (f a b) s)

/-- INSTR_NOP. -/
def execInstrNop (s : State) : Outcome := instrRow (wordX 0 0) iNop s
/-- RUNG. -/
def execRung (n : Nat) (s : State) : Outcome := instrX 1 0x10000 n iRung s
/-- AND. -/
def execAndBit (a : Nat) (s : State) : Outcome := instrX 2 0x200000 a iAnd s
/-- ANDN. -/
def execAndnBit (a : Nat) (s : State) : Outcome := instrX 3 0x200000 a iAndn s
/-- OR. -/
def execOrBit (a : Nat) (s : State) : Outcome := instrX 4 0x200000 a iOr s
/-- ORN. -/
def execOrnBit (a : Nat) (s : State) : Outcome := instrX 5 0x200000 a iOrn s
/-- PUSH. -/
def execPush (s : State) : Outcome := instrRow (wordX 6 0) iPush s
/-- POPAND. -/
def execPopand (s : State) : Outcome := instrRow (wordX 7 0) iPopand s
/-- POPOR. -/
def execPopor (s : State) : Outcome := instrRow (wordX 8 0) iPopor s
/-- NOT. -/
def execNotRlo (s : State) : Outcome := instrRow (wordX 9 0) iNot s
/-- OUT. -/
def execOutBit (a : Nat) (s : State) : Outcome := instrX 0xA 0x200000 a iOut s
/-- SET. -/
def execSetBit (a : Nat) (s : State) : Outcome := instrX 0xB 0x200000 a iSet s
/-- RST. -/
def execRstBit (a : Nat) (s : State) : Outcome := instrX 0xC 0x200000 a iRst s
/-- R_EDGE. -/
def execREdge (x : Nat) (s : State) : Outcome := instrX 0xD 0x2000 x iREdge s
/-- F_EDGE. -/
def execFEdge (x : Nat) (s : State) : Outcome := instrX 0xE 0x2000 x iFEdge s
/-- TON. -/
def execTon (x : Nat) (s : State) : Outcome := instrX 0x10 0x2000 x iTon s
/-- TOF. -/
def execTof (x : Nat) (s : State) : Outcome := instrX 0x11 0x2000 x iTof s
/-- TP. -/
def execTp (x : Nat) (s : State) : Outcome := instrX 0x12 0x2000 x iTp s
/-- TRES. -/
def execTres (x : Nat) (s : State) : Outcome := instrX 0x13 0x2000 x iTres s
/-- CTU. -/
def execCtu (x : Nat) (s : State) : Outcome := instrX 0x14 0x2000 x iCtu s
/-- CTD. -/
def execCtd (x : Nat) (s : State) : Outcome := instrX 0x15 0x2000 x iCtd s
/-- CRES. -/
def execCres (x : Nat) (s : State) : Outcome := instrX 0x16 0x2000 x iCres s
/-- CGT. -/
def execCgt (a : Nat) (b : Nat) (s : State) : Outcome := instrW2 0x18 a b iCgt s
/-- CGE. -/
def execCge (a : Nat) (b : Nat) (s : State) : Outcome := instrW2 0x19 a b iCge s
/-- CLT. -/
def execClt (a : Nat) (b : Nat) (s : State) : Outcome := instrW2 0x1A a b iClt s
/-- CLE. -/
def execCle (a : Nat) (b : Nat) (s : State) : Outcome := instrW2 0x1B a b iCle s
/-- CEQ. -/
def execCeq (a : Nat) (b : Nat) (s : State) : Outcome := instrW2 0x1C a b iCeq s
/-- CNE. -/
def execCne (a : Nat) (b : Nat) (s : State) : Outcome := instrW2 0x1D a b iCne s
/-- LIM. -/
def execLim (lo : Nat) (x : Nat) (hi : Nat) (s : State) : Outcome :=
  guarded (decide (lo < 65536 ∧ x < 65536 ∧ hi < 65536)) (takeInstr (wordW3 0x1E lo x hi) (iLim lo x hi) s)
/-- MOV. -/
def execMov (a : Nat) (b : Nat) (s : State) : Outcome := instrW2 0x1F a b iMov s
/-- MOVI. -/
def execMovi (a : Nat) (imm : Word) (s : State) : Outcome := guarded (decide (a < 65536)) (takeInstr (wordI 0x20 a imm.toNat) (iMovi a imm) s)
/-- HOLDS. -/
def execHolds (x : Nat) (s : State) : Outcome := instrX 0x21 0x2000 x iHolds s
/-- PARK. -/
def execPark (x : Nat) (s : State) : Outcome := instrX 0x22 0x2000 x iPark s
/-- FORCE. -/
def execForce (x : Nat) (s : State) : Outcome := instrX 0x23 0x2000 x iForce s
/-- EVT. -/
def execEvt (e : Nat) (code : Nat) (s : State) : Outcome := guarded (decide (e < 0x2000 ∧ code < 65536)) (takeInstr (wordI 0x24 e code) (iEvt e code) s)
/-- END. -/
def execEndProg (s : State) : Outcome := instrRow (wordX 0x3F 0) iEnd s

end Sys2Proof.Machine
end

