-- ==== Sys2Proof/Machine/Output.lean ====
section
/-! DEFINITION. The output commit stage (01 R19 to R27, 14 R445 to R449): selection, fences, holds, lines and pins. -/

namespace Sys2Proof.Machine

/-! Safe values (R24, R25) -/

/-- What a channel takes wherever FENCE_SAFE is applied: a digital entry's record holds its safe word. -/
def safeValue (sl : Seal) (c : Nat) : Word := fenceSafe sl c

/-- The registers of a plane with every output at its safe value (R97, R24). -/
def safeRegs (sl : Seal) (p : Plane) : Plane :=
  let chans := (upTo 4224).filterMap fun c => if safeValue sl c = 0 then none else some (c, safeValue sl c)
  let gps := (upTo 128).filterMap fun n => if gpSafe sl n then some (gpKey n, (1 : Word)) else none
  setFab { p.fab with outReg := chans ++ gps, lateOut := [] } p

/-- The analogue domain of a channel, if a front-end domain drives it (Table 14-1). -/
def chanDomain (c : Nat) : Option Nat :=
  if c < 32 then some (c / 16) else if c < 64 then some ((c - 32) / 16) else if c < 128 then some ((c - 64) / 32) else none

/-- The channel stands at its OFF-state level: R21, R313, or a front-end domain out of service. -/
def chanOff (s : State) (c : Nat) : Bool :=
  (analogChan s.sealed c && offHeld s.sealed c) || !s.sealed.valid
    || (match chanDomain c with | some d => !afeUp s d | none => false)

/-- The value that stands for the OFF-state level (R21): 0 FS, and -0.25 FS for a current loop. -/
def offValue (c : Nat) : Word := if 32 ≤ c ∧ c < 64 then 0xFFC00000 else 0

/-! Selection (R26, R448, R449) -/

/-- The alarm level of a retransmit channel (Table 14-4). -/
def alarmLevel (s : State) (x : CLoop) : Word := if alarmHiOf s x then 0x01180000 else 0xFFF80000

/-- Value of a retransmit channel (R448, R449). -/
def retransmit (s : State) (p : Plane) (x : CLoop) : Word :=
  if x.alarm then alarmLevel s x
  else BitVec.ofInt 32 (clampI (-209715) 17301504 (relSignal p x.src x.sel).toInt)

/-- Value of a plane for channel c before the fence; an axis's current reference and drive words are its generator's
(08 R279, R280). -/
def wanted (s : State) (p : Plane) (c : Nat) : Word :=
  if 32 ≤ c ∧ c < 64 ∧ (clOf s (c - 32)).use then retransmit s p (clOf s (c - 32))
  else if 128 ≤ c ∧ ownsSt p (c - 128) then
    (if p.scan.imageLive then tget 0 p.scan.image (aOutSt + (c - 128)) else safeValue s.sealed c)
  else (axisOutput p c).getD (outReg p c)

/-- A pair in torque-off lists the channel (09 R300). -/
def pairForces (s : State) (p : Plane) (c : Nat) : Bool :=
  (upTo 8).any fun k => pairOff s.sealed k p && (upTo 64).any fun j => groupChan s.sealed k j == c

/-- The channel is committed at FENCE_SAFE on this tick (R24): state, interlock force, or safety demand. -/
def forcedSafe (s : State) (p : Plane) (c : Nat) : Bool :=
  !(s.dev == .run || s.dev == .idle) || bit (tget 0 p.scan.image (aForce + c / 32)) (c % 32) || pairForces s p c

/-- A switch-over or check roll is being carried out (R19, 11 R359). -/
def deciding (s : State) : Bool := s.ump.sw.isSome || s.ump.roll.isSome

/-- After a held commit, a result of this sample that is not yet released holds its channel once more (11 R359). -/
def lateHold (s : State) (p : Plane) (c : Nat) : Bool :=
  tget 0 s.outs.heldRun c == 1
    && (loopRecs p).any fun r => loopChan p r.loop == some c && p.fab.due.contains r.loop && !p.fab.relNow.contains r.loop

/-! The fence (R22) -/

/-- Range clamp, then slew limit. -/
def fenceApply (lo hi slew c v : Int) : Int :=
  let u := min (max v lo) hi
  let u1 := if c + slew < u then c + slew else u
  if u1 < c - slew then c - slew else u1

/-- Value committed on the previous tick. -/
def committed (s : State) (c : Nat) : Word := tget 0 s.outs.chan c

/-- What the stage commits for channel c from plane p: value, FENCED, and held; `bad` says that the value failed its
parity on the way from the plane (13 R406). A digital channel has no fence, so FENCED stays 0 there (R25). -/
def commitValueB (bad : Bool) (s : State) (p : Plane) (c : Nat) : Word × Bool × Bool :=
  let v := wanted s p c
  let sl := s.sealed
  let differs : Word → Bool := fun u => analogChan sl c && u != v
  if chanOff s c then (offValue c, differs (offValue c), false)
  else if tget false s.outs.have_ c && (deciding s || bad || (lateHold s p c && !forcedSafe s p c)) then
    (committed s c, differs (committed s c), true)
  else if forcedSafe s p c || !tget false s.outs.have_ c then (safeValue sl c, differs (safeValue sl c), false)
  else if s.dev = .idle ∧ !(32 ≤ c && c < 64 && (clOf s (c - 32)).use) then (committed s c, differs (committed s c), false)
  else if !analogChan sl c then (v, false, false)
  else
    let u : Word := BitVec.ofInt 32 (fenceApply (fence sl c 0).toInt (fence sl c 1).toInt (fence sl c 2).toInt
      (committed s c).toInt v.toInt)
    (u, u != v, false)

/-- The same without a parity error. -/
def commitValue (s : State) (p : Plane) (c : Nat) : Word × Bool × Bool := commitValueB false s p c

/-! The parts of a commit -/

/-- Channels that the stage serves: the pins, the entries of configured stations and the channels of loops. -/
def servedChans (s : State) : List Nat :=
  upTo 128
    ++ ((s.field.stations.flatMap fun x => if x.2.en then (upTo (outSpan x.2)).map (128 + x.2.outBase + ·) else [])
      ++ ((loopRecs (actPlane s)).filterMap fun r => loopChan (actPlane s) r.loop).filter (fun c => decide (128 ≤ c))).eraseDups

/-- Replaces the stage's state. -/
def setOuts (o : Outs) (s : State) : State := { s with outs := o }

/-- 16-bit code of a voltage output (R445). -/
def dacCode (range : Nat) (u : Word) : Nat :=
  if range = 1 then (clampI (-32768) 32767 (rdiv u.toInt 512) + 32768).toNat
  else (clampI 0 65535 (rdiv u.toInt 256)).toNat

/-- The current of a loop as a code of 16 bits over 0 to 24 mA: 4 mA + 16 mA × u, u held to the drive range (R447); the
code's unit is 24 mA / 65536 (log entry 123). -/
def clCode (u : Word) : Nat := (rdiv (4 * 16777216 + 16 * clampI (-524288) 18350080 u.toInt) 6144).toNat

/-- The front end's side of a committed channel: DAC code, current, SAT and ALARM_CLAMPED (R445, R447, R449). -/
def driveChan (c : Nat) (u : Word) (s : State) : State :=
  if c < 32 then setAnalog { s.analog with dac := tset 0 s.analog.dac c (dacCode (tget 0 s.analog.aoRange c) u) } s
  else if c < 64 then
    let x := clOf s (c - 32)
    let lvl := alarmLevel s x
    setCl (c - 32) { x with
      drive := if chanOff s c then 0 else clCode u
      sat := !chanOff s c && (decide (u.toInt < -524288) || decide (18350080 < u.toInt))
      alarmClamped := x.use && x.alarm && outsideFence s.sealed c lvl } s
  else s

/-- Commits one channel; `bad` lists the outputs whose value failed its parity. -/
def commitChan (bad : List Nat) (p : Plane) (c : Nat) (s : State) : State :=
  let r := commitValueB (bad.contains c) s p c
  let o := s.outs
  let s1 := setOuts { o with
    chan := tset 0 o.chan c r.1
    fenced := tset false o.fenced c r.2.1
    have_ := tset false o.have_ c (!chanOff s c)
    heldRun := tset 0 o.heldRun c (if r.2.2 then tget 0 o.heldRun c + 1 else 0) } s
  driveChan c r.1 (if r.2.2 then stally 0x81 1 s1 else s1)

/-- Level that a GP output takes (R25, R234, R240). -/
def gpWanted (bad : Bool) (s : State) (p : Plane) (n : Nat) : Bool :=
  if s.dev ≠ .run ∧ s.dev ≠ .idle then gpSafe s.sealed n
  else if deciding s || bad || s.dev == .idle then tget false s.outs.gp n
  else if ownsGp p n then
    (if p.scan.imageLive then bit (tget 0 p.scan.image (aOutGp + n / 32)) (n % 32) else gpSafe s.sealed n)
  else bit (outReg p (gpKey n)) 0

/-- Commits the GP outputs. -/
def commitGp (bad : List Nat) (p : Plane) (s : State) : State :=
  forEach ((s.analog.gpDir.filter fun x => x.2).map fun x => x.1)
    (fun n t => setOuts { t.outs with gp := tset false t.outs.gp n (gpWanted (bad.contains (4224 + n)) t p n) } t) s

/-- Ticks with RQ = 1 of every retransmit channel, and the values addressed to it that are discarded (R448, R449). -/
def countRetransmit (p : Plane) (s : State) : State :=
  forEach (upTo 32) (fun k t =>
    let x := clOf t k
    if !x.use then t
    else
      let loops := (p.fab.relNow.filter fun l => loopChan p l == some (32 + k)).length
      let steps := (p.sess.committed.map fun n =>
        let i := sessImg p n
        let st := sessStep p n
        (((i.acts.drop (stepActFirst i st)).take (stepNAct i st)).filter fun a => actKind a == 0xA && actIndex a == k).length).sum
      stally 0x80 (loops + steps) (setCl k { x with rqRun := if relStale p x.src then x.rqRun + 1 else 0 } t)) s

/-- Levels that a monitor gives its plane's lines (09 R299). -/
def lineLevels (s : State) (p : Plane) : Tab Bool :=
  if !(s.dev == .run || s.dev == .idle) || !monitorRuns s then []
  else (upTo 8).filterMap fun k => if pairOff s.sealed k p then none else some (k, true)

/-- Plane k has resigned for an error in its safety monitor (slices 0x80 to 0x87 of 11 Table 11-7) and waits for the election:
the monitor's output is not applied (R290). -/
def monitorOut (s : State) (k : Nat) : Bool :=
  (s.ump.sw.any fun w => w.old == k && w.cls == 1) && decide (0x80 ≤ (pstat s k).unit ∧ (pstat s k).unit ≤ 0x87)

/-- The STO lines of plane k at t0 + 7.5 µs (R290, R298, R299, R302). -/
def commitLines (k : Nat) (s : State) : State :=
  let p := planeOf s k
  let q := planeOf s (otherPlane k)
  let role := ((pstat s k).code == 1 || (pstat s k).code == 2) && !monitorOut s k
  let own := role && (p.safe.linesOwn || demandVector p == demandVector q)
  let age := if role then 0 else p.safe.linesAge + 1
  let held := !role && decide (age ≤ 2) && (s.dev == .run || s.dev == .idle)
  setPlane k { p with safe := { p.safe with
    linesOwn := own, linesAge := age
    lines := if held then p.safe.lines else lineLevels s (if own then p else q) } } s

/-- Loop outputs reported FENCED on this commit (17 Table 17-6, counter 0x00). -/
def countFenced (s : State) (p : Plane) : Plane :=
  ptally 0x00 ((loopRecs p).filter fun r => match loopChan p r.loop with
    | some c => tget false s.outs.fenced c
    | none => false).length p

/-- One more held commit of a switch-over or check roll under way (11 R359). -/
def countHeld (s : State) : State :=
  { s with ump := { s.ump with
    sw := s.ump.sw.map fun x => { x with held := x.held + 1 }
    roll := s.ump.roll.map fun x => { x with held := x.held + 1 } } }

/-- Step/direction pairs of the selected plane: the level of SDn_DIR, and the pulses of the sample on SDn_STEP (08 R278).
A held commit holds channels only, so the pulses go on from that plane (log entry 99). An axis that was not computed on the
sample emits none: its CPOS stands. -/
def driveSteps (p : Plane) (s : State) : State :=
  forEach ((boundAxes p).filter fun a => outKind p a == 1) (fun a t =>
    let k := field (xw p a xAcfg) 24 4
    { t with pins := { t.pins with
      sdDir := tset false t.pins.sdDir k (axHid p a).stepNeg
      sdPulses := tset 0 t.pins.sdPulses k (if (axHid p a).ticked then (axHid p a).pulses else 0) } })
    { s with pins := { s.pins with sdPulses := [] } }

/-- The commit of a sample from the selected plane. -/
def commitAll (bad : List Nat) (s0 : State) : State :=
  let s := forEach bad (fun c t => sharedParity (2 + c * 2 ^ 16) t) (countHeld s0)
  let p := actPlane s
  let s1 := countRetransmit p s
  let s2 := driveSteps p (commitGp bad p (forEach (servedChans s1) (commitChan bad p) s1))
  onPlanes (countFenced s2) (commitLines 2 (commitLines 1 s2))

/-- The first commit after start-up: the registers, and the demands of R301 (Table 12-2). -/
def firstCommit (s : State) : State :=
  let s1 := { s with boot := { s.boot with firstCommit := true }, ump := { s.ump with ticks := 0 } }
  onPlanesSl (fun sl p => demandReady sl (safeRegs sl p)) s1

/-- The block drives outputs in this state. -/
def commits (s : State) : Bool := s.dev != .off && s.dev != .standby && !s.boot.preTick

/-- OUTPUT_COMMIT (R19): `bad` lists the channels (4224 + n for GPn) whose value fails its parity in the stage. -/
def execOutputCommit (bad : List Nat) (s : State) : Outcome :=
  if bad.any fun c => decide (4352 ≤ c) then .fault .noSuchObject
  else .next (if !commits s then s
    else commitAll bad (if s.boot.firstCommit then s else forEach (upTo 8) gridOrigin (firstCommit s)))

end Sys2Proof.Machine
end

