-- ==== Sys2Proof/Machine/Field.lean ====
section
/-! DEFINITION. Field links and stations (15 R456 to R476) with their commands. -/

namespace Sys2Proof.Machine

/-! Ports and stations -/

/-- Replaces port k, or station k. -/
def setPort (k : Nat) (p : FPort) (s : State) : State :=
  { s with field := { s.field with ports := tset {} s.field.ports k p } }
def setStation (k : Nat) (x : Station) (s : State) : State :=
  { s with field := { s.field with stations := tset {} s.field.stations k x } }

/-- Byte time of a speed in 0.1 ns, and payload ceiling (Table 15-1). -/
def byteTime (speed : Nat) : Nat := if speed = 1 then 800 else if speed = 2 then 80 else 32
def payCeiling (speed : Nat) : Nat := if speed = 1 then 1024 else 2048

/-- Enabled stations of port p in ascending address. -/
def portStations (s : State) (p : Nat) : List Nat := ((upTo 32).map (32 * p + ·)).filter fun k => (station s k).en

/-- All input words, or output words, of a station's modules. -/
def inWords (x : Station) : Nat := (x.mods.map fun m => m.2.2).sum
def outWords (x : Station) : Nat := (x.mods.map fun m => m.2.1).sum

/-- Modules with input words. -/
def inModules (x : Station) : Nat := (x.mods.filter fun m => m.2.2 != 0).length

/-- L_OUT of a port, in bytes (R464). -/
def outLength (s : State) (p : Nat) : Nat :=
  max 64 (34 + ((portStations s p).map fun k => 8 + 4 * outWords (station s k)).sum)

/-- L_IN of a station. -/
def inLength (x : Station) : Nat := max 64 (34 + 4 * inWords x)

/-- The present sample is a cycle sample of the port (R459). -/
def cycleSample (p : FPort) : Bool :=
  p.speed != 0 && decide (p.cycPhase ≤ p.grid) && (p.grid - p.cycPhase) % fieldCycle p.speed == 0

/-- An event of a port. -/
def portEvent (p code d : Nat) (s : State) : State := raise (0x180 + p) (code + d * 256) s

/-- Marks every module of a station STALE. -/
def mqAll (k : Nat) (v : Bool) (s : State) : State :=
  { s with field := { s.field with
    inMq := (upTo (station s k).mods.length).foldl (fun t m => tset false t (16 * k + m) v) s.field.inMq } }

/-- The station is declared lost (R472). -/
def stationLost (k : Nat) (s : State) : State :=
  let x := station s k
  if !x.online then s
  else portEvent (k / 32) 3 (k % 32)
    (mqAll k true (setStation k { x with online := false, armed := false, got := false, since := false } s))

/-! Reception (R462, R467, R468) -/

/-- Cause for which a received frame is discarded, 0 for none. -/
def frameCause (s : State) (p : Nat) (f : KFrame) : Nat :=
  let q := fport s p
  let x := station s (32 * p + f.src)
  if !f.ok then 1
  else if 32 ≤ f.src ∨ !x.en ∨ (x.mac ≠ 0 ∧ x.mac ≠ f.mac) then 2
  else if f.len ≠ 4 * inWords x ∨ f.c ≠ fieldCycle q.speed ∨ f.count ≠ inModules x then 3
  else if f.epoch ≠ q.epoch then 4
  else if 64 ≤ q.rx.length ∨ 16384 < ((f :: q.rx).map fun r => max 64 (34 + r.len)).sum then 5
  else 0

/-- FRAME_RECEIVE (R468). -/
def execFrameReceive (p : Nat) (f : KFrame) (s : State) : Outcome :=
  let q := fport s p
  let cause := frameCause s p f
  guarded (decide (p < 8)) (
    if q.speed = 0 ∨ !q.linkUp then s
    else if cause ≠ 0 then
      let s1 := setPort p { q with discards := satAdd 0xFFFFFFFF q.discards 1, discTick := true } s
      if q.discTick then s1 else portEvent p 6 cause s1
    else
      let k := 32 * p + f.src
      let x := station s k
      setPort p { q with rx := q.rx ++ [f] } (if x.mac = 0 then setStation k { x with mac := f.mac } s else s))

/-- Input words of a frame, module by module: KIND, module number and words. -/
def moduleWords : List (Nat × Nat × Nat) → Nat → List Word → List (Nat × Nat × List Word)
  | [], _, _ => []
  | m :: r, k, ws => (m.1, k, ws.take m.2.2) :: moduleWords r (k + 1) (ws.drop m.2.2)

/-- The entries that a station's words take, with the module of each. -/
def entryWords (x : Station) (ws : List Word) : List (Nat × Nat × Word) :=
  (((moduleWords x.mods 0 ws).filter fun m => m.1 != 3).flatMap fun m => m.2.2.map fun w => (m.2.1, w)).zipIdx.map
    fun e => (x.inBase + e.2, e.1.1, e.1.2)

/-- The words become the values of the station's entries (R470). -/
def enterWords (k : Nat) (ws : List Word) (ms : BitVec 16) (s : State) : State :=
  let x := station s k
  let t := (entryWords x ws).foldl (fun t e => tset 0 t e.1 e.2.2) s.field.inSt
  setStation k { x with mstale := ms } { s with field := { s.field with inSt := t } }

/-- PDU at byte 0 of a safety module (R469, 09 R305). -/
def modulePdu (ws : List Word) : List Byte :=
  let bs := bytesOf ws
  let n := 16 + (bs.getD 8 0).toNat
  if n ≤ bs.length then bs.take n else bs

/-- Connections that a station's module carries. -/
def moduleConns (sl : Seal) (k m : Nat) : List Nat :=
  (upTo 64).filter fun c => bit (crec sl c 1) 31 && field (crec sl c 1) 28 2 == 1 && field (crec sl c 1) 24 4 == k / 32
    && field (crec sl c 2) 8 5 == k % 32 && field (crec sl c 2) 0 4 == m

/-- The safety PDUs of a frame reach the monitors, which take them at the next cut (09 R306). -/
def framePdus (k : Nat) (ws : List Word) (s : State) : State :=
  forEach ((moduleWords (station s k).mods 0 ws).filter fun m => m.1 == 3 && !m.2.2.isEmpty) (fun m t =>
    forEach (moduleConns t.sealed k m.2.1)
      (fun c u => onPlanes (holdPdu c (modulePdu m.2.2)) u) t) s

/-- The next delivery slot (05 R162): the one behind the instant that the rows of the sample have reached (log entry 116). From
the sample deadline on it comes after the cut. -/
def nextDelivery (p : Plane) : Nat :=
  let n := (p.fab.now / 80).toNat + 1
  if p.fab.deadlineDone then min 99 (max 60 n) else min 59 n

/-- Tokens of a frame's words, with the module's MSTALE as Q. -/
def frameTokens (p k : Nat) (ws : List Word) (ms : BitVec 16) (sn : Word) (s : State) : State :=
  let slot := nextDelivery (actPlane s)
  forEach (entryWords (station s k) ws) (fun e t => broadcastFrom 2 e.1 e.2.2 (bit ms e.2.1) sn slot (p + 1) t) s

/-- The first frame of a port's queue reaches the broadcaster; before the sample deadline, a frame of the present sample
is there in time (06 R202). -/
def deliverFrame (p : Nat) (f : KFrame) (s : State) : State :=
  let k := 32 * p + f.src
  let x := station s k
  let ws := wordsOf f.data
  let ms : BitVec 16 := BitVec.ofNat 16 f.status.toNat
  let y := { x with
    armed := bit f.status 31, safe := bit f.status 30, outWd := bit f.status 28
    lateAcks := if bit f.status 29 then satAdd 0xFFFF x.lateAcks 1 else x.lateAcks
    ackSn := f.sn, since := true
    got := x.got || (f.sn == s.sn && !s.ump.relDone)
    arrived := if snLater f.sn s.sn then some (ws, ms) else x.arrived }
  let s1 := setStation k y s
  let s2 := if snLater f.sn s.sn then s1 else enterWords k ws ms s1
  frameTokens p k ws ms f.sn (framePdus k ws s2)

/-- FRAME_DELIVERY (R462): the oldest held frame whose sample is no later than the coming one, while no back-pressure holds
the port (R476). -/
def execFrameDelivery (p : Nat) (s : State) : Outcome :=
  let q := fport s p
  guarded (decide (p < 8)) (
    match q.rx.find? fun f => !snLater f.sn (s.sn + 1) with
    | none => s
    | some f =>
      if heldBack (actPlane s) (p + 1) then s
      else deliverFrame p f (setPort p { q with rx := q.rx.erase f } s))

/-! The input cut (R459, R470, R472) -/

/-- One station at the cut of a cycle sample of its port: the frame of the sample, or none. While the station is lost, every
quality bit stays 1 (R470, 07 R245). -/
def cycleStation (k : Nat) (s : State) : State :=
  let x := station s k
  let y := { x with
    got := x.arrived.isSome
    missed := if x.since then 0 else x.missed + 1
    noFrame := if x.since then x.noFrame else satAdd 0xFFFF x.noFrame 1
    since := false
    arrived := none }
  match x.arrived with
  | none => mqAll k true (setStation k y s)
  | some (ws, ms) =>
    let s1 := enterWords k ws ms (setStation k y s)
    { s1 with field := { s1.field with
      inMq := (upTo x.mods.length).foldl (fun t m => tset false t (16 * k + m) (bit ms m || !x.online)) s1.field.inMq } }

/-- A station of which a frame was delivered is ONLINE from the cut (R472). -/
def returnStation (k : Nat) (s : State) : State :=
  let x := station s k
  if x.online || !x.since then s else portEvent (k / 32) 4 (k % 32) (setStation k { x with online := true } s)

/-- One port at the cut. -/
def portCut (p : Nat) (s : State) : State :=
  let q := fport s p
  if q.speed = 0 then
    (if q.linkFell then forEach (portStations s p) stationLost (setPort p { q with linkFell := false } s) else s)
  else
    let q1 := { q with
      grid := q.grid + 1, discTick := false, linkFell := false, sent := false, txBusy := q.txBusy - 100000 }
    let ks := portStations s p
    let s1 := setPort p q1 s
    let s2 := if q.linkFell then forEach ks stationLost s1 else forEach ks returnStation s1
    if cycleSample q1 then forEach ks cycleStation s2 else s2

/-- The field ports at the cut. -/
def fieldCut (s : State) : State :=
  let t := forEach (upTo 8) portCut s
  { t with field := { t.field with
    inT0 := t.field.inSt, mqT0 := t.field.inMq
    onT0 := (t.field.stations.filter fun x => x.2.online).map fun x => (x.1, true)
    armT0 := (t.field.stations.filter fun x => x.2.armed).map fun x => (x.1, true) } }

/-- STATION_LOST (R472). -/
def execStationLost (k : Nat) (s : State) : Outcome :=
  guarded (decide (k < 256)) (
    if (station s k).en && decide ((fport s (k / 32)).lostCnt ≤ (station s k).missed) then stationLost k s else s)

/-- FIELD_LINK_DOWN (R458). -/
def execFieldLinkDown (p : Nat) (s : State) : Outcome :=
  let q := fport s p
  guarded (decide (p < 8)) (
    if q.speed = 0 ∨ !q.linkUp then s
    else portEvent p 2 0 (setPort p { q with linkUp := false, linkFell := true, clockRec := false, resend := false } s))

/-- FIELD_LINK_UP (R458). -/
def execFieldLinkUp (p : Nat) (s : State) : Outcome :=
  let q := fport s p
  guarded (decide (p < 8)) (
    if q.speed = 0 ∨ q.linkUp then s
    else portEvent p 1 0 (setPort p { q with linkUp := true, clockRec := true, txBusy := 0 } s))

/-! Output frames (R461, R465, R466, R474) -/

/-- Words of a safety module: the latest PDU of its producer, then zeros. -/
def pduWords (s : State) (k m n : Nat) : List Word :=
  let pdu := match (moduleConns s.sealed k m).find? (isProducer s.sealed) with
    | some c => (connOf (actPlane s) c).txPdu
    | none => []
  (upTo n).map fun i => wordAt (wordsOf pdu) i

/-- Value of an output entry in a departing frame. -/
def frameValue (s : State) (again : Bool) (e : Nat) : Word :=
  if again then committed s (128 + e) else (commitValue s (actPlane s) (128 + e)).1

/-- Output words of a station, module by module. -/
def sectionWords (s : State) (again : Bool) (k : Nat) : List (Nat × Nat × Nat) → Nat → Nat → List Word
  | [], _, _ => []
  | m :: r, i, e =>
    if m.1 = 3 then pduWords s k i m.2.1 ++ sectionWords s again k r (i + 1) e
    else (upTo m.2.1).map (fun j => frameValue s again (e + j)) ++ sectionWords s again k r (i + 1) (e + m.2.1)

/-- The station's section carries an arm request. -/
def armsNow (x : Station) : Bool := x.armReq && x.online && !x.armed

/-- Section of a station. -/
def sectionOf (s : State) (again : Bool) (k : Nat) : KSection :=
  let x := station s k
  let data := x.armed || armsNow x
  { addr := k % 32, data := data, arm := armsNow x, ackSn := x.ackSn
    words := if data then sectionWords s again k x.mods 0 x.outBase else List.replicate (outWords x) 0 }

/-- Clears the arm requests that a frame carries. -/
def armSent (k : Nat) (s : State) : State :=
  let x := station s k
  if armsNow x then portEvent (k / 32) 5 (k % 32) (setStation k { x with armReq := false, everArmed := true } s) else s

/-- The output entries of a station as they leave in its section (10 R319). -/
def entriesOut (s : State) (again : Bool) (k : Nat) : List (Nat × Word) :=
  let x := station s k
  let data := x.armed || armsNow x
  (upTo (outSpan x)).map fun j => (x.outBase + j, if data then frameValue s again (x.outBase + j) else 0)

/-- Sends the frame of the present sample, or the elected plane's copy of the latest one. A station may have to ignore that
copy (11 R361), so the arm requests in it stand until a frame of its own carries them (R474). -/
def sendFrame (p : Nat) (s : State) : State :=
  let q := fport s p
  let ks := portStations s p
  let secs := ks.map (sectionOf s q.resend)
  let st := (ks.flatMap (entriesOut s q.resend)).foldl (fun t e => tset 0 t e.1 e.2) s.outs.st
  forEach (if q.resend then [] else ks) armSent (setPort p { q with
    tx := secs, txSn := if q.resend then q.txSn else s.sn
    sent := !q.resend || q.sent || q.txSn == s.sn, resend := false
    txBusy := (outLength s p + 20) * byteTime q.speed + 5000 } (setOuts { s.outs with st := st } s))

/-- OUTPUT_FRAME_SEND (R461): at a cycle sample, when the transmit path is free and no decision of the umpire
holds the frames back. -/
def execOutputFrameSend (p : Nat) (s : State) : Outcome :=
  let q := fport s p
  guarded (decide (p < 8)) (
    if q.speed ≠ 0 ∧ q.linkUp ∧ q.txBusy ≤ 5000 ∧ !deciding s ∧ s.boot.firstCommit
        ∧ (q.resend ∨ (cycleSample q ∧ !q.sent)) then sendFrame p s else s)

/-- What an election makes of a port (11 R360): a frame that would not end by e + 12 µs, with `left` at t0 + 6.0 µs still
ahead of that instant, is cut, and the elected plane's frame of the latest sample released before e follows, if that is T
or later; its arm requests are sent again. -/
def portSwitch (t : Word) (left p : Nat) (s : State) : State :=
  let q := fport s p
  if q.speed = 0 then s
  else
    let cut := decide (left < q.txBusy)
    let last := if s.ump.relDone then s.sn else s.sn - 1
    let again := q.linkUp && cycleSample (if s.ump.relDone then q else { q with grid := q.grid - 1 }) && !snLater t last
    let s1 := if cut then stally 0x82 1 s else s
    let s2 := setPort p { q with
      txBusy := if cut then 0 else q.txBusy, resend := again, txSn := if again then last else q.txSn } s1
    if again then forEach (q.tx.filter fun x => x.arm) (fun x u =>
      let y := station u (32 * p + x.addr)
      if y.armed then u else setStation (32 * p + x.addr) { y with armReq := true } u) s2
    else s2

/-! Commands (R464, R469, R471, R474, R488) -/

/-- First station at which a running sum over a port's stations exceeds a limit. -/
def sumBad (f : Nat → Nat) (lim : Nat) : List Nat → Nat → Option Nat
  | [], _ => none
  | k :: r, acc => if lim < acc + f k then some k else sumBad f lim r (acc + f k)

/-- Station of port p that breaks a condition of R464. -/
def portBad (s : State) (p : Nat) : Option Nat :=
  let q := fport s p
  let ks := portStations s p
  let tb := byteTime q.speed
  let cyc := fieldCycle q.speed * 100000
  if q.speed = 0 then none
  else
    match sumBad (fun k => 4 * (inWords (station s k) + outWords (station s k))) (payCeiling q.speed) ks 0 with
    | some k => some k
    | none =>
      match sumBad (fun k => 8 + 4 * outWords (station s k)) 2166 ks 0 with
      | some k => some k
      | none =>
        match ks.find? fun k => decide (2200 < inLength (station s k)) with
        | some k => some k
        | none =>
          let bOut := (outLength s p + 20) * tb
          let bIn := (ks.map fun k => (inLength (station s k) + 20) * tb).sum
          if cyc < bOut ∨ cyc < bIn ∨ cyc + 34000 < bOut + bIn + q.margin * 1000 then some (ks.getLastD (32 * p)) else none

/-- First loop that R460 refuses for a phase of port p. -/
def phaseBad (s : State) (p cyc phase : Nat) : Option Nat :=
  let a := actPlane s
  ((loopRecs a).find? fun r => (routesOf a).any fun x =>
    x.dest == r.loop && x.srcKind == 2 && (match inStation s x.src with
      | some k => k / 32 == p
      | none => false) && r.phase % cyc != phase % cyc).map fun r => r.loop

/-- FP_CONFIG. A port whose mode changes loses its link (R458). -/
def opFpConfig (c : Sub) (s : State) : OpOut :=
  let w := par c 0
  let p := c.target
  let speed := field w 0 2
  let cyc := fieldCycle speed
  let phase := field w 8 4
  let lost := field w 16 8
  let mg := field w 24 8
  if speed ≠ 0 ∧ (cyc ≤ phase ∨ lost < 2 ∨ mg < 5 ∨ 100 < mg) then failSt stBadParam s
  else if s.dev ≠ .ready then failSt stNotInState s
  else
    match (if speed = 0 then none else phaseBad s p cyc phase) with
    | some l => failRes stBadParam l s
    | none =>
      let q := fport s p
      let drops : Bool := q.linkUp && (speed != q.speed || bit w 2 != q.serdesX)
      let q1 := { q with
        speed := speed, serdesX := bit w 2, cycPhase := phase, lostCnt := lost, margin := mg
        mac := (par c 1).toNat + field (par c 2) 0 16 * 2 ^ 32
        linkUp := q.linkUp && !drops, clockRec := q.clockRec && !drops, linkFell := q.linkFell || drops
        resend := q.resend && !drops
        rx := if speed = 0 then [] else q.rx }
      let s1 := setPort p q1 s
      match portBad s1 p with
      | some k => failRes stBadParam k s
      | none =>
        let s2 := if drops then portEvent p 2 0 s1 else s1
        okSn (gridOrigin p (if speed = 0 then s2 else useGate (0x02 + p) s2))

/-- Module descriptor m: KIND, OUT_W, IN_W. -/
def moduleDesc (c : Sub) (m : Nat) : Nat × Nat × Nat :=
  let h := field (par c (3 + m / 2)) (16 * (m % 2)) 16
  (fieldN h 14 2, fieldN h 7 7, fieldN h 0 7)

/-- The station that FP_STATION describes. -/
def stationFrom (c : Sub) : Station :=
  let w := par c 0
  let mac := (par c 1).toNat + field (par c 2) 0 16 * 2 ^ 32
  { en := bit w 31, inBase := field w 0 12, outBase := field w 16 12, mac := mac, learn := mac == 0
    mods := (upTo (field (par c 2) 16 5)).map (moduleDesc c) }

/-- Two spans of entries overlap. -/
def overlap (a n b m : Nat) : Bool := decide (a < b + m) && decide (b < a + n) && n != 0 && m != 0

/-- ANALOG bits of a station's output entries agree with the KIND of their modules (R469). -/
def analogAgrees (s : State) (x : Station) : Bool :=
  (upTo (outSpan x)).all fun i =>
    match moduleOf true x.mods i 0 with
    | some m => analogEntry s (x.outBase + i) == ((x.mods.getD m (0, 0, 0)).1 == 0)
    | none => true

/-- A module disagrees with an enabled connection record (R471). -/
def moduleDisagrees (sl : Seal) (x : Station) (k m : Nat) : Bool :=
  let d := x.mods.getD m (0, 0, 0)
  (moduleConns sl k m).any fun c =>
    d.1 != 3 || decide (4 * (if isProducer sl c then d.2.1 else d.2.2) < 16 + connLen sl c)

/-- R469 and R471 hold of the station. -/
def stationOk (s : State) (k : Nat) (x : Station) : Bool :=
  decide (1 ≤ x.mods.length ∧ x.mods.length ≤ 16)
    && (x.mods.all fun m => decide (m.2.1 ≤ 64) && decide (m.2.2 ≤ 64))
    && decide (x.inBase + inSpan x ≤ 4096) && decide (x.outBase + outSpan x ≤ 4096)
    && ((upTo 256).all fun j =>
      let y := station s j
      j == k || !y.en || (!overlap x.inBase (inSpan x) y.inBase (inSpan y) && !overlap x.outBase (outSpan x) y.outBase (outSpan y)))
    && analogAgrees s x && ((upTo x.mods.length).all fun m => !moduleDisagrees s.sealed x k m)

/-- IN_MQ bits of a station that was configured anew: set for its modules, since no frame of it was delivered (R470). -/
def mqFresh (k : Nat) (s : State) : State :=
  let x := station s k
  { s with field := { s.field with
    inMq := (upTo 16).foldl (fun t m => tset false t (16 * k + m) (x.en && decide (m < x.mods.length))) s.field.inMq } }

/-- FP_STATION. -/
def opFpStation (c : Sub) (s : State) : OpOut :=
  let x := stationFrom c
  let k := c.target
  if s.dev ≠ .ready then failSt stNotInState s
  else if x.en && !stationOk s k x then failRes stBadParam k s
  else
    let s1 := mqFresh k (setStation k x s)
    match portBad s1 (k / 32) with
    | some j => failRes stBadParam j s
    | none => okSn (gridOrigin (k / 32) s1)

/-- FP_ARM. -/
def opFpArm (c : Sub) (s : State) : OpOut :=
  let x := station s c.target
  if !x.en || x.armed then failSt stNotInState s else okSn (setStation c.target { x with armReq := true } s)

/-- FP_STATUS. -/
def opFpStatus (c : Sub) (s : State) : OpOut :=
  let t := c.target
  if t < 8 then
    let q := fport s t
    let ks := portStations s t
    okRes (dw (q.speed + (if q.linkUp then 4 else 0) + (if q.clockRec then 8 else 0)
      + (ks.filter fun k => (station s k).online).length * 2 ^ 8 + (ks.filter fun k => (station s k).armed).length * 2 ^ 16
      + q.epoch.toNat % 256 * 2 ^ 24 + q.discards * 2 ^ 32)) s
  else if t < 256 then failSt stBadTarget s
  else
    let x := station s (t - 256)
    okRes (dw (x.online.toNat + x.armed.toNat * 2 + x.safe.toNat * 4 + x.outWd.toNat * 8 + x.mstale.toNat * 2 ^ 16
      + x.noFrame * 2 ^ 32 + x.lateAcks * 2 ^ 48)) s

/-- FP_CONFIG. -/
def execFpConfig (c : Sub) (s : State) : Outcome := hostCmd 0xD0 opFpConfig c s
/-- FP_STATION. -/
def execFpStation (c : Sub) (s : State) : Outcome := hostCmd 0xD1 opFpStation c s
/-- FP_ARM. -/
def execFpArm (c : Sub) (s : State) : Outcome := hostCmd 0xD2 opFpArm c s
/-- FP_STATUS. -/
def execFpStatus (c : Sub) (s : State) : Outcome := hostCmd 0xD3 opFpStatus c s

end Sys2Proof.Machine
end

