-- ==== Sys2Proof/Machine/Hash.lean ====
section
/-! DEFINITION. The functions of FIPS 180-4, FIPS 198-1 and FIPS 186-5 that the lock unit and the boot ROM compute (17 R534,
12 R387): SHA-256, HMAC-SHA-256, SHA-384, and the verification of ECDSA signatures on P-384. -/

namespace Sys2Proof.Machine

/-! Big-endian numbers -/

/-- A big-endian number from bytes. -/
def beNat (bs : List Byte) : Nat := bs.foldl (fun n b => n * 256 + b.toNat) 0

/-- The n big-endian bytes of a number. -/
def beBytes : Nat → Nat → List Byte
  | 0, _ => []
  | n + 1, x => BitVec.ofNat 8 (x / 256 ^ n) :: beBytes n x

/-- The first n groups of k bytes, each as a big-endian number. -/
def beGroups (k : Nat) : Nat → List Byte → List Nat
  | 0, _ => []
  | n + 1, bs => beNat (bs.take k) :: beGroups k n (bs.drop k)

/-! SHA-2 over words of w bits -/

/-- What distinguishes one hash of the family: rotations of Σ0, Σ1 and σ0, σ1 (the last of these a shift), and the
constants of the rounds. -/
structure Sha (w : Nat) where
  big0 : Nat × Nat × Nat
  big1 : Nat × Nat × Nat
  small0 : Nat × Nat × Nat
  small1 : Nat × Nat × Nat
  consts : List (BitVec w)
  deriving DecidableEq, Repr

/-- Σ: three rotations. -/
def shaBig {w : Nat} (r : Nat × Nat × Nat) (x : BitVec w) : BitVec w :=
  x.rotateRight r.1 ^^^ x.rotateRight r.2.1 ^^^ x.rotateRight r.2.2

/-- σ: two rotations and a shift. -/
def shaSmall {w : Nat} (r : Nat × Nat × Nat) (x : BitVec w) : BitVec w :=
  x.rotateRight r.1 ^^^ x.rotateRight r.2.1 ^^^ (x >>> r.2.2)

/-- The next n words of the message schedule, from the 16 that stand. -/
def shaSchedule {w : Nat} (k : Sha w) : Nat → List (BitVec w) → List (BitVec w)
  | 0, _ => []
  | n + 1, ws =>
    let x := shaSmall k.small1 (ws.getD 14 0) + ws.getD 9 0 + shaSmall k.small0 (ws.getD 1 0) + ws.getD 0 0
    ws.getD 0 0 :: shaSchedule k n (ws.tail ++ [x])

/-- One round, with the round's constant and schedule word added up. -/
def shaRound {w : Nat} (k : Sha w) (st : List (BitVec w)) (kw : BitVec w) : List (BitVec w) :=
  match st with
  | [a, b, c, d, e, f, g, h] =>
    let t1 := h + shaBig k.big1 e + ((e &&& f) ^^^ (~~~e &&& g)) + kw
    let t2 := shaBig k.big0 a + ((a &&& b) ^^^ (a &&& c) ^^^ (b &&& c))
    [t1 + t2, a, b, c, d + t1, e, f, g]
  | st => st

/-- One block of 16 words. -/
def shaBlock {w : Nat} (k : Sha w) (st : List (BitVec w)) (block : List (BitVec w)) : List (BitVec w) :=
  let kws := List.zipWith (· + ·) k.consts (shaSchedule k k.consts.length block)
  List.zipWith (· + ·) st (kws.foldl (shaRound k) st)

/-- The padded message: a one bit, zeros, and the length in bits over two words. -/
def shaPad (w : Nat) (bs : List Byte) : List Byte :=
  let b := w / 8
  bs ++ 0x80 :: List.replicate ((32 * b - 1 - (bs.length + 2 * b) % (16 * b)) % (16 * b)) 0 ++ beBytes (2 * b) (8 * bs.length)

/-- The n blocks of a padded message, hashed. -/
def shaBlocks {w : Nat} (k : Sha w) : Nat → List Byte → List (BitVec w) → List (BitVec w)
  | 0, _, st => st
  | n + 1, bs, st => shaBlocks k n (bs.drop (2 * w)) (shaBlock k st ((beGroups (w / 8) 16 bs).map (BitVec.ofNat w)))

/-- The state after a message. -/
def shaRun {w : Nat} (k : Sha w) (iv : List (BitVec w)) (bs : List Byte) : List (BitVec w) :=
  let m := shaPad w bs
  shaBlocks k (m.length / (2 * w)) m iv

/-- Its bytes. -/
def shaBytes {w : Nat} (st : List (BitVec w)) : List Byte := st.flatMap fun x => beBytes (w / 8) x.toNat

/-- The root of degree e of x, rounded down, on the digits below 2^n; r holds those found already. -/
def rootDown (e x : Nat) : Nat → Nat → Nat
  | 0, r => r
  | n + 1, r => rootDown e x n (if (r + 2 ^ n) ^ e ≤ x then r + 2 ^ n else r)

/-- The first 64 bits of the fraction of the root of degree e of p, for roots below 8. -/
def rootFraction (e p : Nat) : BitVec 64 := BitVec.ofNat 64 (rootDown e (p * 2 ^ (64 * e)) 67 0)

/-- The primes below 410, of which there are 80. -/
def shaPrimes : List Nat := (upTo 410).filter fun n => decide (2 ≤ n) && (upTo 21).all fun d => d < 2 || n ≤ d || n % d != 0

/-- Constants of SHA-384: fractions of the cube roots of the first 80 primes; the upper halves of the first 64 are those of
SHA-256. -/
def shaConsts : List (BitVec 64) := shaPrimes.map (rootFraction 3)

/-- Initial state of SHA-512, whose upper halves start SHA-256, and of SHA-384: fractions of the square roots of the first
eight primes, and of the next eight. -/
def shaInit512 : List (BitVec 64) := (shaPrimes.take 8).map (rootFraction 2)
def shaInit384 : List (BitVec 64) := ((shaPrimes.drop 8).take 8).map (rootFraction 2)

/-- SHA-256 (FIPS 180-4): 32 bytes. -/
def sha256 (bs : List Byte) : List Byte :=
  let k : Sha 32 := { big0 := (2, 13, 22), big1 := (6, 11, 25), small0 := (7, 18, 3), small1 := (17, 19, 10)
                      consts := (shaConsts.take 64).map fun x => BitVec.ofNat 32 (x.toNat / 2 ^ 32) }
  shaBytes (shaRun k (shaInit512.map fun x => BitVec.ofNat 32 (x.toNat / 2 ^ 32)) bs)

/-- SHA-384 (FIPS 180-4): 48 bytes. -/
def sha384 (bs : List Byte) : List Byte :=
  let k : Sha 64 := { big0 := (28, 34, 39), big1 := (14, 18, 41), small0 := (1, 8, 7), small1 := (19, 61, 6), consts := shaConsts }
  (shaBytes (shaRun k shaInit384 bs)).take 48

/-- HMAC-SHA-256 (FIPS 198-1) under a key of at most 64 bytes. -/
def hmacSha256 (key msg : List Byte) : List Byte :=
  let k := key ++ List.replicate (64 - key.length) 0
  sha256 (k.map (· ^^^ 0x5C) ++ sha256 (k.map (· ^^^ 0x36) ++ msg))

/-! ECDSA on P-384 -/

/-- The field, the order of the base point, and the base point. -/
def p384 : Nat := 2 ^ 384 - 2 ^ 128 - 2 ^ 96 + 2 ^ 32 - 1
def n384 : Nat := 0xffffffffffffffffffffffffffffffffffffffffffffffffc7634d81f4372ddf581a0db248b0a77aecec196accc52973
def g384 : Nat × Nat :=
  (0xaa87ca22be8b05378eb1c71ef320ad746e1d3b628ba79b9859f741e082542a385502f25dbf55296c3a545e3872760ab7,
   0x3617de4a96262c6f5d9e98bf9292dc29f8f41dbd289a147ce9da3113b5f0b8c00a60b1ce1d7e819d7a431d7c90ea0e5f)

/-- x ^ e mod m over the n low bits of e. -/
def powMod (m : Nat) : Nat → Nat → Nat → Nat
  | 0, _, _ => 1
  | n + 1, x, e => (if e % 2 = 1 then x else 1) * powMod m n (x * x % m) (e / 2) % m

/-- Inverse modulo a prime of 384 bits. -/
def invMod (m x : Nat) : Nat := powMod m 384 x (m - 2)

/-- A point through two points by the slope l. -/
def ecThrough (l : Nat) (a b : Nat × Nat) : Nat × Nat :=
  let x := (l * l + 2 * p384 - a.1 - b.1) % p384
  (x, (l * (a.1 + p384 - x) + p384 - a.2) % p384)

/-- The sum of two points with reduced coordinates; no point is the point at infinity. -/
def ecAdd (a b : Option (Nat × Nat)) : Option (Nat × Nat) :=
  match a, b with
  | none, b => b
  | a, none => a
  | some a, some b =>
    if a.1 = b.1 then
      if (a.2 + b.2) % p384 = 0 then none
      else some (ecThrough ((3 * a.1 * a.1 + p384 - 3) * invMod p384 (2 * a.2 % p384) % p384) a b)
    else some (ecThrough ((b.2 + p384 - a.2) * invMod p384 ((b.1 + p384 - a.1) % p384) % p384) a b)

/-- k times a point, over the n low bits of k. -/
def ecMul : Nat → Nat → Option (Nat × Nat) → Option (Nat × Nat)
  | 0, _, _ => none
  | n + 1, k, q => ecAdd (if k % 2 = 1 then q else none) (ecMul n (k / 2) (ecAdd q q))

/-- The signature (r, s) verifies over the message under the public key q, with SHA-384 (FIPS 186-5). -/
def ecdsaOk (q : Nat × Nat) (msg : List Byte) (r s : Nat) : Bool :=
  let w := invMod n384 (s % n384)
  let u1 := beNat (sha384 msg) * w % n384
  let u2 := r * w % n384
  decide (0 < r ∧ r < n384 ∧ 0 < s ∧ s < n384)
    && match ecAdd (ecMul 384 u1 (some g384)) (ecMul 384 u2 (some q)) with
      | some x => x.1 % n384 == r
      | none => false

end Sys2Proof.Machine
end

