-- ==== Sys2Proof/Machine/Events.lean ====
section
/-! DEFINITION. Events, the event recorder, tally counters, trace, test access port and field lock (17). -/

namespace Sys2Proof.Machine

/-! Posting (R516, R519, 11 R363) -/

/-- First sample that a decision of the umpire under way covers. -/
def coveredFrom (s : State) : Option Word :=
  match s.ump.sw, s.ump.roll with
  | some x, _ => some x.firstBad
  | none, some r => some r.sample
  | none, none => none

/-- Plane that was active for the samples before a decision. -/
def planeBefore (s : State) : Nat :=
  match s.ump.sw with
  | some x => x.old
  | none => readNo s

/-- Events of plane p, marked as its own. -/
def evsOf (s : State) (p : Nat) : List Ev := (planeOf s p).evs.map fun e => { e with plane := p }

/-- Posts the events of the samples up to n: the shared blocks' and those of plane p (R516); the other plane's copies
are dropped. -/
def postUpTo (n : Word) (p : Nat) (s : State) : State :=
  let now : Ev → Bool := fun e => !snLater e.sn n
  let later : Ev → Bool := fun e => snLater e.sn n
  postList (evSort (s.evts.queue.filter now ++ (evsOf s p).filter now))
    { s with
      evts := { s.evts with queue := s.evts.queue.filter later }
      planeA := { s.planeA with evs := s.planeA.evs.filter later }
      planeB := { s.planeB with evs := s.planeB.evs.filter later } }

/-- Posting while the umpire decides: the events of samples before the covered ones, from the plane active for them;
the rest is held. -/
def postBefore (t : Word) (s : State) : State :=
  postUpTo (t - 1) (planeBefore s) { s with evts := { s.evts with postDue := some s.sn } }

/-- A decision of the umpire: the losing plane's events of samples from t on are discarded, those before t come
from it (R363); what fell due meanwhile is posted. -/
def postDecided (t : Word) (old new : Nat) (s : State) : State :=
  let vouched := (evsOf s old).filter fun e => snLater t e.sn
  let fresh := (evsOf s new).filter fun e => !snLater t e.sn
  let s1 := { s with
    evts := { s.evts with postDue := none, queue := if old = new then s.evts.queue else s.evts.queue ++ vouched }
    planeA := { s.planeA with evs := [] }
    planeB := { s.planeB with evs := [] } }
  let s2 := setPlane new { planeOf s1 new with evs := if old = new then vouched ++ fresh else fresh } s1
  match s.evts.postDue with
  | none => s2
  | some n => postUpTo n new s2

/-- EVENT_POSTING at t0 + 8.5 µs (R516): the interlock program has run so far. -/
def execEventPosting (s : State) : Outcome :=
  let s1 := scanProgress 5200 s
  .next (match coveredFrom s1 with
    | some t => postBefore t s1
    | none => postUpTo s1.sn (readNo s1) s1)

/-! Routing words (R518 to R520) -/

/-- A write of an EVT_CFG: RW fields, W1C bits where `w1c`, and the protection of RECORD. -/
def routeWrite (src : Nat) (v : Word) (w1c : Bool) (path : Nat) (e0 : Word) (op : Nat) (s : State) : State :=
  let old := evtCfg s src
  let acked := if w1c then setBit (setBit old 31 (bit old 31 && !bit v 31)) 30 (bit old 30 && !bit v 30) else old
  let fw := setBit acked 26 (bit v 26)
  let irq := if src < 0x40 then fw else setBit (setField fw 16 6 (field v 16 6)) 25 (bit v 25)
  let kept := recordFixed src || (bit old 27 && !bit v 27 && !lockOpen s)
  let s1 := setEvtCfg src (if kept then irq else setBit irq 27 (bit v 27)) s
  if kept && !recordFixed src then logF6 5 path src e0 op v s1 else s1

/-- BAR0 can be reached: link up, function in D0 (02 R44). -/
def bar0Ok (s : State) : Bool := s.hif.linkUp && !s.hif.d3hot

/-- EVT_CFG_WRITE (R520). -/
def execEvtCfgWrite (src : Nat) (v : Word) (s : State) : Outcome :=
  guarded (decide (src < 512)) (if bar0Ok s then routeWrite src v true 3 0xFFFFFFFF 0 s else s)

/-- EVT_ACK (R519): the write of a routing word whose PEND or OVR is 1. -/
def execEvtAck (src : Nat) (v : Word) (s : State) : Outcome :=
  guarded (decide (src < 512))
    (if bar0Ok s && (bit v 31 || bit v 30) then routeWrite src v true 3 0xFFFFFFFF 0 s else s)

/-- EVT_PEND_SUM of word w, and EVT_VEC_SUM. -/
def pendSum (s : State) (w : Nat) : Nat := ((upTo 32).map fun b => if bit (evtCfg s (32 * w + b)) 31 then 2 ^ b else 0).sum
def vecSum (s : State) : Nat :=
  ((upTo 64).map fun v => if (upTo 512).any fun k =>
    let c := evtCfg s k
    bit c 25 && bit c 31 && field c 16 6 == v then 2 ^ v else 0).sum

/-- EVT_ROUTE (R537). -/
def opEvtRoute (c : Sub) (s : State) : OpOut :=
  let n := (par c 0).toNat
  if n = 0 ∨ 512 < c.target + n then failSt stBadParam s
  else okSn (forEach ((upTo n).map (c.target + ·)) (fun k t => routeWrite k (par c 1) false 1 (cmdId c) 0xE8 t) s)

/-- EVT_STATUS (R521). -/
def opEvtStatus (c : Sub) (s : State) : OpOut :=
  okRes (dword (word (tget 0 s.evts.fwCount c.target)) (tget 0 s.evts.data c.target)) s

/-! The recorder (R522 to R528) -/

/-- The ledger controller is powered (18 R561). -/
def ledgerOn (s : State) : Bool := tget false s.clock.powered 0x02

/-- A ledger write whose read-back failed for good: three repeats, then 0x1D5 code 0x03 (13 Table 13-2). -/
def ledgerFails (s : State) : State :=
  raise 0x1D5 3 (sharedParity 3 (sharedParity 3 (sharedParity 3 { s with led := { s.led with writeErrs := s.led.writeErrs + 1 } })))

/-- The 16 words of a record in slot n (Table 17-4). -/
def recordWords (s : State) (e : Ev) (n : Nat) : List Word :=
  let ws := [word (s.led.evrGen.toNat * 2 ^ 16 + e.plane * 2 ^ 12 + e.src % 512), e.sn, e.opsec, loWord s.led.pcc,
    loWord e.tNs, hiWord e.tNs, e.data, word ((if e.preTick then 2 ^ 16 else 0) + n),
    wordAt e.ext 0, wordAt e.ext 1, wordAt e.ext 2, wordAt e.ext 3, 0, 0]
  ws ++ [crc32c (bytesOf ws), 0x564C4441]

/-- Marks of word 15. -/
def markValid : Word := 0x564C4441
def markSkip : Word := 0x534B4950

/-- Writes slot NEXT. -/
def writeRecSlot (ws : List Word) (s : State) : State :=
  { s with evts := { s.evts with slots := tset [] s.evts.slots s.evts.next ws, next := s.evts.next + 1 } }

/-- An event of the recorder itself whose record is written in place. -/
def ownEvent (data : Nat) (ext : List Word) (s : State) : Ev × State :=
  let e : Ev := { sn := if s.boot.preTick then 0 else s.sn, src := 0x1F1, data := word data, ext := ext
                  preTick := s.boot.preTick, opsec := s.clock.opsec, recorded := true }
  let (t, s1) := evTime e s
  ({ e with tNs := t }, s1)

/-- Raises such an event. -/
def raiseOwn (e : Ev) (s : State) : State :=
  if s.boot.preTick then postList [e] s else { s with evts := { s.evts with queue := s.evts.queue ++ [e] } }

/-- Slot 65,535 receives the record of code 0x02, and the recorder is full (R525). -/
def fillLast (s : State) : State :=
  if s.evts.next ≠ 65535 then s
  else
    let (e, s1) := ownEvent 2 [] s
    let s2 := stally 0xB2 1 (writeRecSlot (recordWords s1 e 65535) s1)
    raiseOwn e { s2 with evts := { s2.evts with full := true } }

/-- What follows a step of the write position (R525). -/
def afterSlot (s : State) : State := fillLast (if s.evts.next = 49152 then raise 0x1F1 1 s else s)

/-- One more event that the full recorder does not hold. -/
def dropRecord (s : State) : State :=
  { s with led := { s.led with evrDropped := word (satAdd 0xFFFFFFFF s.led.evrDropped.toNat 1) } }

/-- Writes one record into the next slot. -/
def putRecord (e : Ev) (s : State) : State :=
  if s.evts.full then dropRecord s
  else afterSlot (stally 0xB2 1 (writeRecSlot (recordWords s e s.evts.next) s))

/-- When room returns, a record of code 0x05 takes the place of the events lost (R524). -/
def queueLost (s : State) : State :=
  if s.evts.lostCount = 0 ∨ 1024 ≤ s.evts.recQueue.length then s
  else
    let (e, s1) := ownEvent 5 [word s.evts.lostCount, s.evts.lostSn] s
    raiseOwn e { s1 with evts := { s1.evts with recQueue := s1.evts.recQueue ++ [e], lostCount := 0, lostSn := 0 } }

/-- Last sample whose records may be written while a final checkpoint stands open or PWRFAIL# is asserted (R526). -/
def recordLimit (s : State) : Option Word :=
  match s.boot.pwrfail with
  | some f => some f
  | none => if s.boot.ckptOpen then some s.boot.ckptF else lastSample s

/-- The record is one of a sample whose records may be written. -/
def recordKept (s : State) (e : Ev) : Bool :=
  match recordLimit s with
  | some f => e.preTick || !snLater e.sn f
  | none => true

/-- The record may be written now: one raised while a final checkpoint is written follows its valid mark (12 R394). -/
def recordable (s : State) (e : Ev) : Bool := recordKept s e && !(e.mid && s.boot.ckptOpen)

/-- Takes the first queued record that may be written. -/
def nextRecord (s : State) : Option (Ev × State) :=
  match s.evts.recQueue.find? (recordable s) with
  | none => none
  | some e => some (e, { s with evts := { s.evts with recQueue := s.evts.recQueue.erase e } })

/-- EVENT_RECORD_WRITE (R524): the slot is written, or, where its read-back fails three times, skipped. -/
def recordWrite (ok : Bool) (s : State) : State :=
  if !ledgerOn s then s
  else match nextRecord s with
    | none => s
    | some (e, s1) =>
      if s.evts.full then dropRecord s1
      else if ok && !tget false s.clock.tripped 0x02 then queueLost (putRecord e s1)
      else
        let n := s.evts.next
        raise 0x1F1 (4 + n * 2 ^ 16) (afterSlot (writeRecSlot (List.replicate 15 0 ++ [markSkip]) (ledgerFails s)))

/-- EVENT_RECORD_WRITE. -/
def execEventRecordWrite (ok : Bool) (s : State) : Outcome := .next (recordWrite ok s)

/-- The record in a slot of the current generation. -/
def slotRecord (s : State) (n : Nat) : Option (List Word) :=
  let ws : List Word := tget [] s.evts.slots n
  if wordAt ws 15 = markValid then some ws else none

/-- Records that an EVR_READ copies: from slot n on, at most k, within `room` bytes, to the first slot without one. -/
def readRecords (s : State) : Nat → Nat → Nat → List Word
  | 0, _, _ => []
  | k + 1, n, room =>
    match slotRecord s n with
    | some ws => if 64 ≤ room then ws ++ readRecords s k (n + 1) (room - 64) else []
    | none => []

/-- EVR_READ (R528). -/
def opEvrRead (c : Sub) (s : State) : OpOut :=
  let n := (par c 1).toNat
  let a := addrAt c 2
  let room := (par c 4).toNat
  if n = 0 ∨ 65536 < n then failSt stBadParam s
  else if !inWindow s true a room then badWindow 0xEA c a s
  else
    let ws := readRecords s n (par c 0).toNat room
    .write a (bytesOf ws) (dword (word (4 * ws.length)) (word (ws.length / 16))) s

/-- EVR_CLEAR (R527): it waits for the generation write. -/
def opEvrClear (_c : Sub) (s : State) : OpOut :=
  if !lockOpen s then failSt stLocked s else .wait .device [s.sn] s

/-- The generation write: queued records up to the commit cut go out in the old generation, then the recorder is
empty but for the record of code 0x03. -/
def evrCleared (cut : Word) (s : State) : State :=
  let old := s.led.evrGen
  let mine : Ev → Bool := fun e => e.preTick || !snLater e.sn cut
  let s1 := forEach (s.evts.recQueue.filter mine) putRecord
    { s with evts := { s.evts with recQueue := s.evts.recQueue.filter fun e => !mine e } }
  let n := (s1.evts.slots.filter fun x => wordAt x.2 15 == markValid).length
  let s2 := { s1 with
    led := { s1.led with evrGen := old + 1, evrDropped := 0 }
    evts := { s1.evts with slots := [], next := 0, full := false } }
  let (e, s3) := ownEvent 3 [word old.toNat, word n] s2
  raiseOwn e (stally 0xB2 1 (writeRecSlot (recordWords s3 e 0) s3))

/-! Operating seconds (R523) -/

/-- OPERATING_SECOND: one more second in any state but OFF and STANDBY; the lock unit counts the same seconds. -/
def execOperatingSecond (s : State) : Outcome :=
  .next (if s.dev = .off ∨ s.dev = .standby then s
    else { s with
      clock := { s.clock with opsec := s.clock.opsec + 1, opsecDue := s.clock.opsecDue + 1 }
      lock := { s.lock with nonceAge := s.lock.nonceAge + 1, failAge := s.lock.failAge + 1 } })

/-- Writes the count to the boot record. -/
def writeOpsec (ok : Bool) (s : State) : State :=
  if s.clock.opsecDue = 0 ∨ !ledgerOn s then s
  else if ok && !tget false s.clock.tripped 0x02 then
    { s with led := { s.led with opsec := s.clock.opsec }, clock := { s.clock with opsecDue := 0 } }
  else ledgerFails s

/-- OPSEC_WRITE (R523): every 60 s. -/
def execOpsecWrite (ok : Bool) (s : State) : Outcome := .next (if s.clock.opsecDue < 60 then s else writeOpsec ok s)

/-! Trace (R530, R531) -/

/-- Stops the trace. -/
def stopTrace (cause : Nat) (s : State) : State :=
  if s.trace.run then raise 0x1F3 (2 + cause * 2 ^ 8) { s with trace := { s.trace with run := false, evq := [], sent := [] } } else s

/-- Plane whose content the trace shows. -/
def tracePlane (s : State) : Nat := if s.trace.plane = 0 then readNo s else s.trace.plane

/-- The packets of the tick that ends at an input cut, within the budget of one tick. -/
def traceCut (s : State) : State :=
  let t := s.trace
  if !t.run then s
  else
    let p := tracePlane s
    let sync : List Word := if t.syncCnt % 1000 = 0 then [0xFFFFFFFF, 0x7FFFFFFF] else []
    let tick := [word (0xA0000000 + (if t.lost then 2 ^ 16 else 0) + p), s.sn]
    let sig := if t.sigs.isEmpty then [] else
      word (0xC0000000 + t.sigs.length) :: t.sigs.map fun x => relSignal (planeOf s p) x.1 x.2
    let fixed := sync ++ tick ++ sig
    let room := (1000 / 2 ^ t.div - 4 * fixed.length) / 8
    let dropped := t.evq.length / 2 - room
    let s1 := { s with trace := { t with
      sent := fixed ++ t.evq.take (2 * room), evq := [], lost := decide (0 < dropped), syncCnt := t.syncCnt + 1 } }
    if dropped = 0 then s1 else raise 0x1F3 (3 + dropped % 65536 * 2 ^ 16) (stally 0xB3 dropped s1)

/-- Signal i of an OBS_CTRL. -/
def obsSignal (c : Sub) (i : Nat) : Nat × Nat :=
  let h := field (par c (2 + i / 2)) (16 * (i % 2)) 16
  (fieldN h 2 10, fieldN h 0 2)

/-- OBS_CTRL (R530). -/
def opObsCtrl (c : Sub) (s : State) : OpOut :=
  let w := par c 0
  let n := (par c 1).toNat
  if field w 3 2 = 3 ∨ 16 < n then failSt stBadParam s
  else if !lockOpen s then failSt stLocked s
  else if !bit w 0 then okSn (stopTrace 1 s)
  else okSn (raise 0x1F3 1 (useGate 0x14 { s with trace := {
    run := true, div := field w 1 2, plane := field w 3 2, events := bit w 5, sigs := (upTo n).map (obsSignal c) } }))

/-! Tally counters (R529) -/

/-- Tally counter k, of plane p where it counts a plane's work; a plane in OFFLINE, or one that failed start-up,
reads as zero. -/
def tallyOf (s : State) (p k : Nat) : DWord :=
  if 0x80 ≤ k then tget 0 s.tally k else if computes (pstat s p) then tget 0 (planeOf s p).tally k else 0

/-- OBS_READ. -/
def opObsRead (c : Sub) (s : State) : OpOut :=
  let p := (par c 0).toNat
  if c.target < 0x80 ∧ p ≠ 1 ∧ p ≠ 2 then failSt stBadParam s
  else if !lockOpen s then failSt stLocked s
  else okRes (tallyOf s p c.target) s

/-! The field lock (R533 to R536) -/

/-- Seconds for which a challenge stays barred. -/
def barredFor (s : State) : Nat :=
  let n := s.led.lockFails
  if n < 4 then 0 else min 3600 (60 * 2 ^ (n - 4)) - s.lock.failAge

/-- LOCK_CHALLENGE. -/
def opLockChallenge (c : Sub) (s : State) : OpOut :=
  let half := (par c 0).toNat
  if 1 < half then failSt stBadParam s
  else if 0 < barredFor s then failRes stNotInState (barredFor s) (raise 0x1F2 (5 + barredFor s % 65536 * 2 ^ 16) s)
  else if half = 0 then
    let n := Config.nonce s.freeCtr
    okRes n.1 (raise 0x1F2 1 { s with freeCtr := s.freeCtr + 1, lock := { s.lock with nonce := some n, nonceAge := 0 } })
  else match s.lock.nonce with
    | some n => okRes n.2 s
    | none => failSt stNotInState s

/-- The lock closes: the trace stops, and a scan engine in HOLD will return to RUN. While the sealed block is
invalid it cannot be closed (R536). -/
def closeLock (cause : Nat) (s : State) : State :=
  if !s.lock.isOpen || (s.sealed.read && !s.sealed.valid) then s
  else
    let f : Plane → Plane := fun p => { p with scan := { p.scan with lockRun := p.scan.mode == 2 } }
    stopTrace 2 (onPlanes f (raise 0x1F2 (4 + cause * 2 ^ 8) { s with lock := { s.lock with isOpen := false, openTicks := 0 } }))

/-- The key of the sealed block in force. -/
def lockKey (s : State) : List Word := (upTo 8).map fun i => slw s.sealed (0x12800 / 4 + i)

/-- The response that opens the lock: the first 16 bytes of the HMAC over nonce and serial, low first (R534). -/
def lockMac (key : List Word) (n : DWord × DWord) (serial : DWord) : DWord × DWord :=
  let m := hmacSha256 (bytesOf key) (bytesOf ([n.1, n.2, serial].flatMap fun d => [loWord d, hiWord d]))
  (dw (leNat (m.take 8)), dw (leNat ((m.drop 8).take 8)))

/-- The response matches; none matches a key of zeros. -/
def responseOk (s : State) (n : DWord × DWord) (c : Sub) : Bool :=
  !((lockKey s).all fun w => w == 0)
    && (dword (par c 1) (par c 2), dword (par c 3) (par c 4)) == lockMac (lockKey s) n Config.serial

/-- LOCK. -/
def opLock (c : Sub) (s : State) : OpOut :=
  let op := (par c 0).toNat
  if 1 < op then failSt stBadParam s
  else if op = 1 then okSn (closeLock 1 s)
  else match s.lock.nonce with
    | none => failSt stNotInState s
    | some n =>
      let l := { s.lock with nonce := none }
      if responseOk s n c then
        okSn (raise 0x1F2 2 { s with
          lock := { l with isOpen := true, openTicks := 0 }
          led := { s.led with lockFails := 0 } })
      else
        let k := s.led.lockFails + 1
        failSt stLocked (raise 0x1F2 (3 + k % 256 * 2 ^ 8) { s with
          lock := { l with failAge := 0 }
          led := { s.led with lockFails := k } })

/-- One more tick of an open lock. -/
def lockCut (s : State) : State :=
  if s.lock.isOpen then { s with lock := { s.lock with openTicks := s.lock.openTicks + 1 } } else s

/-- FIELD_LOCK_EXPIRY (R533): 8 hours after the opening cut. -/
def execFieldLockExpiry (s : State) : Outcome := .next (if s.lock.openTicks < 2880000000 then s else closeLock 2 s)

/-- NONCE_EXPIRY (R534). -/
def execNonceExpiry (s : State) : Outcome :=
  .next (if s.lock.nonceAge < 60 then s else { s with lock := { s.lock with nonce := none } })

/-- EVT_ROUTE. -/
def execEvtRoute (c : Sub) (s : State) : Outcome := hostCmd 0xE8 opEvtRoute c s
/-- EVT_STATUS. -/
def execEvtStatus (c : Sub) (s : State) : Outcome := hostCmd 0xE9 opEvtStatus c s
/-- EVR_READ. -/
def execEvrRead (c : Sub) (s : State) : Outcome := hostCmd 0xEA opEvrRead c s
/-- EVR_CLEAR. -/
def execEvrClear (c : Sub) (s : State) : Outcome := hostCmd 0xEB opEvrClear c s
/-- OBS_CTRL. -/
def execObsCtrl (c : Sub) (s : State) : Outcome := hostCmd 0xEC opObsCtrl c s
/-- OBS_READ. -/
def execObsRead (c : Sub) (s : State) : Outcome := hostCmd 0xED opObsRead c s
/-- LOCK_CHALLENGE. -/
def execLockChallenge (c : Sub) (s : State) : Outcome := hostCmd 0xEE opLockChallenge c s
/-- LOCK. -/
def execLock (c : Sub) (s : State) : Outcome := hostCmd 0xEF opLock c s

/-! The test access port (R532, 20 R606) -/

/-- The TAP works in every state except OFF. -/
def tapOn (s : State) : Bool := s.dev != .off

/-- Sets the instruction and the bits shifted out; TDO is high-impedance until the first commit (12 Table 12-2). -/
def setTap (ir : BitVec 8) (tdo : Nat) (s : State) : State :=
  { s with tap := { s.tap with ir := ir, tdo := if s.boot.firstCommit then some tdo else none } }

/-- BYPASS: n bits shift through the one-bit register. -/
def execTapBypass (bits n : Nat) (s : State) : Outcome :=
  .next (if tapOn s then setTap 0xFF (2 * bits % 2 ^ n) s else s)

/-- IDCODE. -/
def execTapIdcode (s : State) : Outcome := .next (if tapOn s then setTap 0x01 0x2A1249CB s else s)

/-- Level of FAULT_OUT# (01 R32, 12 Table 12-2). In START from the first commit to READY the level is not given; it stays low
(log entry 124). -/
def faultOut (s : State) : Bool :=
  match s.dev with
  | .run | .idle | .ready => (s.ump.a.code == 1 && s.ump.b.code == 2) || (s.ump.a.code == 2 && s.ump.b.code == 1)
  | _ => false

/-- Level of a boundary cell that the state fixes: an output that is not switching, and the reset pins. Inputs as they
stand at Capture-DR are no part of the state. -/
def cellLevel (s : State) (i : Nat) : Option Bool :=
  if i = 127 ∧ s.boot.legacyEn then some (!s.window.busy)
  else if i < 128 then
    if tget false s.analog.gpDir i && !(s.boot.legacyEn && decide (96 ≤ i)) then some (tget false s.outs.gp i) else none
  else if i < 192 then
    let x : Pwm := tget {} s.analog.pw (i - 128)
    if !s.boot.firstCommit then some false else if x.running then pwmSteady x else none
  else if i < 224 then
    let k := (i - 192) / 2
    if i % 2 = 1 then some (tget false s.pins.sdDir k)
    else if tget 0 s.pins.sdPulses k = 0 then some false
    else none
  else if i < 272 then none
  else if i < 288 then
    some (tget false (if i % 2 = 0 then s.planeA else s.planeB).safe.lines ((i - 272) / 2))
  else if i < 304 then
    if i % 2 = 0 ∧ (tget {} s.can.chans ((i - 288) / 2) : CanChan).state = 0 then some true else none
  else if i = 304 then some (!s.boot.porst)
  else if i = 305 then some (!s.boot.warm)
  else if i = 307 then some (faultOut s)
  else if i = 308 then some (s.ump.a.code == 1 && (s.dev == .run || s.dev == .idle))
  else if i = 309 then some (s.ump.b.code == 1 && (s.dev == .run || s.dev == .idle))
  else if 331 ≤ i ∧ i < 335 then some (s.clock.a.vid.testBit (i - 331))
  else if 335 ≤ i ∧ i < 339 then some (s.clock.b.vid.testBit (i - 335))
  else if 339 ≤ i ∧ i < 341 then if tget 0 s.clock.outSel (i - 339) = 0 then some false else none
  else if 341 ≤ i then if s.trace.run then none else some false
  else none

/-- A free number of 64n bits. -/
def takeBits : Nat → State → Nat × State
  | 0, s => (0, s)
  | n + 1, s =>
    let (v, s1) := takeFree s
    let (r, s2) := takeBits n s1
    (v.toNat + 2 ^ 64 * r, s2)

/-- SAMPLE (20 R606): the boundary register, or zeros with the lock closed. -/
def execTapSample (s : State) : Outcome :=
  .next (if !tapOn s then s
    else if !lockOpen s then setTap 0x02 0 s
    else
      let (f, s1) := takeBits 6 s
      setTap 0x02 (((upTo 346).map fun i => if (cellLevel s i).getD (f.testBit i) then 2 ^ i else 0).sum) s1)

/-- OBS_SEL: with the lock closed it shifts zeros and Update-DR is ignored. What it captures is not stated. -/
def execTapObsSel (sel : BitVec 10) (s : State) : Outcome :=
  .next (if !tapOn s then s
    else if !lockOpen s then setTap 0x10 0 s
    else
      let (v, s1) := takeFree s
      let t := setTap 0x10 (v.toNat % 1024) s1
      { t with tap := { t.tap with obsSel := sel } })

/-- Trace status. -/
def traceStatus (s : State) : Nat :=
  s.trace.run.toNat + s.trace.plane * 2 ^ 2 + s.trace.div * 2 ^ 4 + (tget 0 s.tally 0xB3).toNat % 2 ^ 32 * 2 ^ 32

/-- OBS_DATA. -/
def execTapObsData (s : State) : Outcome :=
  let sel := s.tap.obsSel
  .next (if !tapOn s then s
    else if !lockOpen s then setTap 0x11 0 s
    else setTap 0x11 (if bit sel 9 then traceStatus s
      else (tallyOf s (if bit sel 8 then 2 else 1) (field sel 0 8)).toNat) s)

/-- TEST_LOGIC_RESET. -/
def execTapReset (s : State) : Outcome := .next (if tapOn s then setTap 0x01 0 s else s)

end Sys2Proof.Machine
end

