-- ==== Sys2Proof/Machine/Journal.lean ====
section
/-! DEFINITION. The journal of the ledger: step checkpoints, their hand-over and writing (06 R211, 11 R371 to R376). -/

namespace Sys2Proof.Machine

/-! Payloads (R373) -/

/-- Session record n as the decisions of the latest cut left it. -/
def sessWords (p : Plane) (n : Nat) : List Word :=
  match (tget [] p.sess.kept n : List Word) with
  | [] => (upTo 16).map (sw p n)
  | ws => ws

/-- Loop entry (Table 11-11). -/
def loopEntry (p : Plane) (l : Nat) : List Word :=
  [word (field (lw p l wTiming) 0 10 * 2 ^ 20 + loopMode p l * 2 ^ 16 + l), lw p l wSpTarget, lw p l wSpEff, lw p l wRamp,
    lw p l wOut, lw p l wInteg, lw p l (wInteg + 1), lw p l wXm, lw p l (wXm + 1), 0]

/-- Axis entry (Table 11-12). -/
def axEntry (p : Plane) (a : Nat) : List Word :=
  let gear := [xGearSrc, xGearN, xGearD, xGearN2, xGearD2, xGearMpos, xGearMpos + 1, xGearS0, xGearS0 + 1, xGearM0, xGearM0 + 1]
  [word a, xw p a xAstat, xw p a xCpos, xw p a (xCpos + 1), xw p a xTarget, xw p a (xTarget + 1),
    xw p a xVmax, xw p a xAmax, xw p a xDmax, xw p a xJmax]
    ++ gear.map (fun k => if axState p a = 5 then xw p a k else 0) ++ [0, 0, 0]

/-- Objects of a kind in a session's scope, in ascending order. -/
def scopeOf (p : Plane) (n kind count : Nat) : List Nat := (upTo count).filter (inScope p n kind)

/-- Step checkpoint of session n from plane k (TYPE 0x01). -/
def stepEntry (k n : Nat) (p : Plane) : JEntry :=
  let ls := scopeOf p n 1 1024
  let xs := scopeOf p n 7 64
  { type := 1, sn := p.sn, session := n, plane := k, nLoop := ls.length, nAx := xs.length
    payload := sessWords p n ++ ls.flatMap (loopEntry p) ++ xs.flatMap (axEntry p) }

/-- Session record of session n from plane k (TYPE 0x02). -/
def stateEntry (k n : Nat) (p : Plane) : JEntry :=
  { type := 2, sn := p.sn, session := n, plane := k, payload := sessWords p n }

/-- The entries that plane k hands over for the present sample (R211): a step checkpoint of every session that
committed a step, the session record alone of every other that changed state. -/
def entriesOf (k : Nat) (p : Plane) : List JEntry :=
  (upTo 128).filterMap fun n =>
    if p.sess.committed.contains n then some (stepEntry k n p)
    else if p.sess.changed.contains n then some (stateEntry k n p)
    else none

/-! Hand-over (R363, R374) -/

/-- Replaces the ledger. -/
def setLed (l : Ledger) (s : State) : State := { s with led := l }

/-- Firmware slot k. -/
def fwSlot (s : State) (k : Nat) : FwSlot := if k = 0 then s.led.fw0 else s.led.fw1

/-- Replaces firmware slot k. -/
def setFwSlot (k : Nat) (v : FwSlot) (s : State) : State :=
  setLed (if k = 0 then { s.led with fw0 := v } else { s.led with fw1 := v }) s

/-- The controller accepts no entry of a sample after F while PWRFAIL# stands asserted or a warm reset waits (12 R382, R391). -/
def accepted (s : State) (e : JEntry) : Bool :=
  match lastSample s with
  | some f => !snLater e.sn f
  | none => true

/-- A check roll has not yet decided which plane the entry's sample is taken from. -/
def undecided (s : State) (e : JEntry) : Bool :=
  match s.ump.roll with
  | some r => e.type != 3 && !snLater r.sample e.sn
  | none => false

/-- Entry x is an unwritten step checkpoint that e replaces: of the same session, and, while a check roll is undecided,
of the same plane and on the same side of the roll's sample. -/
def superseded (s : State) (e x : JEntry) : Bool :=
  e.type == 1 && x.type == 1 && x.session == e.session && undecided s e == undecided s x
    && (!undecided s e || x.plane == e.plane)

/-- Hands one entry to the controller's queue; a newer step checkpoint replaces an older unwritten one. -/
def handEntry (e : JEntry) (s : State) : State :=
  if !accepted s e then s
  else
    let q := s.led.jqueue
    let s1 := setLed { s.led with jqueue := (q.filter fun x => !superseded s e x) ++ [e] } s
    if q.any (superseded s e) then
      raise 0x1D5 (1 + e.session * 256) (setLed { s1.led with replaced := s1.led.replaced + 1 } s1)
    else s1

/-- Planes whose entries of sample n the controller takes: the plane that is active for n (R363); both while a
check roll on n is undecided. -/
def handPlanes (s : State) (n : Word) : List Nat :=
  match s.ump.sw, s.ump.roll with
  | some x, _ => [if snLater x.firstBad n then x.old else otherPlane x.old]
  | none, some r => if snLater r.sample n then [readNo s] else [1, 2].filter fun k => computes (pstat s k)
  | none, none => [readNo s]

/-- The plane has handed over what it had for the sample. -/
def handed (p : Plane) : Plane := setSess { p.sess with committed := [], changed := [] } p

/-- The hand-over of the present sample, between t0 + 8.0 and t0 + 10.0 µs. -/
def handOver (s : State) : State :=
  let es := (handPlanes s s.sn).flatMap fun k => entriesOf k (planeOf s k)
  let s1 := forEach es handEntry s
  { s1 with planeA := handed s1.planeA, planeB := handed s1.planeB }

/-- The umpire has decided a check roll on sample t: the losing plane's entries from t on go, and of each session's
step checkpoints still unwritten only the newest stays (R374). -/
def dropEntries (t : Word) (loser : Nat) (s : State) : State :=
  forEach (s.led.jqueue.filter fun e => e.plane != loser || e.type == 3 || snLater t e.sn) handEntry
    (setLed { s.led with jqueue := [] } s)

/-! Writing (R372, R374, R375) -/

/-- Payload padded with zeros to a multiple of 32 bytes. -/
def padded (ws : List Word) : List Word := ws ++ List.replicate ((8 - ws.length % 8) % 8) 0

/-- Words of an entry as it stands in the ring (Table 11-10). -/
def journalWords (e : JEntry) : List Word :=
  let body := padded e.payload
  let h := [word (e.type * 2 ^ 24 + (8 + body.length) / 8), e.jseq, e.sn, word (e.nLoop * 2 ^ 16 + e.plane * 2 ^ 8 + e.session),
    word e.nAx, e.pcc]
  h ++ [crc32c (bytesOf (h ++ body)), 0x564C4441] ++ body

/-- Bytes of an entry. -/
def entryBytes (e : JEntry) : Nat := 32 + 4 * (padded e.payload).length

/-- Bytes of the journal ring (Table 11-9). -/
def journalSize : Nat := 39 * 2 ^ 20

/-- Bytes in use. -/
def journalUsed (l : List JEntry) : Nat := (l.map entryBytes).sum

/-- Entries that a session's state can be restored from. -/
def sessEntry (e : JEntry) : Bool := e.type == 1 || e.type == 2 || e.type == 4

/-- The newest entry of each session in a ring, oldest first: is x, which `newer` follow, the newest of its session? -/
def newestOf (x : JEntry) (newer : List JEntry) : Bool :=
  sessEntry x && !newer.any fun y => sessEntry y && y.session == x.session

/-- Appends an entry with the next JSEQ. -/
def appendEntry (e : JEntry) (s : State) : State :=
  setLed { s.led with
    journal := s.led.journal ++ [{ e with jseq := s.led.nextJseq, pcc := loWord s.led.pcc }]
    nextJseq := s.led.nextJseq + 1 } s

/-- Frees room for n bytes: the oldest entries go, but the newest entry of a live session is first carried forward
as TYPE 0x04 (R375). -/
def makeRoom (n : Nat) : Nat → State → State
  | 0, s => s
  | k + 1, s =>
    match s.led.journal with
    | [] => s
    | x :: rest =>
      if journalUsed s.led.journal + n ≤ journalSize then s
      else
        let s1 := setLed { s.led with journal := rest } s
        let live := newestOf x rest && sessLive (actPlane s) x.session
        makeRoom n k (if live then raise 0x1D5 2 (appendEntry { x with type := 4 } s1) else s1)

/-- Writes one entry into the ring. -/
def writeEntry (e : JEntry) (s : State) : State :=
  appendEntry e (makeRoom (entryBytes e) s.led.journal.length s)

/-- The umpire has decided for the entry's sample. -/
def decidedEntry (s : State) (e : JEntry) : Bool := !undecided s e

/-- Takes the oldest queued entry that may be written. -/
def nextEntry (s : State) : Option (JEntry × State) :=
  match s.led.jqueue.find? (decidedEntry s) with
  | none => none
  | some e => some (e, setLed { s.led with jqueue := s.led.jqueue.erase e } s)

/-- A ledger write succeeds: the read-back agrees and the ledger domain is in service (13 Table 13-2, 18 Table 18-10). -/
def ledgerOk (ok : Bool) (s : State) : Bool := ok && !tget false s.clock.tripped 0x02

/-- The read-back of the entry under way differs: the write is repeated up to three times, with 0x1E1 code 3 each time;
then it fails (13 Table 13-2, R406). -/
def entryBad (s gone : State) : State :=
  if s.led.tries < 3 then sharedParity 3 (setLed { s.led with tries := s.led.tries + 1 } s)
  else raise 0x1D5 3 (setLed { gone.led with tries := 0, writeErrs := gone.led.writeErrs + 1 } gone)

/-- JOURNAL_WRITE (R374): one attempt at the oldest entry, whose read-back agrees or not. -/
def journalWrite (ok : Bool) (s : State) : State :=
  if !ledgerOn s then s
  else match nextEntry s with
    | none => s
    | some (e, s1) => if ledgerOk ok s then writeEntry e (setLed { s1.led with tries := 0 } s1) else entryBad s s1

/-- JOURNAL_WRITE. -/
def execJournalWrite (ok : Bool) (s : State) : Outcome := .next (journalWrite ok s)

/-- Every entry still queued, in order (12 R394). -/
def flushEntries (s : State) : State :=
  forEach (s.led.jqueue.filter (decidedEntry s)) writeEntry
    (setLed { s.led with jqueue := s.led.jqueue.filter fun e => !decidedEntry s e } s)

/-! Commands -/

/-- LEDGER_STATUS (Table 11-17). JSEQ values of an empty ring are not given. -/
def opLedgerStatus (c : Sub) (s : State) : OpOut :=
  match (par c 0).toNat with
  | 0 => match s.led.journal.getLast? with
    | some e => okRes (dw e.jseq.toNat) s
    | none => let (v, s1) := takeFree s
      okRes v s1
  | 1 => match s.led.journal.head? with
    | some e => okRes (dw e.jseq.toNat) s
    | none => let (v, s1) := takeFree s
      okRes v s1
  | 2 => okRes (dw s.led.replaced) s
  | 3 => okRes (dw s.led.writeErrs) s
  | 4 => okRes s.led.pcc s
  | 5 => okRes (dw s.clock.opsec.toNat) s
  | _ => failSt stBadParam s

/-- Whole entries from a list, at most k, within `room` bytes. -/
def takeEntries : Nat → Nat → List JEntry → List JEntry
  | 0, _, _ => []
  | _, _, [] => []
  | k + 1, room, e :: r => if entryBytes e ≤ room then e :: takeEntries k (room - entryBytes e) r else []

/-- JOURNAL_READ (Table 11-17). -/
def opJournalRead (c : Sub) (s : State) : OpOut :=
  let n := (par c 1).toNat
  let a := addrAt c 2
  let room := (par c 4).toNat
  let from_ := s.led.journal.dropWhile fun e => e.jseq != par c 0
  if n = 0 ∨ 65536 < n then failSt stBadParam s
  else if !inWindow s true a room then badWindow 0xA7 c a s
  else if from_.isEmpty then failSt stNotInState s
  else
    let es := takeEntries n room from_
    .write a (bytesOf (es.flatMap journalWords)) (dword (word (es.map entryBytes).sum) (word es.length)) s

/-- LEDGER_STATUS. -/
def execLedgerStatus (c : Sub) (s : State) : Outcome := hostCmd 0xA6 opLedgerStatus c s
/-- JOURNAL_READ. -/
def execJournalRead (c : Sub) (s : State) : Outcome := hostCmd 0xA7 opJournalRead c s

end Sys2Proof.Machine
end

