-- ==== Sys2Proof/Machine/Umpire.lean ====
section
/-! DEFINITION. The umpire (11): plane states, resignation, heartbeats, signatures, check rolls, switch-over, self-test,
resynchronisation, and the entry into SAFE. -/

namespace Sys2Proof.Machine

/-- Replaces the umpire. -/
def setUmp (u : Umpire) (s : State) : State := { s with ump := u }

/-- The device runs without a second plane (01 R32), or one monitor drives both STO lines (09 R302). -/
def degraded (s : State) : Bool :=
  !((s.ump.a.code == 1 && s.ump.b.code == 2) || (s.ump.a.code == 2 && s.ump.b.code == 1))
    || !(s.planeA.safe.linesOwn && s.planeB.safe.linesOwn)

/-! SUSPECT history (R358) -/

/-- Entries of plane p into SUSPECT within the last 3600 s of operating time, latest first. -/
def suspRecent (s : State) (p : Nat) : List Nat :=
  (if p = 1 then s.led.suspA else s.led.suspB).filter fun x => decide (s.clock.opsec.toNat < x + 3600)

/-- Replaces the history of plane p. -/
def setSusp (p : Nat) (l : List Nat) (s : State) : State :=
  setLed (if p = 1 then { s.led with suspA := l } else { s.led with suspB := l }) s

/-! State changes (R345 to R347) -/

/-- A plane held in reset: nothing but its SN and its counter stand. -/
def resetPlane (p : Nat) (s : State) : State :=
  setPlane p { sn := (planeOf s p).sn, clk := { r := (planeOf s p).clk.r } } s

/-- Plane p enters a state of Table 11-1; one that leaves RESYNC other than for STANDBY abandons it (Table 11-16). -/
def toState (p new cls : Nat) (s : State) : State :=
  let x := pstat s p
  let y : PStat := { x with code := new, ticks := 0, cls := if cls = 0 then x.cls else cls, report := false, repUnit := none, repTick := false }
  let z : PStat := if new = 2 then
      { y with agreed := true, rotations := 0, lastFail := 0xFF, sliceFails := 0, slicePos := 0, repSeq := 0, health := none, repMissed := 0 }
    else { y with finalCut := false, resyncAgree := 0, copied := false }
  let s0 := raise (0x1D0 + p) (1 + new * 2 ^ 8 + x.code * 2 ^ 12 + cls * 2 ^ 16) (setPstat p z s)
  let s1 := if x.code = 4 ∧ (new = 3 ∨ new = 5) then raise 0x1D4 (4 + p * 2 ^ 8) s0 else s0
  if new = 5 then resetPlane p s1
  else if new = 4 then raise 0x1D4 (1 + p * 2 ^ 8) (setPclk p { pclk s1 p with aligned := false, alignRun := 0 } s1)
  else s1

/-- Slices of the unit that a disagreement names, as `unitsDiffer` counts them: those of a booth, or those of the engines
behind the digest or the demand vector (R355, R368). -/
def slicesOf (u : Nat) : List Nat :=
  if u < 0x10 then (upTo 4).map (4 * u + ·)
  else ((upTo 0x88).filter fun n => decide (0x50 ≤ n))

/-- First slice of that unit, as a heartbeat or a report names it (Table 11-7). -/
def sliceOf (u : Nat) : Nat := if u < 0x10 then 4 * u else if u = 0x10 then 0x50 else 0x80

/-- The units that a check roll named are what plane p diagnoses. -/
def nameUnits (p : Nat) (us : List Nat) (s : State) : State :=
  setPstat p { pstat s p with diag := us.flatMap slicesOf } s

/-- Plane p enters SUSPECT, or OFFLINE where the entry would reach SUSPECT_LIM (R358). -/
def toSuspect (p cls unit : Nat) (s : State) : State :=
  let s1 := setPstat p { pstat s p with unit := unit } s
  let l := suspRecent s p
  if s.led.suspLim ≤ l.length + 1 then toState p 5 cls s1
  else toState p 3 cls (setSusp p (s.clock.opsec.toNat :: l) s1)

/-- A lost plane leaves its role: OFFLINE on heartbeat loss, SUSPECT otherwise. -/
def leaveRole (p cls unit : Nat) (hb : Bool) (s : State) : State :=
  if hb then toState p 5 cls (setPstat p { pstat s p with unit := unit } s) else toSuspect p cls unit s

/-! Entry into SAFE (01 R29, Table 1-3) -/

/-- Both planes' axes stop. -/
def axesSafe (s : State) : State := onPlanesSl pairsSafe s

/-- The command may go on in SAFE: a ledger operation under way, or a frequency count. -/
def safeGoesOn (x : Cmd) : Bool := isFast x.op || x.op == 0x05 || x.op == 0x85 || x.op == 0xA8 || x.op == 0xA9 || x.op == 0xEB

/-- A way from IDLE to RUN is given up with its SET_STATE (18 R563): the levels return to those of IDLE. -/
def endWake (p : Cmd → Bool) (s : State) : State :=
  if s.hif.cmds.any fun c => p c && c.op == 0x02 && c.wait == .device then
    applyLevel 2 { s with clock := { s.clock with idleWake := none } }
  else s

/-- Completes every outstanding command that satisfies p. -/
def endCmds (p : Cmd → Bool) (st : Nat) (s : State) : State :=
  let t := endWake p s
  forEach (s.hif.cmds.filter p) (fun c t => complete c.sub st 0 t)
    { t with hif := { t.hif with cmds := t.hif.cmds.filter fun c => !p c } }

/-- The DMA channels serving the commands stop at their next byte and are IDLE, since the commands complete (13 R418,
R419). -/
def dropChannels (p : Cmd → Bool) (s : State) : State :=
  let gone := s.hif.cmds.filter p
  let serves := fun (x : DmaCh) => x.state != 0 && gone.any fun c => c.sub.qp == x.qp && c.sub.tag == x.tag
  forEach ((upTo 16).filter fun k => decide (2 ≤ k) && serves (dmaCh s k))
    (fun k t => let x := dmaCh t k
      idleCh k (setDmaCh k { x with faultVa := x.host + x.done } t)) s

/-- The DRAM leaves self-refresh (18 Table 18-8). -/
def wakeDram (s : State) : State :=
  if s.mem.dram = 1 then raise 0x1E6 4 { s with mem := { s.mem with dram := 0 } } else s

/-- FENCE_SAFE, the safe levels and torque-off are committed at once (01 R24, Table 1-3). -/
def commitSafe (s : State) : State :=
  let p := actPlane s
  if !s.boot.firstCommit then s
  else commitLines 2 (commitLines 1 (commitGp [] p (forEach (servedChans s) (commitChan [] p) s)))

/-- The device enters SAFE: outputs take FENCE_SAFE at once, axes stop, recording stops, channels only
receive, booth groups power down, the management complexes go to PL2; a checkpoint under way is abandoned
(12 R392). -/
def enterSafe (s : State) : State :=
  if s.dev = .safe then s
  else
    let ends : Cmd → Bool := fun c => !safeGoesOn c
    let s1 := endCmds ends stNotInState (dropChannels ends (recHalt (axesSafe s)))
    let s2 := forEach (upTo 8) canSafe s1
    let s3 := forEach (upTo 4) groupsDown (wakeDram s2)
    commitSafe <| applyLevel 2 { s3 with
      dev := .safe
      recHeld := []
      ump := { s3.ump with sw := none, roll := none }
      window := { s3.window with blankLeft := if s3.window.blank then some 8 else none }
      boot := { s3.boot with ckptOpen := false, ckptShadow := [], restorePending := false } }

/-! Start-up failure (12 R388) -/

/-- Both planes have failed start-up. -/
def bothFailed (s : State) : Bool := s.ump.a.fail.isSome && s.ump.b.fail.isSome

/-- Plane p fails start-up: unpowered until the next reset. With both failed, the device enters SAFE. -/
def failStart (p cause : Nat) (s : State) : State :=
  if s.dev ≠ .start ∨ (pstat s p).code ≠ 0 ∨ (pstat s p).fail.isSome then s
  else
    let s1 := setPstat p { pstat s p with fail := some cause, ready := false } (resetPlane p s)
    let d := if p = 1 then 0x08 else 0x0E
    let s2 := forEach [d + 2, d + 3, d + 4, d + 5, d + 1, d] (setPower · false) s1
    let s3 := raise 0x1C8 (2 + (p - 1) * 2 ^ 8 + cause * 2 ^ 16) (setPclk p { pclk s2 p with locked := false } s2)
    if bothFailed s3 then enterSafe s3 else s3

/-- Cause of Table 12-7 for a fault of class F1 to F5 before the election. -/
def startCause (cls : Nat) : Nat := if cls = 2 then 2 else if cls = 3 then 5 else if cls = 4 then 6 else 4

/-! Firmware slots at start-up (12 R384, R387, R388) -/

/-- The plane has not failed and waits for its election. -/
def starting (s : State) (p : Nat) : Bool := s.dev == .start && (pstat s p).code == 0 && (pstat s p).fail.isNone

/-- Slots that BOOT_SEL allows, in the order in which they are tried. -/
def fwOrder (s : State) : List Nat :=
  if s.boot.bootSel = 1 then [0] else if s.boot.bootSel = 2 then [1] else [s.led.fwSel, 1 - s.led.fwSel]

/-- What plane p's boot ROM found of slot k. -/
def fwFoundBy (s : State) (p k : Nat) : Bool :=
  let x := (tget (false, false) s.boot.fwFound p : Bool × Bool)
  if k = 0 then x.1 else x.2

/-- The boot ROM of plane p has checked the slots. -/
def fwChecked (s : State) (p : Nat) : Bool := (s.boot.fwFound.map fun x => x.1).contains p

/-- Planes still starting that have checked their slots. -/
def fwPlanes (s : State) : List Nat := [1, 2].filter fun p => starting s p && fwChecked s p

/-- The slot that start-up takes: the first of the order that a plane finds valid; a later one only when every plane
still starting has checked. -/
def fwChoice (s : State) : Option Nat :=
  let ps := fwPlanes s
  let found := fun k => ps.any fun p => fwFoundBy s p k
  let all := [1, 2].all fun p => !starting s p || fwChecked s p
  (fwOrder s).find? fun k => found k && (all || (fwOrder s).head? == some k)

/-- Start-up runs slot k. -/
def fwTake (k : Nat) (s : State) : State :=
  let s1 := setFwSlot k { fwSlot s k with valid := true } { s with boot := { s.boot with fwRun := some k, slot := k } }
  if (fwOrder s).head? = some k then s1 else raise 0x1C8 (3 + k * 2 ^ 8) s1

/-- A plane runs the slot in use, or fails with cause 0x03. -/
def fwStart (k p : Nat) (s : State) : State :=
  if fwFoundBy s p k then setPstat p { pstat s p with fwOk := true } s else failStart p 3 s

/-- What the planes' findings amount to so far. -/
def fwSettle (s : State) : State :=
  let s1 := match s.boot.fwRun, fwChoice s with
    | none, some k => fwTake k s
    | _, _ => s
  match s1.boot.fwRun with
  | some k => forEach (fwPlanes s1) (fwStart k) s1
  | none => if [1, 2].all (fun p => !starting s1 p || fwChecked s1 p) then forEach (fwPlanes s1) (failStart · 3) s1 else s1

/-! Switch-over (R348, R354, R359) -/

/-- Plane p is fit to be active (R348). -/
def fit (s : State) (p : Nat) : Bool := (pstat s p).code == 2 && (pstat s p).agreed && s.ump.sw.isNone

/-- Forwarded commands that a switch-over overtakes: those forwarded whose commit point has not passed (02 R73). -/
def overtakenCmd (x : Cmd) : Bool := !isFast x.op && x.committed.isNone && x.wait != .order

/-- They complete with PLANE_SWITCH. -/
def switchCmds (s : State) : State := endCmds overtakenCmd stPlaneSwitch (dropChannels overtakenCmd s)

/-- A switch-over from plane p begins: T and the sample of the election as given. -/
def beginSwitch (p cls : Nat) (t e : Word) (held : Nat) (s : State) : State :=
  let s1 := raiseAt e 0x1D0 (1 + p * 2 ^ 8 + cls * 2 ^ 16) (switchCmds s)
  { s1 with
    ump := { s1.ump with sw := some { old := p, cls := cls, firstBad := t, electAt := e, held := held } }
    window := { s1.window with blank := true, blankLeft := none } }

/-- The election (R359 to R363): the other plane becomes ACTIVE, and ports, channels and recorders pass to it. Its instant
e is t0 + 8.5 µs on heartbeat loss, t0 + 3.0 µs on a verdict, t0 + 8.0 µs otherwise; a frame under way may go on to
e + 12 µs, counted from t0 + 6.0 µs. -/
def elect (hb : Bool) (s : State) : State :=
  match s.ump.sw with
  | none => s
  | some x =>
    let new := otherPlane x.old
    let s1 := leaveRole x.old x.cls (pstat s x.old).unit hb { s with ump := { s.ump with sw := none, agreeRun := 0, electSn := s.sn } }
    let s2 := raise 0x1D0 (2 + new * 2 ^ 8 + min 255 x.held * 2 ^ 16) (toState new 1 0 s1)
    let left := if hb then 145000 else if s.ump.relDone then 140000 else 90000
    let s3 := forEach (upTo 8) (fun k t => canSwitch x.firstBad k (portSwitch x.firstBad left k t)) s2
    let s4 := handEntry { type := 3, sn := s.sn, plane := new, payload := [word (x.old + new * 4 + x.cls * 16), x.firstBad, word x.held] } s3
    let s5 := postDecided x.firstBad x.old new s4
    readsDone { s5 with
      recorder := { s5.recorder with switch := !s5.recorder.taken }
      window := { s5.window with blankLeft := some 8, swDue := true } }

/-- No plane is fit to be active (R348). -/
def noneFit (s : State) : State := enterSafe (raise 0x1D0 5 s)

/-- First sample whose flow release ends after the present instant, and the sample of the next t0 + 8.0 µs. -/
def firstUnvouched (s : State) : Word := if s.ump.relDone then s.sn + 1 else s.sn
def nextExchange (s : State) : Word := if s.ump.sigDone then s.sn + 1 else s.sn

/-- A start-up failure of plane p, which leaves the firmware slot to what the other plane has found (12 R384). -/
def failAlone (p cls : Nat) (s : State) : State := fwSettle (failStart p (startCause cls) s)

/-- The umpire loses plane p (R354). -/
def loseAt (p cls unit : Nat) (hb : Bool) (s : State) : State :=
  let x := pstat s p
  let o := otherPlane p
  if x.code = 0 then failAlone p cls s
  else if halted s then s
  else
    match s.ump.sw with
    | some w =>
      if w.old = p then s
      else noneFit (leaveRole p cls unit hb (leaveRole w.old w.cls (pstat s w.old).unit false { s with ump := { s.ump with sw := none } }))
    | none =>
      if x.code = 1 then
        if fit s o then
          let s1 := setPstat p { x with unit := unit } s
          if hb then elect true (beginSwitch p cls s.sn s.sn 0 s1)
          else beginSwitch p cls (firstUnvouched s) (nextExchange s) 0 s1
        else noneFit (leaveRole p cls unit hb s)
      else if x.code = 5 ∨ (x.code = 3 ∧ !hb) then s
      else leaveRole p cls unit hb s

/-- The umpire loses plane p, whose next heartbeat names its resignation (R351). -/
def lose (p cls unit : Nat) (hb : Bool) (s : State) : State :=
  let t := loseAt p cls unit hb s
  if hb then t else setPstat p { pstat t p with resigned := cls } t

/-- PLANE_RESIGNATION (R353). -/
def execPlaneResignation (plane cls unit : Nat) (s : State) : Outcome :=
  guarded ((plane == 1 || plane == 2) && decide (1 ≤ cls ∧ cls ≤ 5)) (lose plane cls (unit % 256) false s)

/-- SWITCHOVER_ELECTION (R359): the first t0 + 8.0 µs after d. -/
def execSwitchoverElection (s : State) : Outcome :=
  .next (match s.ump.sw with
    | none => s
    | some x => if snLater x.electAt s.sn || !s.ump.relDone then s else elect false s)

/-! Signatures (R351 to R355) -/

/-- What the signature of booth b covers: the results its loops released in the tick, with their contexts (01 R38), and those
released after the exchange of the tick before, as they were released (05 R174). -/
def boothWords (p : Plane) (b : Nat) : List Word :=
  let ls := ((upTo 64).map (64 * b + ·)).filter fun l => p.fab.relNow.contains l
  ((p.fab.relPrev.filter fun r => r.loop / 64 == b).flatMap fun r => [word r.loop, r.out, word r.rq.toNat, r.pv, r.sp, r.resid])
    ++ ls.flatMap fun l => [word l, relSignal p l 2, word (if relStale p l then 1 else 0)] ++ (upTo 64).map (lw p l)

/-- What the control digest covers (R352). -/
def digestWords (k : Nat) (p : Plane) : List Word :=
  (upTo 128).flatMap (sessWords p)
    ++ (upTo 64).flatMap (fun a => [xw p a xCpos, xw p a (xCpos + 1), xw p a xCvel, xw p a (xCvel + 1), xw p a xAstat])
    ++ (if p.scan.dlDone then (p.scan.image ++ p.scan.doneData).flatMap fun x => [word x.1, x.2] else [])
    ++ (entriesOf k p).flatMap (fun e => word e.type :: word e.session :: e.payload)

/-- Two values of 64 bits formed identically over the words of each plane agree. -/
def sigAgree (x y : List Word) : Bool := x == y || Config.signature x == Config.signature y

/-! Heartbeats (R351) -/

/-- Words of a heartbeat but its CRC: SN, then STATE, RESIGN, REPORT, CLASS and UNIT, signatures, digest, demand vector, each
low word first (log entry 103). -/
def heartbeatWords (h : Heartbeat) : List Word :=
  [h.sn, word (h.state % 16 + h.resign.toNat * 16 + h.report.toNat * 32 + h.cls % 8 * 64 + h.unit % 256 * 512)]
    ++ (h.sigs ++ [h.digest, h.demand]).flatMap fun d => [loWord d, hiWord d]

/-- CRC of a heartbeat. -/
def heartbeatCrc (h : Heartbeat) : Word := crc32c (bytesOf (heartbeatWords h))

/-- The heartbeat that plane p forms for the present sample (Table 11-3). -/
def heartbeatOf (s : State) (p : Nat) : Heartbeat :=
  let x := pstat s p
  let q := planeOf s p
  let gone := x.resigned != 0
  let h : Heartbeat := {
    sn := s.sn, state := x.code, resign := gone, report := x.report
    cls := if gone then x.resigned else if x.report then 1 else 0
    unit := if gone then x.unit else if x.report then x.repUnit.getD 0 else 0
    sigs := (upTo 16).map fun b => Config.signature (boothWords q b), digest := Config.signature (digestWords p q)
    demand := dw (((demandVector q).zipIdx.map fun d => if d.1 then 2 ^ d.2 else 0).sum) }
  { h with crc := heartbeatCrc h }

/-- A heartbeat that has arrived and counts: of the present sample, and with its CRC right. -/
def heartbeatCounts (s : State) (h : Option Heartbeat) : Bool :=
  match h with
  | none => false
  | some x => x.sn == s.sn && x.crc == heartbeatCrc x

/-- The heartbeats of the sample have told of the resignations before them. -/
def resignsTold (s : State) : State :=
  forEach [1, 2] (fun p t => setPstat p { pstat t p with resigned := 0 } t) s

/-- HEARTBEAT_DEADLINE (R351, R354): the heartbeats of planes A and B as they have arrived; a standby plane without its
heartbeat is not fit, so it is taken first. -/
def execHeartbeatDeadline (hbA hbB : Option Heartbeat) (s : State) : Outcome :=
  let got := fun p => heartbeatCounts s (if p = 1 then hbA else hbB)
  let a := activeNo s
  let miss : Nat → State → State := fun p t =>
    if got p || (pstat t p).code == 0 || (pstat t p).code == 5 then t else lose p 3 (pstat t p).unit true t
  .next (if halted s then s else miss a (miss (otherPlane a) (resignsTold s)))

/-- Units whose values differ: booths 0x00 to 0x0F, 0x10 the digest, 0x11 the demand vector. -/
def unitsDiffer (a b : Plane) : List Nat :=
  ((upTo 16).filter fun n => !sigAgree (boothWords a n) (boothWords b n))
    ++ (if sigAgree (digestWords 0 a) (digestWords 0 b) then [] else [0x10])
    ++ (if demandVector a == demandVector b then [] else [0x11])

/-- REPORT events of the heartbeats of the sample. -/
def reports (s : State) : State :=
  forEach [1, 2] (fun p t =>
    if (pstat t p).report && (pstat t p).code != 5 then
      raise (0x1D0 + p) (2 + (pstat t p).repUnit.getD 0 * 2 ^ 16) (setPstat p { pstat t p with report := false, repUnit := none } t)
    else t) s

/-- A RESYNC plane is compared from its final cut (R354, R370). -/
def compareResync (p : Nat) (agree : Bool) (s : State) : State :=
  let x := pstat s p
  if !x.finalCut || snLater x.finalSn s.sn then s
  else if agree then setPstat p { x with resyncAgree := x.resyncAgree + 1 } s
  else toSuspect p 5 x.unit s

/-- A check roll on the present sample begins, with its event; a disagreement on a later one is taken into it (R355, R379). -/
def beginRoll (units : List Nat) (s : State) : State :=
  let held := fun (r : Roll) (t : State) => { t with
    ump := { t.ump with roll := some r }
    window := { t.window with blank := true, blankLeft := none } }
  match s.ump.roll with
  | some r => held { r with units := (r.units ++ units).eraseDups } s
  | none => raise 0x1D0 (3 + units.headD 0 * 2 ^ 8) (held { sample := s.sn, units := units } s)

/-- ACTIVE plane a and STANDBY plane o compared; ra and ro: they set REPORT. -/
def compareStandby (a o : Nat) (units : List Nat) (ra ro : Bool) (s : State) : State :=
  if units.isEmpty then
    if s.ump.roll.isSome then s
    else setUmp { s.ump with agreeRun := s.ump.agreeRun + 1 } (setPstat o { pstat s o with agreed := true } s)
  else
    let s1 := setUmp { s.ump with agreeRun := 0 } s
    if s.ump.roll.isNone && ra != ro then loseAt (if ra then a else o) 5 (sliceOf (units.headD 0)) false s1
    else beginRoll units (setPstat o { pstat s1 o with agreed := false } s1)

/-- The demand vectors of two planes that compute differ, which no check roll has taken up yet (09 R291, R317). -/
def vectorsPart (s : State) : Bool := s.ump.sw.isNone && s.ump.roll.isNone && !monitorsAgree s

/-- SIGNATURE_EXCHANGE (R354): both heartbeats of the sample are present at t0 + 8.0 µs. -/
def signatureExchange (s : State) : State :=
  let a := activeNo s
  let o := otherPlane a
  let units := unitsDiffer (planeOf s a) (planeOf s o)
  let ra := (pstat s a).report
  let ro := (pstat s o).report
  let s0 := reports (setUmp { s.ump with sigDone := true } s)
  let s1 := onPlanes (fun p => setFab { p.fab with exchanged := true } p)
    (if vectorsPart s then raise 0x152 0 s0 else s0)
  if s.ump.sw.isSome then s1
  else if (pstat s o).code = 2 then compareStandby a o units ra ro s1
  else if (pstat s o).code = 4 then compareResync o units.isEmpty s1
  else setUmp { s1.ump with agreeRun := 0 } s1

/-- SIGNATURE_EXCHANGE. -/
def execSignatureExchange (s : State) : Outcome := .next (if halted s || s.boot.preTick then s else signatureExchange s)

/-! The verdict (R355 to R357) -/

/-- The roll leaves the active plane in place. -/
def rollStays (r : Roll) (a : Nat) (s : State) : State :=
  let s1 := recDecide false a (forEach (upTo 8) canResume (setUmp { s.ump with roll := none } s))
  let s2 := postDecided r.sample a a (dropEntries r.sample (otherPlane a) s1)
  { s2 with window := { s2.window with blankLeft := some 8 } }

/-- The roll finds the active plane a faulty: the other is elected at the verdict. -/
def rollSwitch (r : Roll) (a : Nat) (s : State) : State :=
  let s1 := setPstat a { pstat s a with unit := sliceOf (r.units.headD 0) } { s with ump := { s.ump with roll := none } }
  let s2 := recDecide true (otherPlane a) (dropEntries r.sample a s1)
  elect false (beginSwitch a 5 r.sample s.sn r.held s2)

/-- CHECK_ROLL_VERDICT (Table 11-5): whether each plane passed. -/
def checkRollVerdict (okA okB : Bool) (s : State) : State :=
  match s.ump.roll with
  | none => s
  | some r =>
    let a := activeNo s
    let o := otherPlane a
    let passed := fun p => if p = 1 then okA else okB
    let there : Bool := (pstat s o).code == 2
    let code := if there && !passed o then (if passed a then 2 else 3) else if passed a then 0 else 1
    let s1 := raise 0x1D0 (4 + code * 2 ^ 8) (nameUnits o r.units (nameUnits a r.units s))
    let u := sliceOf (r.units.headD 0)
    if passed a then
      let s2 := if there then toSuspect o 5 u s1 else s1
      rollStays r a s2
    else if there && passed o then rollSwitch r a s1
    else
      let s2 := toSuspect a 5 u (if there then toSuspect o 5 u s1 else s1)
      noneFit (dropEntries r.sample o (setUmp { s2.ump with roll := none } s2))

/-- A plane that has not reported by t0 + 3.0 µs of sample n + 2 fails the roll (R355); judged at the sample deadline
(log entry 107). -/
def rollDeadline (s : State) : State :=
  match s.ump.roll with
  | none => s
  | some r => if halted s || snLater (r.sample + 2) s.sn then s else checkRollVerdict false false s

/-- CHECK_ROLL_VERDICT. -/
def execCheckRollVerdict (okA okB : Bool) (s : State) : Outcome := .next (if halted s then s else checkRollVerdict okA okB s)

/-! Self-test, health and diagnosis (R366 to R368) -/

/-- The report of Table 11-8. -/
def healthWord (x : PStat) : DWord :=
  dw (x.repSeq % 2 ^ 16 + x.slicePos * 2 ^ 16 + min 255 x.sliceFails * 2 ^ 32 + x.lastFail * 2 ^ 40 + min 65535 x.rotations * 2 ^ 48)

/-- HEALTH_REPORT (R367, R368): on every 100th tick since entry into STANDBY, the report arrives or is missed. -/
def healthReport (p : Nat) (arrived : Bool) (s : State) : State :=
  let x := pstat s p
  if x.code ≠ 2 ∨ x.ticks % 100 ≠ 0 ∨ x.repTick ∨ halted s then s
  else if arrived then setPstat p { x with repTick := true, repMissed := 0, health := some (healthWord x), repSeq := x.repSeq + 1 } s
  else
    let s1 := raise 0x1D3 (2 + p * 2 ^ 8) (setPstat p { x with repTick := true, repMissed := x.repMissed + 1, repSeq := x.repSeq + 1 } s)
    if 2 ≤ x.repMissed + 1 then lose p 3 x.unit false s1 else s1

/-- HEALTH_REPORT. -/
def execHealthReport (plane : Nat) (arrived : Bool) (s : State) : Outcome :=
  guarded (plane == 1 || plane == 2) (healthReport plane arrived s)

/-- The slice reads a memory: contexts and capture buffers of a booth, or step table memory (Table 11-7). -/
def memorySlice (n : Nat) : Bool := (decide (n < 0x40) && decide (2 ≤ n % 4)) || decide (0x58 ≤ n ∧ n < 0x68)

/-- SELF_TEST_SLICE (R366, R368): the next slice of the rotation passes or fails. -/
def selfTestSlice (p : Nat) (pass : Bool) (s : State) : State :=
  let x := pstat s p
  if x.code ≠ 2 ∨ halted s then s
  else if pass then
    setPstat p (if x.slicePos + 1 = 152 then { x with slicePos := 0, rotations := x.rotations + 1 }
      else { x with slicePos := x.slicePos + 1 }) s
  else
    let n := x.slicePos
    let s1 := raise 0x1D3 (1 + p * 2 ^ 8 + n * 2 ^ 16) (setPstat p { x with sliceFails := x.sliceFails + 1, lastFail := n } s)
    lose p (if memorySlice n then 1 else 5) n false s1

/-- SELF_TEST_SLICE. -/
def execSelfTestSlice (plane : Nat) (pass : Bool) (s : State) : Outcome :=
  guarded (plane == 1 || plane == 2) (selfTestSlice plane pass s)

/-- A supply of plane p is out of range. -/
def planeTripped (s : State) (p : Nat) : Bool :=
  (upTo 6).any fun i => tget false s.clock.tripped ((if p = 1 then 0x08 else 0x0E) + i)

/-- The cause of an entry into SUSPECT that the device itself can still see stands: for F2 the crystal or the PLL,
for F4 a supply that has not been in range for 10 ms. -/
def causeStands (s : State) (p : Nat) : Bool :=
  ((pstat s p).cls == 2 && (!(clkSrc s (p - 1)).stable || !(pclk s p).locked || (pclk s p).coast))
    || ((pstat s p).cls == 4 && (planeTripped s p || decide ((pstat s p).goodTicks < 1000)))

/-- One more tick for the planes' supplies. -/
def supplyTick (s : State) : State :=
  forEach [1, 2] (fun p t =>
    setPstat p { pstat t p with goodTicks := if planeTripped t p then 0 else min 1000 ((pstat t p).goodTicks + 1) } t) s

/-- DIAGNOSIS_PASSED (R368), within 1 s of entry. -/
def execDiagnosisPassed (plane : Nat) (s : State) : Outcome :=
  guarded (plane == 1 || plane == 2)
    (if (pstat s plane).code ≠ 3 ∨ 100000 ≤ (pstat s plane).ticks ∨ halted s ∨ causeStands s plane then s
    else toState plane 4 0 s)

/-- SUSPECT_TIMEOUT (R368): 1 s in SUSPECT. -/
def execSuspectTimeout (plane : Nat) (s : State) : Outcome :=
  guarded (plane == 1 || plane == 2)
    (if (pstat s plane).code ≠ 3 ∨ (pstat s plane).ticks < 100000 then s else toState plane 5 0 s)

/-! Resynchronisation (R369, R370) -/

/-- The copy set of the active plane over what a plane keeps of its own: its events, tally counters and STO lines, the
tokens that it received itself, its capture buffers, and the counts it reports (R369). -/
def copySet (from_ own : Plane) : Plane :=
  { from_ with
    evs := own.evs, tally := own.tally, clk := own.clk
    fab := { from_.fab with
      store := own.fab.store, heldTok := own.fab.heldTok, ctxWrites := own.fab.ctxWrites, capt := own.fab.capt
      counters := own.fab.counters, flowStat := own.fab.flowStat, bpSeen := own.fab.bpSeen, boothHist := own.fab.boothHist }
    safe := { from_.safe with lines := own.safe.lines, linesOwn := own.safe.linesOwn, linesAge := own.safe.linesAge } }

/-- Copies the active plane's words to plane p. -/
def copyTo (p : Nat) (s : State) : State := setPlane p (copySet (actPlane s) (planeOf s p)) s

/-- RESYNC_COPY_ROUND: one round of the copy. -/
def execResyncCopyRound (plane : Nat) (s : State) : Outcome :=
  guarded (plane == 1 || plane == 2)
    (if (pstat s plane).code ≠ 4 ∨ (pstat s plane).finalCut ∨ halted s ∨ s.ump.sw.isSome then s
    else
      let s1 := copyTo plane s
      setPstat plane { pstat s1 plane with copied := true } s1)

/-- The resyncing plane sets R_REF to its own R at the final cut (15 R486), and OFS to device time there. -/
def takeTime (p : Nat) (s : State) : State :=
  let q := planeOf s p
  setPlane p { q with clk := { q.clk with rRef := q.clk.r + 4000, ofs := BitVec.ofInt 96 (tqIn s 4000) } } s

/-- A late result of the active plane is under way: still in issue past its sample's release, or not committed. -/
def lateUnderWay (s : State) : Bool :=
  let f := (actPlane s).fab
  !f.lateOut.isEmpty || f.inflight.any fun t => s.ump.relDone || snLater s.sn t.sn

/-- No late result, check roll or switch-over is under way. -/
def quietTick (s : State) : Bool := s.ump.sw.isNone && s.ump.roll.isNone && !lateUnderWay s

/-- RESYNC_FINAL_CUT: the final copy of tick c − 1, once a round of the copy is done; from cut c the plane is compared. It
does not fall before the plane is aligned (18 R546). Which words a round left dirty is not held (log entry 117). -/
def execResyncFinalCut (plane : Nat) (s : State) : Outcome :=
  guarded (plane == 1 || plane == 2)
    (if (pstat s plane).code ≠ 4 ∨ (pstat s plane).finalCut ∨ halted s ∨ !quietTick s ∨ !(pclk s plane).aligned
      ∨ !(pstat s plane).copied ∨ 100000 ≤ (pstat s plane).ticks then s
    else
      let s1 := takeTime plane (copyTo plane s)
      raiseAt (s.sn + 1) 0x1D4 (2 + plane * 2 ^ 8)
        (setPstat plane { pstat s1 plane with finalCut := true, finalSn := s.sn + 1, resyncAgree := 0 } s1))

/-- RESYNC_COMPLETE: 1000 consecutive agreeing samples from the final cut. -/
def execResyncComplete (plane : Nat) (s : State) : Outcome :=
  guarded (plane == 1 || plane == 2)
    (if (pstat s plane).code ≠ 4 ∨ (pstat s plane).resyncAgree < 1000 then s
    else raise 0x1D4 (3 + plane * 2 ^ 8) (toState plane 2 0 s))

/-- RESYNC_TIMEOUT: 1 s in RESYNC without a final cut. -/
def execResyncTimeout (plane : Nat) (s : State) : Outcome :=
  guarded (plane == 1 || plane == 2)
    (if (pstat s plane).code ≠ 4 ∨ (pstat s plane).finalCut ∨ (pstat s plane).ticks < 100000 then s
    else toState plane 5 0 s)

/-! Commands (Table 11-17) -/

/-- PLANE_STATUS. -/
def opPlaneStatus (_c : Sub) (s : State) : OpOut :=
  let a := s.ump.a
  let b := s.ump.b
  okRes (dword (word (a.code + b.code * 2 ^ 4 + min 15 (suspRecent s 1).length * 2 ^ 8 + min 15 (suspRecent s 2).length * 2 ^ 12
    + a.cls * 2 ^ 16 + b.cls * 2 ^ 20 + s.led.suspLim * 2 ^ 24 + (degraded s).toNat * 2 ^ 28)) s.ump.electSn) s

/-- PLANE_HEALTH. -/
def opPlaneHealth (c : Sub) (s : State) : OpOut :=
  match (pstat s (c.target + 1)).health with
  | some h => okRes h s
  | none => failSt stNotInState s

/-- PLANE_RESTORE: an OFFLINE plane runs its start-up test, which SELF_TEST_DONE ends. -/
def opPlaneRestore (c : Sub) (s : State) : OpOut :=
  if (pstat s (c.target + 1)).code ≠ 5 then failSt stNotInState s else .wait .device [s.sn] s

/-- The start-up test of a plane under PLANE_RESTORE has ended. -/
def restoreTested (p : Nat) (pass : Bool) (s : State) : State :=
  let mine : Cmd → Bool := fun x => x.op == 0xA2 && x.wait == .device && x.sub.target + 1 == p
  if !s.hif.cmds.any mine || (pstat s p).code != 5 then s
  else if pass then completeWaiting mine stOk (dw s.sn.toNat) (toState p 4 0 (setSusp p [] s))
  else completeWaiting mine stTimeout 0 s

/-- PLANE_OFFLINE. -/
def opPlaneOffline (c : Sub) (s : State) : OpOut :=
  let p := c.target + 1
  let k := (pstat s p).code
  if k = 0 ∨ k = 1 ∨ k = 5 then failSt stNotInState s else okRes 0 (toState p 5 0 s)

/-- A cut c of R365: no roll, resynchronisation or late result under way, and 1000 agreeing samples before it. -/
def swapCut (s : State) : Bool :=
  quietTick s && s.ump.a.code != 4 && s.ump.b.code != 4 && decide (1000 ≤ s.ump.agreeRun)

/-- The roles change at the cut; the events of the samples before it come from the old active plane. -/
def swapPlanes (s : State) : State :=
  let a := activeNo s
  let o := otherPlane a
  raise 0x1D0 6 (postDecided s.sn a o (toState o 1 0 (toState a 2 0 s)))

/-- PLANE_SWAP: at the present cut, or at a later one. -/
def opPlaneSwap (_c : Sub) (s : State) : OpOut :=
  if !fit s (otherPlane (activeNo s)) then failSt stNotInState s
  else if swapCut s then okSn (swapPlanes s)
  else .wait .device [s.sn] s

/-- PLANE_CONFIG. -/
def opPlaneConfig (c : Sub) (s : State) : OpOut :=
  if par c 0 = 0 then failSt stBadParam s else okRes 0 (setLed { s.led with suspLim := (par c 0).toNat } s)

/-- A waiting PLANE_SWAP at a cut: done, given up after 100 ms or when the standby plane is no longer fit, or
still waiting; and a PLANE_RESTORE that has not ended within 2 s. -/
def planeCut (s : State) : State :=
  let late : Nat → Cmd → Bool := fun n x => decide ((n : Int) ≤ snDiff s.sn (wordAt x.aux 0))
  let s1 := completeWaiting (fun x => x.op == 0xA2 && x.wait == .device && late 200000 x) stTimeout 0 s
  let mine : Cmd → Bool := fun x => x.op == 0xA4 && x.wait == .device
  match s1.hif.cmds.find? mine with
  | none => s1
  | some c =>
    if late 10000 c || !fit s1 (otherPlane (activeNo s1)) then completeWaiting mine stNotInState 0 s1
    else if swapCut s1 then completeWaiting mine stOk (dw s1.sn.toNat) (swapPlanes s1)
    else s1

/-- PLANE_STATUS. -/
def execPlaneStatus (c : Sub) (s : State) : Outcome := hostCmd 0xA0 opPlaneStatus c s
/-- PLANE_HEALTH. -/
def execPlaneHealth (c : Sub) (s : State) : Outcome := hostCmd 0xA1 opPlaneHealth c s
/-- PLANE_RESTORE. -/
def execPlaneRestore (c : Sub) (s : State) : Outcome := hostCmd 0xA2 opPlaneRestore c s
/-- PLANE_OFFLINE. -/
def execPlaneOffline (c : Sub) (s : State) : Outcome := hostCmd 0xA3 opPlaneOffline c s
/-- PLANE_SWAP. -/
def execPlaneSwap (c : Sub) (s : State) : Outcome := hostCmd 0xA4 opPlaneSwap c s
/-- PLANE_CONFIG. -/
def execPlaneConfig (c : Sub) (s : State) : Outcome := hostCmd 0xA5 opPlaneConfig c s

end Sys2Proof.Machine
end

