-- ==== Sys2Proof/Machine/Mem.lean ====
section
/-! DEFINITION. Memory, the turn table, the DMA engine and address translation (13). -/

namespace Sys2Proof.Machine

/-! The turn table (R408 to R412) -/

/-- Default owner of a slot (Table 13-4). -/
def turnDefault (slot : Nat) : Nat := [1, 0, 2, 3, 4, 1, 5, 2, 0, 0, 1, 3, 2, 4, 5, 0].getD (slot % 16) 0

/-- Owners by slot that differ from the default, of a table given by its slots. -/
def turnTab (f : Nat → Nat) : Tab Nat := (upTo 64).filterMap fun i => if f i = turnDefault i then none else some (i, f i)

/-- Owner of a slot in force. -/
def turnOwner (s : State) (slot : Nat) : Nat := tget (turnDefault slot) s.mem.turn slot

/-- A slot passes; at a rotation boundary a table that waits is taken (R412). -/
def nextSlot (s : State) : State :=
  let n := (s.mem.slot + 1) % 64
  match (if n = 0 then s.mem.turnPending else none) with
  | some t => raise 0x1E6 1 (setMem { s.mem with slot := n, turn := t, turnPending := none } s)
  | none => setMem { s.mem with slot := n } s

/-- Blocks of the DRAM. -/
def scrubBlocks : Nat := 2 ^ 25

/-! DMA channels (R415 to R419, R425) -/

/-- The command that channel k serves. -/
def servedBy (x : DmaCh) (c : Cmd) : Bool := c.sub.qp == x.qp && c.sub.tag == x.tag

/-- A channel's transfer ends: the channel is IDLE, and its command completes. -/
def endTransfer (k st : Nat) (r : DWord) (s : State) : State :=
  let x := dmaCh s k
  completeWaiting (servedBy x) st r (idleCh k s)

/-- Channel k stops with a cause of Table 13-7; when its command has completed it is IDLE. -/
def stopChannel (k cause st : Nat) (s : State) : State :=
  endTransfer k st 0 (raise 0x1E5 (3 + k * 2 ^ 8 + cause * 2 ^ 16) (setDmaCh k { dmaCh s k with state := 3, cause := cause } s))

/-- Commands that read host memory by DMA, with the bytes they read (their address stands in PARAM0 and PARAM1, for
MASK_LOAD too). -/
def readBytes (x : Cmd) : Option Nat :=
  if x.op == 0x30 || x.op == 0x42 || x.op == 0x60 || x.op == 0x84 || x.op == 0x97 || x.op == 0xA8 then some (par x.sub 2).toNat
  else if x.op == 0xE4 then some (4 * x.sub.image.length)
  else none

/-- Region of the device side (Table 13-8). -/
def regionOf (op : Nat) : Nat := if op = 0xA8 ∨ op = 0x93 then 0 else if op = 0x42 then 1 else if op = 0x25 then 2 else 3

/-- Channel that a command's transfer takes: CH2 for CAPT_READ, else the lowest free one of the pool. -/
def freeChannel (op : Nat) (s : State) : Option Nat :=
  (if op = 0x25 then [2] else (upTo 13).map (· + 3)).find? fun k => (dmaCh s k).state == 0

/-- PLANE of a command's descriptor (Table 13-8): both for a transfer to the device; for CAPT_READ the plane that it names; else
the active one. -/
def planeSide (x : Cmd) (dir : Bool) (s : State) : Nat :=
  if dir then 3 else if x.op = 0x25 ∧ par x.sub 0 ≠ 0 then (par x.sub 0).toNat else readNo s

/-- Starts the transfer of a command on channel k. -/
def startChannel (k : Nat) (x : Cmd) (dir : Bool) (host len : Nat) (data : List Byte) (r : DWord) (s : State) : State :=
  setDmaCh k { state := 1, urgent := x.op == 0x25, dir := dir, qp := x.sub.qp, tag := x.sub.tag, plane := planeSide x dir s
               host := host, length := len, data := data, status := stOk, result := r, region := regionOf x.op } s

/-- Starts a transfer of records out of the ring: its bytes come with the bursts of DMA_RD (R409). -/
def startFetch (k : Nat) (x : Cmd) (host : Nat) (l : List Rec) (r : DWord) (s : State) : State :=
  let t := startChannel k x false host (recsBytes l) [] r s
  setDmaCh k { dmaCh t k with recs := l, dev := (l.head?.map fun y => y.off).getD 0 } t

/-- Replaces a waiting command. -/
def updateCmd (x y : Cmd) (s : State) : State :=
  { s with hif := { s.hif with cmds := s.hif.cmds.map fun c => if c = x then y else c } }

/-- The image of a waiting command has arrived, or it needs none. -/
def imageHere (x : Cmd) : Bool := (readBytes x).isNone || x.aux.head? == some 1

/-- A transfer serves the command. -/
def inTransfer (s : State) (x : Cmd) : Bool := s.mem.chans.any fun c => c.2.state != 0 && servedBy c.2 x

/-- Starts the read of a waiting command's image, where a channel is free. A range outside every window starts none:
the command's own test at acceptance refuses it (R425). -/
def startRead (x : Cmd) (s : State) : State :=
  match readBytes x with
  | none => s
  | some n =>
    if x.wait ≠ .cut ∨ imageHere x ∨ inTransfer s x then s
    else if n = 0 ∨ !inWindow s false (addrAt x.sub 0) n then updateCmd x { x with aux := [1] } s
    else match freeChannel x.op s with
      | none => s
      | some k => startChannel k x true (addrAt x.sub 0) n [] 0 s

/-- Starts whatever reads wait, oldest command first. -/
def startReads (s : State) : State := forEach s.hif.cmds startRead s

/-- A transfer's last byte is moved: a command that read its image waits for its cut; one that wrote completes. The bytes of
a REC_FETCH are those moved, where a record went out as a gap record. -/
def transferDone (k : Nat) (s : State) : State :=
  let x := dmaCh s k
  if x.dir then
    let s1 := idleCh k s
    match s1.hif.cmds.find? (servedBy x) with
    | none => startReads s1
    | some c => startReads (updateCmd c { c with aux := [1] } s1)
  else startReads (endTransfer k x.status (if x.region = 0 then dword (word x.length) (hiWord x.result) else x.result) s)

/-! What DRAM bursts move (Table 13-3) -/

/-- Channel k wants a burst of DMA_RD: the stream for its next record, or a transfer of records. -/
def wantsRd (s : State) (k : Nat) : Bool :=
  if k = 1 then (streamReads s).isSome
  else let x := dmaCh s k
    x.state == 1 && x.region == 0 && !x.dir && !x.recs.isEmpty

/-- Channel k wants a burst of DMA_WR: bytes that it has read from the host stand in the engine's buffer. -/
def wantsWr (s : State) (k : Nat) : Bool :=
  let x := dmaCh s k
  x.state == 1 && x.region == 0 && x.dir && decide (x.dram < x.done)

/-- The channel that a requester of DMA serves next: in turn by channel number (log entry 114). -/
def dramTurn (s : State) (want : Nat → Bool) : Option Nat := ((upTo 16).map fun i => (s.mem.grantCh + 1 + i) % 16).find? want

/-- The scrubber is behind its pace: one pass in the time that MEM_SCRUB sets (R407). -/
def scrubDue (s : State) : Bool :=
  s.mem.scrub != 0 && decide (s.mem.scrubPos * (s.mem.scrub * 100000) ≤ s.mem.scrubTicks * scrubBlocks)

/-- Requesters with a request pending (Table 13-3); those of the management complexes come with the row, bit k of `req` for
code k. -/
def requests (s : State) (req k : Nat) : Bool :=
  if k = 1 then !s.recorder.staging.isEmpty
  else if k = 2 then (dramTurn s (wantsRd s)).isSome
  else if k = 3 then (dramTurn s (wantsWr s)).isSome
  else if k = 6 then scrubDue s
  else (k == 4 || k == 5) && fieldN req k 1 == 1

/-- The next background grantee, in cyclic order after the last. -/
def background (s : State) (req : Nat) : Option Nat :=
  ((upTo 6).map fun i => (s.mem.lastBg + i) % 6 + 1).find? (requests s req)

/-! ECC (R405 to R407) -/

/-- A transfer that needs the DRAM ends when the DRAM is lost: REC_FETCH with NOT_IN_STATE, FW_STAGE with INTERNAL. -/
def loseTransfer (k : Nat) (s : State) : State :=
  let x := dmaCh s k
  if x.state ≠ 0 ∧ 3 ≤ k ∧ x.region = 0 then endTransfer k (if x.dir then stInternal else stNotInState) 0 s else s

/-- The DRAM is declared lost. -/
def dramLost (s : State) : State :=
  if s.mem.dram = 2 then s
  else raise 0x1E6 2 (forEach (upTo 16) loseTransfer (recLost (setMem { s.mem with dram := 2, granted := 0 } s)))

/-- DRAM bytes a to a + n - 1 read as uncorrectable from now on. -/
def spoilDram (a n : Nat) (s : State) : State :=
  if dramBad s a n then s else setMem { s.mem with bad := s.mem.bad ++ [(a, a + n)] } s

/-- An ECC error on a read at an offset: 1 corrected, 2 uncorrectable. Of 2^30 and more, the data hold bits [35:12]. -/
def eccError (ecc off : Nat) (s : State) : State :=
  if ecc ≠ 1 ∧ ecc ≠ 2 then s
  else
    let s1 := raise 0x1E0 (ecc + off / 2 ^ 12 % 2 ^ 24 * 2 ^ 8) (countMem (ecc - 1) s)
    if ecc = 1 then s1
    else
      let recent := (s1.mem.uncorr.filter fun n => decide (snDiff s1.sn (word n) < 100000)) ++ [s1.sn.toNat]
      let s2 := setMem { s1.mem with uncorr := recent } s1
      if 16 ≤ recent.length then dramLost s2 else s2

/-- A MEM supply out of range makes every read uncorrectable (18 Table 18-10). -/
def eccNow (ecc : Nat) (s : State) : Nat := if tget false s.clock.tripped 0x03 then 2 else ecc

/-- ECC outcome of a read of n bytes at an offset. -/
def eccAt (ecc a n : Nat) (s : State) : Nat := if dramBad s a n then 2 else eccNow ecc s

/-- A read of n bytes at an offset: its error is counted, and what is uncorrectable stays so until it is written. -/
def eccRead (ecc a n : Nat) (s : State) : State :=
  let e := eccAt ecc a n s
  eccError e a (if e = 2 then spoilDram a n s else s)

/-- A burst within a record that stands in the ring: its offset and its bytes, of which m are read. -/
def recBurst (x : Rec) (m : Nat) : Nat × Nat :=
  let a := (x.off + m) % ringSize
  (a, min (256 - a % 256) (recBytes x - m))

/-- A DMA_RD burst of the stream. A record that cannot be corrected is marked: it goes out as a gap record (R327). -/
def streamRead (x : Rec) (ecc : Nat) (s : State) : State :=
  let (a, n) := recBurst x s.recorder.stream.fetched
  let s1 := eccRead ecc a n s
  if eccAt ecc a n s = 2 then
    onRec (fun r => { r with ring := r.ring.map fun y => if y.seq = x.seq then { y with bad := true } else y }) s1
  else onStream (fun t => { t with fetched := t.fetched + n }) s1

/-- A DMA_RD burst of a transfer of records: the bytes of a record that is read follow those before it, and the gap record of
one that cannot be corrected (R327). -/
def fetchRead (k ecc : Nat) (s : State) : State :=
  let x := dmaCh s k
  match x.recs with
  | [] => s
  | y :: rest =>
    let (a, n) := recBurst y x.dram
    let s1 := eccRead ecc a n s
    let z := dmaCh s1 k
    if z.state ≠ 1 then s1
    else if y.bad || eccAt ecc a n s == 2 then
      let g := gapRec y.seq y.snFirst y.snLast 1 3 (recSwitch y)
      setDmaCh k { z with recs := rest, dram := 0, data := z.data ++ bytesOf g.words
                          length := z.length + recBytes g - recBytes y } s1
    else if x.dram + n = recBytes y then
      setDmaCh k { z with recs := rest, dram := 0, data := z.data ++ bytesOf y.words } s1
    else setDmaCh k { z with dram := x.dram + n } s1

/-- A DMA_WR burst: up to the next 256-byte boundary of the working buffers, in every plane that executes (R418). -/
def stageWrite (k : Nat) (s : State) : State :=
  let x := dmaCh s k
  let n := min (256 - x.dram % 256) (x.done - x.dram)
  let img : List Word := ((s.hif.cmds.find? (servedBy x)).map fun c => c.sub.image).getD []
  let s1 := stageWords (x.dram / 4) ((img.take ((x.dram + n) / 4)).drop (x.dram / 4)) s
  let s2 := setDmaCh k { x with dram := x.dram + n } (mendDram (bufBase 1 + x.dram) n (mendDram (bufBase 2 + x.dram) n s1))
  if x.length ≤ x.dram + n then transferDone k s2 else s2

/-- An uncorrectable error in the working buffer of plane p is an error in its own memory (Table 13-2). -/
def bufError (ecc p : Nat) (s : State) : State := if ecc = 2 then lose p 1 0x88 false s else s

/-- A management complex reads its working buffer: where, the spec does not give (log entry 113). -/
def mgtRead (p ecc : Nat) (s : State) : State :=
  let (v, s1) := takeFree s
  bufError (eccNow ecc s) p (eccError (eccNow ecc s) (bufBase p + v.toNat % 2 ^ 30) s1)

/-- The burst under way ends: what requester k moves with it. -/
def burstOf (k ecc : Nat) (s : State) : State :=
  match k with
  | 1 => ringBurst s
  | 2 => if s.mem.grantCh ≠ 1 then fetchRead s.mem.grantCh ecc s
    else match streamReads s with
      | some x => streamRead x ecc s
      | none => s
  | 3 => if wantsWr s s.mem.grantCh then stageWrite s.mem.grantCh s else s
  | 4 => mgtRead 1 ecc s
  | 5 => mgtRead 2 ecc s
  | _ => s

/-- The burst under way, if any, ends (log entry 55). -/
def burstEnd (s : State) : State :=
  let k := s.mem.granted
  if k = 0 then s else burstOf k s.mem.grantEcc (setMem { s.mem with granted := 0, interrupted := false } s)

/-- The DRAM serves requests: powered and out of self-refresh. -/
def dramServes (s : State) : Bool := s.mem.dram == 0 && tget false s.clock.powered 0x03

/-- Requester k is granted a burst; one of DMA is its channel's in turn. -/
def grantTo (k ecc : Nat) (s : State) : State :=
  let ch := if k = 2 then dramTurn s (wantsRd s) else if k = 3 then dramTurn s (wantsWr s) else none
  setMem { s.mem with granted := k, grantEcc := ecc, grantCh := ch.getD s.mem.grantCh } s

/-- DRAM_GRANT (R409): the burst before it has ended, and the slot's owner, or the next background requester, is granted one.
`ecc` is the outcome of its reads. -/
def dramGrant (req ecc : Nat) (s0 : State) : State :=
  if !dramServes s0 then s0
  else
    let s := burstEnd s0
    if !dramServes s then s
    else
      let own := turnOwner s s.mem.slot
      let s1 := nextSlot s
      if own ≠ 0 ∧ requests s req own then grantTo own ecc (stally (0xA0 + own) 1 s1)
      else
        match background s req with
        | none => s1
        | some k => grantTo k ecc (stally (0xA8 + k) 1 (setMem { s1.mem with lastBg := k } s1))

/-- DRAM_GRANT; `ecc` 3 in START says that the DRAM fails its training (R407). -/
def execDramGrant (req ecc : Nat) (s : State) : Outcome :=
  .next (if ecc = 3 then (if s.dev = .start then dramLost s else s) else dramGrant req ecc s)

/-- DRAM_REFRESH (R410): it may interrupt the burst under way, but none twice. -/
def execDramRefresh (s : State) : Outcome :=
  .next (if !dramServes s || s.mem.granted == 0 || s.mem.interrupted then s else setMem { s.mem with interrupted := true } s)

/-- The scrubber goes on to the next block; a pass that ends counts its time against the next. -/
def nextBlock (s : State) : State :=
  let n := s.mem.scrubPos + 1
  setMem (if n = scrubBlocks then { s.mem with scrubPos := 0, scrubTicks := s.mem.scrubTicks - s.mem.scrub * 100000 }
    else { s.mem with scrubPos := n }) s

/-- The plane whose working buffer holds an offset. -/
def bufOwner (a : Nat) : Option Nat := if a < bufBase 1 then none else if a < bufBase 2 then some 1 else some 2

/-- The scrubber reads its block. -/
def scrubBlock (ecc : Nat) (s : State) : State :=
  let a := 256 * s.mem.scrubPos
  let e := eccAt ecc a 256 s
  let s1 := eccRead ecc a 256 (nextBlock (setMem { s.mem with granted := 0 } s))
  match bufOwner a with
  | some p => bufError e p s1
  | none => s1

/-- SCRUB_BLOCK (R407): on a grant of its own, the scrubber reads one block. -/
def execScrubBlock (ecc : Nat) (s : State) : Outcome :=
  .next (if !dramServes s || s.mem.granted != 6 then s else scrubBlock ecc s)

/-! Bursts to and from the host (R416) -/

/-- Bytes of the next burst of a channel: up to 256, not crossing a 256-byte boundary of the host address. -/
def burstBytes (x : DmaCh) : Nat := min (x.length - x.done) (256 - (x.host + x.done) % 256)

/-- Channel k of CH2 to CH15 has a burst ready in a direction: it runs, its page is not waited for, and the bytes of a burst to
the host are there. -/
def chReady (s : State) (dir : Bool) (k : Nat) : Bool :=
  let x := dmaCh s k
  decide (2 ≤ k) && x.state == 1 && !x.walk && x.dir == dir
    && (if dir then decide (x.done < x.length) else decide (x.done + burstBytes x ≤ x.data.length))

/-- Channel that issues the next burst in a direction (R416): an urgent one first, then the NORMAL ones in round robin by
channel number. The bursts of CH0 rank above them and go out with the rows that cause them. -/
def nextChannel (s : State) (dir : Bool) : Option Nat :=
  let ready : Nat → Bool := fun k => if k = 1 then !dir && streamReady s else chReady s dir k
  match (upTo 16).find? fun k => chReady s dir k && (dmaCh s k).urgent with
  | some k => some k
  | none => ((upTo 16).map fun i => ((if dir then s.mem.rrRd else s.mem.rr) + 1 + i) % 16).find? ready

/-- Channel k has had its turn in the round robin of a direction. -/
def tookTurn (dir : Bool) (k : Nat) (s : State) : State := setMem (if dir then { s.mem with rrRd := k } else { s.mem with rr := k }) s

/-- Moves one burst of channel k. A transfer into DRAM is done when its last byte is written there. -/
def moveBurst (k : Nat) (s : State) : State :=
  let x := dmaCh s k
  let n := burstBytes x
  let a := x.host + x.done
  let s1 := if x.dir then s else rxWritten x x.done (x.done + n) (hostWrite (busOf s a) ((x.data.drop x.done).take n) s)
  let s2 := stally (0x90 + k) 1 (tlbTouch a (setDmaCh k { x with done := x.done + n, retries := 0 } s1))
  let s3 := if x.urgent then s2 else tookTurn x.dir k s2
  if x.length ≤ x.done + n ∧ !(x.dir && x.region == 0) then transferDone k s3 else s3

/-- The next burst of channel k: window check, translation, parity (R404, R423, R425). Where the bursts reach a page whose walk
ahead has failed, the channel is suspended. -/
def dmaStep (k : Nat) (err : Bool) (s : State) : State :=
  let x := dmaCh s k
  let a := x.host + x.done
  if !inWindow s (!x.dir) a (burstBytes x) then
    stopChannel k 6 stBadParam (logF6 3 2 k 0xFFFFFFFF 0 (word a)
      (raise 0x1E3 (1 + k * 2 ^ 8) (countMem 6 (setDmaCh k { x with faultVa := a } s))))
  else
    match translate s (!x.dir) a with
    | .miss => match failedAt x a with
      | some c => suspend k c a (setDmaCh k { x with failed := none } s)
      | none => tlbMiss k s
    | .fails c => suspend k c a s
    | .ready =>
      if !err then moveBurst k s
      else if x.retries < 3 then sharedParity (4 + k * 2 ^ 8) (setDmaCh k { x with retries := x.retries + 1 } s)
      else stopChannel k 7 stInternal (setDmaCh k { x with faultVa := a } s)

/-- A capture buffer slot that CAPT_READ reads is found damaged: the plane sets REPORT with the booth's capture slice
(11 Table 11-4, Table 11-7). The words go out as they are (log entry 106). -/
def captDamage (k : Nat) (s : State) : State :=
  match s.hif.cmds.find? (servedBy (dmaCh s k)) with
  | none => s
  | some c =>
    let p := if par c.sub 0 = 0 then readNo s else (par c.sub 0).toNat
    if c.op = 0x25 then setPstat p { pstat s p with report := true, repUnit := some (4 * c.sub.target + 3) } s else s

/-- A burst of the stream fails its parity in the engine's buffer (Table 13-2). -/
def streamParity (s : State) : State :=
  let x := dmaCh s 1
  if x.retries < 3 then sharedParity (4 + 1 * 2 ^ 8) (setDmaCh 1 { x with retries := x.retries + 1 } s)
  else streamFail 7 (s.recorder.stream.addr + s.recorder.stream.tail) s

/-- A burst of channel 0 fails its parity: it is repeated, and then its queue pair stops (R419). -/
def frontParity (q : Nat) (s : State) : State :=
  let x := s.hif.ch0
  let n := if x.qp = q then x.retries else 0
  if !bit (qpOf s q).ctrl 0 then s
  else if n < 3 then sharedParity 4 (setCh0 { x with qp := q, retries := n + 1 } s)
  else stopQp q 3 (setCh0 { x with qp := q, retries := 0 } s)

/-- The burst of a direction, by channel k; a burst of the stream comes with STREAM_BURST. -/
def issueBurst (k : Nat) (err : Bool) (s : State) : State :=
  if k = 1 then (if err then streamParity s else s) else dmaStep k err s

/-- The burst to the host, if one is ready, and then the one from it. -/
def burstPair (err : Bool) (s : State) : State :=
  let wr := nextChannel s false
  let s1 := match wr with
    | none => s
    | some k => issueBurst k err s
  match nextChannel s true with
  | none => s1
  | some k => issueBurst k (err && wr.isNone) s1

/-- DMA_BURST (R416): one burst boundary, in both directions. err 1 says that the burst fails its parity in the engine's buffer,
err 2 that a capture slot read for it is damaged, and err 4 + q that a burst of channel 0 for queue pair q fails its parity. -/
def execDmaBurst (err : Nat) (s : State) : Outcome :=
  .next (if 4 ≤ err then (if err < 68 then frontParity (err - 4) s else s)
    else burstPair (err == 1) (if err = 2 ∧ nextChannel s false = some 2 then captDamage 2 s else s))

/-- The stream's burst, where the engine issues it next (R416, R330): head is the read offset found at HEAD_ADDR. -/
def streamBurst (head : Nat) (s : State) : State :=
  if nextChannel s false = some 1 then streamStep head (tookTurn false 1 s) else s

/-- STREAM_BURST. -/
def execStreamBurst (head : Word) (s : State) : Outcome := .next (streamBurst head.toNat s)

/-! Walks (R421, R423) -/

/-- Address whose page channel ch waits for: for CH0 the CQ slot of a queue pair with a completion that waits, else its
SQ entry; for CH1 the access of the stream that missed. -/
def walkAddr (s : State) (ch qp : Nat) : Nat :=
  if ch = 0 then (if (waitingPosts s qp).isEmpty then sqAddr s qp else cqAddr s qp)
  else if ch = 1 then s.recorder.stream.va
  else (dmaCh s ch).host + (dmaCh s ch).done

/-- The device writes host memory there. -/
def walkWrites (s : State) (ch qp : Nat) : Bool :=
  if ch = 0 then !(waitingPosts s qp).isEmpty else if ch = 1 then s.recorder.stream.vaWr else !(dmaCh s ch).dir

/-- A walk fails (R419, R423); the completions that waited for the page are lost (log entry 7). -/
def walkFails (ch qp cause : Nat) (s : State) : State :=
  if ch = 0 then settleAborts (qpFault qp cause { s with hif := { s.hif with posts := s.hif.posts.filter fun e => e.qp != qp } })
  else if ch = 1 then streamSuspend cause (walkAddr s ch qp) (walkWrites s ch qp) s
  else suspend ch cause (walkAddr s ch qp) s

/-- A walk of channel 0 is due for queue pair qp: a completion waits for the page of its slot, or an entry of the ring
cannot be fetched for want of its page. -/
def qpWalkDue (s : State) (qp : Nat) : Bool :=
  translate s (walkWrites s 0 qp) (walkAddr s 0 qp) == .miss
    && (!(waitingPosts s qp).isEmpty || mayFetch s qp)

/-- First byte of the next burst, the end of the transfer and its direction (`wr` the device writes), while channel ch runs. -/
def burstSpan (s : State) (ch : Nat) : Option (Nat × Nat × Bool) :=
  let t := s.recorder.stream
  let x := dmaCh s ch
  if ch = 1 then (if t.run && x.state == 0 then some (t.addr + t.tail, t.addr + t.size, true) else none)
  else if x.state = 1 then some (x.host + x.done, x.host + x.length, !x.dir) else none

/-- The address that a running channel walks next while no burst waits for a page: on the page of its bursts and up to two pages
ahead, the first that the TLB does not hold (R421); none behind a page that has failed. -/
def aheadOf (s : State) (ch : Nat) : Option (Nat × Bool) :=
  match burstSpan s ch with
  | none => none
  | some (a, e, wr) =>
    if (dmaCh s ch).failed.isSome then none
    else (([a, (a / 4096 + 1) * 4096, (a / 4096 + 2) * 4096].find? fun v => decide (v < e) && translate s wr v == .miss).map
      fun v => (v, wr))

/-- A walk ahead fails: on the page of the next burst the channel is suspended; a later page is kept until the bursts reach
it. -/
def aheadFails (ch a cause : Nat) (s : State) : State :=
  match burstSpan s ch with
  | none => s
  | some (b, _, wr) =>
    if a ≠ b then setDmaCh ch { dmaCh s ch with failed := some (a, cause) } s
    else if ch = 1 then streamSuspend cause a wr s
    else suspend ch cause a s

/-- What follows a page of channel ch that has come: the stream's status block that waited for it, and whatever else it serves. -/
def pageHere (ch : Nat) (s : State) : State :=
  drainAll (if ch = 1 ∧ s.recorder.stream.statusDue then streamStatus s else s)

/-- A walk of channel ch for the page that a burst waits for. -/
def walkWaited (ch qp : Nat) (pte : List DWord) (s : State) : State :=
  let a := walkAddr s ch qp
  match walkPage s ch a (walkWrites s ch qp) pte with
  | .leaf sh page perm t =>
    pageHere ch (tlbFill ch a sh page perm t (if ch = 0 then s else setDmaCh ch { dmaCh s ch with walk := false } s))
  | .fails c => walkFails ch qp c s

/-- A walk of channel ch for a page ahead. -/
def walkAhead (ch : Nat) (pte : List DWord) (s : State) : State :=
  match aheadOf s ch with
  | none => s
  | some (a, wr) =>
    let s1 := countMiss s
    match walkPage s1 ch a wr pte with
    | .leaf sh page perm t => pageHere ch (tlbFill ch a sh page perm t s1)
    | .fails c => aheadFails ch a c s1

/-- TRANSLATION_WALK (R421): `pte` are the entries that the table reads return. On channel 0 the walk counts its miss. -/
def translationWalk (ch qp : Nat) (pte : List DWord) (s : State) : State :=
  if !s.mem.xlatEn then s
  else if ch = 0 then (if qpWalkDue s qp then walkWaited 0 qp pte (countMiss s) else s)
  else if (dmaCh s ch).walk then walkWaited ch qp pte s
  else walkAhead ch pte s

/-- TRANSLATION_WALK. -/
def execTranslationWalk (ch qp : Nat) (pte : List DWord) (s : State) : Outcome :=
  guarded (decide (ch < 16) && decide (qp < 64)) (translationWalk ch qp pte s)

/-- A SUSPENDED channel runs again, with its event. -/
def resumed (ch : Nat) (s : State) : State :=
  let x := dmaCh s ch
  let s1 := setDmaCh ch { x with state := if ch = 1 then 0 else 1, cause := 0, walk := false, failed := none, suspTicks := 0 } s
  raise 0x1E5 (2 + ch * 2 ^ 8 + x.cause * 2 ^ 16) (if ch = 1 then onStream (fun t => { t with err := false, statusDue := true }) s1 else s1)

/-- A write of DMA_CH_CTRL.RESUME (R423): the page is walked again. -/
def resumeChannel (ch : Nat) (pte : List DWord) (s : State) : State :=
  if (dmaCh s ch).state ≠ 2 then s
  else if s.mem.xlatEn then walkWaited ch 0 pte (resumed ch s)
  else pageHere ch (resumed ch s)

/-- The same write where the entries of the page come with a TRANSLATION_WALK. -/
def resumeWalk (ch : Nat) (s : State) : State :=
  if (dmaCh s ch).state ≠ 2 then s
  else
    let t := resumed ch s
    setDmaCh ch { dmaCh t ch with walk := true } t

/-- DMA_CH_RESUME. -/
def execDmaChResume (ch : Nat) (pte : List DWord) (s : State) : Outcome :=
  guarded (decide (ch < 16)) (if bar0Ok s then resumeChannel ch pte s else s)

/-- A write of DMA_CH_CTRL.STOP (R423): the transfer ends, and its command completes ABORTED. -/
def stopSuspended (ch : Nat) (s : State) : State :=
  if (dmaCh s ch).state ≠ 2 then s
  else if ch = 1 then streamStatus (onStream (fun t => { streamBack t with run := false, err := false }) (setDmaCh 1 {} s))
  else startReads (endTransfer ch stAborted 0 s)

/-- DMA_CH_STOP. -/
def execDmaChStop (ch : Nat) (s : State) : Outcome := guarded (decide (ch < 16)) (if bar0Ok s then stopSuspended ch s else s)

/-- Commands whose status codes include TIMEOUT, among those that DMA serves. -/
def dmaTimed (op : Nat) : Bool := op == 0x25 || op == 0x30 || op == 0x42 || op == 0x60 || op == 0xE4

/-- DMA_SUSPEND_TIMEOUT (R423): 1 s in SUSPENDED. -/
def suspendTimeout (ch : Nat) (s : State) : State :=
  let x := dmaCh s ch
  if x.state = 2 ∧ 100000 ≤ x.suspTicks ∧ s.hif.cmds.any (fun c => servedBy x c && dmaTimed c.op) then
    startReads (endTransfer ch stTimeout 0 s)
  else s

/-- DMA_SUSPEND_TIMEOUT. -/
def execDmaSuspendTimeout (ch : Nat) (s : State) : Outcome := guarded (decide (2 ≤ ch ∧ ch < 16)) (suspendTimeout ch s)

/-- COMPLETION_TIMEOUT (R419): a read request of the channel ends in an error. -/
def completionTimeout (ch qp : Nat) (s : State) : State :=
  if ch = 0 then (if bit (qpOf s qp).ctrl 0 then stopQp qp 3 s else s)
  else if ch = 1 then (if s.recorder.stream.run then streamFail 9 s.recorder.stream.headAddr s else s)
  else
    let x := dmaCh s ch
    if x.state = 1 then startReads (stopChannel ch 9 stBadParam (setDmaCh ch { x with faultVa := x.host + x.done } s)) else s

/-- COMPLETION_TIMEOUT. -/
def execCompletionTimeout (ch qp : Nat) (s : State) : Outcome :=
  guarded (decide (ch < 16) && decide (qp < 64)) (completionTimeout ch qp s)

/-- One more tick of every suspension and of the scrub pass, at an input cut. -/
def suspendCut (s : State) : State :=
  setMem { s.mem with
    scrubTicks := if s.mem.scrub = 0 then 0 else s.mem.scrubTicks + 1
    chans := s.mem.chans.map fun x => if x.2.state = 2 then (x.1, { x.2 with suspTicks := x.2.suspTicks + 1 }) else x } s

/-! The watchdog (R413) -/

/-- A bite on a channel: the burst is repeated once; a second bite in the transfer stops it. -/
def biteChannel (k : Nat) (s : State) : State :=
  let x := dmaCh s k
  if x.state ≠ 1 then s
  else if x.bites = 0 then setDmaCh k { x with bites := 1 } s
  else startReads (stopChannel k 8 stInternal (setDmaCh k { x with faultVa := x.host + x.done } s))

/-- A bite on the record stream. -/
def biteStream (s : State) : State :=
  let x := dmaCh s 1
  if !s.recorder.stream.run then s
  else if x.bites = 0 then setDmaCh 1 { x with bites := 1 } s
  else streamFail 8 (s.recorder.stream.addr + s.recorder.stream.tail) s

/-- The block of an abandoned write holds a check pattern that reads as uncorrectable. -/
def poisonBlock (a : Nat) (s : State) : State := spoilDram (a / 256 * 256) 256 s

/-- What a bite does to requester k, whose burst has moved nothing (Table 13-5). -/
def biteOf (k : Nat) (s : State) : State :=
  let x := dmaCh s s.mem.grantCh
  match k with
  | 1 => poisonBlock s.recorder.pos s
  | 2 => if s.mem.grantCh = 1 then biteStream s else biteChannel s.mem.grantCh s
  | 3 => biteChannel s.mem.grantCh (poisonBlock (bufBase 1 + x.dram) (poisonBlock (bufBase 2 + x.dram) s))
  | 4 => lose 1 3 0x88 false s
  | 5 => lose 2 3 0x88 false s
  | 6 => nextBlock s
  | _ => s

/-- MEMORY_WATCHDOG_BITE (R413): the burst granted last has not ended after 4 µs. -/
def watchdogBite (s : State) : State :=
  let k := s.mem.granted
  if k = 0 then s
  else biteOf k (raise 0x1E4 (1 + k * 2 ^ 8) (countMem 3 (setMem { s.mem with granted := 0, interrupted := false } s)))

/-- MEMORY_WATCHDOG_BITE. -/
def execMemoryWatchdogBite (s : State) : Outcome := .next (watchdogBite s)

/-! Invalidation (R422) -/

/-- A write of XLAT_INV: nothing while one is in progress. -/
def invalidate (f : Mem → Mem) (s : State) : State :=
  if !bar0Ok s || s.mem.invBusy then s else setMem { f s.mem with invBusy := true } s

/-- XLAT_INV_ALL. -/
def execXlatInvAll (s : State) : Outcome := .next (invalidate (fun m => { m with tlb := [], walk := [] }) s)

/-- XLAT_INV_PAGE: page is the IOVA of the page divided by 4096. -/
def execXlatInvPage (page : Nat) (s : State) : Outcome :=
  guarded (decide (page < 2 ^ 36))
    (invalidate (fun m => { m with tlb := m.tlb.filter fun x => !decide (page * 4096 / 2 ^ x.2.1 = x.1) }) s)

/-- XLAT_INV_DONE. -/
def execXlatInvDone (s : State) : Outcome := .next (setMem { s.mem with invBusy := false } s)

/-! Commands (Table 13-14) -/

/-- MEM_STATUS. -/
def opMemStatus (c : Sub) (s : State) : OpOut :=
  let k := (par c 0).toNat
  if 7 < k then failSt stBadParam s
  else if k = 7 then okRes (dw s.mem.dram) s
  else okRes (dw (tget 0 s.mem.counts k)) s

/-- Slot i of a TURN_SET. -/
def turnSlot (c : Sub) (i : Nat) : Nat := field (par c (i / 8)) (4 * (i % 8)) 4

/-- TURN_SET (R412). -/
def opTurnSet (c : Sub) (s : State) : OpOut :=
  let ks := (upTo 64).map (turnSlot c)
  if (ks.any fun k => decide (6 ≤ k)) || (ks.filter (· == 4)).length != (ks.filter (· == 5)).length then failSt stBadParam s
  else okSn (setMem { s.mem with turnPending := some (turnTab (turnSlot c)) } s)

/-- TURN_READ. -/
def opTurnRead (c : Sub) (s : State) : OpOut :=
  let q := (par c 0).toNat
  if 3 < q then failSt stBadParam s
  else okRes (dw (((upTo 16).map fun i => turnOwner s (16 * q + i) * 16 ^ i).sum)) s

/-- MEM_SCRUB. -/
def opMemScrub (c : Sub) (s : State) : OpOut :=
  let n := (par c 0).toNat
  if n ≠ 0 ∧ (n < 60 ∨ 86400 < n) then failSt stBadParam s else okSn (setMem { s.mem with scrub := n, scrubTicks := s.mem.scrubPos * (n * 100000) / scrubBlocks } s)

/-- MEM_STATUS. -/
def execMemStatus (c : Sub) (s : State) : Outcome := hostCmd 0xB0 opMemStatus c s
/-- TURN_SET. -/
def execTurnSet (c : Sub) (s : State) : Outcome := hostCmd 0xB1 opTurnSet c s
/-- TURN_READ. -/
def execTurnRead (c : Sub) (s : State) : Outcome := hostCmd 0xB2 opTurnRead c s
/-- MEM_SCRUB. -/
def execMemScrub (c : Sub) (s : State) : Outcome := hostCmd 0xB3 opMemScrub c s

end Sys2Proof.Machine
end

