-- ==== Sys2Proof/Machine/Ledger.lean ====
section
/-! DEFINITION. Firmware slots and the read-back of ledger writes (11 Table 11-17, 12 R384, R387, 13 Table 13-2). -/

namespace Sys2Proof.Machine

/-! Firmware images (12 R387) -/

/-- LENGTH of an image header. -/
def fwLength (h : List Word) : Nat := (wordAt h 2).toNat

/-- KEY_ID of an image header. -/
def fwKey (h : List Word) : Nat := field (wordAt h 3) 0 8

/-- DIGEST of an image header is that of the body (Table 12-4). -/
def fwDigestOk (x : FwSlot) : Bool := bytesOf ((x.header.drop 4).take 12) == sha384 (bytesOf x.body)

/-- SIGNATURE, r and s of 48 bytes each, verifies over bytes 0 to 63. -/
def fwSigned (h : List Word) : Bool :=
  let sig := bytesOf ((h.drop 16).take 24)
  ecdsaOk (Config.publicKey (fwKey h)) (bytesOf (h.take 16)) (beNat (sig.take 48)) (beNat (sig.drop 48))

/-- The conditions that make an image valid. -/
def fwValid (x : FwSlot) : Bool :=
  let n := fwLength x.header
  wordAt x.header 0 == 0x57465841 && field (wordAt x.header 1) 0 16 == 1
    && decide (4 ≤ n) && decide (n ≤ 8 * 2 ^ 20 - 256) && n % 4 == 0 && x.body.length * 4 == n
    && decide (fwKey x.header ≤ 3) && fwDigestOk x && fwSigned x.header

/-- The slot that an image of so many words makes. -/
def fwParse (img : List Word) : FwSlot :=
  let h := img.take 64
  { header := h, body := (img.drop 64).take (fwLength h / 4) }

/-! Commands -/

/-- Largest image. -/
def fwMax : Nat := 8 * 2 ^ 20

/-- FW_STAGE: the image, staged in the working buffers (13 R403), is written to the slot, which holds no valid one until its
read-back. -/
def opFwStage (c : Sub) (s : State) : OpOut :=
  let a := addrAt c 0
  let n := (par c 2).toNat
  if n = 0 ∨ fwMax < n then failSt stBadParam s
  else if !inWindow s false a n then badWindow 0xA8 c a s
  else if c.target = s.led.fwSel then failSt stNotInState s
  else if !lockOpen s then failSt stLocked s
  else if s.mem.dram = 2 then failSt stInternal s
  else
    let t := stageWords 0 (c.image.take (n / 4)) s
    .wait .device [] (setFwSlot c.target (fwParse (planeBuf t (readNo t))) t)

/-- FW_SELECT. -/
def opFwSelect (c : Sub) (s : State) : OpOut :=
  if !(fwSlot s c.target).valid then failSt stNotInState s
  else if !lockOpen s then failSt stLocked s
  else .wait .device [] s

/-! Read-back -/

/-- The command waits for the read-back of a ledger write. -/
def ledgerCmd (x : Cmd) : Bool := x.wait == .device && (x.op == 0x85 || x.op == 0xA8 || x.op == 0xA9 || x.op == 0xEB)

/-- What a successful read-back makes of a command: its commit point. A firmware slot is verified on the copy that firmware
reads back into its working buffer, behind the staged image (13 R403). -/
def readBackOk (x : Cmd) (s : State) : OpOut :=
  let k := x.sub.target
  match x.op with
  | 0x85 => sealCommitted (wordAt x.aux 0).toNat s
  | 0xA8 =>
    let n := (par x.sub 2).toNat / 4
    let slot := fwSlot s k
    let t := stageWords n (slot.header ++ slot.body) s
    if fwValid (fwParse ((planeBuf t (readNo t)).drop n)) then okRes 0 (setFwSlot k { slot with valid := true } t)
    else failSt stBadParam t
  | 0xA9 => okRes 0 (setLed { s.led with fwSel := k } s)
  | _ =>
    let s1 := evrCleared s.sn s
    okRes (dword s.sn (word s1.led.evrGen.toNat)) s1

/-- Read-backs that a command's write has failed. -/
def badReads (x : Cmd) : Nat := (wordAt x.aux 3).toNat

/-- The same command with one more failed read-back. -/
def oneMoreBad (x : Cmd) : Cmd :=
  { x with aux := [wordAt x.aux 0, wordAt x.aux 1, wordAt x.aux 2, word (badReads x + 1)] }

/-- A read-back that differs: the write is repeated up to three times; then it fails, and the command never reaches
its commit point. -/
def readBackBad (x : Cmd) (s : State) : State :=
  if badReads x < 3 then
    sharedParity 3 { s with hif := { s.hif with cmds := s.hif.cmds.map fun c => if c = x then oneMoreBad x else c } }
  else
    completeWaiting (fun c => c == x) stTimeout 0
      (raise 0x1D5 3 (setLed { s.led with writeErrs := s.led.writeErrs + 1 } s))

/-- LEDGER_READ_BACK: the oldest write under way is read back. -/
def ledgerReadBack (ok : Bool) (s : State) : State :=
  if !ledgerOn s then s
  else match s.hif.cmds.find? ledgerCmd with
    | none => s
    | some x =>
      if ledgerOk ok s then
        match takeCmd (fun c => c == x) s with
        | none => s
        | some (_, s1) => finish x.op x.sub (readBackOk x s1)
      else readBackBad x s

/-- FW_STAGE. -/
def execFwStage (c : Sub) (s : State) : Outcome := hostCmd 0xA8 opFwStage c s
/-- FW_SELECT. -/
def execFwSelect (c : Sub) (s : State) : Outcome := hostCmd 0xA9 opFwSelect c s
/-- LEDGER_READ_BACK. -/
def execLedgerReadBack (ok : Bool) (s : State) : Outcome := .next (ledgerReadBack ok s)

end Sys2Proof.Machine
end

