-- ==== Sys2Proof/Machine/Link.lean ====
section
/-! DEFINITION. The PCIe function (02 R42 to R46): link, function power states, Function Level Reset. -/

namespace Sys2Proof.Machine

/-- Completions not yet posted are discarded, and commands that had not reached their commit point have no effect (R45). -/
def discardCmds (s : State) : State :=
  let s1 := dropChannels (fun _ => true) (endWake (fun _ => true) s)
  { s1 with hif := { s1.hif with cmds := [], posts := [] } }

/-- QP_CTRL.EN of every queue pair is cleared. ERR and ERR_CAUSE stay until EN is written 0: the spec speaks of that
write only (Table 2-7, log entry 86). -/
def disableQps (s : State) : State :=
  { s with hif := { s.hif with qps := s.hif.qps.map fun x => (x.1, { x.2 with ctrl := setBit x.2.ctrl 0 false }) } }

/-- What a Function Level Reset, a link-down and a transition out of D3hot have in common (R45). -/
def loseWork (s : State) : State := disableQps (discardCmds s)

/-- The link goes down, with its event and the count of completions discarded. -/
def linkFall (s : State) : State :=
  if !s.hif.linkUp then s
  else
    let s1 := loseWork s
    raiseExt 0x1F6 1 [word (s.hif.cmds.length + s.hif.posts.length)]
      { s1 with hif := { s1.hif with linkUp := false, linkRate := 0, linkWidth := 0, d3hot := false, msixEn := false } }

/-- Messages left pending are sent once nothing bars them (PCIe MSI-X, log entry 5). -/
def sendPending (s : State) : State :=
  if s.hif.d3hot || !s.hif.linkUp || !s.hif.msixEn || s.hif.msixMask then s
  else forEach ((upTo 64).filter fun v => bit s.hif.pba v && !bit (msixWord s v 3) 0)
    (fun v t => msixSend v { t with hif := { t.hif with pba := setBit t.hif.pba v false } }) s

/-- LINK_DOWN (R45). -/
def execLinkDown (s : State) : Outcome := .next (linkFall s)

/-- Rates and widths of R42; rate 2 stands for 2.5 GT/s. -/
def linkForm (rate width : Nat) : Bool :=
  (rate == 16 || rate == 8 || rate == 5 || rate == 2) && (width == 4 || width == 2 || width == 1)

/-- LINK_UP (R42): HIF is powered. The row stands for the host's set-up of configuration space too, which no row
carries: MSI-X Enable 1, Function Mask 0 (log entry 5). The code of 2.5 GT/s in the event is not given. -/
def linkRise (rate width : Nat) (s : State) : State :=
  if s.hif.linkUp || !tget false s.clock.powered 0x04 || tget false s.clock.tripped 0x04 then s
  else
    let (v, s1) := if rate = 2 then takeFree s else (dw rate, s)
    raise 0x1F6 (2 + v.toNat % 256 * 2 ^ 8 + width * 2 ^ 16)
      (sendPending { s1 with hif := { s1.hif with
        linkUp := true, linkRate := rate, linkWidth := width, msixEn := true, msixMask := false } })

/-- LINK_UP. -/
def execLinkUp (rate width : Nat) (s : State) : Outcome := guarded (linkForm rate width) (linkRise rate width s)

/-- FUNCTION_LEVEL_RESET (R45, 17 R518): the routing words take their reset values too. The MSI-X table, MSI-X Enable and
Function Mask stay as they are, which the spec leaves open (log entry 60). -/
def execFunctionLevelReset (s : State) : Outcome :=
  .next (if !s.hif.linkUp then s
    else
      let s1 := loseWork s
      raise 0x1F6 3 { s1 with hif := { s1.hif with d3hot := false }, evts := { s1.evts with cfg := [] } })

/-- D3HOT_ENTRY (R44). -/
def execD3hotEntry (s : State) : Outcome :=
  .next (if !s.hif.linkUp || s.hif.d3hot then s else raise 0x1F6 4 { s with hif := { s.hif with d3hot := true } })

/-- D0_ENTRY (R45). -/
def execD0Entry (s : State) : Outcome :=
  .next (if !s.hif.linkUp || !s.hif.d3hot then s
    else
      let s1 := loseWork s
      raise 0x1F6 5 (sendPending { s1 with hif := { s1.hif with d3hot := false } }))

end Sys2Proof.Machine
end

