-- ==== Sys2Proof/Machine/Power.lean ====
section
/-! DEFINITION. Clock sources and their monitors (18 R538 to R553), the power domains and their supplies (R560 to R565),
and what start-up makes of them (12 R386 to R388). -/

namespace Sys2Proof.Machine

/-! Firmware slots at start-up (12 R384, R387, R388) -/

/-- Plane p fails start-up, which may settle the firmware slot for the other. -/
def startFail (p cause : Nat) (s : State) : State := fwSettle (failStart p cause s)

/-- What the check of slot k comes to: an image staged into it is valid only as R387 says; what the slot held before is
not given, so the finding itself stands for it. -/
def fwFinds (found : Bool) (s : State) (k : Nat) : Bool :=
  found && ((fwSlot s k).header.isEmpty || fwValid (fwSlot s k))

/-- A slot that a boot ROM finds valid is known to hold a valid image (11 Table 11-17, FW_SELECT). -/
def holdsImage (k : Nat) (found : Bool) (s : State) : State :=
  if found then setFwSlot k { fwSlot s k with valid := true } s else s

/-- FIRMWARE_CHECKED (R387): what plane p's boot ROM finds of slot 0 and of slot 1. -/
def execFirmwareChecked (plane : Nat) (found0 found1 : Bool) (s : State) : Outcome :=
  guarded (plane == 1 || plane == 2)
    (if !starting s plane || !(pstat s plane).pllLocked then s
    else
      let x := (fwFinds found0 s 0, fwFinds found1 s 1)
      let t := holdsImage 1 x.2 (holdsImage 0 x.1 s)
      fwSettle { t with boot := { t.boot with fwFound := tput (tdel t.boot.fwFound plane) plane x } })

/-! Sources that become stable (R540 to R542) -/

/-- The source runs, and its monitor has not found it lost. -/
def srcSound (s : State) (k : Nat) : Bool := (clkSrc s k).stable && !(clkSrc s k).lost

/-- The crystal monitors have their reference: the fast RC, or the umpire PLL after its loss (Table 18-3). -/
def xmArmed (s : State) : Bool := srcSound s 3 || s.clock.xmUmp

/-- Domains that the fast RC's stability powers (Table 12-3, R561, log entry 30). -/
def rcDomains : List Nat := [0x02, 0x04, 0x03, 0x05, 0x06, 0x07]

/-- RC_STABLE (R540): at the fast RC the ledger and the host interface are powered, and the sealed block is read; the slow
RC is monitored again where XTAL32 is sound (R550). -/
def rcStable (k : Nat) (s : State) : State :=
  let c := clkSrc s k
  if !c.running || c.stable then s
  else
    let s1 := setClkSrc k { c with counted := true, stable := true, lost := false } s
    if k = 4 then { s1 with clock := { s1.clock with smArmed := srcSound s 2 } }
    else if s.dev = .start then sealedRead (wakeDram (forEach rcDomains (setPower · true) s1)) else s1

/-- RC_STABLE. -/
def execRcStable (src : Nat) (s : State) : Outcome := guarded (src == 3 || src == 4) (rcStable src s)

/-- XTAL32 is judged stable: the umpire runs from it, and the slow RC is monitored against it (R553). -/
def takeXtal32 (s : State) : State :=
  raise 0x1C1 2 { s with clock := { s.clock with umpSlow := false, smArmed := true } }

/-- CRYSTAL_STABLE (R540): the crystal has passed its count, and its monitor, which is armed, finds it in tolerance. -/
def crystalStable (k : Nat) (s : State) : State :=
  let c := clkSrc s k
  if !c.running || c.stable || c.lost || !(if k = 2 then srcSound s 4 else xmArmed s) then s
  else
    let s1 := setClkSrc k { c with counted := true, stable := true } s
    if k = 2 then takeXtal32 s1 else s1

/-- CRYSTAL_STABLE. -/
def execCrystalStable (xtal : Nat) (s : State) : Outcome := guarded (decide (xtal < 3)) (crystalStable xtal s)

/-- Domains of plane p (Table 18-7). -/
def planeDomains (p : Nat) : List Nat := (upTo 6).map fun i => (if p = 1 then 0x08 else 0x0E) + i

/-- The boot ROM has raised the level (R557, Table 12-3); the change is reported once. -/
def bootLevel (p : Nat) (s : State) : State :=
  let t := max s.clock.ceil (s.clock.fallback.getD 0)
  let s1 := setPclk p { pclk s p with level := t, vid := vidCode t, settle := none } s
  if s.clock.bootRaised then s1
  else levelEvent 2 t 2 { s1 with clock := { s1.clock with bootRaised := true } }

/-- PLL_LOCK (R542): in start-up, MGT, CTL and BTH of the plane are powered. -/
def pllLock (p : Nat) (s : State) : State :=
  if !starting s p || !srcSound s (p - 1) || (pclk s p).locked then s
  else
    let s1 := setPclk p { pclk s p with locked := true } (setPstat p { pstat s p with pllLocked := true } s)
    bootLevel p (forEach (planeDomains p) (setPower · true) s1)

/-- PLL_LOCK. -/
def execPllLock (plane : Nat) (s : State) : Outcome := guarded (plane == 1 || plane == 2) (pllLock plane s)

/-- CRYSTAL_START_TIMEOUT (R551): the crystal is not judged stable by r + 20 ms. -/
def execCrystalStartTimeout (plane : Nat) (s : State) : Outcome :=
  guarded (plane == 1 || plane == 2)
    (if !starting s plane || srcSound s (plane - 1) then s else startFail plane 1 s)

/-- PLL_LOCK_TIMEOUT (R551): no lock within 0.5 ms of the crystal's stability. -/
def execPllLockTimeout (plane : Nat) (s : State) : Outcome :=
  guarded (plane == 1 || plane == 2)
    (if !starting s plane || !srcSound s (plane - 1) || (pclk s plane).locked then s else startFail plane 2 s)

/-! Monitors that trip (R550 to R553) -/

/-- A source is lost: it is no longer stable, and its count starts again. -/
def sourceLost (k cause : Nat) (s : State) : State :=
  raise 0x1C0 (1 + k * 2 ^ 8 + cause * 2 ^ 16)
    (if k < 5 then setClkSrc k { clkSrc s k with counted := false, stable := false, lost := true } s else s)

/-- The root PLL of plane p coasts, and the plane resigns with F2 (R552). -/
def coast (p : Nat) (s : State) : State :=
  if (pclk s p).coast then s
  else lose p 2 (pstat s p).unit false
    (raise 0x1C0 (3 + p * 2 ^ 8) (setPclk p { pclk s p with locked := false, coast := true } s))

/-- CLOCK_MONITOR_TRIP (R551, R552): the crystal monitor, or the PLL monitor, of plane p. -/
def clockMonitorTrip (p : Nat) (pll : Bool) (cause : Nat) (s : State) : State :=
  let armed : Bool := if pll then srcSound s (p - 1) && (pclk s p).locked else (clkSrc s (p - 1)).running && xmArmed s
  if !armed then s
  else if (pstat s p).code = 0 then
    (if pll then startFail p 2 s
    else startFail p 1 (setClkSrc (p - 1) { clkSrc s (p - 1) with counted := false, stable := false } s))
  else coast p (sourceLost (if pll then 4 + p else p - 1) cause s)

/-- CLOCK_MONITOR_TRIP. -/
def execClockMonitorTrip (plane : Nat) (pll : Bool) (cause : Nat) (s : State) : Outcome :=
  guarded ((plane == 1 || plane == 2) && decide (1 ≤ cause ∧ cause ≤ 3)) (clockMonitorTrip plane pll cause s)

/-- States from which the device may enter SAFE (Table 1-4). -/
def mayEnterSafe (s : State) : Bool := s.dev == .start || s.dev == .ready || s.dev == .run || s.dev == .idle

/-- The umpire PLL has lost every reference: no plane is found fit (R553). -/
def umpireLost (s : State) : State :=
  if srcSound s 2 || !(clkSrc s 4).lost || !mayEnterSafe s then s else noneFit s

/-- The fast RC is lost: the planes whose crystal is not yet judged stable fail start-up, and the crystal monitors take
the umpire PLL (R551, R553). -/
def fastRcLost (s : State) : State :=
  let s1 := raise 0x1C1 3 { s with clock := { s.clock with frcLost := true, xmUmp := true } }
  forEach [1, 2] (fun p t => if starting t p && !srcSound t (p - 1) then startFail p 1 t else t) s1

/-- The source runs and its monitor has not found it lost, whether or not it is stable yet: what the monitor watches once
its reference is sound (R550). -/
def watched (s : State) (k ref : Nat) : Bool := (clkSrc s k).running && !(clkSrc s k).lost && srcSound s ref

/-- SHARED_CLOCK_TRIP (R551, R553): the fast RC, XTAL32 or the slow RC. A trip of XTAL32 while the umpire still runs from
the slow RC moves nothing. -/
def sharedClockTrip (k cause : Nat) (s : State) : State :=
  if k = 3 then (if !watched s 3 4 then s else fastRcLost (sourceLost 3 cause s))
  else if k = 2 then
    (if !watched s 2 4 then s
    else
      let s1 := sourceLost 2 cause s
      if s.clock.umpSlow then s1
      else umpireLost (raise 0x1C1 1 { s1 with clock := { s1.clock with umpSlow := true, smArmed := false } }))
  else if !srcSound s 4 || !s.clock.smArmed || !srcSound s 2 then s
  else
    let s1 := sourceLost 4 cause s
    umpireLost { s1 with clock := { s1.clock with aonXtal := true, smArmed := false } }

/-- SHARED_CLOCK_TRIP. -/
def execSharedClockTrip (src cause : Nat) (s : State) : Outcome :=
  guarded (decide (2 ≤ src ∧ src ≤ 4 ∧ 1 ≤ cause ∧ cause ≤ 2)) (sharedClockTrip src cause s)

/-- Plane that a crystal or root PLL clocks. -/
def srcPlane (k : Nat) : Nat := if k = 0 ∨ k = 5 then 1 else 2

/-- CLOCK_SOURCE_RECOVERED (R552, R553): the lost source is judged stable again and, for a plane's, its PLL has locked. -/
def sourceRecovered (k : Nat) (s : State) : State :=
  if k = 2 then
    (if !(clkSrc s 2).lost || !srcSound s 4 then s
    else takeXtal32 (raise 0x1C0 (2 + 2 * 2 ^ 8) (setClkSrc 2 { clkSrc s 2 with counted := true, stable := true, lost := false } s)))
  else if k = 3 ∨ k = 4 ∨ k = 7 then s
  else
    let p := srcPlane k
    let x := clkSrc s (p - 1)
    if !(pclk s p).coast || x.lost != decide (k < 2) || !xmArmed s then s
    else raise 0x1C0 (2 + k * 2 ^ 8)
      (setPclk p { pclk s p with locked := true, coast := false }
        (setClkSrc (p - 1) { x with counted := true, stable := true, lost := false } s))

/-- CLOCK_SOURCE_RECOVERED. -/
def execClockSourceRecovered (src : Nat) (s : State) : Outcome := guarded (decide (src < 8)) (sourceRecovered src s)

/-- TICK_PERIOD_CHECK (R548): over each 1000 ticks, whether each plane's untrimmed period lies within its limits. On the
slow RC only the plane that is not ACTIVE is judged. -/
def tickPeriodCheck (okA okB : Bool) (s : State) : State :=
  let a := activeNo s
  let judge : Nat → State → State := fun p t =>
    if (if p = 1 then okA else okB) || (pstat t p).code == 0 || (pstat t p).code == 5 then t
    else lose p 2 (pstat t p).unit false t
  if halted s || s.ump.ticks == 0 || s.ump.ticks % 1000 != 0 then s
  else
    let s1 := judge (otherPlane a) s
    if s.clock.umpSlow then s1 else judge a s1

/-- TICK_PERIOD_CHECK. -/
def execTickPeriodCheck (okA okB : Bool) (s : State) : Outcome := .next (tickPeriodCheck okA okB s)

/-! Supplies (R565, Table 18-10) -/

/-- Domain whose switch feeds domain d: a booth group in retention stays on its plane's core supply (R562). -/
def feedOf (d : Nat) : Nat := if 0x0A ≤ d ∧ d < 0x0E then 0x09 else if 0x10 ≤ d ∧ d < 0x14 then 0x0F else d

/-- A field port's link goes down with its supply. -/
def portDark (k : Nat) (s : State) : State :=
  let q := fport s k
  if q.speed = 0 ∨ !q.linkUp then s
  else portEvent k 2 0 (setPort k { q with linkUp := false, linkFell := true, clockRec := false, resend := false } s)

/-- The consequence of a trip. -/
def supplyLost (d : Nat) (s : State) : State :=
  if 0x08 ≤ d then lose (domPlane d) 4 (pstat s (domPlane d)).unit false s
  else if d ≤ 0x01 then (if mayEnterSafe s then noneFit s else s)
  else if d = 0x04 then linkFall s
  else if d = 0x05 then forEach (upTo 8) canSupply (forEach (upTo 8) portDark s)
  else if d = 0x06 ∨ d = 0x07 then
    { s with outs := { s.outs with
        afeOff := tset false s.outs.afeOff (d - 0x06) true
        afeBack := tset 0 s.outs.afeBack (d - 0x06) 0 } }
  else s

/-- SUPPLY_TRIP. -/
def execSupplyTrip (dom : Nat) (s : State) : Outcome :=
  guarded (decide (dom < 20))
    (if !tget false s.clock.powered (feedOf dom) || tget false s.clock.tripped dom then s
    else supplyLost dom (raise 0x1C4 (1 + dom * 2 ^ 8)
      { s with clock := { s.clock with tripped := tset false s.clock.tripped dom true } }))

/-- SUPPLY_RESTORED: the channels count ten ticks from here, and CAN resumes under ISO 11898-1. -/
def execSupplyRestored (dom : Nat) (s : State) : Outcome :=
  guarded (decide (dom < 20))
    (if !tget false s.clock.tripped dom then s
    else raise 0x1C4 (2 + dom * 2 ^ 8) { s with clock := { s.clock with tripped := tset false s.clock.tripped dom false } })

/-- The part of an input cut that belongs to the front-end supplies: ten ticks back in range, and outputs leave the
OFF-state level. -/
def afeCut (s : State) : State :=
  forEach [0, 1] (fun d t =>
    if !tget false t.outs.afeOff d || tget false t.clock.tripped (0x06 + d) then t
    else
      let n := tget 0 t.outs.afeBack d + 1
      if n < 10 then { t with outs := { t.outs with afeBack := tset 0 t.outs.afeBack d n } }
      else { t with outs := { t.outs with afeBack := tset 0 t.outs.afeBack d 0, afeOff := tset false t.outs.afeOff d false } }) s

end Sys2Proof.Machine
end

