-- ==== Sys2Proof/Machine/Boot.lean ====
section
/-! DEFINITION. Resets, start-up, power loss and restoration (12). -/

namespace Sys2Proof.Machine

/-! Resets (R381, R382, R13) -/

/-- What no reset reaches: the memory of the host, the pins, the ledger's contents, and what the model itself keeps. The
filtered level of SEAL_OPEN stays (log entry 109). -/
def resetCore (s : State) : State :=
  { hif := { hostMem := s.hif.hostMem }
    evts := { slots := s.evts.slots, next := s.evts.next, full := s.evts.full }
    led := { s.led with jqueue := [], replaced := 0, writeErrs := 0 }
    sealed := { slot0 := s.sealed.slot0, slot1 := s.sealed.slot1, openAsserted := s.sealed.openAsserted, openFell := s.sealed.openFell }
    boot := { warm := s.boot.warm }
    freeCtr := s.freeCtr, pending := s.pending }

/-- AON clocks and domains that run on through every state but OFF: the slow RC, XTAL32, operating seconds, and the
domains AON, UMP and LDG. -/
def keepAon (s : State) : Clock :=
  { srcs := s.clock.srcs.filter fun x => x.1 == 2 || x.1 == 4
    umpSlow := s.clock.umpSlow, smArmed := s.clock.smArmed, aonXtal := s.clock.aonXtal
    powered := s.clock.powered.filter fun x => decide (x.1 ≤ 2)
    tripped := s.clock.tripped
    counters := s.clock.counters
    opsec := s.clock.opsec, opsecDue := s.clock.opsecDue }

/-- The state of AON, UMP and LDG over a reset that leaves them alone (R382, 18 R564): the test access port, the umpire's
account of losses and elections, queues of the ledger controller, the lock unit, operating seconds, straps and pins. While
PWRFAIL# stands, every sample of the restart lies after F (R391). Records of samples that the restart will use again are dropped (17 R526). -/
def keepLdg (s : State) : State :=
  let r := resetCore s
  { r with
    evts := { r.evts with
      recQueue := s.evts.recQueue.filter (recordKept s)
      lostCount := s.evts.lostCount
      lostSn := s.evts.lostSn }
    led := s.led
    lock := { failAge := s.lock.failAge }
    clock := keepAon s
    ump := { a := { cls := s.ump.a.cls }, b := { cls := s.ump.b.cls }, electSn := s.ump.electSn }
    tap := s.tap
    boot := { porst := s.boot.porst, warm := s.boot.warm, bootSel := s.boot.bootSel, legacyEn := s.boot.legacyEn
              alarmHi := s.boot.alarmHi, sealSw := s.boot.sealSw, slot := s.boot.slot
              pwrfail := s.boot.pwrfail.map fun _ => 0 - 1, pfHalf := s.boot.pfHalf }
    window := { legacy := s.window.legacy } }

/-- Everything raised so far is posted (17 R516). -/
def flushEvents (s : State) : State := postAll (readNo s) s

/-- PORST_ASSERT (R381): held in reset, OFF; operating seconds that were not written are lost. -/
def execPorstAssert (s : State) : Outcome :=
  .next (let r := resetCore s
    { r with clock := { r.clock with opsec := s.led.opsec } })

/-- The fast sources start, and the umpire and AON run from the slow RC (Table 12-3, 18 R541). XTAL32, which runs on in
STANDBY, starts anew at a release only. -/
def startClocks (again : Bool) (s : State) : State :=
  let run : ClkSrc := { running := true }
  let x32 := if again && (clkSrc s 2).running then clkSrc s 2 else run
  let rc := if (clkSrc s 4).running then clkSrc s 4 else run
  let s1 := setClkSrc 4 rc (setClkSrc 3 run (setClkSrc 2 x32 (setClkSrc 1 run (setClkSrc 0 run s))))
  { s1 with clock := { s1.clock with umpSlow := !x32.stable, smArmed := x32.stable } }

/-- START begins: AON and UMP are powered, the field lock closes (17 R533), and the clocks start. -/
def enterStart (again : Bool) (s : State) : State :=
  let s1 := startClocks again { s with dev := .start, lock := { s.lock with isOpen := false, openTicks := 0, nonce := none } }
  let s2 := setPower 0x01 true (setPower 0x00 true s1)
  if s2.boot.bootSel = 3 then raise 0x1C8 4 s2 else s2

/-- The straps as sampled at a release (R383). -/
def sampleStraps (x : Straps) (s : State) : State :=
  { s with
    boot := { s.boot with bootSel := x.bootSel, legacyEn := x.legacyEn, alarmHi := x.alarmHi, sealSw := x.sealSw }
    window := { s.window with legacy := x.legacyEn } }

/-- PORST_RELEASE (R386): the straps are sampled, the power-cycle count goes up, and start-up begins, unless WARM_RST#
is asserted too (R382). -/
def porstRelease (x : Straps) (s : State) : State :=
  if !s.boot.porst then s
  else
    let s1 := sampleStraps x { s with boot := { s.boot with porst := false }, led := { s.led with pcc := s.led.pcc + 1 } }
    if s1.boot.warm then { s1 with dev := .start } else enterStart false s1

/-- PORST_RELEASE. -/
def execPorstRelease (x : Straps) (s : State) : Outcome := guarded (decide (x.bootSel < 4)) (porstRelease x s)

/-- The warm reset is applied: every domain but AON, UMP and LDG is reset, and the link goes down. The device stands in
START; start-up begins at once if WARM_RST# has been released already. -/
def warmReset (s : State) : State :=
  let s1 := keepLdg (flushEvents (linkFall s))
  let s2 := { s1 with dev := .start }
  if s2.boot.warm then s2 else enterStart false s2

/-! The final checkpoint (R390 to R396) -/

/-- Half that a final checkpoint is written to (R395). -/
def ckptHalfFree (s : State) : Nat :=
  match s.led.half0, s.led.half1 with
  | some a, some b => if a.valid && !b.valid then 1 else 0
  | some a, none => if a.valid then 1 else 0
  | none, _ => 0

/-- A final checkpoint of the present sample begins. -/
def beginCkpt (cause : Nat) (s : State) : State :=
  raise 0x1C9 (1 + cause * 2 ^ 8) { s with boot := { s.boot with
    ckptCause := cause, ckptF := s.sn, ckptHalf := ckptHalfFree s, ckptOpen := true, ckptShadow := []
    pfHalf := if cause = 1 then some (ckptHalfFree s) else s.boot.pfHalf } }

/-- A final checkpoint is taken in RUN and IDLE. -/
def takesCkpt (s : State) : Bool := s.dev == .run || s.dev == .idle

/-- WARM_RST_FALL (R382). -/
def execWarmRstFall (s : State) : Outcome :=
  .next (if s.boot.warm then s
    else
      let s1 := { s with boot := { s.boot with warm := true } }
      if s.dev = .off then s1
      else if s.boot.ckptOpen then { s1 with boot := { s1.boot with warmPending := true } }
      else if takesCkpt s then
        let s2 := beginCkpt 2 s1
        { s2 with boot := { s2.boot with warmPending := true } }
      else warmReset s1)

/-- WARM_RESET_APPLY (R382): at the valid mark, or 8 ms after the edge. -/
def execWarmResetApply (s : State) : Outcome := .next (if s.boot.warmPending then warmReset s else s)

/-- WARM_RST_RELEASE (R382): straps are sampled; start-up begins unless the reset is still to be applied. -/
def warmRstRelease (x : Straps) (s : State) : State :=
  if !s.boot.warm then s
  else
    let s1 := sampleStraps x { s with boot := { s.boot with warm := false } }
    if s.boot.porst then { s with boot := { s.boot with warm := false } }
    else if s.boot.warmPending then s1
    else enterStart false s1

/-- WARM_RST_RELEASE. -/
def execWarmRstRelease (x : Straps) (s : State) : Outcome := guarded (decide (x.bootSel < 4)) (warmRstRelease x s)

/-- PWRFAIL_ASSERT (R390, R396): in RUN and IDLE a final checkpoint of F begins; while one is being written nothing
changes. Operating seconds are written (17 R523). -/
def execPwrfailAssert (s : State) : Outcome :=
  .next (if s.boot.pwrfail.isSome || s.boot.ckptOpen || s.dev == .off then s
    else
      let s1 := writeOpsec true { s with boot := { s.boot with pwrfail := some s.sn } }
      if takesCkpt s then beginCkpt 1 s1 else s1)

/-- Words of the data table that a checkpoint keeps (Table 12-5). -/
def ckptData (p : Plane) : Tab Word := p.scan.doneData.filter fun x => decide (0x4000 ≤ x.1 ∧ x.1 ≤ 0xA0FF)

/-- Scan engine words of a checkpoint (Table 12-5). -/
def ckptScan (p : Plane) : List Word :=
  let id := match p.scan.prog with
    | some g => g.progId
    | none => 0
  [word (p.scan.mode + p.scan.fault.toNat * 4 + p.scan.prog.isSome.toNat * 8), p.scan.progCrc, id]

/-- The shadow that plane k latches. -/
def shadowOf (k : Nat) (s : State) : Ckpt :=
  let p := planeOf s k
  { plane := k, state := if s.dev = .idle then 4 else 3, cause := s.boot.ckptCause, sn := s.boot.ckptF
    pcc := loWord s.led.pcc
    sess := p.sess.recs, loops := p.fab.ctx, axes := p.axes.ctx, scan := ckptScan p, data := ckptData p
    fabric := match p.fab.cfg with
      | some c => c.image
      | none => [] }

/-- The checkpoint's bytes from offset 0x40 on, as words (Table 12-5). -/
def ckptBody (c : Ckpt) : List Word :=
  (upTo 2048).map (fun k => tget (sessReset (k % 16)) c.sess k) ++ (upTo 65536).map (tget 0 c.loops)
    ++ (upTo 4096).map (tget 0 c.axes) ++ (upTo 16).map (wordAt c.scan)
    ++ (upTo 24832).map (fun k => tget 0 c.data (0x4000 + k)) ++ c.fabric

/-- Words 0 to 13 of its header (Table 12-6). -/
def ckptHeader (c : Ckpt) : List Word :=
  [0x50435841, word (1 + c.cause * 2 ^ 16 + c.state * 2 ^ 24 + c.plane * 2 ^ 28), c.sn, c.jseq, c.pcc,
    word (0x5E480 + 4 * c.fabric.length)] ++ List.replicate 8 0

/-- The checkpoint as it stands in its half, with its CRC and its valid mark (R393). -/
def ckptWords (c : Ckpt) : List Word :=
  ckptHeader c ++ [crc32c (bytesOf (ckptHeader c ++ ckptBody c)), if c.valid then 0x564C4441 else 0] ++ ckptBody c

/-- Address of half h in the ledger (R393, 11 Table 11-9). -/
def ckptAddr (h : Nat) : Nat := 0x01500000 + h * 0x00200000

/-- The words of half h with their addresses. -/
def halfWords (s : State) (h : Nat) : List (Nat × Word) :=
  match (if h = 0 then s.led.half0 else s.led.half1) with
  | some c => (ckptWords c).zipIdx.map fun x => (ckptAddr h + 4 * x.2, x.1)
  | none => []

/-- Replaces a half. -/
def setHalf (h : Nat) (c : Option Ckpt) (s : State) : State :=
  setLed (if h = 0 then { s.led with half0 := c } else { s.led with half1 := c }) s

/-- A half. -/
def halfOf (s : State) (h : Nat) : Option Ckpt := if h = 0 then s.led.half0 else s.led.half1

/-- Every entry queued is written before the checkpoint (11 R374); then the writing of the half begins, without its mark. -/
def startHalf (s : State) : State :=
  let s1 := flushEntries s
  if s1.led.jqueue.isEmpty then
    setHalf s1.boot.ckptHalf (some { (tget default s1.boot.ckptShadow (readNo s1) : Ckpt) with valid := false }) s1
  else s1

/-- CHECKPOINT_SHADOW_LATCH (R392): at t0 + 10.0 µs of F, once its entries are handed over, every computing plane latches
its shadow, and the controller begins to write. -/
def shadowLatch (s : State) : State :=
  if !s.boot.ckptOpen || !s.boot.ckptShadow.isEmpty || s.sn != s.boot.ckptF then s
  else
    let s1 := handOver s
    let t := ([1, 2].filter fun k => computes (pstat s1 k)).map fun k => (k, shadowOf k s1)
    startHalf { s1 with boot := { s1.boot with ckptShadow := t } }

/-- CHECKPOINT_SHADOW_LATCH. -/
def execCheckpointShadowLatch (s : State) : Outcome := .next (shadowLatch s)

/-- Takes the valid mark of a half away. -/
def clearMark (h : Nat) (s : State) : State :=
  match halfOf s h with
  | some c => setHalf h (some { c with valid := false }) s
  | none => s

/-- The checkpoint that stands written: the shadow of the plane elected by now, since a switch-over for F restarts the
write from it, and one for a later sample continues from it (R392). -/
def ckptContent (s : State) : Ckpt :=
  let k := readNo s
  let t := s.boot.ckptShadow
  let c := if (t.map fun x => x.1).contains k then tget default t k else tget default t (otherPlane k)
  { c with jseq := s.led.nextJseq - 1, valid := true }

/-- CHECKPOINT_VALID_MARK (R394, R395): the queued entries up to F, the checkpoint, the mark, and the other half's mark
cleared. The time in the event counts the ticks since F. -/
def validMark (ok : Bool) (s : State) : State :=
  if !s.boot.ckptOpen || s.boot.ckptShadow.isEmpty then s
  else
    let s1 := flushEntries s
    let h := s.boot.ckptHalf
    let s2 := { s1 with boot := { s1.boot with ckptOpen := false } }
    if !ledgerOk ok s then ledgerFails s2
    else
      raise 0x1C9 (2 + h * 2 ^ 8 + (snDiff s.sn s.boot.ckptF).toNat % 2 ^ 16 * 2 ^ 16)
        (clearMark (1 - h) (setHalf h (some (ckptContent s1)) s2))

/-- CHECKPOINT_VALID_MARK. -/
def execCheckpointValidMark (ok : Bool) (s : State) : Outcome := .next (validMark ok s)

/-- Step checkpoints of every live session, as of the present cut (R396). -/
def handLive (s : State) : State :=
  let k := readNo s
  forEach ((upTo 128).filter (sessLive (planeOf s k))) (fun n t => handEntry (stepEntry k n (planeOf t k)) t) s

/-- PWRFAIL_RELEASE (R396): the checkpoint it took loses its mark; the planes that run hand over their live sessions. -/
def pwrfailRelease (s : State) : State :=
  if s.boot.pwrfail.isNone then s
  else
    let s1 := match s.boot.pfHalf with
      | some h => raise 0x1C9 (7 + 2 * 2 ^ 8) (raise 0x1C9 8 (clearMark h s))
      | none => raise 0x1C9 8 s
    let mine : Bool := s.boot.ckptOpen && s.boot.ckptCause == 1
    let s2 := { s1 with boot := { s1.boot with pwrfail := none, pfHalf := none } }
    let s3 := if mine then { s2 with boot := { s2.boot with ckptOpen := false, ckptShadow := [] } } else s2
    whenRuns s3 (handLive s3)

/-- PWRFAIL_RELEASE. -/
def execPwrfailRelease (s : State) : Outcome := .next (pwrfailRelease s)

/-! Restoration (R376, R397 to R400) -/

/-- The half with a valid checkpoint that no journal entry is later than (11 R376). -/
def restoreHalfOf (s : State) : Option Nat :=
  let good := fun h => match halfOf s h with
    | some c => c.valid && !s.led.journal.any fun e => snLater e.jseq c.jseq
    | none => false
  if good 0 then some 0 else if good 1 then some 1 else none

/-- A session record as it comes back (R397, R400): live sessions are RESTORED without an image, a FAULTED one stays
FAULTED when `final`, and a LOADED one is IDLE. The window no longer owns it (19 R578). -/
def sessBack (final : Bool) (n : Nat) (p0 : Plane) : Plane :=
  let st := sessState p0 n
  let p := setSf n wSstate 27 1 0 p0
  let goes := fun (k : Nat) (need : Bool) => setSf n wSstate 26 1 (if need then 1 else field (sw p n wSstate) 26 1) (setSf n wSstate 28 4 k p)
  if st = ssRunning ∨ st = ssHeld ∨ st = ssAborting ∨ st = ssRestored ∨ (st = ssFaulted ∧ !final) then
    sessEvent n 0xA 0 (goes ssRestored true)
  else if st = ssFaulted then goes ssFaulted true
  else if st = ssLoaded then goes ssIdle false
  else p

/-- An axis as it comes back (R397): DISABLED, CPOS as at F until its feedback is seen. -/
def axisBack (a : Nat) (p : Plane) : Plane :=
  let p1 := setXf a xAstat 19 1 0 (axHalt a (setAxState a 0 p))
  let p2 := if fbKind p a = 2 then p1 else setXf a xAstat 23 1 0 p1
  if hasFb p a then setAxHid a { axHid p2 a with adopt := true } p2 else p2

/-- PARK requests that the restored loops already follow: those whose context shows IL_PARK. -/
def parkedBack (c : Ckpt) : Tab Word :=
  (c.loops.filter fun x => x.1 % 64 == wCtrl && bit x.2 16).foldl
    (fun t x => tmod 0 t (x.1 / 64 / 32) fun w => setBit w (x.1 / 64 % 32) true) []

/-- The scan engine as it comes back (07 R247): STOP without a program, with the restored data table; its request bits
stay in force (07 R240), and a change whose cut had not come acts at the first cut. -/
def scanBack (c : Ckpt) : Scan :=
  let req := c.data.filter fun x => decide (aPark ≤ x.1 ∧ x.1 ≤ 0x51C3)
  { fault := bit (wordAt c.scan 0) 2, progCrc := wordAt c.scan 1
    data := c.data, base := c.data, doneData := c.data, image := req
    parkSeen := parkedBack c
    holdSeen := (upTo 4).foldl (fun t w => tset 0 t w (tget 0 req (aHold + w))) [] }

/-- The port latches of a restored loop hold the values that its last execution used (05 R164; log entry 98). -/
def latchBack (l : Nat) (p : Plane) : Plane :=
  let p1 := forEach (([wPvRaw, wCsp, wFf, wAux]).zipIdx) (fun x q => setLatch l x.2 (lw p l x.1) (qual p l x.2) q) p
  setFab { p1.fab with csp := tset 0 p1.fab.csp l (lw p l wCsp) } p1

/-- A plane restored from a final checkpoint. -/
def planeFrom (c : Ckpt) (p : Plane) : Plane :=
  let cfg := if c.fabric.isEmpty then none else some (parseFab c.fabric)
  let p1 := { p with
    sess := { recs := c.sess }
    fab := { ctx := c.loops, ctxRel := c.loops, cfg := cfg }
    axes := { ctx := c.axes, shown := c.axes }
    scan := scanBack c }
  let p1 := forEach ((loopRecs p1).map fun r => r.loop) latchBack p1
  let p2 := forEach (upTo 128) (sessBack true) p1
  forEach ((upTo 64).filter fun a => (upTo 64).any fun w => xw p2 a w != 0) axisBack p2

/-- The newest entry of each session in the journal, with its record. -/
def journalSessions (s : State) : List (Nat × List Word) :=
  (upTo 128).filterMap fun n =>
    ((s.led.journal.filter fun e => sessEntry e && e.session == n).getLast?).map fun e => (n, e.payload.take 16)

/-- A plane restored from the journal (R400): session records only. -/
def planeFromJournal (l : List (Nat × List Word)) (p : Plane) : Plane :=
  forEach l (fun x q => sessBack false x.1 (forEach ((upTo 16).map fun w => (w, wordAt x.2 w)) (fun y t => setSw x.1 y.1 y.2 t) q)) p

/-- Sessions of a plane that came back RESTORED. -/
def restoredCount (p : Plane) : Nat := ((upTo 128).filter fun n => sessState p n == ssRestored).length

/-- What the first plane to load its restoration brings with it: the pending restore, the first SN, and the events. -/
def restoreOnce (k : Nat) (s : State) : State :=
  if s.boot.loaded then s
  else
    let p := planeOf s k
    let b := { s.boot with loaded := true }
    match restoreHalfOf s with
    | some h =>
      let c := (halfOf s h).getD {}
      raise 0x1C9 (4 + h * 2 ^ 8 + restoredCount p * 2 ^ 16) { s with boot := { b with
        restorePending := true, restoreHalf := h, firstSn := c.sn + 1, restoreLoops := (loopRecs p).map fun r => r.loop } }
    | none =>
      let marks := [s.led.half0, s.led.half1].filter fun x => match x with
        | some c => !c.valid
        | none => false
      let s1 := forEach marks (fun _ t => raise 0x1C9 3 t) { s with boot := b }
      if (journalSessions s).isEmpty then raise 0x1C9 6 s1
      else
        let last := match s.led.journal.getLast? with
          | some e => e.sn
          | none => 0
        raise 0x1C9 (5 + restoredCount p * 2 ^ 16) { s1 with boot := { s1.boot with firstSn := last + 1 } }

/-- While PWRFAIL# stands, the restart's first sample lies after F, too (R391). -/
def afterRestart (s : State) : State :=
  { s with boot := { s.boot with pwrfail := s.boot.pwrfail.map fun _ => s.boot.firstSn - 1 } }

/-- Loads the restoration into plane k. -/
def loadRestore (k : Nat) (s : State) : State :=
  let p := planeOf s k
  let q := match restoreHalfOf s with
    | some h => planeFrom ((halfOf s h).getD {}) p
    | none => planeFromJournal (journalSessions s) p
  afterRestart (restoreOnce k (setPlane k q s))

/-- Events of a plane's loading are posted once, from the plane that reads use. -/
def postLoaded (k : Nat) (s : State) : State := if readNo s = k then postPre s else s

/-- PLANE_READY (R397): the plane loads its restoration and reports ready. -/
def execPlaneReady (plane : Nat) (s : State) : Outcome :=
  guarded (plane == 1 || plane == 2)
    (if !starting s plane || !(pstat s plane).testDone || (pstat s plane).ready then s
    else
      let s1 := loadRestore plane s
      postLoaded plane (setPstat plane { pstat s1 plane with ready := true } s1))

/-- SELF_TEST_DONE (R386, R388); for an OFFLINE plane it ends the start-up test of PLANE_RESTORE (11 R347). -/
def execSelfTestDone (plane : Nat) (pass : Bool) (s : State) : Outcome :=
  guarded (plane == 1 || plane == 2)
    (if starting s plane then
      (if !(pstat s plane).fwOk || (pstat s plane).testDone then s
      else if pass then setPstat plane { pstat s plane with testDone := true } s
      else startFail plane 4 s)
    else restoreTested plane pass s)

/-! Election (R389) -/

/-- Plane p is ready for its election: a plane that joins the other must be aligned (18 R546). -/
def electable (s : State) (p : Nat) : Bool :=
  starting s p && (pstat s p).ready && (p == 1 || !starting s 1 || (pclk s 2).aligned)

/-- The planes that the umpire elects now: both, or the one whose partner has failed. -/
def electees (s : State) : List Nat :=
  if [1, 2].all fun p => !starting s p || electable s p then [1, 2].filter (electable s) else []

/-- STARTUP_ELECTION: Plane A ACTIVE and Plane B STANDBY, or the one plane alone; never beside an ACTIVE one (11 R349). -/
def startupElection (s : State) : State :=
  if s.dev ≠ .start ∨ activeNo s ≠ 0 then s
  else match electees s with
    | [a, b] => toState b 2 0 (toState a 1 0 s)
    | [a] => toState a 1 0 s
    | _ => s

/-- STARTUP_ELECTION. -/
def execStartupElection (s : State) : Outcome := .next (startupElection s)

/-- STARTUP_TIMEOUT (R386): a plane not ready by r + 400 ms. -/
def execStartupTimeout (plane : Nat) (s : State) : Outcome :=
  guarded (plane == 1 || plane == 2)
    (if !starting s plane || electable s plane then s else startFail plane 7 s)

/-- READY at the cut that follows the first commit (Table 12-3). No step carries the time from r, so the field of the event
that gives it is free (log entry 125). -/
def enterReady (s : State) : State :=
  if s.dev ≠ .start ∨ !s.boot.firstCommit then s
  else
    let (v, s1) := takeFree { s with dev := .ready, window := { s.window with busy := false } }
    let el := (s.ump.a.code != 0).toNat + (s.ump.b.code != 0).toNat * 2
    raise 0x1C8 (1 + el * 2 ^ 8 + v.toNat % 2 ^ 16 * 2 ^ 16) s1

/-! The restore is taken up (R399) -/

/-- A loop still in the restore resumes. -/
def resumeLoop (l : Nat) (p : Plane) : Plane :=
  let m := loopMode p l
  let back := fun (q : Plane) => setLf l wCtrl 0 4 (prevMode q l) q
  let p1 := if m = 5 then boothEv 3 l (7 * 65536) (back (setTest l { status := 3, cause := 7 } p))
    else if m = 7 then boothEv 2 l (2 ^ 24) (back (setLf l wMstat 17 4 0 (setLf l wMstat 21 1 0 p)))
    else p
  setEntry l (entryBits false false false true false false) p1

/-- At the commit cut of the first SET_STATE RUN: the loops resume, with R94 applied at the cut, the checkpoint loses its
mark, and the records of the sessions that came back are handed to the journal. -/
def takeUp (s : State) : State :=
  if !s.boot.restorePending then s
  else
    let ls := s.boot.restoreLoops
    let s1 := onExec (fun p =>
      let p1 := forEach ls resumeLoop p
      let p2 := forEach ls (fun l q =>
        let n := field (lw q l wTiming) 0 10
        if n = 0 then setLf l wTiming 0 10 (loopDiv q l - 1) (setFab { q.fab with due := q.fab.due ++ [l] } q)
        else setLf l wTiming 0 10 (n - 1) q) p1
      let back := (upTo 128).filter fun n => sessState p2 n == ssRestored || sessState p2 n == ssFaulted
      setSess { p2.sess with changed := (p2.sess.changed ++ back).eraseDups } p2) s
    raise 0x1C9 (7 + 2 ^ 8) (clearMark s.boot.restoreHalf
      { s1 with boot := { s1.boot with restorePending := false, restoreLoops := [] } })

end Sys2Proof.Machine
end

