-- ==== Sys2Proof/Machine/Device.lean ====
section
/-! DEFINITION. The commands of the front end and the device group (02 R80 to R83), the device states (01 R29, 18 R563,
R564), and the registers of BAR0 that a host writes (02 R47 to R55, 13 R420 to R424, 17 R528). -/

namespace Sys2Proof.Machine

/-! NOP, IDENTIFY, ABORT -/

/-- NOP (R80). -/
def opNop (_c : Sub) (s : State) : OpOut := okRes (dw s.sn.toNat) s

/-- Firmware version: that of the image in the slot in use, where one was staged. -/
def fwVersionOf (s : State) : BitVec 16 :=
  let h := (fwSlot s s.boot.slot).header
  if h.isEmpty then Config.fwVersion else BitVec.ofNat 16 (field (wordAt h 1) 16 16)

/-- IDENTIFY (R81). -/
def opIdentify (c : Sub) (s : State) : OpOut :=
  let w := (par c 0).toNat
  if w = 0 then okRes (dw ((fwVersionOf s).toNat * 2 ^ 48 + s.boot.slot * 2 ^ 40 + 0xA124 * 2 ^ 16 + 0x43)) s
  else if w = 1 then okRes Config.serial s
  else failSt stBadParam s

/-- The command that an ABORT names. -/
def abortCmd (c : Sub) (s : State) : Option Cmd :=
  s.hif.cmds.find? fun x => x.sub.qp == c.target && x.sub.tag.toNat == (par c 0).toNat % 65536

/-- Its final completion, where that waits for the page of the CQ: the command is still outstanding. -/
def abortPost (c : Sub) (s : State) : Option Post :=
  s.hif.posts.find? fun e => e.qp == c.target && e.tag.toNat == (par c 0).toNat % 65536 && e.status != stPending && e.status != stBusy

/-- Stops a waiting command: it completes ABORTED without effect. -/
def abortNow (x : Cmd) (s : State) : State :=
  let mine : Cmd → Bool := fun y => y == x
  startReads (endCmds mine stAborted (dropChannels mine s))

/-- ABORT (R71, R72, R83). Where the target's ABORTED waits for its page, so does the completion of the ABORT. -/
def opAbort (c : Sub) (s : State) : OpOut :=
  if c.target = c.qp ∧ (par c 0).toNat % 65536 = c.tag.toNat then failSt stBadParam s
  else match abortCmd c s with
    | none => match abortPost c s with
      | none => failSt stAlreadyDone s
      | some e => if e.op = 0x03 then failSt stBadParam s else failRes stAlreadyDone (e.commit.getD 0).toNat s
    | some x =>
      if x.op = 0x03 then failSt stBadParam s
      else match x.committed with
      | some n => failRes stAlreadyDone n.toNat s
      | none =>
        let t := abortNow x s
        if (abortPost c t).isSome then .wait .device [word c.target, par c 0, s.sn] t else okSn t

/-! SET_STATE (R82, Table 1-4) -/

/-- No session is RUNNING, HELD or ABORTING. -/
def noSession (p : Plane) : Bool := (upTo 128).all fun n => let k := sessState p n; !decide (2 ≤ k ∧ k ≤ 4)

/-- Every axis stands in one of the states of a list. -/
def axesIn (l : List Nat) (p : Plane) : Bool := (upTo 64).all fun a => l.contains (axState p a)

/-- The condition of a transition of Table 1-4, or none for one that the table does not have. -/
def mayGo (t : Nat) (s : State) : Bool :=
  let p := actPlane s
  match s.dev, t with
  | .ready, 3 => p.fab.cfg.isSome && s.sealed.valid
  | .run, 2 => noSession p && axesIn [0, 1] p
  | .run, 4 => noSession p && axesIn [0] p && (upTo 1024).all (loopIdle p)
  | .idle, 3 => s.clock.idleWake.isNone
  | .ready, 5 => true
  | _, 7 => mayEnterSafe s
  | _, _ => false

/-- READY to RUN. -/
def toRun (s : State) : State := { takeUp s with dev := .run }

/-- RUN to READY: every STANDSTILL axis becomes DISABLED (08 R259). -/
def axesLeaveRun (p : Plane) : Plane := forEach (upTo 64) (fun a q => if axState q a = 1 then setAxState a 0 q else q) p

/-- RUN to READY: every loop OFF, every axis DISABLED, and the demands of R301; the commit stage applies FENCE_SAFE
(R24). -/
def toReady (s : State) : State :=
  onPlanesSl (fun sl p => demandReady sl (axesLeaveRun (sessionsLeaveRun (loopsOff sl p)))) { s with dev := .ready }

/-- The DRAM enters self-refresh, once the burst under way has ended (13 R428). -/
def restDram (s0 : State) : State :=
  let s := burstEnd s0
  if s.mem.dram = 0 then raise 0x1E6 3 (setMem { s.mem with dram := 1 } s) else s

/-- RUN to IDLE (18 R563); the trigger engines become IDLE (10 R338). -/
def toIdle (s : State) : State :=
  applyLevel 2 (restDram (recStop (onPlanes trigsIdle (forEach (upTo 4) groupsDown { s with dev := .idle }))))

/-- IDLE to RUN begins at the present cut. -/
def beginRun (s : State) : State := applyLevel 2 { s with clock := { s.clock with idleWake := some s.sn } }

/-- SET_STATE. R82 gives RESULT the SN except for STANDBY; Table 2-12 has 0 where a command defines none (log entry 89). -/
def opSetState (c : Sub) (s : State) : OpOut :=
  let t := (par c 0).toNat
  if !(t == 2 || t == 3 || t == 4 || t == 5 || t == 7) || (t != 5 && par c 1 != 0) then failSt stBadParam s
  else if !mayGo t s then failSt stNotInState s
  else if t = 2 then okSn (toReady s)
  else if t = 3 then (if s.dev = .idle then .wait .device [] (beginRun s) else okSn (toRun s))
  else if t = 4 then okSn (toIdle s)
  else if t = 5 then okRes 0 { s with
    dev := .standby
    clock := { s.clock with wake := if par c 1 = 0 then none else some (par c 1) } }
  else okSn (enterSafe s)

/-- Whatever the recorder has staged reaches the ring before the DRAM rests. -/
def drainStaging (s : State) : State :=
  forEach (upTo (recsBytes s.recorder.staging / 256 + 2)) (fun _ t => ringBurst t) s

/-- Domains that STANDBY powers down, in their order, before MEM (18 R564). -/
def standbyDomains : List Nat := [0x0A, 0x0B, 0x0C, 0x0D, 0x10, 0x11, 0x12, 0x13, 0x09, 0x0F, 0x08, 0x0E, 0x06, 0x07, 0x05, 0x04]

/-- What follows a SET_STATE STANDBY: the domains power down, the DRAM rests, and everything outside AON, UMP, LDG
and the record ring is lost. -/
def standbyDown (s : State) : State :=
  let s1 := linkFall (writeOpsec true (drainStaging (recHalt s)))
  let s2 := setPower 0x03 false (restDram (forEach standbyDomains (setPower · false) s1))
  let s3 := flushEvents s2
  let t := keepLdg s3
  { t with
    dev := .standby
    recorder := { s3.recorder with stream := {} }
    mem := { t.mem with dram := s3.mem.dram }
    clock := { t.clock with wake := s3.clock.wake } }

/-- The state after a command that may have sent the device to STANDBY. -/
def afterState (s t : State) : State := if s.dev ≠ .standby ∧ t.dev = .standby then standbyDown t else t

/-- NOP. -/
def execNop (c : Sub) (s : State) : Outcome := hostCmd 0x00 opNop c s
/-- IDENTIFY. -/
def execIdentify (c : Sub) (s : State) : Outcome := hostCmd 0x01 opIdentify c s
/-- SET_STATE. -/
def execSetState (c : Sub) (s : State) : Outcome := .next (afterState s (submit 0x02 opSetState c s))
/-- ABORT. -/
def execAbort (c : Sub) (s : State) : Outcome := hostCmd 0x03 opAbort c s

/-- WAKE_TIMER_EXPIRY (18 R564). -/
def execWakeTimerExpiry (s : State) : Outcome :=
  .next (if s.dev ≠ .standby ∨ s.clock.wake.isNone then s
    else enterStart true { s with clock := { s.clock with wake := none } })

/-- IDLE_WAKE_COMMIT (18 R563): the management clock runs at the level of R557. -/
def execIdleWakeCommit (s : State) : Outcome :=
  .next (if s.dev ≠ .idle ∨ s.clock.idleWake.isNone ∨ !levelReached s then s
    else
      let s1 := { wakeDram s with dev := .run, clock := { s.clock with idleWake := none } }
      recBegin (completeWaiting (fun x => x.op == 0x02 && x.wait == .device) stOk (dw s1.sn.toNat) s1))

/-! Queue pair registers (R51 to R55) -/

/-- An event of a queue pair: 1 ERR changed, 2 RETRY changed (R79). -/
def qpRaise (q kind : Nat) (changed : Bool) (s : State) : State :=
  if changed then raiseExt q (Config.qpEvent kind) [] s else s

/-- The ring sizes of a QP_CTRL value are allowed. -/
def sizesOk (v : Word) : Bool :=
  decide (4 ≤ field v 8 4 ∧ field v 8 4 ≤ 12) && decide (4 ≤ field v 12 4 ∧ field v 12 4 ≤ 12)

/-- A write of QP_CTRL (R52, R53). -/
def writeQpCtrl (q : Nat) (v : Word) (s : State) : State :=
  let p := qpOf s q
  let on := bit p.ctrl 0
  let w := if on then setField v 8 8 (field p.ctrl 8 8) else v
  let want := bit v 0
  if want && !on && sizesOk w then
    qpRaise q 2 p.retry (setQp q { p with
      ctrl := w, sqHead := 0, sqTail := 0, cqHead := 0, cqTail := 0
      phase := true, seq := 0, paused := false, retry := false, coalCount := 0, coalAge := 0 } s)
  else if want then setQp q { p with ctrl := setBit w 0 on } s
  else qpRaise q 1 p.err (setQp q { p with ctrl := w, err := false, errCause := 0 } s)

/-- A write of QP_SQ_TAIL (R55, R75). -/
def writeSqTail (q : Nat) (v : Word) (s : State) : State :=
  let p := { qpOf s q with tailReg := v }
  if !bit p.ctrl 0 || p.err then setQp q p s
  else if sqLen p ≤ v.toNat then stopQp q 1 (setQp q p s)
  else setQp q { p with sqTail := v.toNat, paused := false } s

/-- A write of QP_CQ_HEAD (R55). -/
def writeCqHead (q : Nat) (v : Word) (s : State) : State :=
  let p := { qpOf s q with headReg := v }
  let n := cqLen p
  if !bit p.ctrl 0 || p.err then setQp q p s
  else if n ≤ v.toNat ∨ (p.cqTail + n - p.cqHead) % n < (v.toNat + n - p.cqHead) % n then stopQp q 2 (setQp q p s)
  else setQp q { p with cqHead := v.toNat } s

/-- A write of 1 to QP_STATUS.RETRY. -/
def clearRetry (q : Nat) (s : State) : State :=
  qpRaise q 2 (qpOf s q).retry (setQp q { qpOf s q with retry := false } s)

/-- A register access through BAR0 on queue pair q. -/
def qpRow (q : Nat) (f : State → State) (s : State) : Outcome :=
  guarded (decide (q < 64)) (if bar0Ok s then f s else s)

/-- QP_ENABLE (R53): the write of a QP_CTRL value with EN 1. -/
def execQpEnable (q : Nat) (v : Word) (s : State) : Outcome := qpRow q (writeQpCtrl q (setBit v 0 true)) s
/-- QP_DISABLE (R53): the write of a QP_CTRL value with EN 0. -/
def execQpDisable (q : Nat) (v : Word) (s : State) : Outcome := qpRow q (writeQpCtrl q (setBit v 0 false)) s
/-- QP_SQ_TAIL. -/
def execQpSqTail (q : Nat) (v : Word) (s : State) : Outcome := qpRow q (writeSqTail q v) s
/-- QP_CQ_HEAD. -/
def execQpCqHead (q : Nat) (v : Word) (s : State) : Outcome := qpRow q (writeCqHead q v) s
/-- QP_RETRY_CLEAR. -/
def execQpRetryClear (q : Nat) (s : State) : Outcome := qpRow q (clearRetry q) s

/-- COALESCE_TIMEOUT (R78): COAL_TIME ticks since the first completion not yet signalled; a change of QP_CTRL applies from the
next completion posted (R52). -/
def coalesceTimeout (q : Nat) (s : State) : State :=
  let p := qpOf s q
  let t := field p.coalCtrl 24 8
  if bit p.coalCtrl 1 && t != 0 && decide (0 < p.coalCount) && decide (t ≤ p.coalAge) then signalQp q s else s

/-- COALESCE_TIMEOUT. -/
def execCoalesceTimeout (q : Nat) (s : State) : Outcome := guarded (decide (q < 64)) (coalesceTimeout q s)

/-- One more tick of the coalescing times, at an input cut. -/
def coalCut (s : State) : State :=
  { s with hif := { s.hif with qps := s.hif.qps.map fun x =>
      if x.2.coalCount = 0 then x else (x.1, { x.2 with coalAge := x.2.coalAge + 1 }) } }

/-- RETRY on the pairs paused for one cause, with the source of each. -/
def easePairs (timed : Bool) (s : State) : State :=
  forEach ((upTo 64).filter fun q => (qpOf s q).paused && (qpOf s q).pauseSrc == timed)
    (fun q t => qpRaise q 2 true (setQp q { qpOf t q with retry := true } t)) s

/-- BACKLOG_EASED (R75): the backlog has fallen to 192 or below, or the timed store to 768 or below. -/
def execBacklogEased (s : State) : Outcome :=
  let s1 := if s.hif.fwHigh && decide (backlog s ≤ 192)
    then easePairs false { s with hif := { s.hif with fwHigh := false } } else s
  .next (if s1.hif.timedHigh && decide (timedCount s1 ≤ 768)
    then easePairs true { s1 with hif := { s1.hif with timedHigh := false } } else s1)

/-! BAR0 (R47, R48) -/

/-- A register of queue pair q at an offset of its block. -/
def writeQpReg (q o : Nat) (v : Word) (s : State) : State :=
  let p := qpOf s q
  let free := !bit p.ctrl 0
  let low := setField v 0 12 0
  if o = 0x00 then (if free then setQp q { p with sqBase := dword low (hiWord p.sqBase) } s else s)
  else if o = 0x04 then (if free then setQp q { p with sqBase := dword (loWord p.sqBase) v } s else s)
  else if o = 0x08 then (if free then setQp q { p with cqBase := dword low (hiWord p.cqBase) } s else s)
  else if o = 0x0C then (if free then setQp q { p with cqBase := dword (loWord p.cqBase) v } s else s)
  else if o = 0x10 then writeQpCtrl q v s
  else if o = 0x14 then (if bit v 4 then clearRetry q s else s)
  else s

/-- A word of the MSI-X table: [1:0] of an address and [31:1] of the control word are not writable (PCIe MSI-X, log
entry 5); unmasking sends what is pending. -/
def writeMsix (k : Nat) (v : Word) (s : State) : State :=
  let w := if k % 4 = 0 then setField v 0 2 0 else if k % 4 = 3 then word (v.toNat % 2) else v
  sendPending { s with hif := { s.hif with msix := tset (if k % 4 = 3 then 1 else 0) s.hif.msix k w } }

/-- A register of DMA window w (13 R424). -/
def writeWin (w o : Nat) (v : Word) (s : State) : State :=
  let x := (tget {} s.mem.wins w : Window)
  let low := setField v 0 12 0
  let put := fun (y : Window) => setMem { s.mem with wins := tset {} s.mem.wins w y } s
  if o = 0x00 then put { x with base := dword low (hiWord x.base) }
  else if o = 0x04 then put { x with base := dword (loWord x.base) v }
  else if o = 0x08 then put { x with limit := dword low (hiWord x.limit) }
  else if o = 0x0C then put { x with limit := dword (loWord x.limit) v }
  else if o = 0x10 then put { x with ctrl := word (v.toNat % 8) }
  else s

/-- Translation may be switched: every channel IDLE and no queue pair enabled (13 R420). -/
def xlatFree (s : State) : Bool :=
  (s.mem.chans.all fun x => x.2.state == 0) && !s.recorder.stream.run && s.hif.posts.isEmpty
    && (s.hif.qps.all fun x => !bit x.2.ctrl 0)

/-- A whole XLAT_INV value (13 R422). -/
def writeInv (d : DWord) (s : State) : State :=
  let op := field d 0 3
  if op = 1 then invalidate (fun m => { m with tlb := [], walk := [] }) s
  else if op = 2 then
    let a := field d 12 36 * 4096
    invalidate (fun m => { m with tlb := m.tlb.filter fun x => !decide (a / 2 ^ x.2.1 = x.1) }) s
  else s

/-- A register of the translation unit. -/
def writeXlat (o : Nat) (v : Word) (s : State) : State :=
  let m := s.mem
  if o = 0x00 then
    (if xlatFree s then drainAll (setMem { m with xlatEn := bit v 0 } s) else s)
  else if o = 0x08 then
    (if m.xlatEn then s else setMem { m with xlatRoot := dword (setField v 0 12 0) (hiWord m.xlatRoot) } s)
  else if o = 0x0C then
    (if m.xlatEn then s else setMem { m with xlatRoot := dword (loWord m.xlatRoot) (word (v.toNat % 2 ^ 20)) } s)
  else if o = 0x10 then (if m.invBusy then s else setMem { m with invLo := v } s)
  else if o = 0x14 then writeInv (dword m.invLo v) s
  else s

/-- DMA_CH_CTRL of channel k (13 Table 13-10). With translation on, a RESUME here leaves the page to a TRANSLATION_WALK, while
the row DMA_CH_RESUME carries the page's entries itself (log entry 68). -/
def writeChCtrl (k : Nat) (v : Word) (s : State) : State :=
  if bit v 1 then stopSuspended k s
  else if bit v 0 then (if s.mem.xlatEn then resumeWalk k s else resumeChannel k [] s)
  else s

/-- One aligned 32-bit write in BAR0 (Table 2-1); reserved offsets and read-only registers ignore it. -/
def writeReg (off : Nat) (v : Word) (s : State) : State :=
  if off < 0x1000 then s
  else if off < 0x2000 then writeQpReg ((off - 0x1000) / 64) (off % 64) v s
  else if off < 0x2200 then
    (if off % 8 = 0 then writeSqTail ((off - 0x2000) / 8) v s else writeCqHead ((off - 0x2000) / 8) v s)
  else if 0x3000 ≤ off ∧ off < 0x3400 then writeMsix ((off - 0x3000) / 4) v s
  else if 0x4000 ≤ off ∧ off < 0x4200 then writeWin ((off - 0x4000) / 32) (off % 32) v s
  else if 0x5000 ≤ off ∧ off < 0x5800 then routeWrite ((off - 0x5000) / 4) v true 3 0xFFFFFFFF 0 s
  else if 0x6000 ≤ off ∧ off < 0x6020 then writeXlat (off - 0x6000) v s
  else if 0x6400 ≤ off ∧ off < 0x6800 then (if off % 64 = 4 then writeChCtrl ((off - 0x6400) / 64) v s else s)
  else if off = 0x10000 then { s with evts := { s.evts with cursor := v.toNat % 65536 } }
  else s

/-- A write of 64 bits: a 64-bit register whole, else the lower register first (R47). -/
def writeWide (off : Nat) (v : DWord) (s : State) : State := writeReg (off + 4) (hiWord v) (writeReg off (loWord v) s)

/-- REGISTER_WRITE (R47). -/
def execRegisterWrite (off : Nat) (wide : Bool) (v : DWord) (s : State) : Outcome :=
  guarded (decide (off % (if wide then 8 else 4) = 0 ∧ off < 0x100000))
    (if !bar0Ok s then s else if wide then writeWide off v s else writeReg off (loWord v) s)

end Sys2Proof.Machine
end

