-- ==== Sys2Proof/Machine/Time.lean ====
section
/-! DEFINITION. Management Ethernet, the PTP engine and device time (15 R477 to R486). -/

namespace Sys2Proof.Machine

/-- Replaces device time, or the PTP engine. -/
def setTime (t : DevTime) (s : State) : State := { s with field := { s.field with time := t } }
def setPtp (p : Ptp) (s : State) : State := { s with field := { s.field with ptp := p } }

/-- Management port k. -/
def mgt (s : State) (k : Nat) : MgtPort := tget {} s.field.mgt k

/-- Replaces management port k. -/
def setMgt (k : Nat) (m : MgtPort) (s : State) : State :=
  { s with field := { s.field with mgt := tset {} s.field.mgt k m } }

/-- EN and SERVO of the engine. -/
def ptpEn (s : State) : Bool := bit s.field.ptp.cfg 0
def servoOn (s : State) : Bool := bit s.field.ptp.cfg 6

/-- Device time in 2^-16 ns at t0 of the latest cut. -/
def tqNow (s : State) : Int := tqIn s 0

/-- A change of both planes' time bases. -/
def onClks (f : PlaneTime → PlaneTime) (s : State) : State :=
  { s with planeA := { s.planeA with clk := f s.planeA.clk }, planeB := { s.planeB with clk := f s.planeB.clk } }

/-! Compare units (R485) -/

/-- Compare unit u. -/
def cmpOf (s : State) (u : Nat) : Cmp := tget {} s.field.time.cmps u

/-- Replaces compare unit u. -/
def setCmp (u : Nat) (x : Cmp) (s : State) : State :=
  setTime { s.field.time with cmps := tset {} s.field.time.cmps u x } s

/-- An enabled unit has reached its TARGET r counts after t0 of the latest cut. -/
def cmpReached (s : State) (r : Int) (u : Nat) : Bool :=
  (cmpOf s u).en && decide (0 ≤ (tnsOf (tqIn s r) - (cmpOf s u).target).toInt)

/-- The unit fires and disables itself; its event's data is not given. -/
def cmpFire (u : Nat) (s : State) : State :=
  let (v, s1) := takeFree s
  raise (0x18B + u) (loWord v).toNat (setCmp u { cmpOf s1 u with en := false } s1)

/-- Units that a commit carries past their TARGET fire at its cut. -/
def cmpsAtCut (s : State) : State :=
  forEach (upTo 4) (fun u t => if cmpReached t 0 u then cmpFire u t else t) s

/-- TIME_COMPARE_FIRE (R485): at a counter edge of the present tick. -/
def execTimeCompareFire (u : Nat) (s : State) : Outcome :=
  guarded (decide (u < 4)) (if cmpReached s 3999 u then cmpFire u s else s)

/-! Steps and rates (R483, R484) -/

/-- Commits a step. -/
def stepTime (d : Int) (s : State) : State :=
  cmpsAtCut (raise 0x18A 1 (onClks (fun c => { c with ofs := c.ofs + BitVec.ofInt 96 d })
    (setTime { s.field.time with stepUsed := true } s)))

/-- Commits a rate at the present cut: time is continuous there. -/
def rateTime (r : Word) (s : State) : State :=
  let t := s.field.time
  raise 0x18A 2 (setTime { t with rate := r }
    (onClks (fun c => { c with ofs := BitVec.ofInt 96 (tqAt t.rate c c.r.toNat), rRef := c.r }) s))

/-- Device time at an input cut: the counters, their references at the first cut, and what the servo commits. -/
def timeCut (s : State) : State :=
  let t := s.field.time
  let first := s.boot.preTick
  let s1 := setTime (if first then { t with rate := 0 } else t)
    (onClks (fun c => let r := c.r + 4000
      if first then { r := r, rRef := r, ofs := 0 } else { c with r := r }) s)
  let p := s1.field.ptp
  let s2 := setPtp { p with stepDue := none, rateDue := none } s1
  let s3 := match p.stepDue with
    | some d => if t.stepUsed then s2 else stepTime d s2
    | none => s2
  match p.rateDue with
  | some v => rateTime v s3
  | none => s3

/-- DELTA of TIME_STEP. -/
def stepDelta (c : Sub) : Int :=
  (BitVec.ofNat 96 ((par c 0).toNat + (par c 1).toNat * 2 ^ 32 + (par c 2).toNat * 2 ^ 64)).toInt

/-- TIME_STEP. -/
def opTimeStep (c : Sub) (s : State) : OpOut :=
  if servoOn s || s.field.time.stepUsed then failSt stNotInState s
  else if tqNow s + stepDelta c < 0 then failSt stBadParam s
  else okSn (stepTime (stepDelta c) s)

/-- TIME_RATE. -/
def opTimeRate (c : Sub) (s : State) : OpOut :=
  if servoOn s then failSt stNotInState s else okSn (rateTime (par c 0) s)

/-- TIME_CMP. -/
def opTimeCmp (c : Sub) (s : State) : OpOut :=
  okSn (cmpsAtCut (setCmp c.target { target := dword (par c 0) (par c 1), en := bit (par c 2) 0 } s))

/-- TIME_READ: a read in mid-tick takes the counter at an instant of the present tick that the spec does not fix. -/
def opTimeRead (c : Sub) (s : State) : OpOut :=
  let f := (par c 0).toNat
  if 3 < f then failSt stBadParam s
  else if f = 3 then okRes (tnsAt s (par c 1)) s
  else
    let (v, s1) := takeFree s
    let t := (tnsOf (tqIn s (v.toNat % 4000 : Nat))).toNat
    okRes (if f = 0 then dw t else if f = 1 then dw (t % 10 ^ 9 + t / 10 ^ 9 % 2 ^ 32 * 2 ^ 32) else dw (t / 10 ^ 9 % 2 ^ 48)) s1

/-- TIME_STATUS. -/
def opTimeStatus (_c : Sub) (s : State) : OpOut :=
  okRes (dw (s.field.time.stepUsed.toNat + (servoOn s).toNat * 2
    + ((upTo 4).filter fun u => (cmpOf s u).en).length % 4 * 4 + s.field.time.rate.toNat * 2 ^ 32)) s

/-- TIME_READ. -/
def execTimeRead (c : Sub) (s : State) : Outcome := hostCmd 0xD7 opTimeRead c s
/-- TIME_STEP. -/
def execTimeStep (c : Sub) (s : State) : Outcome := hostCmd 0xD8 opTimeStep c s
/-- TIME_RATE. -/
def execTimeRate (c : Sub) (s : State) : Outcome := hostCmd 0xD9 opTimeRate c s
/-- TIME_CMP. -/
def execTimeCmp (c : Sub) (s : State) : Outcome := hostCmd 0xDA opTimeCmp c s
/-- TIME_STATUS. -/
def execTimeStatus (c : Sub) (s : State) : Outcome := hostCmd 0xDB opTimeStatus c s

/-! Management ports and the PTP engine (R477 to R480) -/

/-- The lowest enabled port with its link up (R478). -/
def ptpPort (s : State) : Option Nat :=
  [0, 1].find? fun k => bit s.field.ptp.cfg (1 + k) && (mgt s k).mode != 0 && (mgt s k).linkUp

/-- The engine takes its port; a change is reported. -/
def choosePort (s : State) : State :=
  match ptpPort s with
  | none => s
  | some k =>
    if !ptpEn s || s.field.ptp.port == k then s
    else raise 0x18A (3 + s.field.ptp.portState % 256 * 256) (setPtp { s.field.ptp with port := k } s)

/-- MGT_CONFIG. A port whose mode changes loses its link (R487). -/
def opMgtConfig (c : Sub) (s : State) : OpOut :=
  let m := field (par c 0) 0 3
  let x := mgt s c.target
  if 3 < m then failSt stBadParam s
  else
    let s1 := setMgt c.target { x with
      mode := m, mac := (par c 1).toNat + field (par c 2) 0 16 * 2 ^ 32, ip := par c 3
      linkUp := x.linkUp && m == x.mode } s
    let s2 := if x.linkUp && m != x.mode then raise (0x188 + c.target) 2 s1 else s1
    okSn (choosePort (if m = 0 then s2 else useGate (0x0A + c.target) s2))

/-- PTP_CONFIG. -/
def opPtpConfig (c : Sub) (s : State) : OpOut :=
  if (par c 3).toInt ≤ 0 then failSt stBadParam s
  else okSn (choosePort (setPtp { s.field.ptp with
    cfg := par c 0, intervals := par c 1, lats := par c 2, rateLim := par c 3, stepThr := par c 4 } s))

/-- PTP_STATUS. -/
def opPtpStatus (_c : Sub) (s : State) : OpOut :=
  let p := s.field.ptp
  okRes (dw (p.portState % 256 + p.port * 2 ^ 8 + s.field.time.stepUsed.toNat * 2 ^ 9 + min 0xFFFF p.delay * 2 ^ 16
    + p.offset.toNat * 2 ^ 32)) s

/-- MGT_CONFIG. -/
def execMgtConfig (c : Sub) (s : State) : Outcome := hostCmd 0xD4 opMgtConfig c s
/-- PTP_CONFIG. -/
def execPtpConfig (c : Sub) (s : State) : Outcome := hostCmd 0xD5 opPtpConfig c s
/-- PTP_STATUS. -/
def execPtpStatus (c : Sub) (s : State) : Outcome := hostCmd 0xD6 opPtpStatus c s

/-- What the servo makes of an offset (R480): the first step, then rates within the limit. -/
def servoStep (o : Int) (s : State) : State :=
  let p := s.field.ptp
  let lim := p.rateLim.toInt
  let d := -o * 65536
  if !servoOn s then s
  else if !s.field.time.stepUsed && decide (0 ≤ tqNow s + d) then
    setPtp { p with stepDue := some d } s
  else if (p.stepThr.toNat : Int) < o.natAbs then
    raise 0x18A 4 (setPtp { p with rateDue := some (BitVec.ofInt 32 (if 0 < o then -lim else lim)) } s)
  else setPtp { p with
    rateDue := some (BitVec.ofInt 32 (clampI (-lim) lim (Config.servo o s.field.time.rate).toInt)) } s

/-- The port state after a message: what the best master clock algorithm of IEEE 1588 makes of it is the row's; a slave-only
clock takes none of PRE_MASTER, MASTER and PASSIVE (R478). -/
def stateAfter (s : State) (m : PtpMsg) : Nat :=
  if bit s.field.ptp.cfg 5 ∧ 5 ≤ m.portState ∧ m.portState ≤ 7 then s.field.ptp.portState else m.portState

/-- An instant of the present tick, in ns of device time. -/
def instant (v : DWord) (s : State) : DWord := tnsOf (tqIn s (v.toNat % 4000 : Nat))

/-- PTP_MESSAGE_RECEIVE (R477, R479, R480): the arrival is an instant of the present tick, less RX_LAT. -/
def execPtpMessageReceive (port : Nat) (m : PtpMsg) (s : State) : Outcome :=
  let x := mgt s port
  guarded (decide (port < 2)) (
    if x.mode = 0 ∨ !x.linkUp then s
    else if !m.ok then setMgt port { x with discards := x.discards + 1 } s
    else if !ptpEn s ∨ s.field.ptp.port ≠ port ∨ ptpPort s ≠ some port then s
    else
      let p := s.field.ptp
      let st := stateAfter s m
      let (v, s0) := takeFree s
      let s1 := setPtp { p with portState := st, delay := m.delay, rxTime := instant v s - dw (field p.lats 16 16) } s0
      let s2 := if st = p.portState then s1 else raise 0x18A (3 + st % 256 * 256) s1
      match m.offset with
      | none => s2
      | some o =>
        let s3 := servoStep o s2
        setPtp { s3.field.ptp with offset := sat32 o, offsetValid := true } s3)

/-- Message types that the engine sends (R479): Sync, Delay_Req, Pdelay_Req, Pdelay_Resp, Delay_Resp, Announce. -/
def ptpSends (kind : Nat) : Bool := kind ≤ 3 || kind == 9 || kind == 0xB

/-- The engine sends the message in its state and profile (R478): Sync, Delay_Resp and Announce as MASTER, Delay_Req as
UNCALIBRATED or SLAVE, the peer messages in the peer-to-peer profile only. -/
def ptpRole (s : State) (kind : Nat) : Bool :=
  let p := s.field.ptp
  let peer := bit p.cfg 4
  if kind = 2 ∨ kind = 3 then peer
  else if kind = 1 then !peer && (p.portState == 8 || p.portState == 9)
  else p.portState == 6 && !bit p.cfg 5 && !(kind == 9 && peer)

/-- The message that leaves at t (R478, R479). -/
def ptpOut (s : State) (k kind : Nat) (t : DWord) : PtpOut :=
  let p := s.field.ptp
  { port := k, kind := kind, time := t, origin := if kind = 0 then t else 0
    correction := if kind = 3 then (t - p.rxTime) * 65536 else 0
    domain := field p.cfg 8 8, prio1 := field p.cfg 16 8, prio2 := field p.cfg 24 8, udp := bit p.cfg 3 }

/-- PTP_MESSAGE_SEND (R479): the departure is an instant of the present tick, plus TX_LAT. -/
def execPtpMessageSend (kind : Nat) (s : State) : Outcome :=
  guarded (ptpSends kind) (
    match ptpPort s with
    | none => s
    | some k =>
      if !ptpEn s || activeNo s == 0 || !ptpRole s kind then s
      else
        let (v, s1) := takeFree s
        setPtp { s1.field.ptp with sent := some (ptpOut s k kind (instant v s + dw (field s.field.ptp.lats 0 16))) } s1)

/-- MGT_LINK_CHANGE (R478). -/
def execMgtLinkChange (port : Nat) (up : Bool) (s : State) : Outcome :=
  let x := mgt s port
  guarded (decide (port < 2)) (
    if x.mode = 0 ∨ x.linkUp = up then s
    else choosePort (raise (0x188 + port) (if up then 1 else 2) (setMgt port { x with linkUp := up } s)))

end Sys2Proof.Machine
end

