-- ==== Sys2Proof/Machine/Window.lean ====
section
/-! DEFINITION. The MS-240 window (19): staging bytes, writes, requests, claims, ownership and reads. -/

namespace Sys2Proof.Machine

/-- Replaces the window. -/
def setWin (w : WindowBus) (s : State) : State := { s with window := w }

/-- Sets a flag of WSTAT, or of a loop's LSTAT. -/
def setWstat (b : Nat) (s : State) : State := setWin { s.window with wstat := setBit s.window.wstat b true } s
def setLstat (l b : Nat) (s : State) : State :=
  setWin { s.window with lstat := tmod 0 s.window.lstat l fun w => setBit w b true } s

/-- The window exists and is powered (R568, R569). -/
def windowOn (s : State) : Bool :=
  s.window.legacy && tget false s.clock.powered 0x04 && s.dev != .off && s.dev != .standby

/-- Window writes take effect (R578). -/
def windowWrites (s : State) : Bool := (s.dev == .ready || s.dev == .run) && (lastSample s).isNone

/-- A write access with effect f; while BUSY# is low for a request, the host board may not begin one. -/
def winWrite (ok : Bool) (f : State → State) (s : State) : Outcome :=
  guarded ok
    (if !windowOn s || s.window.request.isSome then s
    else if !windowWrites s then setWstat 4 s
    else f s)

/-- Queues a write for the next cut (R573, R575). -/
def queueWrite (l kind : Nat) (v : Word) (s : State) : State :=
  setWin { s.window with writes := s.window.writes ++ [(l, kind, v)] } s

/-- FS value of a 12-bit code from a staging byte and a low byte (R572, R573). -/
def codeValue (hi : Nat) (d : BitVec 16) : Word := word ((hi * 256 + field d 0 8) * 4096)

/-- SP_HI. -/
def execWinSpHi (loop : Nat) (d : BitVec 16) (s : State) : Outcome :=
  winWrite (decide (loop < 64)) (fun t => setWin { t.window with spHi := tset 0 t.window.spHi loop (field d 0 4) } t) s
/-- SP_LO. -/
def execWinSpLo (loop : Nat) (d : BitVec 16) (s : State) : Outcome :=
  winWrite (decide (loop < 64)) (fun t => queueWrite loop 0 (codeValue (tget 0 t.window.spHi loop) d) t) s
/-- MO_HI. -/
def execWinMoHi (loop : Nat) (d : BitVec 16) (s : State) : Outcome :=
  winWrite (decide (loop < 64)) (fun t => setWin { t.window with moHi := tset 0 t.window.moHi loop (field d 0 4) } t) s
/-- MO_LO. -/
def execWinMoLo (loop : Nat) (d : BitVec 16) (s : State) : Outcome :=
  winWrite (decide (loop < 64)) (fun t => queueWrite loop 1 (codeValue (tget 0 t.window.moHi loop) d) t) s
/-- MODE. -/
def execWinMode (loop : Nat) (d : BitVec 16) (s : State) : Outcome :=
  winWrite (decide (loop < 64)) (queueWrite loop 2 (word (field d 0 4))) s

/-! Writes at their cut (R573, R575, R27) -/

/-- A window write to SP_TARGET or OUT (port 0 or 1) that passed its test, unless a step of this cut names the value. One
of OUT joins the tokens of the cut behind those placed before it (R95). -/
def winToken (l port : Nat) (v : Word) (s : State) : State :=
  onPlanes (fun p =>
    if p.fab.stepNamed.contains (l, if port = 0 then wSpTarget else wOut) then p
    else if port = 0 then applyCtxWrite (ctxToken 0 l v p.sn) p
    else setFab { p.fab with ctxWrites := p.fab.ctxWrites ++ [ctxToken 1 l v p.sn] } p) s

/-- An MO commit (R573); `replaced`: a host token placed after it stands. -/
def winOut (replaced : Bool) (l : Nat) (v : Word) (s : State) : State :=
  let p := actPlane s
  if loopMode p l ≠ 2 then setLstat l 4 s
  else match loopChan p l with
    | none => if replaced then s else winToken l 1 v s
    | some ch =>
      if outsideFence s.sealed ch v then setLstat l 4 (logF6 2 4 ch 0xFFFFFFFF 0 v s)
      else if replaced then s
      else winToken l 1 v s

/-- A mode write acts as LOOP_SET_MODE (03 R122, 12 R398). -/
def winSetMode (l m : Nat) (s : State) : State :=
  if !(decide (m ≤ 4) || m == 6) || !modeOk (s.dev == .ready) false l m (actPlane s) then setLstat l 5 s
  else onExecSl (fun sl => setMode sl 0 l m) (outOfRestore l m s)

/-- One write at its cut. -/
def winApply (x : Nat × Nat × Word) (s : State) : State :=
  if loopOwner s (actPlane s) x.1 = 1 then setLstat x.1 3 s
  else if x.2.1 = 0 then winToken x.1 0 x.2.2 s
  else if x.2.1 = 1 ∨ x.2.1 = 4 then winOut (x.2.1 == 4) x.1 x.2.2 s
  else if x.2.1 = 2 then winSetMode x.1 x.2.2.toNat s
  else s

/-- The window's writes at an input cut, after the cut's interlock actions, step commits and session starts. -/
def winWritesCut (s : State) : State :=
  let l := s.window.writes
  let s1 := setWin { s.window with writes := [] } s
  if l.isEmpty then s
  else if !windowWrites s1 then setWstat 4 s1
  else forEach l winApply s1

/-! Requests (R570, R576) -/

/-- A CLAIM or CMD write: BUSY# falls until the request is accepted. -/
def winAsk (cmd : Bool) (data : Nat) (s : State) : State :=
  setWin { s.window with request := some (cmd, data), busy := true } s

/-- CLAIM. -/
def execWinClaim (d : BitVec 16) (s : State) : Outcome := winWrite true (winAsk false d.toNat) s
/-- START. -/
def execWinStart (s : State) : Outcome := winWrite true (winAsk true 1) s
/-- HOLD. -/
def execWinHold (s : State) : Outcome := winWrite true (winAsk true 2) s
/-- RESUME. -/
def execWinResume (s : State) : Outcome := winWrite true (winAsk true 3) s
/-- ADVANCE. -/
def execWinAdvance (s : State) : Outcome := winWrite true (winAsk true 4) s
/-- WINDOW_ABORT. -/
def execWinAbort (s : State) : Outcome := winWrite true (winAsk true 5) s

/-- OWNER_WIN of session n. -/
def setOwner (n : Nat) (on : Bool) (s : State) : State := onPlanes (setSf n wSstate 27 1 on.toNat) s

/-- The claimed session's own flags join WSTAT. -/
def keepFlags (n : Nat) (s : State) : State :=
  setWin { s.window with wstat := s.window.wstat ||| tget 0 (actPlane s).sess.wflags n } s

/-- STEPS and the flags of a session start anew. -/
def freshSteps (n : Nat) (p : Plane) : Plane :=
  setSess { p.sess with steps := tset 0 p.sess.steps n 0, wflags := tset 0 p.sess.wflags n 0 } p

/-- A claim or release at its commit cut. A release names no session of its own. -/
def winClaimAt (d : Nat) (s : State) : State :=
  let n := d % 128
  let w := s.window
  if d / 32768 % 2 = 1 then
    let st := sessState (actPlane s) n
    if !w.claimed && (st == ssLoaded || st == ssDone) then
      setWin { w with claimed := true, session := n } (onPlanes (freshSteps n) (setOwner n true s))
    else setWstat 1 s
  else
    let st := sessState (actPlane s) w.session
    if w.claimed && (st == ssIdle || st == ssLoaded || st == ssDone) then
      let s1 := keepFlags w.session (setOwner w.session false s)
      setWin { s1.window with claimed := false, session := 0 } s1
    else setWstat 1 s

/-- The entry that a CMD code stands for. -/
def winEntry (code n : Nat) : Sub :=
  { target := n, params := if code = 2 then [0x0240] else if code = 5 then [0xFFFF, 0x0240] else [0xFFFF] }

/-- The command that a CMD code acts as. -/
def winOp (code n : Nat) (s : State) : OpOut :=
  let c := winEntry code n
  if code = 1 then opSessStart c s
  else if code = 2 then opSessHold c s
  else if code = 3 then opSessResume c s
  else if code = 4 then opSessAdvance c s
  else if code = 5 then opSessAbort c s
  else failSt stBadParam s

/-- The F6 record of a START whose image holds a value outside a fence. -/
def winFenced (n : Nat) (s : State) : State :=
  let p := actPlane s
  let i := sessImg p n
  match fencedAction s.sealed p i with
  | none => s
  | some j =>
    let a := i.acts.getD j (0, 0)
    logF6 2 4 ((fencedChan p a).getD 0) 0xFFFFFFFF 0x43 a.2 s

/-- A CMD code on the claimed session: OWNER_WIN does not bar the window itself. -/
def winCmdAt (code : Nat) (s : State) : State :=
  let n := s.window.session
  if !s.window.claimed then setWstat 0 s
  else match winOp code n (setOwner n false s) with
    | .done st _ t =>
      if st = stOk then setOwner n true t
      else setWstat 0 (if st = stFenced then winFenced n s else s)
    | _ => setWstat 0 s

/-- A request that both planes have accepted: BUSY# rises. -/
def winDone (s : State) : State := setWin { s.window with request := none, busy := false } s

/-- The planes can accept a request. -/
def winAccepts (s : State) : Bool := windowOn s && windowWrites s && s.ump.sw.isNone && activeNo s != 0

/-- Requests at an input cut: HOLD and ADVANCE are placed before it, the others commit at it. -/
def winRequests (early : Bool) (s : State) : State :=
  match s.window.request with
  | none => s
  | some (cmd, d) =>
    if !winAccepts s || early != (cmd && (d == 2 || d == 4)) then s
    else if cmd then winDone (winCmdAt d s) else winDone (winClaimAt d s)

/-- WINDOW_REQUEST_TIMEOUT (R570): a request not accepted 2 ms after its write is abandoned. -/
def execWindowRequestTimeout (s : State) : Outcome :=
  .next (match s.window.request with
    | none => s
    | some (cmd, _) => winDone (setWstat (if cmd then 0 else 1) s))

/-! Reads (R572, R574, R577, R579) -/

/-- 12-bit code of an FS value. -/
def codeOf (v : Word) : Nat := (clampI 0 4095 ((v.toInt + 2048) / 4096)).toNat

/-- Two BCD digits. -/
def bcd (n : Nat) : Nat := n / 10 % 10 * 16 + n % 10

/-- Reads are served in this device state. -/
def windowReads (s : State) : Bool := s.dev == .ready || s.dev == .run || s.dev == .idle || s.dev == .safe

/-- Value of a register without effect of its read; those of a loop are as of the latest flow release (R572). -/
def winValue (s : State) (a : Nat) : Nat :=
  let p := actPlane s
  let w := s.window
  let l := a / 16
  if a < 0x400 then
    (if a % 16 = 4 then field (relLw p l wCtrl) 0 4
    else if a % 16 = 5 then codeOf (relLw p l wSpTarget)
    else if a % 16 = 6 then codeOf (relLw p l wPv)
    else if a % 16 = 7 then codeOf (relLw p l wOut)
    else 0)
  else if a = 0x400 then w.claimed.toNat * 2 ^ 11 + w.session
  else if a = 0x402 then
    (if w.claimed then sessState p w.session + w.session * 16 + 2 ^ 11 else 0)
  else if a = 0x403 then (if w.claimed then bcd (tget 0 p.sess.steps w.session) else 0)
  else if a = 0x7FF then 0x0240
  else 0

/-- LSTAT or WSTAT. -/
def isStatus (a : Nat) : Bool := (decide (a < 0x400) && a % 16 == 8) || a == 0x404

/-- The flags set in a status register. -/
def statusValue (s : State) (a : Nat) : Word :=
  if a = 0x404 then
    s.window.wstat ||| (if s.window.claimed then tget 0 (actPlane s).sess.wflags s.window.session else 0)
  else tget 0 s.window.lstat (a / 16) ||| tget 0 (actPlane s).fab.lstat (a / 16)

/-- The flags of a status register are cleared. -/
def statusClear (a : Nat) (s : State) : State :=
  if a = 0x404 then
    let t := setWin { s.window with wstat := 0 } s
    if s.window.claimed then onPlanes (fun p => setSess { p.sess with wflags := tset 0 p.sess.wflags s.window.session 0 } p) t
    else t
  else
    onPlanes (fun p => setFab { p.fab with lstat := tset 0 p.fab.lstat (a / 16) 0 } p)
      (setWin { s.window with lstat := tset 0 s.window.lstat (a / 16) 0 } s)

/-- A read access: the data driven, and for a status register the flags read are cleared. -/
def winRead (a : Nat) (s : State) : State :=
  let out := fun (v : BitVec 16) (t : State) => setWin { t.window with dout := v } t
  if !windowOn s || !windowReads s || s.window.request.isSome then s
  else if s.window.blank then out 0xFFFF s
  else if isStatus a then out (BitVec.ofNat 16 (statusValue s a).toNat) (statusClear a s)
  else out (BitVec.ofNat 16 (winValue s a)) s

/-- WINDOW_STATUS_READ. -/
def execWindowStatusRead (addr : Nat) (s : State) : Outcome := guarded (isStatus addr) (winRead addr s)

/-- WINDOW_READ. -/
def execWindowRead (addr : Nat) (s : State) : Outcome := guarded (decide (addr < 0x1000)) (winRead addr s)

/-- The blanking counts cuts from the election, and WSTAT.SWITCH comes at the first cut after it (R579). -/
def winCut (s : State) : State :=
  let w := s.window
  let s1 := if w.swDue then setWstat 5 (setWin { w with swDue := false } s) else s
  match w.blankLeft with
  | none => s1
  | some n => setWin { s1.window with blank := decide (1 < n), blankLeft := if 1 < n then some (n - 1) else none } s1

end Sys2Proof.Machine
end

