-- ==== Sys2Proof/Machine/Front.lean ====
section
/-! DEFINITION. The two paths of the front end: a fetched entry, a timed placement, and the commit of a forwarded
command (02 R59, R66 to R71, R84). -/

namespace Sys2Proof.Machine

/-- The execution of every defined opcode (02 Table 2-11). -/
def coreOf (op : Nat) (c : Sub) (s : State) : OpOut :=
  match op with
  | 0x00 => opNop c s
  | 0x01 => opIdentify c s
  | 0x02 => opSetState c s
  | 0x03 => opAbort c s
  | 0x04 => opClkStatus c s
  | 0x05 => opClkMeasure c s
  | 0x06 => opClkGate c s
  | 0x07 => opPwrStatus c s
  | 0x08 => opDvfsSet c s
  | 0x09 => opClkoutCfg c s
  | 0x10 => opLoopSetSp c s
  | 0x11 => opLoopSetOut c s
  | 0x12 => opLoopRead c s
  | 0x13 => opLoopSetMode c s
  | 0x14 => opLoopWrite c s
  | 0x15 => opBoothStatus c s
  | 0x16 => opBoothKeepAwake c s
  | 0x20 => opModelLoad c s
  | 0x21 => opModelReinit c s
  | 0x22 => opTestStart c s
  | 0x23 => opTestStop c s
  | 0x24 => opTestStatus c s
  | 0x25 => opCaptRead c s
  | 0x30 => opDispLoad c s
  | 0x31 => opDispSetPrio c s
  | 0x32 => opDispStatus c s
  | 0x33 => opDispFlowStatus c s
  | 0x40 => opSessAdvance c s
  | 0x41 => opSessHold c s
  | 0x42 => opSessLoad c s
  | 0x43 => opSessStart c s
  | 0x44 => opSessResume c s
  | 0x45 => opSessAbort c s
  | 0x46 => opSessUnload c s
  | 0x47 => opSessStatus c s
  | 0x60 => opScanLoad c s
  | 0x61 => opScanMode c s
  | 0x62 => opScanWrite c s
  | 0x63 => opScanRead c s
  | 0x64 => opScanStatus c s
  | 0x70 => opAxConfig c s
  | 0x71 => opAxWrite c s
  | 0x72 => opAxEnable c s
  | 0x73 => opAxMove c s
  | 0x74 => opAxStop c s
  | 0x75 => opAxSetLimits c s
  | 0x76 => opAxHome c s
  | 0x77 => opAxGear c s
  | 0x78 => opAxGearSched c s
  | 0x79 => opAxClear c s
  | 0x7A => opAxRead c s
  | 0x80 => opSafeStatus c s
  | 0x81 => opSafeRequest c s
  | 0x82 => opSafeReset c s
  | 0x83 => opSconnStatus c s
  | 0x84 => opSealStage c s
  | 0x85 => opSealCommit c s
  | 0x86 => opSealRead c s
  | 0x90 => opRecConfig c s
  | 0x91 => opRecStream c s
  | 0x92 => opRecStatus c s
  | 0x93 => opRecFetch c s
  | 0x94 => opTrigConfig c s
  | 0x95 => opTrigCtrl c s
  | 0x96 => opTrigStatus c s
  | 0x97 => opMaskLoad c s
  | 0x98 => opMaskArm c s
  | 0x99 => opMaskStatus c s
  | 0xA0 => opPlaneStatus c s
  | 0xA1 => opPlaneHealth c s
  | 0xA2 => opPlaneRestore c s
  | 0xA3 => opPlaneOffline c s
  | 0xA4 => opPlaneSwap c s
  | 0xA5 => opPlaneConfig c s
  | 0xA6 => opLedgerStatus c s
  | 0xA7 => opJournalRead c s
  | 0xA8 => opFwStage c s
  | 0xA9 => opFwSelect c s
  | 0xB0 => opMemStatus c s
  | 0xB1 => opTurnSet c s
  | 0xB2 => opTurnRead c s
  | 0xB3 => opMemScrub c s
  | 0xC0 => opAiConfig c s
  | 0xC1 => opAfeSeq c s
  | 0xC2 => opAoConfig c s
  | 0xC3 => opClConfig c s
  | 0xC4 => opPwConfig c s
  | 0xC5 => opAfeCal c s
  | 0xC6 => opAfeTest c s
  | 0xC7 => opAfeStatus c s
  | 0xC8 => opAfeMode c s
  | 0xC9 => opGpConfig c s
  | 0xD0 => opFpConfig c s
  | 0xD1 => opFpStation c s
  | 0xD2 => opFpArm c s
  | 0xD3 => opFpStatus c s
  | 0xD4 => opMgtConfig c s
  | 0xD5 => opPtpConfig c s
  | 0xD6 => opPtpStatus c s
  | 0xD7 => opTimeRead c s
  | 0xD8 => opTimeStep c s
  | 0xD9 => opTimeRate c s
  | 0xDA => opTimeCmp c s
  | 0xDB => opTimeStatus c s
  | 0xE0 => opCanConfig c s
  | 0xE1 => opCanFilter c s
  | 0xE2 => opCanSignal c s
  | 0xE3 => opCanSched c s
  | 0xE4 => opCanSend c s
  | 0xE5 => opCanCtrl c s
  | 0xE6 => opCanRxRead c s
  | 0xE7 => opCanStatus c s
  | 0xE8 => opEvtRoute c s
  | 0xE9 => opEvtStatus c s
  | 0xEA => opEvrRead c s
  | 0xEB => opEvrClear c s
  | 0xEC => opObsCtrl c s
  | 0xED => opObsRead c s
  | 0xEE => opLockChallenge c s
  | 0xEF => opLock c s
  | _ => failSt stBadOpcode s

/-! ENTRY_FETCH -/

/-- What the words of an entry say (02 Table 2-8). -/
def entryOfWords (qp : Nat) (ws image : List Word) : Sub :=
  { qp := qp, tag := BitVec.ofNat 16 (field (wordAt ws 0) 16 16), flags := BitVec.ofNat 8 (field (wordAt ws 0) 8 8)
    target := (wordAt ws 1).toNat, params := (upTo 12).map fun i => wordAt ws (2 + i)
    atSn := wordAt ws 14, image := image }

/-- The CRC of an entry is right (R58). -/
def entryCrcOk (ws : List Word) : Bool := wordAt ws 15 == crc32c (bytesOf ((upTo 15).map (wordAt ws)))

/-- The opcode has conditions that give BAD_PARAM or BAD_TARGET on what the planes hold, and so at its commit cut: the axis
commands (08 R284), MASK_ARM (10 R344), and those that look at a loaded configuration, recipe, context or mode. -/
def testsState (op : Nat) : Bool :=
  [0x14, 0x31, 0x33, 0x43, 0x44, 0x45, 0x81, 0x98, 0xC0, 0xC1, 0xC6, 0xC8, 0xD3, 0xD8, 0xE4].contains op || decide (0x70 ≤ op ∧ op ≤ 0x79)

/-- What the entry itself says fails check 6 or 7 of Table 2-10, or names host memory outside the windows (13 R425). -/
def rangeFails (op : Nat) (c : Sub) (s : State) : Bool :=
  if !testsState op then true
  else if op = 0x14 then !loopWriteForm c
  else if op = 0xC0 then !aiCfgOk c.target (par c 0)
  else if op = 0xC1 then !seqForm c
  else if op = 0xC6 then par c 0 == 3 || decide (64 ≤ c.target) != (par c 0 == 0)
  else if op = 0xE4 then !inWindow s false (addrAt c 0) (messageBytes (field (wordAt c.image 1) 20 12)) || !messageOk c
  else false

/-- A forwarded entry waits for its commit cut. One whose target does not exist, or with a parameter out of range, goes
no further: its status is that of check 6 or 7 (R59). -/
def forward (op : Nat) (c : Sub) (s : State) : OpOut :=
  match coreOf op c s with
  | .done st r t =>
    if (st = stBadParam ∨ st = stBadTarget) ∧ r = 0 ∧ rangeFails op c s then .done st r t else .wait .cut [] s
  | _ => .wait .cut [] s

/-- A corrupt entry: only its tag is used (R59). -/
def crcFail (c : Sub) (s : State) : State :=
  let s1 := consumed c s
  let p := qpOf s1 c.qp
  complete c stCrcFail 0 (setQp c.qp { p with crcErrs := BitVec.ofNat 16 (satAdd 0xFFFF p.crcErrs.toNat 1) } s1)

/-- The front end fetches the entry at the head of a ring. -/
def fetchEntry (qp : Nat) (ws image : List Word) (s : State) : State :=
  let c := entryOfWords qp ws image
  let op := field (wordAt ws 0) 0 8
  if (qpOf s qp).sqHead = (qpOf s qp).sqTail then s
  else if !entryCrcOk ws then
    let c0 := { c with flags := 0 }
    if fetchable s c0 then crcFail c0 s else notFetched qp s
  else startReads (submit op (if isFast op then coreOf op else forward op) c s)

/-- An entry that ORDER held may go on: every entry before it has posted its final completion. -/
def orderReady (s : State) (x : Cmd) : Bool :=
  x.wait == .order && x.aux.all fun t => !(openTags s x.sub.qp).any fun y => word y.toNat == t

/-- It goes on as an entry just fetched. -/
def releaseOrder (x : Cmd) (s : State) : State :=
  let s1 := { s with hif := { s.hif with cmds := s.hif.cmds.erase x } }
  match checkState x.op x.sub s1.dev with
  | some st => complete x.sub st 0 s1
  | none => startReads (execEntry x.op (if isFast x.op then coreOf x.op else forward x.op) x.sub s1)

/-- Every entry that ORDER need no longer hold, at most n. -/
def releaseOrders : Nat → State → State
  | 0, s => s
  | n + 1, s => match s.hif.cmds.find? (orderReady s) with
    | none => s
    | some x => releaseOrders n (releaseOrder x s)

/-- The same for all that wait. -/
def orderCut (s : State) : State := releaseOrders s.hif.cmds.length s

/-- ENTRY_FETCH (R59): the words the front end reads at the head of the ring, and the words that the command's own DMA
will read. -/
def execEntryFetch (qp : Nat) (ws image : List Word) (s : State) : Outcome :=
  guarded (decide (qp < 64)) (orderCut (fetchEntry qp ws image s))

/-! TIMED_PLACEMENT -/

/-- A command of the timed store whose token is due: AT_SN - 1 is the present sample. -/
def placeable (s : State) (x : Cmd) : Bool := x.wait == .timed && x.sub.atSn == s.sn + 1

/-- The placement of a timed command. -/
def placement (x : Cmd) (s : State) : OpOut :=
  if x.op = 0x10 then opPlaceWrite 0 x.sub s
  else if x.op = 0x11 then opPlaceWrite 1 x.sub s
  else opPlaceReq (x.op == 0x41) x.sub s

/-- Places one timed command, or refuses it after F (12 R391). -/
def placeTimed (x : Cmd) (s : State) : State :=
  let s1 := { s with hif := { s.hif with cmds := s.hif.cmds.erase x } }
  finish x.op x.sub (if afterF x.op s1 then failSt stNotInState s1 else placement x s1)

/-- TIMED_PLACEMENT (R84). -/
def execTimedPlacement (qp : Nat) (tag : BitVec 16) (s : State) : Outcome :=
  guarded (decide (qp < 64)) (
    match s.hif.cmds.find? fun x => placeable s x && x.sub.qp == qp && x.sub.tag == tag with
    | none => s
    | some x => orderCut (placeTimed x s))

/-- Every timed command due in the present sample, before the next cut. -/
def placeDue (s : State) : State := forEach (s.hif.cmds.filter (placeable s)) placeTimed s

/-! FORWARDED_COMMIT -/

/-- A forwarded command that both planes have and whose image has arrived. SESS_START and SESS_ABORT commit in INPUT_CUT
itself. -/
def forwardable (x : Cmd) : Bool := x.wait == .cut && x.op != 0x43 && x.op != 0x45 && x.committed.isNone && imageHere x

/-- Forwarded and not committed, its image arrived or not: what a firmware fault can end. -/
def faultable (x : Cmd) : Bool := x.wait == .cut && x.committed.isNone && imageHere x

/-- A forwarded command is executed: it ends, waits on, or takes a channel for the bytes it writes; with no channel
free it waits where it is (13 R415). -/
def commitForwarded (x : Cmd) (s : State) : State :=
  let s1 := { s with hif := { s.hif with cmds := s.hif.cmds.erase x } }
  if afterF x.op s1 then complete x.sub stNotInState 0 s1
  else if overtaken x.op s1 then complete x.sub stPlaneSwitch 0 s1
  else match coreOf x.op x.sub s1 with
    | .write a bs r t =>
      if bs.isEmpty then complete x.sub stOk r t
      else match freeChannel x.op t with
        | none => s
        | some k =>
          let u := { t with hif := { t.hif with cmds := t.hif.cmds ++ [{ x with wait := .device }] } }
          if x.op = 0x93 then startFetch k x a (fetchRecs x.sub s1) r u else startChannel k x false a bs.length bs r u
    | o => finish x.op x.sub o

/-- A firmware fault before the commit point (Table 2-13): the command completes INTERNAL without effect, and 0x1F7 names
the plane, with four diagnostic words that the spec does not give (17 Table 17-2). -/
def firmwareFault (x : Cmd) (s : State) : State :=
  let s1 := { s with hif := { s.hif with cmds := s.hif.cmds.erase x } }
  let (d0, s2) := takeFree s1
  let (d1, s3) := takeFree s2
  complete x.sub stInternal 0
    (raiseExt 0x1F7 (word (1 + readNo s * 2 ^ 8)) [loWord d0, hiWord d0, loWord d1, hiWord d1] s3)

/-- FORWARDED_COMMIT (R70). -/
def execForwardedCommit (qp : Nat) (fwd : Forwarded) (s : State) : Outcome :=
  guarded (decide (qp < 64)) (
    match s.hif.cmds.find? fun x => (if fwd.fault then faultable x else forwardable x) && x.sub.qp == qp && x.sub.tag == fwd.tag with
    | none => s
    | some x => afterState s (orderCut
        (if fwd.fault && !afterF x.op s && !overtaken x.op s then firmwareFault x s else commitForwarded x s)))

end Sys2Proof.Machine
end

