-- ==== Sys2Proof/Machine/Regs.lean ====
section
/-! DEFINITION. The PCIe configuration header and capabilities (02 R42, R43, R79), and what a host reads in BAR0 (02 R47 to R54,
13 R417 to R424, 17 R518, R528). -/

namespace Sys2Proof.Machine

/-! Configuration space -/

/-- What the function declares of itself (02 R42, R43). -/
structure PcieFunction where
  vendor : Nat
  device : Nat
  revision : Nat
  classCode : Nat
  /-- greatest Max_Payload_Size and Max_Read_Request_Size, in bytes -/
  maxPayload : Nat
  maxReadRequest : Nat
  tenBitTags : Bool
  errorReporting : Bool
  functionLevelReset : Bool
  /-- vectors, table offset and PBA offset in BAR0 (BIR 0) -/
  msixVectors : Nat
  msixTable : Nat
  msixPba : Nat
  intx : Bool
  msi : Bool
  aspmL0s : Bool
  aspmL1 : Bool
  virtualFunctions : Nat
  bar0Size : Nat
  deriving DecidableEq, Repr

/-- The one physical function of the device (R42, R43, R47, R79). -/
def pcieFunction : PcieFunction :=
  { vendor := 0x1F3D, device := 0xA124, revision := 0x03, classCode := 0x118000
    maxPayload := 512, maxReadRequest := 4096, tenBitTags := true, errorReporting := true, functionLevelReset := true
    msixVectors := 64, msixTable := 0x3000, msixPba := 0x3800, intx := false, msi := false, aspmL0s := false, aspmL1 := false
    virtualFunctions := 0, bar0Size := 0x100000 }

/-- The words of the configuration header that R42 names: identifiers at 0x00, class code and revision at 0x08. -/
def configHeader (off : Nat) : Option Word :=
  if off = 0x00 then some (word (pcieFunction.device * 2 ^ 16 + pcieFunction.vendor))
  else if off = 0x08 then some (word (pcieFunction.classCode * 2 ^ 8 + pcieFunction.revision))
  else none

/-! Device registers (R48) -/

/-- Encoding of a device state (01 R28, Table 1-3); OFF has none, and no register is read in it. -/
def devCode : DevState → Nat
  | .off => 0
  | .start => 1
  | .ready => 2
  | .run => 3
  | .idle => 4
  | .standby => 5
  | .safe => 7

/-- DEV_STATUS.DEGRADED: in RUN or IDLE, the plane that is not ACTIVE is not STANDBY (01 R32), or one monitor drives both STO
lines (09 R302). -/
def devDegraded (s : State) : Bool := (s.dev == .run || s.dev == .idle) && activeNo s != 0 && degraded s

/-- DEV_ID (Table 2-2). -/
def devId : Word := 0xA1240043

/-- DEV_STATUS (Table 2-3). -/
def devStatus (s : State) : Word :=
  word (devCode s.dev + (devDegraded s).toNat * 2 ^ 8 + s.boot.legacyEn.toNat * 2 ^ 9 + (!lockOpen s).toNat * 2 ^ 10
    + (decide (256 ≤ backlog s)).toNat * 2 ^ 11 + s.ump.a.code % 16 * 2 ^ 16 + s.ump.b.code % 16 * 2 ^ 20)

/-- DEV_SN (Table 2-4): 0 until the first tick after reset. -/
def devSn (s : State) : Word := if s.boot.preTick then 0 else s.sn

/-- DEV_FW_LOAD (Table 2-5). -/
def devFwLoad (s : State) : Word := word (s.hif.load + min 256 (backlog s) * 2 ^ 16)

/-- The region of the device registers. -/
def readDev (s : State) (off : Nat) : Word :=
  if off = 0x0 then devId else if off = 0x4 then devStatus s else if off = 0x8 then devSn s
  else if off = 0xC then devFwLoad s else 0

/-! Queue pairs, doorbells, MSI-X (R51, R54, R79) -/

/-- QP_STATUS (Table 2-7). -/
def qpStatus (s : State) (q : Nat) : Word :=
  let p := qpOf s q
  word (p.err.toNat + p.errCause.toNat * 2 + p.paused.toNat * 2 ^ 3 + p.retry.toNat * 2 ^ 4 + p.pauseSrc.toNat * 2 ^ 5
    + (openTags s q).length % 4096 * 2 ^ 8 + p.sqHead % 4096 * 2 ^ 20)

/-- A register of queue pair q at an offset of its block. -/
def readQp (s : State) (q o : Nat) : Word :=
  let p := qpOf s q
  if o = 0x00 then loWord p.sqBase else if o = 0x04 then hiWord p.sqBase
  else if o = 0x08 then loWord p.cqBase else if o = 0x0C then hiWord p.cqBase
  else if o = 0x10 then p.ctrl else if o = 0x14 then qpStatus s q
  else if o = 0x18 then word p.crcErrs.toNat else 0

/-- A doorbell: the last value written (R54). -/
def readDoorbell (s : State) (k : Nat) : Word := if k % 2 = 0 then (qpOf s (k / 2)).tailReg else (qpOf s (k / 2)).headReg

/-- Half i of a 64-bit value. -/
def half (d : DWord) (i : Nat) : Word := if i = 0 then loWord d else hiWord d

/-! DMA windows, translation and channels (13 R417 to R424) -/

/-- A register of window w. -/
def readWin (s : State) (w o : Nat) : Word :=
  let x := (tget {} s.mem.wins w : Window)
  if o = 0x00 then setField (loWord x.base) 0 12 0 else if o = 0x04 then hiWord x.base
  else if o = 0x08 then setField (loWord x.limit) 0 12 0xFFF else if o = 0x0C then hiWord x.limit
  else if o = 0x10 then x.ctrl else 0

/-- A translation register (Table 13-12); XLAT_INV is write-only. -/
def readXlat (s : State) (o : Nat) : Word :=
  if o = 0x00 then word (s.mem.xlatEn.toNat + s.mem.invBusy.toNat * 2)
  else if o = 0x08 then loWord s.mem.xlatRoot else if o = 0x0C then hiWord s.mem.xlatRoot
  else if o = 0x18 then s.mem.xlatMisses else 0

/-- State of channel k as DMA_CH_STATUS shows it: CH1 runs while the stream does; CH0 while a completion waits for its page,
and it is IDLE between bursts. -/
def chState (s : State) (k : Nat) : Nat :=
  if k = 0 then (!s.hif.posts.isEmpty).toNat
  else if k = 1 ∧ (dmaCh s 1).state = 0 then s.recorder.stream.run.toNat
  else (dmaCh s k).state

/-- What channel 0 is at: the first completion that waits, else its latest burst. -/
def ch0Burst (s : State) : Ch0 :=
  match s.hif.posts.head? with
  | some e => { qp := e.qp, tag := e.tag, host := cqAddr s e.qp, length := 16 }
  | none => s.hif.ch0

/-- Channel k as its registers show it. The hardware builds the descriptors of CH0, one for each burst, and of CH1, one for each
record, which serves the REC_STREAM that started the stream (R417, log entry 121). -/
def chView (s : State) (k : Nat) : DmaCh :=
  let x := dmaCh s k
  if k = 0 then
    let b := ch0Burst s
    { state := chState s 0, dir := b.dir, qp := b.qp, tag := b.tag, host := b.host, length := b.length
      done := if s.hif.posts.isEmpty then b.length else 0, region := Config.devOffset 0 / 2 ^ 36 % 16, dev := Config.devOffset 0 }
  else if k = 1 then
    let t := s.recorder.stream
    let y := (streamNext s).getD {}
    { x with state := chState s 1, qp := t.qp, tag := t.tag, host := t.addr + t.tail - t.off, length := recBytes y, done := t.off
             dev := y.off }
  else x

/-- DMA_CH_STATUS (Table 13-10). -/
def chStatus (s : State) (k : Nat) : Word :=
  let x := chView s k
  word (x.tag.toNat + x.qp % 64 * 2 ^ 16 + x.dir.toNat * 2 ^ 22 + x.urgent.toNat * 2 ^ 23 + x.cause % 16 * 2 ^ 24
    + x.state * 2 ^ 28)

/-- Device offset of a channel's transfer: that of the capture buffers (region 2) is where the command's slots lie, and that of a
record or a staged image is its place in the DRAM; for the others the spec gives none (log entry 90). -/
def chOffset (s : State) (k : Nat) : Nat :=
  let x := dmaCh s k
  if k ≤ 1 then (chView s k).dev
  else match (s.hif.cmds.find? (servedBy x)) with
  | some c => if c.op = 0x25 then c.sub.target * 0x40000 + 8 * (par c.sub 1).toNat
    else if c.op = 0x93 then x.dev
    else if c.op = 0xA8 then bufBase (readNo s)
    else Config.devOffset k
  | none => Config.devOffset k

/-- Word i of a channel's current descriptor (Table 13-8): one descriptor carries a transfer (log entry 90). -/
def chDesc (s : State) (k i : Nat) : Word :=
  let x := chView s k
  if x.state = 0 ∧ (k ≠ 0 ∨ x.length = 0) then 0
  else if i = 0 then word (x.tag.toNat + x.qp % 64 * 2 ^ 16 + x.plane % 4 * 2 ^ 24 + 2 ^ 26 + x.urgent.toNat * 2 ^ 27
    + (if x.dir then 1 else 2) * 2 ^ 28)
  else if i = 1 then word x.length
  else if i = 2 then word x.host
  else if i = 3 then word (x.host / 2 ^ 32)
  else if i = 4 then word (chOffset s k)
  else if i = 5 then word (chOffset s k / 2 ^ 32 % 16 + x.region % 16 * 16)
  else if i = 6 then 0xFF
  else 0

/-- A register of channel k (Table 13-9). -/
def readCh (s : State) (k o : Nat) : Word :=
  let x := chView s k
  if o = 0x00 then chStatus s k
  else if o = 0x08 then word x.faultVa else if o = 0x0C then word (x.faultVa / 2 ^ 32)
  else if o = 0x10 then word x.done else if o = 0x14 then word (x.done / 2 ^ 32)
  else if 0x20 ≤ o then chDesc s k ((o - 0x20) / 4) else 0

/-! Events and the recorder (17 R518, R528) -/

/-- The word whose bit b is f b. -/
def bitsWord (f : Nat → Bool) : Word := word (((upTo 32).map fun b => (f b).toNat * 2 ^ b).sum)

/-- PEND of a source. -/
def pendOf (s : State) (src : Nat) : Bool := bit (evtCfg s src) 31

/-- A source with IRQ_EN and VECTOR v has PEND set. -/
def vecPending (s : State) (v : Nat) : Bool :=
  (upTo 512).any fun k => pendOf s k && bit (evtCfg s k) 25 && field (evtCfg s k) 16 6 == v

/-- The region of event routing (Table 17-3). -/
def readEvt (s : State) (o : Nat) : Word :=
  if o < 0x800 then evtCfg s (o / 4)
  else if o < 0x840 then bitsWord fun b => pendOf s (32 * ((o - 0x800) / 4) + b)
  else if o = 0x840 then bitsWord (vecPending s)
  else if o = 0x844 then bitsWord fun b => vecPending s (32 + b)
  else if 0x900 ≤ o then tget 0 s.evts.data (0x40 + (o - 0x900) / 4)
  else 0

/-- Word i of recorder slot n as the window shows it: a record, the skip mark of a skipped slot, or zeros. -/
def slotShown (s : State) (n i : Nat) : Word :=
  let ws : List Word := tget [] s.evts.slots n
  if 65536 ≤ n then 0
  else if wordAt ws 15 = markValid then wordAt ws i
  else if i = 15 ∧ wordAt ws 15 = markSkip then markSkip
  else 0

/-- The region of the event recorder (Table 17-5). -/
def readEvr (s : State) (o : Nat) : Word :=
  if o = 0x0 then word s.evts.cursor
  else if o = 0x4 then word (s.evts.next % 2 ^ 17 + s.evts.full.toNat * 2 ^ 31)
  else if o = 0x8 then s.led.evrDropped
  else if o = 0xC then word s.led.evrGen.toNat
  else if 0x8000 ≤ o then slotShown s (s.evts.cursor + (o - 0x8000) / 64) (o % 64 / 4)
  else 0

/-! BAR0 (R47, Table 2-1) -/

/-- An aligned 32-bit read at an offset of BAR0, at one instant; reserved offsets read 0. -/
def readReg (s : State) (off : Nat) : Word :=
  if off < 0x1000 then readDev s off
  else if off < 0x2000 then readQp s ((off - 0x1000) / 64) (off % 64)
  else if off < 0x2200 then readDoorbell s ((off - 0x2000) / 4)
  else if 0x3000 ≤ off ∧ off < 0x3400 then msixWord s ((off - 0x3000) / 16) (off % 16 / 4)
  else if 0x3800 ≤ off ∧ off < 0x3808 then half s.hif.pba ((off - 0x3800) / 4)
  else if 0x4000 ≤ off ∧ off < 0x4200 then readWin s ((off - 0x4000) / 32) (off % 32)
  else if 0x5000 ≤ off ∧ off < 0x6000 then readEvt s (off - 0x5000)
  else if 0x6000 ≤ off ∧ off < 0x6020 then readXlat s (off - 0x6000)
  else if 0x6400 ≤ off ∧ off < 0x6800 then readCh s ((off - 0x6400) / 64) (off % 64)
  else if 0x10000 ≤ off ∧ off < 0x20000 then readEvr s (off - 0x10000)
  else 0

/-- An aligned 64-bit read: the lower register in bits [31:0]; a 64-bit register as of one instant. -/
def readWide (s : State) (off : Nat) : DWord := dword (readReg s off) (readReg s (off + 4))

/-- The RC counters of BAR0: QP_CRC_ERRS and XLAT_MISSES. -/
def isRcCounter (off : Nat) : Bool := (decide (0x1000 ≤ off ∧ off < 0x2000) && off % 64 == 0x18) || off == 0x6018

/-- An RC counter is cleared. -/
def clearRc (off : Nat) (s : State) : State :=
  if off = 0x6018 then setMem { s.mem with xlatMisses := 0 } s
  else setQp ((off - 0x1000) / 64) { qpOf s ((off - 0x1000) / 64) with crcErrs := 0 } s

/-- A read of an RC counter: its value, and the counter cleared (00 R12). -/
def readClear (off : Nat) (s : State) : State :=
  let t := clearRc off s
  { t with hif := { t.hif with rdata := dw (readReg s off).toNat } }

/-- READ_CLEAR_COUNTER. -/
def execReadClearCounter (off : Nat) (s : State) : Outcome :=
  guarded (isRcCounter off) (if bar0Ok s then readClear off s else s)

end Sys2Proof.Machine
end

