-- ==== Sys2Proof/Machine/Tick.lean ====
section
/-! DEFINITION. The tick (01 R33 to R36): the sample deadline, and the input cut with everything due on it. Rows of one
sample come in the order of 01 Table 1-5 (log entry 9). -/

namespace Sys2Proof.Machine

/-! SAMPLE_DEADLINE -/

/-- t0 + 6.0 µs of a sample: a scan cycle or a shadow read of this sample has read its inputs, loops that lack operands fire, flows
release, and what reads the released values is evaluated (R34, 05 R169, R173, 10 R336, R340, 06 R202, 16 R496). -/
def sampleDeadline (s00 : State) : State :=
  let s := if s00.ump.relDone then s00 else rollDeadline s00
  if halted s || s.ump.relDone || s.boot.preTick then s
  else
    let s0 := onPlanes (shadowRead s) (scanStart s)
    let s1 := onPlanes (fun p => flowRelease (portFree s0) (deadlineFire p)) s0
    let s2 := onPlanes (masksEval s1) s1
    let s3 := onPlanes (sessionsEval s2) s2
    let s4 := onPlanes (trigsEval s3) s3
    orderCut (canSendAll (setUmp { s4.ump with relDone := true } s4))

/-- SAMPLE_DEADLINE (05 R169): once a sample. -/
def execSampleDeadline (s : State) : Outcome := .next (sampleDeadline s)

/-! INPUT_CUT -/

/-- A cut falls: the tick runs, and before the first cut after a reset a plane was elected (12 Table 12-3). -/
def cutRuns (s : State) : Bool :=
  s.dev != .off && s.dev != .standby && (!s.boot.preTick || activeNo s != 0)

/-- A waiting command whose commit point could only fall on a later cut: not one whose commit point is a write of
the ledger. -/
def commitsAtCut (x : Cmd) : Bool :=
  x.committed.isNone && !ledgerCmd x && (match opInfo x.op with | some i => i.commit | none => false)

/-- After F of a PWRFAIL# assertion, or of a final checkpoint that a warm reset waits for, no command commits
(12 R391). -/
def refuseLate (s : State) : State :=
  match lastSample s with
  | none => s
  | some f =>
    if snLater s.sn f then startReads (endCmds commitsAtCut stNotInState (dropChannels commitsAtCut s)) else s

/-- What the planes still owe for the sample that ends. -/
def owedByPlanes (s : State) : State :=
  let s1 := scanProgress 6400 (scanFlush s)
  recFlush (onPlanes (fun p => trigsSettle (drainTasks (portFree s1) p)) s1)

/-- The sample is taken into the record once its signatures are compared and every result of it is there (10 R322, R328). -/
def recDue (s : State) : State :=
  if s.recorder.running && s.ump.sigDone then
    recTick (onPlanes (fun p => trigsSettle (drainTasks (portFree s) p)) s)
  else s

/-- INTERVAL_CLOSE (10 R324): complete intervals close in ascending booth number up to this one. -/
def execIntervalClose (booth : Nat) (s : State) : Outcome :=
  let t := recDue s
  guarded (decide (booth < 16)) (if t.recorder.running && t.recorder.taken then closeDue (booth + 1) t else t)

/-- TIME_RECORD (10 R326): behind the intervals that close on its tick. -/
def execTimeRecord (s : State) : Outcome :=
  let t := recDue s
  .next (if t.recorder.running && t.recorder.taken && t.recHeld.isEmpty then timeRecord (closeDue 16 t) else t)

/-- What is still owed for the sample that ends at the cut. -/
def endSample (s : State) : State :=
  if s.boot.preTick then s
  else
    let s1 := winRequests true (placeDue s)
    let s2 := canCut (analogCut (whenRuns s1 (owedByPlanes s1)))
    handOver (shadowLatch (traceCut (onPlanes (keepWords s2) s2)))

/-- SN of the cut: that after the present sample, or the first after start-up (12 R376, R398). -/
def nextSn (s : State) : Word := if s.boot.preTick then s.boot.firstSn else s.sn + 1

/-- SN, device time and the umpire's counts advance. -/
def advanceSn (s : State) : State :=
  let n := nextSn s
  let s1 := timeCut (onPlanes (fun p => { p with sn := n }) { s with sn := n })
  let up : PStat → PStat := fun x => { x with ticks := x.ticks + 1, repTick := false }
  enterReady <| supplyTick { s1 with
    boot := { s1.boot with preTick := false }
    ump := { s1.ump with
      a := up s1.ump.a, b := up s1.ump.b
      ticks := if s1.boot.firstCommit then s1.ump.ticks + 1 else s1.ump.ticks
      relDone := false, sigDone := false } }

/-- GP inputs as sampled: GP96 to GP127 belong to the window bus with LEGACY_EN (19 R568). -/
def sampleGp (gp : List Word) (s : State) : State :=
  { s with pins := { s.pins with gpIn := (upTo 128).foldl (fun t n =>
      tset false t n (bit (wordAt gp (n / 32)) (n % 32) && !(s.boot.legacyEn && decide (96 ≤ n)))) [] } }

/-- One encoder's count as latched, extended since reset (08 R270). -/
def sampleEnc (enc : List Word) (bad : BitVec 16) (k : Nat) (s : State) : State :=
  let w := wordAt enc k
  let d := (w - tget 0 s.pins.enc k).toInt
  if enc.length ≤ k then s
  else { s with pins := { s.pins with
    enc := tset 0 s.pins.enc k w
    encPos := tset 0 s.pins.encPos k (tget 0 s.pins.encPos k + d)
    encStep := tset 0 s.pins.encStep k d
    encIllegal := tset false s.pins.encIllegal k (bad.getLsbD k) } }

/-- The pins at t0. -/
def samplePins (gp enc : List Word) (bad : BitVec 16) (s : State) : State :=
  forEach (upTo 16) (sampleEnc enc bad) (sampleGp gp s)

/-- The committed value and FENCED of a bound channel return to its loop (01 R23, 03 R102). -/
def returnLoop (o : Outs) (l : Nat) (p : Plane) : Plane :=
  match loopChan p l with
  | none => p
  | some c =>
    let sn := BitVec.ofNat 16 p.sn.toNat
    let toks := [mkToken 2 0 l (tget 0 o.chan c) false sn, mkToken 2 2 l (word ((tget false o.fenced c).toNat * 8)) false sn]
    forEach (toks.filter fun t => !p.fab.lostFb.contains (t.loop, t.port)) applyFeedback p

/-- The feedback of the latest commit, but for what was discarded for its parity (05 R160). -/
def feedback (o : Outs) (p : Plane) : Plane :=
  let p1 := forEach ((loopRecs p).map fun r => r.loop) (returnLoop o) p
  setFab { p1.fab with lostFb := [] } p1

/-- Loops that are still in a restore (12 R398). -/
def heldLoops (s : State) : List Nat := if s.boot.restorePending then s.boot.restoreLoops else []

/-- Every axis may tick again. -/
def axesCut (p : Plane) : Plane :=
  { p with axes := { p.axes with hid := p.axes.hid.map fun x => (x.1, { x.2 with ticked := false }) } }

/-- A SESS_ABORT, or a SESS_START of session n, that waits for its commit cut. -/
def waitingAbort (x : Cmd) : Bool := x.op == 0x45 && x.wait == .cut
def waitingStart (n : Nat) (x : Cmd) : Bool := x.op == 0x43 && x.wait == .cut && x.sub.target == n

/-- The claimed session has an ABORT of the window to take at this cut (19 R576). -/
def winAbortDue (s : State) : Bool :=
  winAccepts s && s.window.claimed && (match s.window.request with | some (c, d) => c && d == 5 | none => false)

/-- A SESS_ABORT at its commit cut (06 R208, R219): the requests stamped for the cut are dropped with it. -/
def abortAt (x : Cmd) (s : State) : State :=
  let s1 := { s with hif := { s.hif with cmds := s.hif.cmds.erase x } }
  if afterF x.op s1 then complete x.sub stNotInState 0 s1
  else if overtaken x.op s1 then complete x.sub stPlaneSwitch 0 s1
  else match opSessAbort x.sub (onPlanes (abortTakes x.sub.target) s1) with
    | .done st r t => if st = stOk then finish x.op x.sub (.done st r t) else finish x.op x.sub (.done st r s1)
    | _ => s1

/-- The window's ABORT at its commit cut. -/
def winAbortAt (s : State) : State :=
  let n := s.window.session
  if !winAbortDue s then s
  else match winOp 5 n (setOwner n false (onPlanes (abortTakes n) s)) with
    | .done st _ t => if st = stOk then winDone (setOwner n true t) else winDone (setWstat 0 s)
    | _ => winDone (setWstat 0 s)

/-- A SESS_START at its commit cut (06 R205, R217). -/
def startAt (x : Cmd) (s : State) : State :=
  let s1 := { s with hif := { s.hif with cmds := s.hif.cmds.erase x } }
  if afterF x.op s1 then complete x.sub stNotInState 0 s1
  else if overtaken x.op s1 then complete x.sub stPlaneSwitch 0 s1
  else finish x.op x.sub (opSessStart x.sub s1)

/-- The claimed session n has a START of the window to take at this cut (19 R576). -/
def winStartDue (n : Nat) (s : State) : Bool :=
  winAccepts s && s.window.claimed && s.window.session == n && s.window.request == some (true, 1)

/-- One session at the cut: what it resolves, then a start of it that waits (06 R205). -/
def sessionCut (n : Nat) (s : State) : State :=
  let s1 := onPlanes (resolveSession s n) s
  let s2 := forEach (s1.hif.cmds.filter (waitingStart n)) startAt s1
  if winStartDue n s2 then winDone (winCmdAt 1 s2) else s2

/-- The execution completes OK. -/
def succeeds : OpOut → Bool
  | .done st _ _ => st == stOk
  | _ => false

/-- Sessions that an abort takes at the cut: one whose tests it passes (06 R208, R219). -/
def abortsTaken (s : State) : List Nat :=
  ((s.hif.cmds.filter fun x => waitingAbort x && !afterF x.op s && !overtaken x.op s && succeeds (opSessAbort x.sub s)).map
      fun x => x.sub.target)
    ++ (if winAbortDue s && succeeds (winOp 5 s.window.session (setOwner s.window.session false s)) then [s.window.session] else [])

/-- The sessions at the cut: those deferred to it, aborts, then every other in ascending number (06 R205, R208). -/
def recipeCut (s : State) : State :=
  let waiting := s.hif.cmds.filter waitingAbort
  let s1 := onPlanes sessionsOpen s
  let named := abortsTaken s1
  let s2 := onPlanes (sessionsEarly s1 named) s1
  let s3 := winAbortAt (forEach waiting abortAt s2)
  onPlanes sessionsClose (forEach (upTo 128) sessionCut (onPlanes (sessionsAbort s3) s3))

/-- What the planes take at the cut, in the order of 03 R95, R111 and 05 R165: feedback, context-write tokens, the quiet
ticks of the booth groups so far (R126), the scan engine's mode and requests, sessions, the window's writes, divisors,
wakes. -/
def planesCut (s : State) : State :=
  let s1 := onPlanes (fun p => reportsCut (fabricTurn (axesShown p))) s
  let s2 := if s1.boot.firstCommit then onPlanes (feedback s1.outs) s1 else s1
  let s3 := scanCut (onPlanes (fun p => groupsCut (ctxWritesCut p)) s2)
  let s4 := if scanOn s3 then onPlanesSl requestsCut s3 else s3
  let s5 := winWritesCut (recipeCut s4)
  let s6 := onPlanes (fun p => trigsArm (axesCut (divCut (heldLoops s5) p))) s5
  forEach (upTo 4) (wakeGroup 4) s6

/-- DEV_FW_LOAD.LOAD (02 Table 2-5): the spec gives no value for the work of the management complex, so the percentage is
free from 0 to 100 (log entry 84). -/
def loadCut (s : State) : State :=
  let (v, s1) := takeFree s
  { s1 with hif := { s1.hif with load := v.toNat % 101 } }

/-- What is due on the cut outside the planes' computing. -/
def sharedCut (s : State) : State :=
  let s1 := afeCut (suspendCut (loadCut (coalCut (recCut (lockCut (levelCut (sealOpenCut (onPlanesSl safeCut s))))))))
  winRequests false (winCut (planeCut s1))

/-- The input cut: what the ending sample owes, the new SN, and everything due on it. -/
def inputCut (gp enc : List Word) (bad : BitVec 16) (s : State) : State :=
  if !cutRuns s then orderCut s
  else
    let s1 := fieldCut (samplePins gp enc bad (advanceSn (endSample (orderCut s))))
    orderCut <| readsDone <| refuseLate (sharedCut (if halted s1 then winWritesCut s1 else planesCut s1))

/-- INPUT_CUT (01 R34): the levels of the GP pins, the encoder counters and their illegal transitions at t0. -/
def execInputCut (gp enc : List Word) (bad : BitVec 16) (s : State) : Outcome := .next (inputCut gp enc bad s)

end Sys2Proof.Machine
end

