-- ==== Sys2Proof/Machine/Dispatch.lean ====
section
/-! DEFINITION. The dispatch: one arm per command. -/

namespace Sys2Proof.Machine

/-- The effect of a command on everything but the queue. -/
def exec (i : Instr) (s : State) : Host.Outcome State Fault Refusal :=
  match i with
  | .nop c => Sys2Proof.Machine.execNop c s
  | .identify c => Sys2Proof.Machine.execIdentify c s
  | .setState c => Sys2Proof.Machine.execSetState c s
  | .abort c => Sys2Proof.Machine.execAbort c s
  | .clkStatus c => Sys2Proof.Machine.execClkStatus c s
  | .clkMeasure c => Sys2Proof.Machine.execClkMeasure c s
  | .clkGate c => Sys2Proof.Machine.execClkGate c s
  | .pwrStatus c => Sys2Proof.Machine.execPwrStatus c s
  | .dvfsSet c => Sys2Proof.Machine.execDvfsSet c s
  | .clkoutCfg c => Sys2Proof.Machine.execClkoutCfg c s
  | .loopSetSp c => Sys2Proof.Machine.execLoopSetSp c s
  | .loopSetOut c => Sys2Proof.Machine.execLoopSetOut c s
  | .loopRead c => Sys2Proof.Machine.execLoopRead c s
  | .loopSetMode c => Sys2Proof.Machine.execLoopSetMode c s
  | .loopWrite c => Sys2Proof.Machine.execLoopWrite c s
  | .boothStatus c => Sys2Proof.Machine.execBoothStatus c s
  | .boothKeepAwake c => Sys2Proof.Machine.execBoothKeepAwake c s
  | .modelLoad c => Sys2Proof.Machine.execModelLoad c s
  | .modelReinit c => Sys2Proof.Machine.execModelReinit c s
  | .testStart c => Sys2Proof.Machine.execTestStart c s
  | .testStop c => Sys2Proof.Machine.execTestStop c s
  | .testStatus c => Sys2Proof.Machine.execTestStatus c s
  | .captRead c => Sys2Proof.Machine.execCaptRead c s
  | .dispLoad c => Sys2Proof.Machine.execDispLoad c s
  | .dispSetPrio c => Sys2Proof.Machine.execDispSetPrio c s
  | .dispStatus c => Sys2Proof.Machine.execDispStatus c s
  | .dispFlowStatus c => Sys2Proof.Machine.execDispFlowStatus c s
  | .sessAdvance c => Sys2Proof.Machine.execSessAdvance c s
  | .sessHold c => Sys2Proof.Machine.execSessHold c s
  | .sessLoad c => Sys2Proof.Machine.execSessLoad c s
  | .sessStart c => Sys2Proof.Machine.execSessStart c s
  | .sessResume c => Sys2Proof.Machine.execSessResume c s
  | .sessAbort c => Sys2Proof.Machine.execSessAbort c s
  | .sessUnload c => Sys2Proof.Machine.execSessUnload c s
  | .sessStatus c => Sys2Proof.Machine.execSessStatus c s
  | .scanLoad c => Sys2Proof.Machine.execScanLoad c s
  | .scanMode c => Sys2Proof.Machine.execScanMode c s
  | .scanWrite c => Sys2Proof.Machine.execScanWrite c s
  | .scanRead c => Sys2Proof.Machine.execScanRead c s
  | .scanStatus c => Sys2Proof.Machine.execScanStatus c s
  | .axConfig c => Sys2Proof.Machine.execAxConfig c s
  | .axWrite c => Sys2Proof.Machine.execAxWrite c s
  | .axEnable c => Sys2Proof.Machine.execAxEnable c s
  | .axMove c => Sys2Proof.Machine.execAxMove c s
  | .axStop c => Sys2Proof.Machine.execAxStop c s
  | .axSetLimits c => Sys2Proof.Machine.execAxSetLimits c s
  | .axHome c => Sys2Proof.Machine.execAxHome c s
  | .axGear c => Sys2Proof.Machine.execAxGear c s
  | .axGearSched c => Sys2Proof.Machine.execAxGearSched c s
  | .axClear c => Sys2Proof.Machine.execAxClear c s
  | .axRead c => Sys2Proof.Machine.execAxRead c s
  | .safeStatus c => Sys2Proof.Machine.execSafeStatus c s
  | .safeRequest c => Sys2Proof.Machine.execSafeRequest c s
  | .safeReset c => Sys2Proof.Machine.execSafeReset c s
  | .sconnStatus c => Sys2Proof.Machine.execSconnStatus c s
  | .sealStage c => Sys2Proof.Machine.execSealStage c s
  | .sealCommit c => Sys2Proof.Machine.execSealCommit c s
  | .sealRead c => Sys2Proof.Machine.execSealRead c s
  | .recConfig c => Sys2Proof.Machine.execRecConfig c s
  | .recStream c => Sys2Proof.Machine.execRecStream c s
  | .recStatus c => Sys2Proof.Machine.execRecStatus c s
  | .recFetch c => Sys2Proof.Machine.execRecFetch c s
  | .trigConfig c => Sys2Proof.Machine.execTrigConfig c s
  | .trigCtrl c => Sys2Proof.Machine.execTrigCtrl c s
  | .trigStatus c => Sys2Proof.Machine.execTrigStatus c s
  | .maskLoad c => Sys2Proof.Machine.execMaskLoad c s
  | .maskArm c => Sys2Proof.Machine.execMaskArm c s
  | .maskStatus c => Sys2Proof.Machine.execMaskStatus c s
  | .planeStatus c => Sys2Proof.Machine.execPlaneStatus c s
  | .planeHealth c => Sys2Proof.Machine.execPlaneHealth c s
  | .planeRestore c => Sys2Proof.Machine.execPlaneRestore c s
  | .planeOffline c => Sys2Proof.Machine.execPlaneOffline c s
  | .planeSwap c => Sys2Proof.Machine.execPlaneSwap c s
  | .planeConfig c => Sys2Proof.Machine.execPlaneConfig c s
  | .ledgerStatus c => Sys2Proof.Machine.execLedgerStatus c s
  | .journalRead c => Sys2Proof.Machine.execJournalRead c s
  | .fwStage c => Sys2Proof.Machine.execFwStage c s
  | .fwSelect c => Sys2Proof.Machine.execFwSelect c s
  | .memStatus c => Sys2Proof.Machine.execMemStatus c s
  | .turnSet c => Sys2Proof.Machine.execTurnSet c s
  | .turnRead c => Sys2Proof.Machine.execTurnRead c s
  | .memScrub c => Sys2Proof.Machine.execMemScrub c s
  | .aiConfig c => Sys2Proof.Machine.execAiConfig c s
  | .afeSeq c => Sys2Proof.Machine.execAfeSeq c s
  | .aoConfig c => Sys2Proof.Machine.execAoConfig c s
  | .clConfig c => Sys2Proof.Machine.execClConfig c s
  | .pwConfig c => Sys2Proof.Machine.execPwConfig c s
  | .afeCal c => Sys2Proof.Machine.execAfeCal c s
  | .afeTest c => Sys2Proof.Machine.execAfeTest c s
  | .afeStatus c => Sys2Proof.Machine.execAfeStatus c s
  | .afeMode c => Sys2Proof.Machine.execAfeMode c s
  | .gpConfig c => Sys2Proof.Machine.execGpConfig c s
  | .fpConfig c => Sys2Proof.Machine.execFpConfig c s
  | .fpStation c => Sys2Proof.Machine.execFpStation c s
  | .fpArm c => Sys2Proof.Machine.execFpArm c s
  | .fpStatus c => Sys2Proof.Machine.execFpStatus c s
  | .mgtConfig c => Sys2Proof.Machine.execMgtConfig c s
  | .ptpConfig c => Sys2Proof.Machine.execPtpConfig c s
  | .ptpStatus c => Sys2Proof.Machine.execPtpStatus c s
  | .timeRead c => Sys2Proof.Machine.execTimeRead c s
  | .timeStep c => Sys2Proof.Machine.execTimeStep c s
  | .timeRate c => Sys2Proof.Machine.execTimeRate c s
  | .timeCmp c => Sys2Proof.Machine.execTimeCmp c s
  | .timeStatus c => Sys2Proof.Machine.execTimeStatus c s
  | .canConfig c => Sys2Proof.Machine.execCanConfig c s
  | .canFilter c => Sys2Proof.Machine.execCanFilter c s
  | .canSignal c => Sys2Proof.Machine.execCanSignal c s
  | .canSched c => Sys2Proof.Machine.execCanSched c s
  | .canSend c => Sys2Proof.Machine.execCanSend c s
  | .canCtrl c => Sys2Proof.Machine.execCanCtrl c s
  | .canRxRead c => Sys2Proof.Machine.execCanRxRead c s
  | .canStatus c => Sys2Proof.Machine.execCanStatus c s
  | .evtRoute c => Sys2Proof.Machine.execEvtRoute c s
  | .evtStatus c => Sys2Proof.Machine.execEvtStatus c s
  | .evrRead c => Sys2Proof.Machine.execEvrRead c s
  | .evrClear c => Sys2Proof.Machine.execEvrClear c s
  | .obsCtrl c => Sys2Proof.Machine.execObsCtrl c s
  | .obsRead c => Sys2Proof.Machine.execObsRead c s
  | .lockChallenge c => Sys2Proof.Machine.execLockChallenge c s
  | .lock c => Sys2Proof.Machine.execLock c s
  | .qpEnable qp v => Sys2Proof.Machine.execQpEnable qp v s
  | .qpDisable qp v => Sys2Proof.Machine.execQpDisable qp v s
  | .qpSqTail qp v => Sys2Proof.Machine.execQpSqTail qp v s
  | .qpCqHead qp v => Sys2Proof.Machine.execQpCqHead qp v s
  | .qpRetryClear qp => Sys2Proof.Machine.execQpRetryClear qp s
  | .readClearCounter off => Sys2Proof.Machine.execReadClearCounter off s
  | .evtCfgWrite src v => Sys2Proof.Machine.execEvtCfgWrite src v s
  | .evtAck src v => Sys2Proof.Machine.execEvtAck src v s
  | .dmaChResume ch pte => Sys2Proof.Machine.execDmaChResume ch pte s
  | .dmaChStop ch => Sys2Proof.Machine.execDmaChStop ch s
  | .xlatInvAll => Sys2Proof.Machine.execXlatInvAll s
  | .xlatInvPage page => Sys2Proof.Machine.execXlatInvPage page s
  | .xlatInvDone => Sys2Proof.Machine.execXlatInvDone s
  | .registerWrite off wide v => Sys2Proof.Machine.execRegisterWrite off wide v s
  | .functionLevelReset => Sys2Proof.Machine.execFunctionLevelReset s
  | .linkDown => Sys2Proof.Machine.execLinkDown s
  | .linkUp rate width => Sys2Proof.Machine.execLinkUp rate width s
  | .d3hotEntry => Sys2Proof.Machine.execD3hotEntry s
  | .d0Entry => Sys2Proof.Machine.execD0Entry s
  | .entryFetch qp words image => Sys2Proof.Machine.execEntryFetch qp words image s
  | .coalesceTimeout qp => Sys2Proof.Machine.execCoalesceTimeout qp s
  | .timedPlacement qp tag => Sys2Proof.Machine.execTimedPlacement qp tag s
  | .backlogEased => Sys2Proof.Machine.execBacklogEased s
  | .forwardedCommit qp fwd => Sys2Proof.Machine.execForwardedCommit qp fwd s
  | .inputCut gp enc encBad => Sys2Proof.Machine.execInputCut gp enc encBad s
  | .tokenDelivery loop port v q sn slot src bad => Sys2Proof.Machine.execTokenDelivery loop port v q sn slot src bad s
  | .taskFire booth => Sys2Proof.Machine.execTaskFire booth s
  | .loopExecution loop => Sys2Proof.Machine.execLoopExecution loop s
  | .coastLimitReached loop => Sys2Proof.Machine.execCoastLimitReached loop s
  | .staleLimitReached loop => Sys2Proof.Machine.execStaleLimitReached loop s
  | .sampleDeadline => Sys2Proof.Machine.execSampleDeadline s
  | .stepDurationDue sess => Sys2Proof.Machine.execStepDurationDue sess s
  | .triggerArmed eng => Sys2Proof.Machine.execTriggerArmed eng s
  | .triggerWindowComplete eng => Sys2Proof.Machine.execTriggerWindowComplete eng s
  | .outputCommit bad => Sys2Proof.Machine.execOutputCommit bad s
  | .signatureExchange => Sys2Proof.Machine.execSignatureExchange s
  | .checkRollVerdict okA okB => Sys2Proof.Machine.execCheckRollVerdict okA okB s
  | .heartbeatDeadline hbA hbB => Sys2Proof.Machine.execHeartbeatDeadline hbA hbB s
  | .planeResignation plane cls unit => Sys2Proof.Machine.execPlaneResignation plane cls unit s
  | .switchoverElection => Sys2Proof.Machine.execSwitchoverElection s
  | .healthReport plane arrived => Sys2Proof.Machine.execHealthReport plane arrived s
  | .selfTestSlice plane pass => Sys2Proof.Machine.execSelfTestSlice plane pass s
  | .diagnosisPassed plane => Sys2Proof.Machine.execDiagnosisPassed plane s
  | .suspectTimeout plane => Sys2Proof.Machine.execSuspectTimeout plane s
  | .resyncCopyRound plane => Sys2Proof.Machine.execResyncCopyRound plane s
  | .resyncFinalCut plane => Sys2Proof.Machine.execResyncFinalCut plane s
  | .resyncComplete plane => Sys2Proof.Machine.execResyncComplete plane s
  | .resyncTimeout plane => Sys2Proof.Machine.execResyncTimeout plane s
  | .journalWrite ok => Sys2Proof.Machine.execJournalWrite ok s
  | .eventPosting => Sys2Proof.Machine.execEventPosting s
  | .eventRecordWrite ok => Sys2Proof.Machine.execEventRecordWrite ok s
  | .axisTick ax => Sys2Proof.Machine.execAxisTick ax s
  | .stallDeclared ax => Sys2Proof.Machine.execStallDeclared ax s
  | .safetyEvaluation => Sys2Proof.Machine.execSafetyEvaluation s
  | .discrepancyDemand ax => Sys2Proof.Machine.execDiscrepancyDemand ax s
  | .ss1TorqueOff ax => Sys2Proof.Machine.execSs1TorqueOff ax s
  | .stoTestPulse pair ok => Sys2Proof.Machine.execStoTestPulse pair ok s
  | .safetyPduReceive conn pdu => Sys2Proof.Machine.execSafetyPduReceive conn pdu s
  | .safetyWatchdogExpiry conn => Sys2Proof.Machine.execSafetyWatchdogExpiry conn s
  | .safetyPduSend conn => Sys2Proof.Machine.execSafetyPduSend conn s
  | .scanCycleStart => Sys2Proof.Machine.execScanCycleStart s
  | .scanDeadline => Sys2Proof.Machine.execScanDeadline s
  | .scanShadowRead => Sys2Proof.Machine.execScanShadowRead s
  | .instrNop => Sys2Proof.Machine.execInstrNop s
  | .rung n => Sys2Proof.Machine.execRung n s
  | .andBit a => Sys2Proof.Machine.execAndBit a s
  | .andnBit a => Sys2Proof.Machine.execAndnBit a s
  | .orBit a => Sys2Proof.Machine.execOrBit a s
  | .ornBit a => Sys2Proof.Machine.execOrnBit a s
  | .push => Sys2Proof.Machine.execPush s
  | .popand => Sys2Proof.Machine.execPopand s
  | .popor => Sys2Proof.Machine.execPopor s
  | .notRlo => Sys2Proof.Machine.execNotRlo s
  | .outBit a => Sys2Proof.Machine.execOutBit a s
  | .setBit a => Sys2Proof.Machine.execSetBit a s
  | .rstBit a => Sys2Proof.Machine.execRstBit a s
  | .rEdge x => Sys2Proof.Machine.execREdge x s
  | .fEdge x => Sys2Proof.Machine.execFEdge x s
  | .ton x => Sys2Proof.Machine.execTon x s
  | .tof x => Sys2Proof.Machine.execTof x s
  | .tp x => Sys2Proof.Machine.execTp x s
  | .tres x => Sys2Proof.Machine.execTres x s
  | .ctu x => Sys2Proof.Machine.execCtu x s
  | .ctd x => Sys2Proof.Machine.execCtd x s
  | .cres x => Sys2Proof.Machine.execCres x s
  | .cgt a b => Sys2Proof.Machine.execCgt a b s
  | .cge a b => Sys2Proof.Machine.execCge a b s
  | .clt a b => Sys2Proof.Machine.execClt a b s
  | .cle a b => Sys2Proof.Machine.execCle a b s
  | .ceq a b => Sys2Proof.Machine.execCeq a b s
  | .cne a b => Sys2Proof.Machine.execCne a b s
  | .lim lo x hi => Sys2Proof.Machine.execLim lo x hi s
  | .mov a b => Sys2Proof.Machine.execMov a b s
  | .movi a imm => Sys2Proof.Machine.execMovi a imm s
  | .holds x => Sys2Proof.Machine.execHolds x s
  | .park x => Sys2Proof.Machine.execPark x s
  | .force x => Sys2Proof.Machine.execForce x s
  | .evt e code => Sys2Proof.Machine.execEvt e code s
  | .endProg => Sys2Proof.Machine.execEndProg s
  | .boothPowerDown group => Sys2Proof.Machine.execBoothPowerDown group s
  | .boothWakeDone group => Sys2Proof.Machine.execBoothWakeDone group s
  | .intervalClose booth => Sys2Proof.Machine.execIntervalClose booth s
  | .timeRecord => Sys2Proof.Machine.execTimeRecord s
  | .streamBurst head => Sys2Proof.Machine.execStreamBurst head s
  | .dramGrant req ecc => Sys2Proof.Machine.execDramGrant req ecc s
  | .dramRefresh => Sys2Proof.Machine.execDramRefresh s
  | .memoryWatchdogBite => Sys2Proof.Machine.execMemoryWatchdogBite s
  | .scrubBlock ecc => Sys2Proof.Machine.execScrubBlock ecc s
  | .dmaBurst err => Sys2Proof.Machine.execDmaBurst err s
  | .translationWalk ch qp pte => Sys2Proof.Machine.execTranslationWalk ch qp pte s
  | .dmaSuspendTimeout ch => Sys2Proof.Machine.execDmaSuspendTimeout ch s
  | .aiConversion ch codes parityBad => Sys2Proof.Machine.execAiConversion ch codes parityBad s
  | .ne43Recovery ch => Sys2Proof.Machine.execNe43Recovery ch s
  | .injectedTrigger group at5ns codes => Sys2Proof.Machine.execInjectedTrigger group at5ns codes s
  | .calRotationStart group => Sys2Proof.Machine.execCalRotationStart group s
  | .calHandover group diff => Sys2Proof.Machine.execCalHandover group diff s
  | .calCoeffLoaded group coef ok => Sys2Proof.Machine.execCalCoeffLoaded group coef ok s
  | .afeTestDone ch res => Sys2Proof.Machine.execAfeTestDone ch res s
  | .clMeasure ch im lim => Sys2Proof.Machine.execClMeasure ch im lim s
  | .complianceLost ch => Sys2Proof.Machine.execComplianceLost ch s
  | .complianceRestored ch => Sys2Proof.Machine.execComplianceRestored ch s
  | .clOpen ch => Sys2Proof.Machine.execClOpen ch s
  | .retransmitAlarm ch => Sys2Proof.Machine.execRetransmitAlarm ch s
  | .loopvMeasure v => Sys2Proof.Machine.execLoopvMeasure v s
  | .aoOverload ch acting => Sys2Proof.Machine.execAoOverload ch acting s
  | .pwmPeriodStart ch => Sys2Proof.Machine.execPwmPeriodStart ch s
  | .frameReceive port f => Sys2Proof.Machine.execFrameReceive port f s
  | .frameDelivery port => Sys2Proof.Machine.execFrameDelivery port s
  | .outputFrameSend port => Sys2Proof.Machine.execOutputFrameSend port s
  | .stationLost station => Sys2Proof.Machine.execStationLost station s
  | .fieldLinkDown port => Sys2Proof.Machine.execFieldLinkDown port s
  | .fieldLinkUp port => Sys2Proof.Machine.execFieldLinkUp port s
  | .ptpMessageReceive port m => Sys2Proof.Machine.execPtpMessageReceive port m s
  | .ptpMessageSend kind => Sys2Proof.Machine.execPtpMessageSend kind s
  | .mgtLinkChange port up => Sys2Proof.Machine.execMgtLinkChange port up s
  | .timeCompareFire unit => Sys2Proof.Machine.execTimeCompareFire unit s
  | .canFrameReceive ch f tstamp => Sys2Proof.Machine.execCanFrameReceive ch f tstamp s
  | .canSchedRelease ch slot => Sys2Proof.Machine.execCanSchedRelease ch slot s
  | .canTxComplete ch => Sys2Proof.Machine.execCanTxComplete ch s
  | .canTxError ch => Sys2Proof.Machine.execCanTxError ch s
  | .canArbitrationLost ch => Sys2Proof.Machine.execCanArbitrationLost ch s
  | .referenceMessage ch sent => Sys2Proof.Machine.execReferenceMessage ch sent s
  | .busOffRecovery ch => Sys2Proof.Machine.execBusOffRecovery ch s
  | .porstAssert => Sys2Proof.Machine.execPorstAssert s
  | .porstRelease x => Sys2Proof.Machine.execPorstRelease x s
  | .warmRstFall => Sys2Proof.Machine.execWarmRstFall s
  | .warmResetApply => Sys2Proof.Machine.execWarmResetApply s
  | .warmRstRelease x => Sys2Proof.Machine.execWarmRstRelease x s
  | .pwrfailAssert => Sys2Proof.Machine.execPwrfailAssert s
  | .checkpointShadowLatch => Sys2Proof.Machine.execCheckpointShadowLatch s
  | .checkpointValidMark ok => Sys2Proof.Machine.execCheckpointValidMark ok s
  | .pwrfailRelease => Sys2Proof.Machine.execPwrfailRelease s
  | .supplyTrip dom => Sys2Proof.Machine.execSupplyTrip dom s
  | .supplyRestored dom => Sys2Proof.Machine.execSupplyRestored dom s
  | .sealOpenAssert => Sys2Proof.Machine.execSealOpenAssert s
  | .sealOpenDeassert => Sys2Proof.Machine.execSealOpenDeassert s
  | .wakeTimerExpiry => Sys2Proof.Machine.execWakeTimerExpiry s
  | .idleWakeCommit => Sys2Proof.Machine.execIdleWakeCommit s
  | .crystalStable xtal => Sys2Proof.Machine.execCrystalStable xtal s
  | .pllLock plane => Sys2Proof.Machine.execPllLock plane s
  | .firmwareChecked plane found0 found1 => Sys2Proof.Machine.execFirmwareChecked plane found0 found1 s
  | .selfTestDone plane pass => Sys2Proof.Machine.execSelfTestDone plane pass s
  | .planeReady plane => Sys2Proof.Machine.execPlaneReady plane s
  | .startupElection => Sys2Proof.Machine.execStartupElection s
  | .startupTimeout plane => Sys2Proof.Machine.execStartupTimeout plane s
  | .crystalStartTimeout plane => Sys2Proof.Machine.execCrystalStartTimeout plane s
  | .clockMonitorTrip plane pll cause => Sys2Proof.Machine.execClockMonitorTrip plane pll cause s
  | .sharedClockTrip src cause => Sys2Proof.Machine.execSharedClockTrip src cause s
  | .clockSourceRecovered src => Sys2Proof.Machine.execClockSourceRecovered src s
  | .tickAlignment delta trim => Sys2Proof.Machine.execTickAlignment delta trim s
  | .planeAligned plane => Sys2Proof.Machine.execPlaneAligned plane s
  | .tickPeriodCheck okA okB => Sys2Proof.Machine.execTickPeriodCheck okA okB s
  | .trimLimit plane => Sys2Proof.Machine.execTrimLimit plane s
  | .droopFallback plane => Sys2Proof.Machine.execDroopFallback plane s
  | .droopRelease => Sys2Proof.Machine.execDroopRelease s
  | .levelSettleExpiry plane => Sys2Proof.Machine.execLevelSettleExpiry plane s
  | .measurementDone ctr count timeout => Sys2Proof.Machine.execMeasurementDone ctr count timeout s
  | .fieldLockExpiry => Sys2Proof.Machine.execFieldLockExpiry s
  | .nonceExpiry => Sys2Proof.Machine.execNonceExpiry s
  | .opsecWrite ok => Sys2Proof.Machine.execOpsecWrite ok s
  | .tapBypass bits n => Sys2Proof.Machine.execTapBypass bits n s
  | .tapIdcode => Sys2Proof.Machine.execTapIdcode s
  | .tapSample => Sys2Proof.Machine.execTapSample s
  | .tapObsSel sel => Sys2Proof.Machine.execTapObsSel sel s
  | .tapObsData => Sys2Proof.Machine.execTapObsData s
  | .tapReset => Sys2Proof.Machine.execTapReset s
  | .winSpHi loop d => Sys2Proof.Machine.execWinSpHi loop d s
  | .winSpLo loop d => Sys2Proof.Machine.execWinSpLo loop d s
  | .winMoHi loop d => Sys2Proof.Machine.execWinMoHi loop d s
  | .winMoLo loop d => Sys2Proof.Machine.execWinMoLo loop d s
  | .winMode loop d => Sys2Proof.Machine.execWinMode loop d s
  | .winClaim d => Sys2Proof.Machine.execWinClaim d s
  | .winStart => Sys2Proof.Machine.execWinStart s
  | .winHold => Sys2Proof.Machine.execWinHold s
  | .winResume => Sys2Proof.Machine.execWinResume s
  | .winAdvance => Sys2Proof.Machine.execWinAdvance s
  | .winAbort => Sys2Proof.Machine.execWinAbort s
  | .windowStatusRead addr => Sys2Proof.Machine.execWindowStatusRead addr s
  | .windowRead addr => Sys2Proof.Machine.execWindowRead addr s
  | .windowRequestTimeout => Sys2Proof.Machine.execWindowRequestTimeout s
  | .rcStable src => Sys2Proof.Machine.execRcStable src s
  | .pllLockTimeout plane => Sys2Proof.Machine.execPllLockTimeout plane s
  | .canIntegrationDone ch => Sys2Proof.Machine.execCanIntegrationDone ch s
  | .canReceiveError ch => Sys2Proof.Machine.execCanReceiveError ch s
  | .completionTimeout ch qp => Sys2Proof.Machine.execCompletionTimeout ch qp s
  | .ledgerReadBack ok => Sys2Proof.Machine.execLedgerReadBack ok s
  | .operatingSecond => Sys2Proof.Machine.execOperatingSecond s

end Sys2Proof.Machine
end

