-- ==== Sys2Proof/WellFormed.lean ====
section
/-! DEFINITION. Well-formed commands: every object that an operand names exists in the device, and every operand lies in
the range that the spec gives it. -/

namespace Sys2Proof

/-- A submission entry names an existing queue pair (02 R51), and its words fit their fields (02 Table 2-8). -/
def Sub.wf (c : Sub) : Bool :=
  decide (c.qp < 64) && decide (c.target < 2 ^ 32) && decide (c.params.length ≤ 12)

/-- A or B: 1 or 2 (01 R15). -/
def isPlane (p : Nat) : Bool := p == 1 || p == 2

/-- Offset of a read-clear counter of BAR0: QP_CRC_ERRS of a queue pair, or XLAT_MISSES (02 Table 2-6, 13 Table 13-9). -/
def isCounter (off : Nat) : Bool := (decide (0x1000 ≤ off ∧ off < 0x2000) && off % 64 == 0x18) || off == 0x6018

/-- An aligned offset in BAR0 (02 R47). -/
def isRegister (off : Nat) (wide : Bool) : Bool := decide (off % (if wide then 8 else 4) = 0 ∧ off < 0x100000)

/-- A link rate, with 2 for 2.5 GT/s, and a width of 02 R42. -/
def isLink (rate width : Nat) : Bool :=
  (rate == 16 || rate == 8 || rate == 5 || rate == 2) && (width == 4 || width == 2 || width == 1)

/-- Address of LSTAT of a window loop, or of WSTAT (19 R574). -/
def isStatusAddr (a : Nat) : Bool := (decide (a < 0x400) && a % 16 == 8) || a == 0x404

/-- A message type that the engine sends (15 R479). -/
def isPtpKind (k : Nat) : Bool := decide (k ≤ 3) || k == 9 || k == 0xB

/-- The operands of a command lie in their ranges. -/
def Instr.wf : Instr → Bool
  | .nop c => c.wf
  | .identify c => c.wf
  | .setState c => c.wf
  | .abort c => c.wf
  | .clkStatus c => c.wf
  | .clkMeasure c => c.wf
  | .clkGate c => c.wf
  | .pwrStatus c => c.wf
  | .dvfsSet c => c.wf
  | .clkoutCfg c => c.wf
  | .loopSetSp c => c.wf
  | .loopSetOut c => c.wf
  | .loopRead c => c.wf
  | .loopSetMode c => c.wf
  | .loopWrite c => c.wf
  | .boothStatus c => c.wf
  | .boothKeepAwake c => c.wf
  | .modelLoad c => c.wf
  | .modelReinit c => c.wf
  | .testStart c => c.wf
  | .testStop c => c.wf
  | .testStatus c => c.wf
  | .captRead c => c.wf
  | .dispLoad c => c.wf
  | .dispSetPrio c => c.wf
  | .dispStatus c => c.wf
  | .dispFlowStatus c => c.wf
  | .sessAdvance c => c.wf
  | .sessHold c => c.wf
  | .sessLoad c => c.wf
  | .sessStart c => c.wf
  | .sessResume c => c.wf
  | .sessAbort c => c.wf
  | .sessUnload c => c.wf
  | .sessStatus c => c.wf
  | .scanLoad c => c.wf
  | .scanMode c => c.wf
  | .scanWrite c => c.wf
  | .scanRead c => c.wf
  | .scanStatus c => c.wf
  | .axConfig c => c.wf
  | .axWrite c => c.wf
  | .axEnable c => c.wf
  | .axMove c => c.wf
  | .axStop c => c.wf
  | .axSetLimits c => c.wf
  | .axHome c => c.wf
  | .axGear c => c.wf
  | .axGearSched c => c.wf
  | .axClear c => c.wf
  | .axRead c => c.wf
  | .safeStatus c => c.wf
  | .safeRequest c => c.wf
  | .safeReset c => c.wf
  | .sconnStatus c => c.wf
  | .sealStage c => c.wf
  | .sealCommit c => c.wf
  | .sealRead c => c.wf
  | .recConfig c => c.wf
  | .recStream c => c.wf
  | .recStatus c => c.wf
  | .recFetch c => c.wf
  | .trigConfig c => c.wf
  | .trigCtrl c => c.wf
  | .trigStatus c => c.wf
  | .maskLoad c => c.wf
  | .maskArm c => c.wf
  | .maskStatus c => c.wf
  | .planeStatus c => c.wf
  | .planeHealth c => c.wf
  | .planeRestore c => c.wf
  | .planeOffline c => c.wf
  | .planeSwap c => c.wf
  | .planeConfig c => c.wf
  | .ledgerStatus c => c.wf
  | .journalRead c => c.wf
  | .fwStage c => c.wf
  | .fwSelect c => c.wf
  | .memStatus c => c.wf
  | .turnSet c => c.wf
  | .turnRead c => c.wf
  | .memScrub c => c.wf
  | .aiConfig c => c.wf
  | .afeSeq c => c.wf
  | .aoConfig c => c.wf
  | .clConfig c => c.wf
  | .pwConfig c => c.wf
  | .afeCal c => c.wf
  | .afeTest c => c.wf
  | .afeStatus c => c.wf
  | .afeMode c => c.wf
  | .gpConfig c => c.wf
  | .fpConfig c => c.wf
  | .fpStation c => c.wf
  | .fpArm c => c.wf
  | .fpStatus c => c.wf
  | .mgtConfig c => c.wf
  | .ptpConfig c => c.wf
  | .ptpStatus c => c.wf
  | .timeRead c => c.wf
  | .timeStep c => c.wf
  | .timeRate c => c.wf
  | .timeCmp c => c.wf
  | .timeStatus c => c.wf
  | .canConfig c => c.wf
  | .canFilter c => c.wf
  | .canSignal c => c.wf
  | .canSched c => c.wf
  | .canSend c => c.wf
  | .canCtrl c => c.wf
  | .canRxRead c => c.wf
  | .canStatus c => c.wf
  | .evtRoute c => c.wf
  | .evtStatus c => c.wf
  | .evrRead c => c.wf
  | .evrClear c => c.wf
  | .obsCtrl c => c.wf
  | .obsRead c => c.wf
  | .lockChallenge c => c.wf
  | .lock c => c.wf
  | .qpEnable qp _ => decide (qp < 64)
  | .qpDisable qp _ => decide (qp < 64)
  | .qpSqTail qp _ => decide (qp < 64)
  | .qpCqHead qp _ => decide (qp < 64)
  | .qpRetryClear qp => decide (qp < 64)
  | .readClearCounter off => isCounter off
  | .evtCfgWrite src _ => decide (src < 512)
  | .evtAck src _ => decide (src < 512)
  | .dmaChResume ch _ => decide (ch < 16)
  | .dmaChStop ch => decide (ch < 16)
  | .xlatInvAll => true
  | .xlatInvPage page => decide (page < 2 ^ 36)
  | .xlatInvDone => true
  | .registerWrite off wide _ => isRegister off wide
  | .functionLevelReset => true
  | .linkDown => true
  | .linkUp rate width => isLink rate width
  | .d3hotEntry => true
  | .d0Entry => true
  | .entryFetch qp words _ => decide (qp < 64) && words.length == 16
  | .coalesceTimeout qp => decide (qp < 64)
  | .timedPlacement qp _ => decide (qp < 64)
  | .backlogEased => true
  | .forwardedCommit qp _ => decide (qp < 64)
  | .inputCut gp enc _ => gp.length == 4 && decide (enc.length ≤ 16)
  | .tokenDelivery loop port _ _ _ slot src bad => decide (loop < 1024) && decide (port < 4) && decide (slot < 100) && decide (src < 13) && decide (bad < 8)
  | .taskFire booth => decide (booth < 16)
  | .loopExecution loop => decide (loop < 1024)
  | .coastLimitReached loop => decide (loop < 1024)
  | .staleLimitReached loop => decide (loop < 1024)
  | .sampleDeadline => true
  | .stepDurationDue sess => decide (sess < 128)
  | .triggerArmed eng => decide (eng < 16)
  | .triggerWindowComplete eng => decide (eng < 16)
  | .outputCommit bad => bad.all fun c => decide (c < 4352)
  | .signatureExchange => true
  | .checkRollVerdict _ _ => true
  | .heartbeatDeadline _ _ => true
  | .planeResignation plane cls unit => isPlane plane && decide (1 ≤ cls ∧ cls ≤ 5) && decide (unit < 256)
  | .switchoverElection => true
  | .healthReport plane _ => isPlane plane
  | .selfTestSlice plane _ => isPlane plane
  | .diagnosisPassed plane => isPlane plane
  | .suspectTimeout plane => isPlane plane
  | .resyncCopyRound plane => isPlane plane
  | .resyncFinalCut plane => isPlane plane
  | .resyncComplete plane => isPlane plane
  | .resyncTimeout plane => isPlane plane
  | .journalWrite _ => true
  | .eventPosting => true
  | .eventRecordWrite _ => true
  | .axisTick ax => decide (ax < 64)
  | .stallDeclared ax => decide (ax < 64)
  | .safetyEvaluation => true
  | .discrepancyDemand ax => decide (ax < 64)
  | .ss1TorqueOff ax => decide (ax < 64)
  | .stoTestPulse pair _ => decide (pair < 8)
  | .safetyPduReceive conn _ => decide (conn < 64)
  | .safetyWatchdogExpiry conn => decide (conn < 64)
  | .safetyPduSend conn => decide (conn < 64)
  | .scanCycleStart => true
  | .scanDeadline => true
  | .scanShadowRead => true
  | .instrNop => true
  | .rung n => decide (n < 65536)
  | .andBit a => decide (a < 0x200000)
  | .andnBit a => decide (a < 0x200000)
  | .orBit a => decide (a < 0x200000)
  | .ornBit a => decide (a < 0x200000)
  | .push => true
  | .popand => true
  | .popor => true
  | .notRlo => true
  | .outBit a => decide (a < 0x200000)
  | .setBit a => decide (a < 0x200000)
  | .rstBit a => decide (a < 0x200000)
  | .rEdge x => decide (x < 0x2000)
  | .fEdge x => decide (x < 0x2000)
  | .ton x => decide (x < 0x2000)
  | .tof x => decide (x < 0x2000)
  | .tp x => decide (x < 0x2000)
  | .tres x => decide (x < 0x2000)
  | .ctu x => decide (x < 0x2000)
  | .ctd x => decide (x < 0x2000)
  | .cres x => decide (x < 0x2000)
  | .cgt a b => decide (a < 0x10000) && decide (b < 0x10000)
  | .cge a b => decide (a < 0x10000) && decide (b < 0x10000)
  | .clt a b => decide (a < 0x10000) && decide (b < 0x10000)
  | .cle a b => decide (a < 0x10000) && decide (b < 0x10000)
  | .ceq a b => decide (a < 0x10000) && decide (b < 0x10000)
  | .cne a b => decide (a < 0x10000) && decide (b < 0x10000)
  | .lim lo x hi => decide (lo < 0x10000) && decide (x < 0x10000) && decide (hi < 0x10000)
  | .mov a b => decide (a < 0x10000) && decide (b < 0x10000)
  | .movi a _ => decide (a < 0x10000)
  | .holds x => decide (x < 0x2000)
  | .park x => decide (x < 0x2000)
  | .force x => decide (x < 0x2000)
  | .evt e code => decide (e < 0x2000) && decide (code < 0x10000)
  | .endProg => true
  | .boothPowerDown group => decide (group < 4)
  | .boothWakeDone group => decide (group < 4)
  | .intervalClose booth => decide (booth < 16)
  | .timeRecord => true
  | .streamBurst _ => true
  | .dramGrant req ecc => decide (req < 64) && decide (ecc < 4)
  | .dramRefresh => true
  | .memoryWatchdogBite => true
  | .scrubBlock ecc => decide (ecc < 3)
  | .dmaBurst err => decide (err < 3) || decide (4 ≤ err ∧ err < 68)
  | .translationWalk ch qp _ => decide (ch < 16) && decide (qp < 64)
  | .dmaSuspendTimeout ch => decide (2 ≤ ch ∧ ch < 16)
  | .aiConversion ch _ _ => decide (ch < 64)
  | .ne43Recovery ch => decide (ch < 64)
  | .injectedTrigger group at5ns _ => decide (group < 4) && decide (at5ns < 2000)
  | .calRotationStart group => decide (group < 4)
  | .calHandover group _ => decide (group < 4)
  | .calCoeffLoaded group coef _ => decide (group < 4) && decide (coef.length ≤ 8)
  | .afeTestDone ch _ => decide (ch < 68)
  | .clMeasure ch _ _ => decide (ch < 32)
  | .complianceLost ch => decide (ch < 32)
  | .complianceRestored ch => decide (ch < 32)
  | .clOpen ch => decide (ch < 32)
  | .retransmitAlarm ch => decide (ch < 32)
  | .loopvMeasure v => decide (v < 0x10000)
  | .aoOverload ch _ => decide (ch < 32)
  | .pwmPeriodStart ch => decide (ch < 64)
  | .frameReceive port _ => decide (port < 8)
  | .frameDelivery port => decide (port < 8)
  | .outputFrameSend port => decide (port < 8)
  | .stationLost station => decide (station < 256)
  | .fieldLinkDown port => decide (port < 8)
  | .fieldLinkUp port => decide (port < 8)
  | .ptpMessageReceive port _ => decide (port < 2)
  | .ptpMessageSend kind => isPtpKind kind
  | .mgtLinkChange port _ => decide (port < 2)
  | .timeCompareFire unit => decide (unit < 4)
  | .canFrameReceive ch _ _ => decide (ch < 8)
  | .canSchedRelease ch slot => decide (ch < 8) && decide (slot < 32)
  | .canTxComplete ch => decide (ch < 8)
  | .canTxError ch => decide (ch < 8)
  | .canArbitrationLost ch => decide (ch < 8)
  | .referenceMessage ch _ => decide (ch < 8)
  | .busOffRecovery ch => decide (ch < 8)
  | .porstAssert => true
  | .porstRelease x => decide (x.bootSel < 4)
  | .warmRstFall => true
  | .warmResetApply => true
  | .warmRstRelease x => decide (x.bootSel < 4)
  | .pwrfailAssert => true
  | .checkpointShadowLatch => true
  | .checkpointValidMark _ => true
  | .pwrfailRelease => true
  | .supplyTrip dom => decide (dom < 20)
  | .supplyRestored dom => decide (dom < 20)
  | .sealOpenAssert => true
  | .sealOpenDeassert => true
  | .wakeTimerExpiry => true
  | .idleWakeCommit => true
  | .crystalStable xtal => decide (xtal < 3)
  | .pllLock plane => isPlane plane
  | .firmwareChecked plane _ _ => isPlane plane
  | .selfTestDone plane _ => isPlane plane
  | .planeReady plane => isPlane plane
  | .startupElection => true
  | .startupTimeout plane => isPlane plane
  | .crystalStartTimeout plane => isPlane plane
  | .clockMonitorTrip plane _ cause => isPlane plane && decide (1 ≤ cause ∧ cause ≤ 3)
  | .sharedClockTrip src cause => decide (2 ≤ src ∧ src ≤ 4 ∧ 1 ≤ cause ∧ cause ≤ 2)
  | .clockSourceRecovered src => decide (src < 8)
  | .tickAlignment _ _ => true
  | .planeAligned plane => isPlane plane
  | .tickPeriodCheck _ _ => true
  | .trimLimit plane => isPlane plane
  | .droopFallback plane => isPlane plane
  | .droopRelease => true
  | .levelSettleExpiry plane => isPlane plane
  | .measurementDone ctr _ _ => decide (ctr < 8)
  | .fieldLockExpiry => true
  | .nonceExpiry => true
  | .opsecWrite _ => true
  | .tapBypass bits n => decide (bits < 2 ^ n)
  | .tapIdcode => true
  | .tapSample => true
  | .tapObsSel _ => true
  | .tapObsData => true
  | .tapReset => true
  | .winSpHi loop _ => decide (loop < 64)
  | .winSpLo loop _ => decide (loop < 64)
  | .winMoHi loop _ => decide (loop < 64)
  | .winMoLo loop _ => decide (loop < 64)
  | .winMode loop _ => decide (loop < 64)
  | .winClaim _ => true
  | .winStart => true
  | .winHold => true
  | .winResume => true
  | .winAdvance => true
  | .winAbort => true
  | .windowStatusRead addr => isStatusAddr addr
  | .windowRead addr => decide (addr < 0x1000)
  | .windowRequestTimeout => true
  | .rcStable src => src == 3 || src == 4
  | .pllLockTimeout plane => isPlane plane
  | .canIntegrationDone ch => decide (ch < 8)
  | .canReceiveError ch => decide (ch < 8)
  | .completionTimeout ch qp => decide (ch < 16) && decide (qp < 64)
  | .ledgerReadBack _ => true
  | .operatingSecond => true

end Sys2Proof
end

