-- ==== Sys2Proof/Safety.lean ====
section
/-! DEFINITION. What claims speak of: the legal roles of the planes, the canonical form of host memory, the parts of the
state that a completion may change, and when a host command is executed. -/

namespace Sys2Proof.Machine

/-- At most one plane is ACTIVE (11 R349). -/
def State.oneActive (s : State) : Prop := ¬ (s.ump.a.code = 1 ∧ s.ump.b.code = 1)

/-- Memory that the device wrote in the host is in canonical form: addresses strictly rising. -/
def memSorted : List Host.Cell → Bool
  | [] => true
  | [_] => true
  | a :: b :: r => decide (a.1 < b.1) && memSorted (b :: r)

/-- The canonical form of host memory. -/
abbrev State.memWf (s : State) : Prop := memSorted s.hif.hostMem = true

/-- The device without its host interface, its events, its trace port, its counts and the TLB through which channel 0
goes: what no completion, interrupt or event record changes. -/
def State.bare (s : State) : State :=
  { s with
    hif := {}, evts := {}, trace := {}, tally := [], led := { s.led with evrDropped := 0 }, freeCtr := 0
    mem := { s.mem with tlb := [], counts := [] } }

/-- The entry of a host command is fetched now, passes the checks of Table 2-10, waits for nothing and goes on to its
execution (02 R55, R59, R70, R73, R74, 12 R391). -/
def runsNow (op : Nat) (c : Sub) (s : State) : Bool :=
  let t := refreshOrders s
  fetchable t c && !tagHeld t c && (checkForm op c).isNone && (checkState op c s.dev).isNone
    && (!hasOrder c || (openTags t c.qp).isEmpty) && !wouldBusy op c t && !afterF op s && !overtaken op s

/-- The state in which an accepted command is executed: its entry is consumed and counted. -/
def begun (op : Nat) (c : Sub) (s : State) : State :=
  stally (if isFast op then 0x85 else 0x86) 1 (consumed c (refreshOrders s))

/-- An accepted host command whose own conditions hold ends its execution as stated: it completes with a status and a
result, waits for a later row, or writes host memory and completes. -/
def Completes (op : Nat) (row : Sub → Instr) (ok : Sub → State → Prop) (out : Sub → State → OpOut) : Prop :=
  ∀ c s, runsNow op c s = true → ok c (begun op c s) → exec (row c) s = .next (finish op c (out c (begun op c s)))

/-- An accepted axis command that a step may give too: it acts in every executing plane, but not where a step of the same cut
commanded the axis (01 R27, 08 R258). -/
def axisDone (a : Nat) (f : Plane → Plane) (t : State) : OpOut :=
  okSn (onExec (fun p => if p.fab.stepNamed.contains (stepAxis a) then p else f p) t)

/-- Plane that a PLANE parameter names: 0 the active one, 1 Plane A, 2 Plane B. -/
def namedPlane (w : Word) (s : State) : Nat := if w = 0 then readNo s else w.toNat

/-- The PLANE parameter names a plane that can be read. -/
def planeNamed (w : Word) (s : State) : Bool := decide (w.toNat ≤ 2) && computes (pstat s (namedPlane w s))

/-- A scan-instruction row: while the engine runs, each computing plane whose executing cycle takes the word w next makes
the effect f and goes to the next instruction; every other plane, and everything else, stays (07 R222, R230, R239, log entry
13). -/
def ScanRow (i : Instr) (w : DWord) (f : Plane → Plane) : Prop :=
  ∀ s, exec i s
    = .next (if scanOn s then onPlanes (fun p => if nextInstr p = some w then scanAdvance f p else p) s else s)

/-! The rows of the host commands, by opcode (02 Table 2-11) -/

/-- Opcodes 0x00 to 0x1F. -/
def hostRowsFront : List (Nat × (Sub → Instr)) :=
  [(0x00, .nop), (0x01, .identify), (0x02, .setState), (0x03, .abort), (0x04, .clkStatus), (0x05, .clkMeasure),
    (0x06, .clkGate), (0x07, .pwrStatus), (0x08, .dvfsSet), (0x09, .clkoutCfg), (0x10, .loopSetSp),
    (0x11, .loopSetOut), (0x12, .loopRead), (0x13, .loopSetMode), (0x14, .loopWrite), (0x15, .boothStatus),
    (0x16, .boothKeepAwake)]
/-- Opcodes 0x20 to 0x3F. -/
def hostRowsLoops : List (Nat × (Sub → Instr)) :=
  [(0x20, .modelLoad), (0x21, .modelReinit), (0x22, .testStart), (0x23, .testStop), (0x24, .testStatus),
    (0x25, .captRead), (0x30, .dispLoad), (0x31, .dispSetPrio), (0x32, .dispStatus), (0x33, .dispFlowStatus)]
/-- Opcodes 0x40 to 0x6F. -/
def hostRowsRecipe : List (Nat × (Sub → Instr)) :=
  [(0x40, .sessAdvance), (0x41, .sessHold), (0x42, .sessLoad), (0x43, .sessStart), (0x44, .sessResume),
    (0x45, .sessAbort), (0x46, .sessUnload), (0x47, .sessStatus), (0x60, .scanLoad), (0x61, .scanMode),
    (0x62, .scanWrite), (0x63, .scanRead), (0x64, .scanStatus)]
/-- Opcodes 0x70 to 0x8F. -/
def hostRowsMotion : List (Nat × (Sub → Instr)) :=
  [(0x70, .axConfig), (0x71, .axWrite), (0x72, .axEnable), (0x73, .axMove), (0x74, .axStop), (0x75, .axSetLimits),
    (0x76, .axHome), (0x77, .axGear), (0x78, .axGearSched), (0x79, .axClear), (0x7A, .axRead), (0x80, .safeStatus),
    (0x81, .safeRequest), (0x82, .safeReset), (0x83, .sconnStatus), (0x84, .sealStage), (0x85, .sealCommit),
    (0x86, .sealRead)]
/-- Opcodes 0x90 to 0x9F. -/
def hostRowsRecord : List (Nat × (Sub → Instr)) :=
  [(0x90, .recConfig), (0x91, .recStream), (0x92, .recStatus), (0x93, .recFetch), (0x94, .trigConfig),
    (0x95, .trigCtrl), (0x96, .trigStatus), (0x97, .maskLoad), (0x98, .maskArm), (0x99, .maskStatus)]
/-- Opcodes 0xA0 to 0xBF. -/
def hostRowsPlanes : List (Nat × (Sub → Instr)) :=
  [(0xA0, .planeStatus), (0xA1, .planeHealth), (0xA2, .planeRestore), (0xA3, .planeOffline), (0xA4, .planeSwap),
    (0xA5, .planeConfig), (0xA6, .ledgerStatus), (0xA7, .journalRead), (0xA8, .fwStage), (0xA9, .fwSelect),
    (0xB0, .memStatus), (0xB1, .turnSet), (0xB2, .turnRead), (0xB3, .memScrub)]
/-- Opcodes 0xC0 to 0xCF. -/
def hostRowsAnalog : List (Nat × (Sub → Instr)) :=
  [(0xC0, .aiConfig), (0xC1, .afeSeq), (0xC2, .aoConfig), (0xC3, .clConfig), (0xC4, .pwConfig), (0xC5, .afeCal),
    (0xC6, .afeTest), (0xC7, .afeStatus), (0xC8, .afeMode), (0xC9, .gpConfig)]
/-- Opcodes 0xD0 to 0xDF. -/
def hostRowsField : List (Nat × (Sub → Instr)) :=
  [(0xD0, .fpConfig), (0xD1, .fpStation), (0xD2, .fpArm), (0xD3, .fpStatus), (0xD4, .mgtConfig), (0xD5, .ptpConfig),
    (0xD6, .ptpStatus), (0xD7, .timeRead), (0xD8, .timeStep), (0xD9, .timeRate), (0xDA, .timeCmp),
    (0xDB, .timeStatus)]
/-- Opcodes 0xE0 to 0xEF. -/
def hostRowsBus : List (Nat × (Sub → Instr)) :=
  [(0xE0, .canConfig), (0xE1, .canFilter), (0xE2, .canSignal), (0xE3, .canSched), (0xE4, .canSend), (0xE5, .canCtrl),
    (0xE6, .canRxRead), (0xE7, .canStatus), (0xE8, .evtRoute), (0xE9, .evtStatus), (0xEA, .evrRead),
    (0xEB, .evrClear), (0xEC, .obsCtrl), (0xED, .obsRead), (0xEE, .lockChallenge), (0xEF, .lock)]

/-- Every host command. -/
def hostRows : List (Nat × (Sub → Instr)) :=
  hostRowsFront ++ hostRowsLoops ++ hostRowsRecipe ++ hostRowsMotion ++ hostRowsRecord ++ hostRowsPlanes ++ hostRowsAnalog
    ++ hostRowsField ++ hostRowsBus

/-- Opcodes of the commands that only report. -/
def statusOps : List Nat :=
  [0x00, 0x01, 0x04, 0x07, 0x12, 0x15, 0x24, 0x32, 0x33, 0x47, 0x63, 0x64, 0x7A, 0x80, 0x83, 0x86, 0x92, 0x96, 0x99, 0xA0,
    0xA1, 0xA6, 0xB0, 0xB2, 0xC7, 0xD3, 0xD6, 0xD7, 0xDB, 0xE7, 0xE9, 0xED]

/-- Opcodes of the commands that act on the planes alone. -/
def planeOps : List Nat :=
  [0x10, 0x11, 0x14, 0x16, 0x20, 0x21, 0x22, 0x23, 0x31, 0x40, 0x41, 0x42, 0x43, 0x44, 0x45, 0x46, 0x60, 0x61, 0x62, 0x70,
    0x71, 0x72, 0x73, 0x74, 0x75, 0x76, 0x77, 0x78, 0x79, 0x81, 0x82, 0x94, 0x95, 0x97, 0x98]

/-- Opcodes of the commands that act on no plane; CL_CONFIG (0xC3) may discard an output value in them, TIME_STEP and TIME_RATE
(0xD8, 0xD9) set their device time. -/
def sharedOps : List Nat :=
  statusOps ++ [0x03, 0x05, 0x06, 0x08, 0x09, 0x25, 0x84, 0x85, 0x90, 0x91, 0x93, 0xA2, 0xA5, 0xA7, 0xA8, 0xA9, 0xB1, 0xB3,
    0xC0, 0xC1, 0xC2, 0xC4, 0xC5, 0xC6, 0xC8, 0xD0, 0xD1, 0xD2, 0xD4, 0xD5, 0xDA, 0xE0, 0xE1, 0xE2, 0xE3,
    0xE4, 0xE5, 0xE6, 0xE8, 0xEA, 0xEB, 0xEC, 0xEE]

end Sys2Proof.Machine
end

