-- ==== Sys2Proof/Certificates/Slice0/Obligations.lean ====
section
/-! DEFINITION. The statements for the provers, each from the rules of spec/ that its docstring names. -/

open Sys2Proof Sys2Proof.Machine

/-- NOP, IDENTIFY and ABORT, once executed, complete (02 R71, R80, R81, R83). -/
def Obligations.FrontEndCommandsComplete : Prop :=
  Completes 0x00 .nop (fun _ _ => True) (fun _ t => okRes (dw t.sn.toNat) t)
  ∧ Completes 0x01 .identify (fun c _ => par c 0 = 0)
      (fun _ t => okRes (dw ((fwVersionOf t).toNat * 2 ^ 48 + t.boot.slot * 2 ^ 40 + 0xA124 * 2 ^ 16 + 0x43)) t)
  ∧ Completes 0x01 .identify (fun c _ => par c 0 = 1) (fun _ t => okRes Config.serial t)
  ∧ (∀ x, Completes 0x03 .abort
      (fun c t => ¬ (c.target = c.qp ∧ (par c 0).toNat % 65536 = c.tag.toNat) ∧ abortCmd c t = some x ∧ x.op ≠ 0x03
        ∧ x.committed = none)
      (fun c t => if (abortPost c (abortNow x t)).isSome then .wait .device [word c.target, par c 0, t.sn] (abortNow x t)
        else okSn (abortNow x t)))
  ∧ (∀ x n, Completes 0x03 .abort
      (fun c t => ¬ (c.target = c.qp ∧ (par c 0).toNat % 65536 = c.tag.toNat) ∧ abortCmd c t = some x ∧ x.op ≠ 0x03
        ∧ x.committed = some n)
      (fun _ t => failRes stAlreadyDone n.toNat t))
  ∧ Completes 0x03 .abort
      (fun c t => ¬ (c.target = c.qp ∧ (par c 0).toNat % 65536 = c.tag.toNat) ∧ abortCmd c t = none ∧ abortPost c t = none)
      (fun _ t => failSt stAlreadyDone t)
  ∧ (∀ e, Completes 0x03 .abort
      (fun c t => ¬ (c.target = c.qp ∧ (par c 0).toNat % 65536 = c.tag.toNat) ∧ abortCmd c t = none ∧ abortPost c t = some e
        ∧ e.op ≠ 0x03)
      (fun _ t => failRes stAlreadyDone (e.commit.getD 0).toNat t))

/-- The transitions that SET_STATE commands (02 R82, 01 Table 1-4, 18 R563, R564). -/
def Obligations.SetStateCompletes : Prop :=
  ∀ (c : Sub) (s : State), runsNow 0x02 c s = true →
    let t := begun 0x02 c s
    let p := actPlane t
    let ends := fun (o : OpOut) => exec (.setState c) s = .next (afterState s (finish 0x02 c o))
    (par c 1 = 0 → par c 0 = 3 → s.dev = .ready → p.fab.cfg.isSome = true → s.sealed.valid = true → ends (okSn (toRun t)))
    ∧ (par c 1 = 0 → par c 0 = 2 → s.dev = .run → noSession p = true → axesIn [0, 1] p = true → ends (okSn (toReady t)))
    ∧ (par c 1 = 0 → par c 0 = 4 → s.dev = .run → noSession p = true → axesIn [0] p = true → ((upTo 1024).all (loopIdle p)) = true →
        ends (okSn (toIdle t)))
    ∧ (par c 0 = 5 → s.dev = .ready →
        ends (okRes 0 { t with
          dev := .standby, clock := { t.clock with wake := if par c 1 = 0 then none else some (par c 1) } }))
    ∧ (par c 1 = 0 → par c 0 = 7 → mayEnterSafe s = true → ends (okSn (enterSafe t)))
    ∧ (par c 1 = 0 → par c 0 = 3 → s.dev = .idle → s.clock.idleWake = none → ends (.wait .device [] (beginRun t)))

/-- The clock and power commands, once executed, end as 18 R554 to R559 and R567 say. -/
def Obligations.ClockAndPowerCommandsComplete : Prop :=
  Completes 0x04 .clkStatus (fun c t => isPlane (par c 0).toNat = true ∧ mgtPowered t (par c 0).toNat = true)
      (fun c t => okRes (clkStatusWord t (par c 0).toNat) t)
  ∧ Completes 0x05 .clkMeasure
      (fun c t => field (par c 0) 0 6 < 0x14 ∧ field (par c 0) 8 6 < 0x14 ∧ 1 ≤ (par c 1).toNat ∧ (par c 1).toNat ≤ 16777216
        ∧ (tget {} t.clock.counters c.target : FCount).busy = false)
      (fun c t => .wait .device [] (setCounter c.target
        { busy := true, tag := c.tag, qp := c.qp, meas := field (par c 0) 0 6, ref := field (par c 0) 8 6, gate := (par c 1).toNat }
        (useGate 0x18 t)))
  ∧ Completes 0x06 .clkGate (fun c _ => par c 0 = 0) (fun c t => okSn (useGate c.target t))
  ∧ Completes 0x06 .clkGate (fun c t => par c 0 ≠ 0 ∧ ∀ g ∈ gateSubtree c.target, gateInUse t g = false)
      (fun c t => okSn (setGate c.target false t))
  ∧ Completes 0x07 .pwrStatus (fun _ _ => True) (fun _ t => okRes (pwrStatusWord t) t)
  ∧ Completes 0x08 .dvfsSet (fun c _ => field (par c 0) 0 2 ≠ 3 ∧ field (par c 0) 8 8 ≤ 20)
      (fun c t =>
        let n := field (par c 0) 8 8
        let u := applyLevel 1 { t with clock := { t.clock with
          ceil := field (par c 0) 0 2, settle := if n = 0 then t.clock.settle else n } }
        if levelReached u then okSn u else .wait .device [] u)
  ∧ Completes 0x09 .clkoutCfg (fun c _ => field (par c 0) 0 3 ≤ 3 ∧ ¬ (field (par c 0) 0 3 = 2 ∧ field (par c 0) 16 16 = 0))
      (fun c t =>
        let sel := field (par c 0) 0 3
        let u := if sel = 0 then t else useGate (0x15 + c.target) t
        okSn { u with clock := { u.clock with
          outSel := tset 0 u.clock.outSel c.target sel
          outN := tset 0 u.clock.outN c.target (if sel = 2 then field (par c 0) 16 16 else 0) } })

/-- The value, read, mode and context commands of the loops (02 R84, R85, 03 R122, R123). -/
def Obligations.LoopCommandsComplete : Prop :=
  Completes 0x10 .loopSetSp (fun c t => hasTimed c = false ∧ windowOwns t c.target = false)
      (fun c t => okRes (dw (t.sn + 1).toNat) (placeWrite 0 c.target (par c 0) (t.sn + 1) t))
  ∧ Completes 0x10 .loopSetSp
      (fun c t => hasTimed c = true ∧ snDiff c.atSn t.sn ≤ 100000 ∧ snLater c.atSn (t.sn + 1) = true ∧ windowOwns t c.target = false)
      (fun _ t => .wait .timed [] t)
  ∧ Completes 0x11 .loopSetOut
      (fun c t => hasTimed c = false ∧ loopMode (actPlane t) c.target = 2 ∧ windowOwns t c.target = false
        ∧ ((loopChan (actPlane t) c.target).all fun ch => !outsideFence t.sealed ch (par c 0)) = true)
      (fun c t => okRes (dw (t.sn + 1).toNat) (placeWrite 1 c.target (par c 0) (t.sn + 1) t))
  ∧ Completes 0x11 .loopSetOut
      (fun c t => hasTimed c = true ∧ snDiff c.atSn t.sn ≤ 100000 ∧ snLater c.atSn (t.sn + 1) = true
        ∧ loopMode (actPlane t) c.target = 2 ∧ windowOwns t c.target = false
        ∧ ((loopChan (actPlane t) c.target).all fun ch => !outsideFence t.sealed ch (par c 0)) = true)
      (fun _ t => .wait .timed [] t)
  ∧ Completes 0x12 .loopRead
      (fun c t => (par c 0).toNat % 4 = 0 ∧ (par c 0).toNat ≤ 252 ∧ par c 1 = 1
        ∧ planeNamed (par c 2) t = true ∧ (par c 2 = 0 → t.ump.sw = none))
      (fun c t => okRes (dword (relLw (planeOf t (namedPlane (par c 2) t)) c.target ((par c 0).toNat / 4)) 0) t)
  ∧ Completes 0x12 .loopRead
      (fun c t => (par c 0).toNat % 4 = 0 ∧ (par c 0).toNat ≤ 248 ∧ par c 1 = 2
        ∧ planeNamed (par c 2) t = true ∧ (par c 2 = 0 → t.ump.sw = none))
      (fun c t =>
        let p := planeOf t (namedPlane (par c 2) t)
        let w := (par c 0).toNat / 4
        okRes (dword (relLw p c.target w) (relLw p c.target (w + 1))) t)
  ∧ Completes 0x12 .loopRead
      (fun c t => (par c 0).toNat % 4 = 0 ∧ (par c 0).toNat ≤ 248 ∧ 1 ≤ (par c 1).toNat ∧ (par c 1).toNat ≤ 2
        ∧ par c 2 = 0 ∧ t.ump.sw.isSome = true)
      (fun _ t => .wait .device [] t)
  ∧ Completes 0x13 .loopSetMode
      (fun c t => ((par c 0).toNat ≤ 4 ∨ (par c 0).toNat = 6) ∧ windowOwns t c.target = false
        ∧ modeOk (t.dev == .ready) false c.target (par c 0).toNat (actPlane t) = true)
      (fun c t => okSn (onExecSl (fun sl => setMode sl 0 c.target (par c 0).toNat) (outOfRestore c.target (par c 0).toNat t)))
  ∧ Completes 0x14 .loopWrite
      (fun c t =>
        let n := (par c 1).toNat
        let w := (par c 0).toNat / 4
        (par c 0).toNat % 4 = 0 ∧ 1 ≤ n ∧ n ≤ 8 ∧ (par c 0).toNat + 4 * n ≤ 256
          ∧ ((upTo 8).all fun i => decide (i < n) || par c (2 + i) == 0) = true
          ∧ ((upTo n).all fun i => rwWord (w + i)) = true
          ∧ (w ≠ 0 ∨ field (par c 2) 4 4 = 0)
          ∧ contextOk (writeContext c.target w ((upTo n).map fun i => par c (2 + i)) [] (actPlane t)) c.target = true
          ∧ (w ≤ wSpTarget → wSpTarget < w + n → windowOwns t c.target = false))
      (fun c t => okSn (onExec (fun p => writeContext c.target ((par c 0).toNat / 4)
        ((upTo (par c 1).toNat).map fun i => par c (2 + i)) p.fab.stepNamed p) t))

/-- The booth, model, test and capture commands (03 R124, R125, 04 R152 to R157). -/
def Obligations.BoothModelAndTestCommandsComplete : Prop :=
  Completes 0x15 .boothStatus (fun c t => planeNamed (par c 0) t = true)
      (fun c t => okRes (boothStatusWord (planeOf t (namedPlane (par c 0) t)) c.target) t)
  ∧ Completes 0x16 .boothKeepAwake (fun _ _ => True)
      (fun c t => okSn (onExec (fun p =>
        let q := setGroup c.target { group p c.target with keep := bit (par c 0) 0 } p
        if bit (par c 0) 0 then startWake c.target q else q) t))
  ∧ Completes 0x20 .modelLoad
      (fun c t => field (par c 0) 9 3 = 0 ∧ field (par c 0) 29 2 ≠ 3 ∧ field (par c 0) 0 9 ≤ 256
        ∧ field (par c 5) 0 16 ≤ field (par c 5) 16 16 ∧ (bit (par c 0) 31 = true → field (par c 5) 16 16 ≠ 0)
        ∧ loopMode (actPlane t) c.target ≠ 5 ∧ loopMode (actPlane t) c.target ≠ 7)
      (fun c t => okSn (onExec (fun p =>
        let e := entryOf p c.target
        forEach (upTo 6) (fun i q => setLw c.target (wMcfg + i) (par c i) q)
          (setEntry c.target (entryBits (due e 0) (due e 1) (due e 2) true (due e 4) (bit (par c 6) 0)) p)) t))
  ∧ Completes 0x21 .modelReinit
      (fun c t => loopMode (actPlane t) c.target ≠ 5 ∧ loopMode (actPlane t) c.target ≠ 7)
      (fun c t => okSn (onExec (fun p =>
        let e := entryOf p c.target
        setEntry c.target (entryBits (due e 0) (due e 1) (due e 2) true (due e 4) (due e 5)) p) t))
  ∧ Completes 0x22 .testStart
      (fun c t => testRangesOk c = true ∧ t.dev = .run ∧ testConditions (testFrom c) c.target (actPlane t) = true)
      (fun c t => okSn (onExec (fun p =>
        let f := loopMode p c.target
        setTest c.target (testFrom c) (setEntry c.target (entryAfter (entryOf p c.target) f 5)
          (setLf c.target wCtrl 28 4 f (setLf c.target wCtrl 0 4 5 p)))) t))
  ∧ Completes 0x23 .testStop (fun c t => loopMode (actPlane t) c.target = 5)
      (fun c t => okSn (onExec (fun p => setTest c.target { testOf p c.target with stopReq := true } p) t))
  ∧ Completes 0x24 .testStatus (fun c t => planeNamed (par c 0) t = true)
      (fun c t =>
        let x := testOf (planeOf t (namedPlane (par c 0) t)) c.target
        okRes (dw (x.status + x.cause * 2 ^ 8 + x.fencedSeen.toNat * 2 ^ 16 + x.records * 2 ^ 32)) t)
  ∧ Completes 0x25 .captRead
      (fun c t => (par c 1).toNat ≤ 32767 ∧ 1 ≤ (par c 2).toNat ∧ (par c 1).toNat + (par c 2).toNat ≤ 32768
        ∧ inWindow t true (addrAt c 3) (8 * (par c 2).toNat) = true ∧ planeNamed (par c 0) t = true
        ∧ (group (planeOf t (namedPlane (par c 0) t)) (c.target / 4)).powered = true)
      (fun c t => .write (addrAt c 3)
        (captBytes (planeOf t (namedPlane (par c 0) t)) c.target (par c 1).toNat (par c 2).toNat) (dw (8 * (par c 2).toNat)) t)

/-- The dispatcher commands (05 R183 to R188, 15 R459, 12 R398). -/
def Obligations.DispatchCommandsComplete : Prop :=
  Completes 0x30 .dispLoad
      (fun c t => addrAt c 0 % 8 = 0 ∧ inWindow t false (addrAt c 0) (par c 2).toNat = true ∧ t.dev = .ready
        ∧ fabCheck t (c.image.take ((par c 2).toNat / 4)) (par c 2).toNat = none)
      (fun c t =>
        let f := parseFab (c.image.take ((par c 2).toNat / 4))
        okSn (forEach (upTo 8) gridOrigin (onExecSl (fun sl p => loadFab sl f (loopsOff sl p))
          { t with boot := { t.boot with restoreLoops := [] } })))
  ∧ (∀ f, Completes 0x31 .dispSetPrio
      (fun c t => (actPlane t).fab.cfg = some f ∧ (recOf f c.target).isSome = true
        ∧ loadBad (withPrio (livePrio (actPlane t) f) c.target (field (par c 0) 0 3)) = none)
      (fun c t => okSn (onExec (fun p =>
        setLf c.target wCtrl 21 3 (field (par c 0) 0 3)
          (setFab { p.fab with cfg := p.fab.cfg.map fun g => withPrio g c.target (field (par c 0) 0 3) } p)) t)))
  ∧ Completes 0x32 .dispStatus (fun c t => (par c 1).toNat ≤ 7 ∧ planeNamed (par c 0) t = true)
      (fun c t => okRes (dw (tget 0 (planeOf t (namedPlane (par c 0) t)).fab.counters (par c 1).toNat)) t)
  ∧ Completes 0x33 .dispFlowStatus
      (fun c t => (flowRec (actPlane t) c.target).isSome = true ∧ planeNamed (par c 0) t = true)
      (fun c t =>
        let p := planeOf t (namedPlane (par c 0) t)
        let x := flowStatOf p c.target
        okRes (dw (flowCount p c.target + x.peak * 2 ^ 16 + x.bpTicks * 2 ^ 32 + x.drops * 2 ^ 48)) t)

/-- The recipe commands (02 R86, 06 R216 to R221); SESS_START and SESS_ABORT take effect at their commit cut (06 R205, R208). -/
def Obligations.RecipeCommandsComplete : Prop :=
  Completes 0x40 .sessAdvance
      (fun c t => hasTimed c = false ∧ ownedByWindow (actPlane t) c.target = false ∧ sessState (actPlane t) c.target = ssRunning)
      (fun c t => okRes (dw (t.sn + 1).toNat) (placeReq c.target false (par c 0).toNat (t.sn + 1) t))
  ∧ Completes 0x40 .sessAdvance
      (fun c t => hasTimed c = true ∧ snDiff c.atSn t.sn ≤ 100000 ∧ snLater c.atSn (t.sn + 1) = true
        ∧ ownedByWindow (actPlane t) c.target = false ∧ sessState (actPlane t) c.target = ssRunning)
      (fun _ t => .wait .timed [] t)
  ∧ Completes 0x41 .sessHold
      (fun c t => hasTimed c = false ∧ ownedByWindow (actPlane t) c.target = false ∧ sessState (actPlane t) c.target = ssRunning)
      (fun c t => okRes (dw (t.sn + 1).toNat) (placeReq c.target true (par c 0).toNat (t.sn + 1) t))
  ∧ Completes 0x41 .sessHold
      (fun c t => hasTimed c = true ∧ snDiff c.atSn t.sn ≤ 100000 ∧ snLater c.atSn (t.sn + 1) = true
        ∧ ownedByWindow (actPlane t) c.target = false ∧ sessState (actPlane t) c.target = ssRunning)
      (fun _ t => .wait .timed [] t)
  ∧ Completes 0x42 .sessLoad
      (fun c t =>
        let p := actPlane t
        let img := c.image.take ((par c 2).toNat / 4)
        addrAt c 0 % 8 = 0 ∧ (par c 2).toNat ≤ 1048576 ∧ inWindow t false (addrAt c 0) (par c 2).toNat = true
          ∧ ownedByWindow p c.target = false
          ∧ (sessState p c.target = ssIdle ∨ sessState p c.target = ssDone ∨ (sessState p c.target = ssRestored
            ∧ scopeConflict p c.target (parseSess img (par c 2).toNat).scope = none))
          ∧ sessCheck p c.target img (par c 2).toNat = none)
      (fun c t => okSn (onExec (loadSess c.target (parseSess (c.image.take ((par c 2).toNat / 4)) (par c 2).toNat)) t))
  ∧ Completes 0x43 .sessStart (fun _ _ => True) (fun _ t => .wait .cut [] t)
  ∧ Completes 0x44 .sessResume
      (fun c t =>
        let p := actPlane t
        ownedByWindow p c.target = false
          ∧ (sessState p c.target = ssHeld ∨ (sessState p c.target = ssRestored ∧ bit (sw p c.target wSstate) 26 = false))
          ∧ (field (par c 0) 0 16 = 0xFFFF ∨ field (par c 0) 0 16 < nStep (sessImg p c.target)))
      (fun c t => .done stOk (dw (t.sn.toNat + (if ilHold (actPlane t) c.target then 2 ^ 32 else 0)))
        (onExec (resumeSess c.target (field (par c 0) 0 16)) t))
  ∧ Completes 0x45 .sessAbort (fun _ _ => True) (fun _ t => .wait .cut [] t)
  ∧ Completes 0x46 .sessUnload
      (fun c t => ownedByWindow (actPlane t) c.target = false
        ∧ (sessState (actPlane t) c.target = ssLoaded ∨ sessState (actPlane t) c.target = ssDone))
      (fun c t => okSn (onExec (fun q =>
        setSess { q.sess with imgs := tset none q.sess.imgs c.target none } (setSessState c.target ssIdle q)) t))
  ∧ Completes 0x47 .sessStatus
      (fun c t => (par c 1).toNat % 4 = 0 ∧ (par c 1).toNat ≤ 56 ∧ planeNamed (par c 0) t = true)
      (fun c t =>
        let p := planeOf t (namedPlane (par c 0) t)
        let w := (par c 1).toNat / 4
        okRes (dword (sw p c.target w) (sw p c.target (w + 1))) t)
  ∧ (∀ (x : Cmd) (s : State), x.op = 0x43 →
      let t := { s with hif := { s.hif with cmds := s.hif.cmds.erase x } }
      let p := actPlane t
      let n := x.sub.target
      let i := sessImg p n
      let k := field (par x.sub 0) 0 16
      afterF 0x43 t = false → overtaken 0x43 t = false → ownedByWindow p n = false → t.dev = .run →
      (sessState p n = ssLoaded ∨ sessState p n = ssDone) → nStep i ≠ 0 → (k = 0xFFFF ∨ k < nStep i) →
      scopeConflict p n i.scope = none → boundAction p i = none → fencedAction t.sealed p i = none →
      startAt x s = finish 0x43 x.sub (okSn (onExec (startSess t n (if k = 0xFFFF then i.first else k)) t)))
  ∧ (∀ (x : Cmd) (s : State), x.op = 0x45 →
      let s1 := { s with hif := { s.hif with cmds := s.hif.cmds.erase x } }
      let t := onPlanes (abortTakes x.sub.target) s1
      let p := actPlane t
      let n := x.sub.target
      let k := field (par x.sub 0) 0 16
      afterF 0x45 s1 = false → overtaken 0x45 s1 = false → ownedByWindow p n = false →
      (k = 0xFFFE ∧ (sessState p n = ssRunning ∨ sessState p n = ssHeld ∨ sessState p n = ssFaulted
          ∨ sessState p n = ssRestored ∨ sessState p n = ssAborting)
        ∨ (k = 0xFFFF ∨ k < nStep (sessImg p n)) ∧ bit (sw p n wSstate) 26 = false
          ∧ (sessState p n = ssRunning ∨ sessState p n = ssHeld ∨ sessState p n = ssFaulted ∨ sessState p n = ssRestored)) →
      abortAt x s = finish 0x45 x.sub (okSn (onExec (sessAbort t n k false (par x.sub 1)) t)))

/-- The scan engine commands (07 R249 to R253). -/
def Obligations.ScanCommandsComplete : Prop :=
  Completes 0x60 .scanLoad
      (fun c t => addrAt c 0 % 8 = 0 ∧ inWindow t false (addrAt c 0) (par c 2).toNat = true ∧ (actPlane t).scan.mode = 0
        ∧ progCheck t (actPlane t) (c.image.take ((par c 2).toNat / 4)) (par c 2).toNat (bit (par c 3) 0) = none)
      (fun c t =>
        let img := c.image.take ((par c 2).toNat / 4)
        let w := progTimes (progInstrs img)
        .done stOk (dw (t.sn.toNat + tens w.2 % 65536 * 2 ^ 32 + tens w.1 % 65536 * 2 ^ 48))
          (onExec (loadProg img (bit (par c 3) 0)) t))
  ∧ Completes 0x61 .scanMode (fun c t => (par c 0).toNat ≠ 3 ∧ (actPlane t).scan.mode = (par c 0).toNat) (fun _ t => okSn t)
  ∧ Completes 0x61 .scanMode
      (fun c t => (actPlane t).scan.mode ≠ (par c 0).toNat
        ∧ (par c 0 = 0 ∨ (par c 0 = 1 ∧ (actPlane t).scan.prog.isSome = true)
          ∨ (par c 0 = 2 ∧ (actPlane t).scan.mode ≠ 0 ∧ lockOpen t = true)))
      (fun c t => if modeNow (actPlane t) (par c 0).toNat then okSn (onExec (enterMode (par c 0).toNat) t)
        else .wait .device [word (par c 0).toNat] t)
  ∧ Completes 0x62 .scanWrite
      (fun c t => onlineWord (par c 0).toNat = true ∧ (actPlane t).scan.prog.isSome = true ∧ (actPlane t).scan.mode ≠ 1)
      (fun c t => okSn (onExec (writeStanding (par c 0).toNat (par c 1)) t))
  ∧ Completes 0x62 .scanWrite
      (fun c t => onlineWord (par c 0).toNat = true ∧ (actPlane t).scan.prog.isSome = true ∧ (actPlane t).scan.mode = 1)
      (fun c t => .wait .device [par c 0, par c 1] t)
  ∧ (∀ r, Completes 0x63 .scanRead
      (fun c t => areaOf (par c 0).toNat = some r ∧ 1 ≤ (par c 1).toNat ∧ (par c 1).toNat ≤ 2
        ∧ (par c 0).toNat + (par c 1).toNat - 1 ≤ r.2 ∧ bit (par c 2) 0 = false
        ∧ planeNamed (word (field (par c 2) 1 2)) t = true)
      (fun c t =>
        let x := (planeOf t (namedPlane (word (field (par c 2) 1 2)) t)).scan.doneData
        okRes (dword (tget 0 x (par c 0).toNat) (if par c 1 = 2 then tget 0 x ((par c 0).toNat + 1) else 0)) t))
  ∧ (∀ r x, Completes 0x63 .scanRead
      (fun c t => areaOf (par c 0).toNat = some r ∧ 1 ≤ (par c 1).toNat ∧ (par c 1).toNat ≤ 2
        ∧ (par c 0).toNat + (par c 1).toNat - 1 ≤ r.2 ∧ bit (par c 2) 0 = true ∧ isInput (par c 0).toNat = true
        ∧ planeNamed (word (field (par c 2) 1 2)) t = true
        ∧ (planeOf t (namedPlane (word (field (par c 2) 1 2)) t)).scan.shadow = some x)
      (fun c t => okRes (dword (tget 0 x (par c 0).toNat) (if par c 1 = 2 then tget 0 x ((par c 0).toNat + 1) else 0)) t))
  ∧ Completes 0x64 .scanStatus (fun c t => planeNamed (par c 0) t = true)
      (fun c t =>
        let x := (planeOf t (namedPlane (par c 0) t)).scan
        okRes (dw (x.mode + x.fault.toNat * 4 + x.prog.isSome.toNat * 8 + min 15 x.ovrCnt * 16 + x.ovrTotal * 256
          + tens x.lastTime % 65536 * 2 ^ 32 + tens x.maxTime % 65536 * 2 ^ 48)) t)

/-- The axis commands (08 R255 to R286): the state each needs and what it makes of the axis. -/
def Obligations.AxisCommandsComplete : Prop :=
  Completes 0x72 .axEnable (fun c t => t.dev = .run ∧ par c 0 = 1 ∧ axState (actPlane t) c.target = 0)
        (fun c t => axisDone c.target (fun p => if axState p c.target = 0 then setAxState c.target 1 p else p) t)
  ∧ Completes 0x72 .axEnable
        (fun c t => t.dev = .run ∧ par c 0 = 0 ∧ (axState (actPlane t) c.target = 1 ∨ axState (actPlane t) c.target = 6))
        (fun c t => axisDone c.target (fun p => if axState p c.target = 1 ∨ axState p c.target = 6
          then setXf c.target xAstat 23 1 0 (setAxState c.target 0 p) else p) t)
  ∧ Completes 0x73 .axMove
        (fun c t =>
          let q := axLimits (par c) c.target (actPlane t)
          t.dev = .run ∧ axState (actPlane t) c.target = 1 ∧ pulseOk q c.target = true ∧ limitsSet q c.target = true)
        (fun c t => axisDone c.target (fun p => (axMove (par c) c.target p).2) t)
  ∧ Completes 0x74 .axStop
        (fun c t => t.dev = .run ∧ (axState (actPlane t) c.target = 2 ∨ axState (actPlane t) c.target = 4
          ∨ axState (actPlane t) c.target = 5 ∨ (axState (actPlane t) c.target = 3 ∧ bit (par c 0) 0 = true
            ∧ bit (xw (actPlane t) c.target xAstat) 19 = false)))
        (fun c t => axisDone c.target (fun p => (axStop (bit (par c 0) 0) c.target p).2) t)
  ∧ Completes 0x75 .axSetLimits
        (fun c t =>
          let p := actPlane t
          let q := axLimits (par c) c.target p
          pulseOk q c.target = true ∧ axState p c.target ≠ 4 ∧ axState p c.target ≠ 7
            ∧ (axState p c.target = 2 →
              (xw q c.target xDmax = xw p c.target xDmax ∧ xw q c.target xJmax = xw p c.target xJmax)
              ∨ brake (limitsOf q c.target).d (limitsOf q c.target).j (axDir p c.target * x64 p c.target xCvel * 2 ^ 56)
                  (axDir p c.target * x64 p c.target xCacc * 2 ^ 48)
                ≤ axDir p c.target * (x64 p c.target xTarget - x64 p c.target xCpos) * 2 ^ 64))
        (fun c t => axisDone c.target (fun p => (axSetLimits (par c) c.target p).2) t)
  ∧ Completes 0x76 .axHome
        (fun c t =>
          let p := actPlane t
          let v := (xw p c.target xHomeVel).toInt
          t.dev = .run ∧ axState p c.target = 1 ∧ v ≠ 0 ∧ xw p c.target xHomeSpan ≠ 0 ∧ limitsSet p c.target = true
            ∧ (xw p c.target xFeLim ≠ 0 ∨ (emfSrc p c.target ≠ 0 ∧ (xw p c.target xLaVmin).toNat ≤ v.natAbs)))
        (fun c t => axisDone c.target (fun p => (axHome c.target p).2) t)
  ∧ Completes 0x77 .axGear
        (fun c t =>
          let p := actPlane t
          t.dev = .run ∧ axState p c.target = 1
            ∧ ((field (par c 0) 28 4 = 1 ∧ field (par c 0) 0 6 ≤ 15)
              ∨ (field (par c 0) 28 4 = 2 ∧ gearedTo p c.target 65 (field (par c 0) 0 6) = false))
            ∧ par c 2 ≠ 0
            ∧ (masterStep t p (par c 0)).natAbs * (par c 1).toInt.natAbs
                ≤ (xw p c.target xEngVmax).toNat * 2 ^ 16 * (par c 2).toNat)
        (fun c t => axisDone c.target (fun p => (axGear t (par c) c.target p).2) t)
  ∧ Completes 0x78 .axGearSched (fun c t => t.dev = .run ∧ axState (actPlane t) c.target = 5 ∧ par c 4 ≠ 0)
        (fun c t => axisDone c.target (fun p => (axGearSched (par c) c.target p).2) t)
  ∧ Completes 0x79 .axClear (fun c t => t.dev = .run ∧ axState (actPlane t) c.target = 6)
      (fun c t => okSn (onExec (fun p => (axClear c.target p).2) t))
  ∧ Completes 0x70 .axConfig
      (fun c t =>
        let p := actPlane t
        let q := setXw c.target xAcfg2 (par c 1) (setXw c.target xAcfg (par c 0) p)
        let own := match p.scan.prog with | some g => g.ownSt | none => []
        field (par c 0) 28 4 ≤ 2 ∧ field (par c 0) 10 2 ≤ 2 ∧ field (par c 0) 4 2 ≤ 2 ∧ field (par c 1) 12 2 ≤ 2
          ∧ field (par c 1) 0 7 = 0 ∧ field (par c 1) 14 1 = 0 ∧ cmdEntry q c.target ≤ 4093 ∧ fbEntry q c.target ≤ 4093
          ∧ pulseOk q c.target = true ∧ sharesSafeEnc t.sealed c.target (par c 0) = false ∧ axClash p q c.target = false
          ∧ ((axEntries q c.target).any fun e => chanBound p (128 + e) || own.contains e) = false
          ∧ ((axAo q c.target).any (chanBound p)) = false ∧ axState p c.target = 0)
      (fun c t => okSn (onExec (fun p => (axConfig t.sealed (par c) c.target p).2) t))
  ∧ Completes 0x71 .axWrite
      (fun c t =>
        let p := actPlane t
        let n := (par c 1).toNat
        let w := (par c 0).toNat / 4
        let q := forEach (upTo n) (fun i r => setXw c.target (w + i) (par c (2 + i)) r) p
        let has := fun k : Nat => w ≤ k ∧ k < w + n
        (par c 0).toNat % 4 = 0 ∧ 1 ≤ n ∧ n ≤ 8 ∧ ((upTo n).all fun i => axRw (w + i)) = true
          ∧ ((upTo 8).all fun i => decide (i < n) || par c (2 + i) == 0) = true
          ∧ field (xw q c.target xEmin) 16 16 = 0 ∧ field (xw q c.target xLaCfg) 0 4 = 0 ∧ pulseOk q c.target = true
          ∧ (∀ k ∈ [xVmax, xAmax, xDmax, xJmax, xHomeSpan], has k → xw q c.target k ≠ 0)
          ∧ (has xDmax ∨ has xQdmax → (xw q c.target xDmax).toNat ≤ (xw q c.target xQdmax).toNat)
          ∧ (has xJmax ∨ has xQjmax → (xw q c.target xJmax).toNat ≤ (xw q c.target xQjmax).toNat)
          ∧ axState p c.target ≤ 1)
      (fun c t => okSn (onExec (fun p => (axWrite (par c) c.target p).2) t))
  ∧ Completes 0x7A .axRead
      (fun c t => (par c 0).toNat % 4 = 0 ∧ (par c 0).toNat ≤ 248 ∧ planeNamed (par c 1) t = true)
      (fun c t =>
        let x := (planeOf t (namedPlane (par c 1) t)).axes.shown
        let w := 64 * c.target + (par c 0).toNat / 4
        okRes (dword (tget 0 x w) (tget 0 x (w + 1))) t)
  ∧ (∀ (f : Nat → Word) (a : Nat) (p : Plane),
      (axState p a = 1 → pulseOk (axLimits f a p) a = true → limitsSet (axLimits f a p) a = true →
        let d := (dword (f 1) (f 2)).toInt
        let g := clampI (-(2 ^ 63)) (2 ^ 63 - 1) (if bit (f 0) 0 then x64 p a xCpos + d else d)
        let q := setX64 a xTarget g (axLimits f a p)
        axMove f a p = (stOk, if g = x64 p a xCpos then q
          else setXf a xAstat 19 1 0 (setXf a xAstat 22 1 (if g < x64 p a xCpos then 1 else 0) (setAxState a 2 q))))
      ∧ (axState p a = 6 → axClear a p = (stOk, setXf a xAstat 23 1 0
        (setAxState a 1 (if hasFb p a then setX64 a xCpos (x64 p a xApos) p else p)))))

/-- The safety and seal commands (09 R310 to R318). -/
def Obligations.SafetyAndSealCommandsComplete : Prop :=
  Completes 0x80 .safeStatus
      (fun c t =>
        let p := planeOf t (namedPlane (par c 0) t)
        planeNamed (par c 0) t = true ∧ c.target ≠ 64 ∧ safeSrc t.sealed c.target ≠ 0
          ∧ sposValid t.sealed c.target (safeAx p c.target) = true)
      (fun c t =>
        let p := planeOf t (namedPlane (par c 0) t)
        okRes (dword (safetyWord t c.target p) (speedV32 t.sealed c.target (safeAx p c.target))) t)
  ∧ Completes 0x80 .safeStatus
      (fun c t =>
        let p := planeOf t (namedPlane (par c 0) t)
        planeNamed (par c 0) t = true ∧ c.target ≠ 64
          ∧ (safeSrc t.sealed c.target = 0 ∨ sposValid t.sealed c.target (safeAx p c.target) = false))
      (fun c t =>
        let v := takeFree t
        okRes (dword (safetyWord t c.target (planeOf t (namedPlane (par c 0) t))) (loWord v.1)) v.2)
  ∧ (∀ x, Completes 0x80 .safeStatus
      (fun c t => planeNamed (par c 0) t = true ∧ c.target = 64
        ∧ (if t.sealed.slot = 0 then t.sealed.slot0 else t.sealed.slot1) = some x)
      (fun c t => okRes (dw (t.sealed.matched.toNat + (if t.sealed.valid then 0 else 2)
        + (if t.sealed.openAsserted then 4 else 0) + (if t.sealed.staged.isSome then 8 else 0) + field (tget 0 x 2) 0 16 * 2 ^ 16
        + t.boot.sealSw.toNat * 2 ^ 32 + pairsOn (planeOf t (namedPlane (par c 0) t)) * 2 ^ 48)) t))
  ∧ Completes 0x81 .safeRequest
      (fun c t => ((upTo 3).all fun f => !hasFunc (par c 0).toNat f || safeEn t.sealed c.target f) = true)
      (fun c t => okSn (onExec (fun p =>
        let x := safeAx p c.target
        setSafeAx c.target { x with hostAct := (par c 0).toNat % 8, hostStop := x.hostStop || hasFunc (par c 0).toNat 3 } p) t))
  ∧ Completes 0x82 .safeReset
      (fun c t => ((pairAxes t.sealed c.target).all fun a => releaseOk t a (actPlane t)) = true ∧ t.dev = .run
        ∧ monitorsAgree t = true)
      (fun c t => okSn (onExecSl (fun sl => releasePair sl c.target) t))
  ∧ Completes 0x83 .sconnStatus (fun c t => planeNamed (par c 0) t = true)
      (fun c t =>
        let x := connOf (planeOf t (namedPlane (par c 0) t)) c.target
        okRes (dw (x.state + x.cause * 2 ^ 4 + x.lastSeq * 2 ^ 16 + x.crcErr * 2 ^ 32 + x.dup * 2 ^ 48)) t)
  ∧ Completes 0x84 .sealStage
      (fun c t => (par c 2).toNat = sealBytes ∧ inWindow t false (addrAt c 0) sealBytes = true ∧ t.sealed.openAsserted = true
        ∧ t.dev = .ready ∧ lockOpen t = true ∧ sealCheck t (sealTab c.image) = 0)
      (fun c t => okRes 0 (raise 0x151 3 { t with sealed := { t.sealed with staged := some (sealTab c.image) } }))
  ∧ Completes 0x85 .sealCommit
      (fun _ t => t.sealed.staged.isSome = true ∧ t.sealed.openAsserted = true ∧ t.dev = .ready ∧ lockOpen t = true)
      (fun _ t => .wait .device [word (writeSlot t.sealed)] { t with sealed := setCopy (writeSlot t.sealed) none t.sealed })
  ∧ (∀ x, Completes 0x86 .sealRead
      (fun c t =>
        let o := (par c 0).toNat
        o % 8 = 0 ∧ o < sealBytes ∧ ¬ (0x12800 ≤ o ∧ o < 0x12820)
          ∧ sealCopy t.sealed (if par c 1 = 0 then t.sealed.slot else 1 - t.sealed.slot) = some x)
      (fun c t => okRes (dword (sealWord x ((par c 0).toNat / 4)) (sealWord x ((par c 0).toNat / 4 + 1))) t))
  ∧ Completes 0x86 .sealRead
      (fun c _ => (par c 0).toNat % 8 = 0 ∧ 0x12800 ≤ (par c 0).toNat ∧ (par c 0).toNat < 0x12820) (fun _ t => okRes 0 t)
  ∧ Completes 0x86 .sealRead
      (fun c t =>
        let o := (par c 0).toNat
        o % 8 = 0 ∧ o < sealBytes ∧ ¬ (0x12800 ≤ o ∧ o < 0x12820)
          ∧ sealCopy t.sealed (if par c 1 = 0 then t.sealed.slot else 1 - t.sealed.slot) = none)
      (fun _ t => okRes (takeFree t).1 (takeFree t).2)

/-- The recorder, trigger and envelope commands (10 R321 to R344). -/
def Obligations.RecordingCommandsComplete : Prop :=
  Completes 0x90 .recConfig (fun c t => t.recHeld = [] ∧ c.target = 16 ∧ (par c 0).toNat ≤ 1)
      (fun c t => okSn (onRec (fun r => { r with edges := (par c 0).toNat == 1 }) t))
  ∧ Completes 0x90 .recConfig (fun c t => t.recHeld = [] ∧ c.target ≠ 16 ∧ (par c 0).toNat ≤ 100000)
      (fun c t => okSn (setBoothRec c.target { intv := (par c 0).toNat } (closeInterval true c.target t)))
  ∧ Completes 0x90 .recConfig
      (fun c t => t.recHeld ≠ [] ∧ (par c 0).toNat ≤ 100000 ∧ (c.target = 16 → (par c 0).toNat ≤ 1))
      (fun c t => okSn (onRec (fun r => { r with cfgDue := r.cfgDue ++ [(c.target, (par c 0).toNat, t.sn)] }) t))
  ∧ Completes 0x91 .recStream (fun c t => bit (par c 7) 0 = false ∧ t.mem.dram ≠ 2)
      (fun _ t => .done stOk (dword t.sn t.recorder.stream.nextSeq) (stopStream t))
  ∧ Completes 0x91 .recStream
      (fun c t => bit (par c 7) 0 = true ∧ addrAt c 0 % 8 = 0 ∧ 65536 ≤ (par c 2).toNat
        ∧ (par c 2).toNat ≤ 1073741824 ∧ (par c 2).toNat % 4096 = 0
        ∧ inWindow t true (addrAt c 0) (par c 2).toNat = true ∧ inWindow t false (addrAt c 3) 4 = true
        ∧ inWindow t true (addrAt c 5) 16 = true ∧ t.mem.dram ≠ 2
        ∧ (bit (par c 7) 2 = true ∨ inRing t (par c 8) = true))
      (fun c t =>
        let nxt := match t.recorder.staging with | x :: _ => x.seq | [] => t.recorder.seq
        let first := if bit (par c 7) 2 then nxt else par c 8
        .done stOk (dword t.sn first) (onStream (fun x => { x with
        run := true, addr := addrAt c 0, size := (par c 2).toNat, headAddr := addrAt c 3, statusAddr := addrAt c 5
        stopMode := bit (par c 7) 1, tail := 0, nextSeq := first, err := false, above75 := false, off := 0
        stopReq := false, drop := none, dropCause := 1
        qp := c.qp, tag := c.tag, fetched := 0, statusDue := false }) (setDmaCh 1 {} t)))
  ∧ Completes 0x92 .recStatus (fun c _ => par c 0 = 0) (fun _ t => okRes (dw t.recorder.written) t)
  ∧ Completes 0x92 .recStatus (fun c _ => par c 0 = 1) (fun _ t => okRes (dw t.recorder.lost) t)
  ∧ Completes 0x93 .recFetch
      (fun c t => 1 ≤ (par c 1).toNat ∧ (par c 1).toNat ≤ 65536 ∧ inWindow t true (addrAt c 2) (par c 4).toNat = true
        ∧ t.mem.dram ≠ 2 ∧ inRing t (par c 0) = true)
      (fun c t =>
        let l := (takeRecs (par c 1).toNat (par c 4).toNat (t.recorder.ring.dropWhile fun x => x.seq != par c 0)).map (copyOf t)
        .write (addrAt c 2) ((l.map fun x => bytesOf x.words).flatten) (dword (word (recsBytes l)) (word l.length)) t)
  ∧ Completes 0x94 .trigConfig
      (fun c t => trigRangesOk (trigFrom c) = true ∧ (trigOf (actPlane t) c.target).state = 0
        ∧ trigRangeFree c.target (trigFrom c) (actPlane t) = true)
      (fun c t => okSn (onExec (setTrig c.target (trigFrom c)) t))
  ∧ Completes 0x95 .trigCtrl
      (fun c t =>
        let x := trigOf (actPlane t) c.target
        par c 0 = 0 ∧ t.dev = .run ∧ (group (actPlane t) (x.booth / 4)).powered = true ∧ (x.state = 0 ∨ x.state = 4)
          ∧ trigC x ≠ 0 ∧ trigRangeFree c.target x (actPlane t) = true)
      (fun c t => okSn (onExec (trigStart c.target) t))
  ∧ Completes 0x95 .trigCtrl
      (fun c t =>
        let x := trigOf (actPlane t) c.target
        par c 0 = 1 ∧ t.dev = .run ∧ (group (actPlane t) (x.booth / 4)).powered = true ∧ x.state = 2)
      (fun c t => okSn (onExec (fun q => setTrig c.target { trigOf q c.target with force := true } q) t))
  ∧ Completes 0x95 .trigCtrl
      (fun c t => par c 0 = 2 ∧ t.dev = .run ∧ (group (actPlane t) ((trigOf (actPlane t) c.target).booth / 4)).powered = true)
      (fun c t => okSn (onExec (fun q =>
        setTrig c.target { trigOf q c.target with state := 0, force := false, maskHit := none } q) t))
  ∧ Completes 0x96 .trigStatus (fun c t => planeNamed (par c 0) t = true)
      (fun c t =>
        let x := trigOf (planeOf t (namedPlane (par c 0) t)) c.target
        okRes (dw (x.state + x.stopped.toNat * 8 + x.first % 65536 * 65536 + x.g.toNat * 2 ^ 32)) t)
  ∧ Completes 0x97 .maskLoad
      (fun c t => inWindow t false (addrAt c 0) (par c 2).toNat = true ∧ (maskOf (actPlane t) c.target).state ≠ 2
        ∧ maskCheck (actPlane t) (c.image.take ((par c 2).toNat / 4)) (par c 2).toNat = none)
      (fun c t => okSn (onExec (setMask c.target { img := some (c.image.take ((par c 2).toNat / 4)), state := 1 }) t))
  ∧ (∀ img, Completes 0x98 .maskArm
      (fun c t => t.dev = .run ∧ maskOwner (actPlane t) c.target = none ∧ (maskOf (actPlane t) c.target).img = some img
        ∧ field (wordAt img 4) 8 2 = 0)
      (fun c t => okSn (onExec (fun q => if bit (par c 0) 0 then maskArm c.target q else maskDisarm c.target q) t)))
  ∧ Completes 0x99 .maskStatus (fun c t => planeNamed (par c 0) t = true)
      (fun c t =>
        let x := maskOf (planeOf t (namedPlane (par c 0) t)) c.target
        okRes (dw (x.state + x.pc * 2 ^ 8 + x.skipped * 2 ^ 16 + x.vioTau * 2 ^ 32)) t)

/-- The plane, ledger and firmware commands (11 R347 to R380, 12 R384, R387). -/
def Obligations.PlaneAndLedgerCommandsComplete : Prop :=
  Completes 0xA0 .planeStatus (fun _ _ => True)
      (fun _ t =>
        let a := t.ump.a
        let b := t.ump.b
        okRes (dword (word (a.code + b.code * 2 ^ 4 + min 15 (suspRecent t 1).length * 2 ^ 8
          + min 15 (suspRecent t 2).length * 2 ^ 12 + a.cls * 2 ^ 16 + b.cls * 2 ^ 20 + t.led.suspLim * 2 ^ 24
          + (degraded t).toNat * 2 ^ 28)) t.ump.electSn) t)
  ∧ (∀ h, Completes 0xA1 .planeHealth (fun c t => (pstat t (c.target + 1)).health = some h) (fun _ t => okRes h t))
  ∧ Completes 0xA2 .planeRestore (fun c t => (pstat t (c.target + 1)).code = 5) (fun _ t => .wait .device [t.sn] t)
  ∧ Completes 0xA3 .planeOffline
      (fun c t => (pstat t (c.target + 1)).code = 2 ∨ (pstat t (c.target + 1)).code = 3 ∨ (pstat t (c.target + 1)).code = 4)
      (fun c t => okRes 0 (toState (c.target + 1) 5 0 t))
  ∧ Completes 0xA4 .planeSwap (fun _ t => fit t (otherPlane (activeNo t)) = true ∧ swapCut t = true)
      (fun _ t => okSn (swapPlanes t))
  ∧ Completes 0xA4 .planeSwap (fun _ t => fit t (otherPlane (activeNo t)) = true ∧ swapCut t = false)
      (fun _ t => .wait .device [t.sn] t)
  ∧ Completes 0xA5 .planeConfig (fun c _ => par c 0 ≠ 0)
      (fun c t => okRes 0 (setLed { t.led with suspLim := (par c 0).toNat } t))
  ∧ (∀ e, Completes 0xA6 .ledgerStatus (fun c t => par c 0 = 0 ∧ t.led.journal.getLast? = some e)
      (fun _ t => okRes (dw e.jseq.toNat) t))
  ∧ (∀ e, Completes 0xA6 .ledgerStatus (fun c t => par c 0 = 1 ∧ t.led.journal.head? = some e)
      (fun _ t => okRes (dw e.jseq.toNat) t))
  ∧ Completes 0xA6 .ledgerStatus (fun c t => (par c 0 = 0 ∨ par c 0 = 1) ∧ t.led.journal = [])
      (fun _ t => okRes (takeFree t).1 (takeFree t).2)
  ∧ Completes 0xA6 .ledgerStatus (fun c _ => par c 0 = 3) (fun _ t => okRes (dw t.led.writeErrs) t)
  ∧ Completes 0xA6 .ledgerStatus (fun c _ => par c 0 = 2) (fun _ t => okRes (dw t.led.replaced) t)
  ∧ Completes 0xA6 .ledgerStatus (fun c _ => par c 0 = 4) (fun _ t => okRes t.led.pcc t)
  ∧ Completes 0xA6 .ledgerStatus (fun c _ => par c 0 = 5) (fun _ t => okRes (dw t.clock.opsec.toNat) t)
  ∧ Completes 0xA7 .journalRead
      (fun c t => 1 ≤ (par c 1).toNat ∧ (par c 1).toNat ≤ 65536 ∧ inWindow t true (addrAt c 2) (par c 4).toNat = true
        ∧ (t.led.journal.any fun e => e.jseq == par c 0) = true)
      (fun c t =>
        let es := takeEntries (par c 1).toNat (par c 4).toNat (t.led.journal.dropWhile fun e => e.jseq != par c 0)
        .write (addrAt c 2) (bytesOf (es.flatMap journalWords)) (dword (word (es.map entryBytes).sum) (word es.length)) t)
  ∧ Completes 0xA8 .fwStage
      (fun c t => 1 ≤ (par c 2).toNat ∧ (par c 2).toNat ≤ fwMax ∧ inWindow t false (addrAt c 0) (par c 2).toNat = true
        ∧ c.target ≠ t.led.fwSel ∧ lockOpen t = true ∧ t.mem.dram ≠ 2)
      (fun c t =>
        let u := stageWords 0 (c.image.take ((par c 2).toNat / 4)) t
        .wait .device [] (setFwSlot c.target (fwParse (planeBuf u (readNo u))) u))
  ∧ Completes 0xA9 .fwSelect (fun c t => (fwSlot t c.target).valid = true ∧ lockOpen t = true) (fun _ t => .wait .device [] t)

/-- The memory commands (13 R407, R412, R426). -/
def Obligations.MemoryCommandsComplete : Prop :=
  Completes 0xB0 .memStatus (fun c _ => (par c 0).toNat < 7) (fun c t => okRes (dw (tget 0 t.mem.counts (par c 0).toNat)) t)
  ∧ Completes 0xB0 .memStatus (fun c _ => par c 0 = 7) (fun _ t => okRes (dw t.mem.dram) t)
  ∧ Completes 0xB1 .turnSet
      (fun c _ =>
        let ks := (upTo 64).map (turnSlot c)
        (ks.all fun k => decide (k < 6)) = true ∧ (ks.filter (· == 4)).length = (ks.filter (· == 5)).length)
      (fun c t => okSn (setMem { t.mem with turnPending := some (turnTab (turnSlot c)) } t))
  ∧ Completes 0xB2 .turnRead (fun c _ => (par c 0).toNat ≤ 3)
      (fun c t => okRes (dw (((upTo 16).map fun i => turnOwner t (16 * (par c 0).toNat + i) * 16 ^ i).sum)) t)
  ∧ Completes 0xB3 .memScrub (fun c _ => (par c 0).toNat = 0 ∨ (60 ≤ (par c 0).toNat ∧ (par c 0).toNat ≤ 86400))
      (fun c t => okSn (setMem { t.mem with
        scrub := (par c 0).toNat, scrubTicks := t.mem.scrubPos * ((par c 0).toNat * 100000) / scrubBlocks } t))

/-- The analogue commands (14 R433 to R453, 20 R611). -/
def Obligations.AnalogCommandsComplete : Prop :=
  Completes 0xC0 .aiConfig
      (fun c t => aiCfgOk c.target (par c 0) = true ∧ (t.dev = .ready ∨ aiInUse t c.target = false))
      (fun c t =>
        let x := aiOf t c.target
        ifScheduled (agroup t (c.target / 16)).low (c.target / 16) t (setAi c.target { x with
          cfg := some (par c 0), scale := par c 1, offs := par c 2, cfgAge := 0, nxt := none, pend := none
          have_ := x.have_ && aiInj (par c 0) == aiInj (aiCfg t c.target)
          nfail := x.nfail && aiNe43 (par c 0), nrun := 0 } t))
  ∧ Completes 0xC1 .afeSeq
      (fun c t =>
        let k := field (par c 0) 0 4
        let l := injList (par c 2)
        k ≤ 4 ∧ (k = 1 ∨ k = 2 → field (par c 0) 8 7 ≤ 63) ∧ (l.all fun ch => ch / 16 == c.target && aiInj (aiCfg t ch)) = true
          ∧ l.eraseDups = l ∧ t.dev = .ready)
      (fun c t => ifScheduled (agroup t c.target).low c.target t (setAgroup c.target { agroup t c.target with
        trig := field (par c 0) 0 4, trigPin := field (par c 0) 8 7, delay := field (par c 1) 0 16, inj := injList (par c 2) } t))
  ∧ Completes 0xC2 .aoConfig (fun c t => (par c 0).toNat ≤ 2 ∧ t.dev = .ready)
      (fun c t => okSn (setAnalog { t.analog with aoRange := tset 0 t.analog.aoRange c.target (par c 0).toNat } t))
  ∧ Completes 0xC3 .clConfig
      (fun c t => field (par c 0) 2 2 ≠ 3 ∧ (bit (par c 0) 0 = true → field (par c 0) 8 8 ≠ 0) ∧ t.dev = .ready)
      (fun c t =>
        let w := par c 0
        let x := clOf t c.target
        okSn (alarmEnds c.target (setCl c.target { x with
          use := bit w 0, dir := field w 2 2, dly := field w 8 8, sel := field w 16 2, src := field w 22 10
          rqRun := if x.use && x.src == field w 22 10 && x.sel == field w 16 2 then x.rqRun else 0 }
          (if x.use && !bit w 0 then clFresh c.target t else t))))
  ∧ Completes 0xC4 .pwConfig (fun c t => 200 ≤ (par c 0).toNat ∧ t.dev = .ready)
      (fun c t => okSn (setAnalog { t.analog with pw := tset {} t.analog.pw c.target { (tget {} t.analog.pw c.target : Pwm) with
        period := (par c 0).toNat, centre := bit (par c 1) 0, invert := bit (par c 1) 1, running := false, next := 1500 } } t))
  ∧ Completes 0xC5 .afeCal (fun c t => field (par c 0) 0 12 ≤ 3600 ∧ (agroup t c.target).spare.isSome = true)
      (fun c t =>
        let x := agroup t c.target
        let per := field (par c 0) 0 12
        let tol := field (par c 0) 12 8
        let u := setAgroup c.target { x with
          calPeriod := if per = 0 then x.calPeriod else per, calTol := if tol = 0 then x.calTol else tol } t
        .wait .device [] (if x.rot = 0 then startRotation c.target u else u))
  ∧ Completes 0xC6 .afeTest
      (fun c t => (par c 0 = 1 ∨ (par c 0 = 2 ∧ aiMode (aiCfg t c.target) = 2)) ∧ c.target < 64 ∧ aiInUse t c.target = false
        ∧ (aiOf t c.target).test = none)
      (fun c t => .wait .device [] (setAi c.target { aiOf t c.target with test := some (par c 0).toNat, nxt := none, pend := none } t))
  ∧ Completes 0xC6 .afeTest
      (fun c t => par c 0 = 0 ∧ 64 ≤ c.target ∧ (agroup t (c.target - 64)).rot = 0
        ∧ (agroup t (c.target - 64)).spare.isSome = true)
      (fun c t => .wait .device [] (setAgroup (c.target - 64) { agroup t (c.target - 64) with test0 := true } t))
  ∧ Completes 0xC7 .afeStatus (fun c _ => c.target < 64)
      (fun c t => okRes (dword (aiStatusWord t c.target) (aiOf t c.target).value) t)
  ∧ Completes 0xC7 .afeStatus (fun c _ => 64 ≤ c.target ∧ c.target < 96)
      (fun c t => okRes (dword (clStatusWord t (c.target - 64)) (clOf t (c.target - 64)).im) t)
  ∧ Completes 0xC7 .afeStatus (fun c _ => 96 ≤ c.target ∧ c.target < 128)
      (fun c t => okRes (dw ((if tget false t.analog.ovld (c.target - 96) then 1 else 0)
        + tget 0 t.analog.aoRange (c.target - 96) * 2)) t)
  ∧ Completes 0xC7 .afeStatus (fun c _ => 128 ≤ c.target ∧ c.target < 132)
      (fun c t =>
        let x := agroup t (c.target - 128)
        okRes (dw (x.roleA.getD 0xF + x.roleB.getD 0xF * 16 + x.spare.getD 0xF * 256 + (if x.low then 4096 else 0)
          + (if x.rot = 0 then 0 else 8192) + x.rotations % 65536 * 65536 + x.regDrop % 2 ^ 32 * 2 ^ 32)) t)
  ∧ Completes 0xC7 .afeStatus (fun c _ => c.target = 132) (fun _ t => okRes (dw t.analog.loopv) t)
  ∧ Completes 0xC8 .afeMode (fun _ _ => True)
      (fun c t => ifScheduled (bit (par c 0) 0) c.target t
        (setAgroup c.target { agroup t c.target with low := bit (par c 0) 0 } t))
  ∧ Completes 0xC9 .gpConfig
      (fun c t => ¬ (c.target = 3 ∧ t.boot.legacyEn = true) ∧ t.dev = .ready
        ∧ ((upTo 32).all fun b => bit (par c 0) b || !ownsGp (actPlane t) (32 * c.target + b)) = true)
      (fun c t => okSn (forEach (upTo 32) (fun b u => setGpDir (32 * c.target + b) (bit (par c 0) b) u) t))

/-- The field, management, PTP and time commands (15 R464 to R488). -/
def Obligations.FieldAndTimeCommandsComplete : Prop :=
  Completes 0xD0 .fpConfig
      (fun c t =>
        let w := par c 0
        let q := fport t c.target
        let d := q.linkUp && (field w 0 2 != q.speed || bit w 2 != q.serdesX)
        let u := setPort c.target { q with
          speed := field w 0 2, serdesX := bit w 2, cycPhase := field w 8 4, lostCnt := field w 16 8, margin := field w 24 8
          mac := (par c 1).toNat + field (par c 2) 0 16 * 2 ^ 32
          linkUp := q.linkUp && !d, clockRec := q.clockRec && !d, linkFell := q.linkFell || d, resend := q.resend && !d } t
        field w 0 2 ≠ 0 ∧ field w 8 4 < fieldCycle (field w 0 2) ∧ 2 ≤ field w 16 8 ∧ 5 ≤ field w 24 8 ∧ field w 24 8 ≤ 100
          ∧ t.dev = .ready ∧ phaseBad t c.target (fieldCycle (field w 0 2)) (field w 8 4) = none
          ∧ portBad u c.target = none)
      (fun c t =>
        let w := par c 0
        let q := fport t c.target
        let d := q.linkUp && (field w 0 2 != q.speed || bit w 2 != q.serdesX)
        let u := setPort c.target { q with
          speed := field w 0 2, serdesX := bit w 2, cycPhase := field w 8 4, lostCnt := field w 16 8, margin := field w 24 8
          mac := (par c 1).toNat + field (par c 2) 0 16 * 2 ^ 32
          linkUp := q.linkUp && !d, clockRec := q.clockRec && !d, linkFell := q.linkFell || d, resend := q.resend && !d } t
        okSn (gridOrigin c.target (useGate (0x02 + c.target) (if d then portEvent c.target 2 0 u else u))))
  ∧ Completes 0xD1 .fpStation
      (fun c t => t.dev = .ready ∧ ((stationFrom c).en = true → stationOk t c.target (stationFrom c) = true)
        ∧ portBad (mqFresh c.target (setStation c.target (stationFrom c) t)) (c.target / 32) = none)
      (fun c t => okSn (gridOrigin (c.target / 32) (mqFresh c.target (setStation c.target (stationFrom c) t))))
  ∧ Completes 0xD0 .fpConfig
      (fun c t =>
        let w := par c 0
        let q := fport t c.target
        let d := q.linkUp && (field w 0 2 != q.speed || bit w 2 != q.serdesX)
        let u := setPort c.target { q with
          speed := field w 0 2, serdesX := bit w 2, cycPhase := field w 8 4, lostCnt := field w 16 8, margin := field w 24 8
          mac := (par c 1).toNat + field (par c 2) 0 16 * 2 ^ 32
          linkUp := q.linkUp && !d, clockRec := q.clockRec && !d, linkFell := q.linkFell || d, resend := q.resend && !d, rx := [] } t
        field w 0 2 = 0 ∧ t.dev = .ready ∧ portBad u c.target = none)
      (fun c t =>
        let w := par c 0
        let q := fport t c.target
        let d := q.linkUp && (field w 0 2 != q.speed || bit w 2 != q.serdesX)
        let u := setPort c.target { q with
          speed := field w 0 2, serdesX := bit w 2, cycPhase := field w 8 4, lostCnt := field w 16 8, margin := field w 24 8
          mac := (par c 1).toNat + field (par c 2) 0 16 * 2 ^ 32
          linkUp := q.linkUp && !d, clockRec := q.clockRec && !d, linkFell := q.linkFell || d, resend := q.resend && !d, rx := [] } t
        okSn (gridOrigin c.target (if d then portEvent c.target 2 0 u else u)))
  ∧ Completes 0xD2 .fpArm (fun c t => (station t c.target).en = true ∧ (station t c.target).armed = false)
      (fun c t => okSn (setStation c.target { station t c.target with armReq := true } t))
  ∧ Completes 0xD3 .fpStatus (fun c _ => c.target < 8)
      (fun c t =>
        let q := fport t c.target
        let ks := portStations t c.target
        okRes (dw (q.speed + (if q.linkUp then 4 else 0) + (if q.clockRec then 8 else 0)
          + (ks.filter fun k => (station t k).online).length * 2 ^ 8 + (ks.filter fun k => (station t k).armed).length * 2 ^ 16
          + q.epoch.toNat % 256 * 2 ^ 24 + q.discards * 2 ^ 32)) t)
  ∧ Completes 0xD3 .fpStatus (fun c _ => 256 ≤ c.target)
      (fun c t =>
        let x := station t (c.target - 256)
        okRes (dw (x.online.toNat + x.armed.toNat * 2 + x.safe.toNat * 4 + x.outWd.toNat * 8 + x.mstale.toNat * 2 ^ 16
          + x.noFrame * 2 ^ 32 + x.lateAcks * 2 ^ 48)) t)
  ∧ Completes 0xD4 .mgtConfig (fun c _ => field (par c 0) 0 3 ≤ 3)
      (fun c t =>
        let x := mgt t c.target
        let u := setMgt c.target { x with
          mode := field (par c 0) 0 3, mac := (par c 1).toNat + field (par c 2) 0 16 * 2 ^ 32, ip := par c 3
          linkUp := x.linkUp && field (par c 0) 0 3 == x.mode } t
        let v := if x.linkUp && field (par c 0) 0 3 != x.mode then raise (0x188 + c.target) 2 u else u
        okSn (choosePort (if field (par c 0) 0 3 = 0 then v else useGate (0x0A + c.target) v)))
  ∧ Completes 0xD5 .ptpConfig (fun c _ => 0 < (par c 3).toInt)
      (fun c t => okSn (choosePort (setPtp { t.field.ptp with
        cfg := par c 0, intervals := par c 1, lats := par c 2, rateLim := par c 3, stepThr := par c 4 } t)))
  ∧ Completes 0xD6 .ptpStatus (fun _ _ => True)
      (fun _ t =>
        let p := t.field.ptp
        okRes (dw (p.portState % 256 + p.port * 2 ^ 8 + t.field.time.stepUsed.toNat * 2 ^ 9 + min 0xFFFF p.delay * 2 ^ 16
          + p.offset.toNat * 2 ^ 32)) t)
  ∧ Completes 0xD7 .timeRead (fun c _ => (par c 0).toNat < 3)
      (fun c t =>
        let v := takeFree t
        let n := (tnsOf (tqIn t (v.1.toNat % 4000 : Nat))).toNat
        okRes (if par c 0 = 0 then dw n else if par c 0 = 1 then dw (n % 10 ^ 9 + n / 10 ^ 9 % 2 ^ 32 * 2 ^ 32)
          else dw (n / 10 ^ 9 % 2 ^ 48)) v.2)
  ∧ Completes 0xD7 .timeRead (fun c _ => par c 0 = 3) (fun c t => okRes (tnsAt t (par c 1)) t)
  ∧ Completes 0xD8 .timeStep
      (fun c t => servoOn t = false ∧ t.field.time.stepUsed = false ∧ 0 ≤ tqNow t + stepDelta c)
      (fun c t => okSn (stepTime (stepDelta c) t))
  ∧ Completes 0xD9 .timeRate (fun _ t => servoOn t = false) (fun c t => okSn (rateTime (par c 0) t))
  ∧ Completes 0xDA .timeCmp (fun _ _ => True)
      (fun c t => okSn (cmpsAtCut (setCmp c.target { target := dword (par c 0) (par c 1), en := bit (par c 2) 0 } t)))
  ∧ Completes 0xDB .timeStatus (fun _ _ => True)
      (fun _ t => okRes (dw (t.field.time.stepUsed.toNat + (servoOn t).toNat * 2
        + ((upTo 4).filter fun u => (cmpOf t u).en).length % 4 * 4 + t.field.time.rate.toNat * 2 ^ 32)) t)

/-- The CAN commands (16 R493 to R514). -/
def Obligations.CanCommandsComplete : Prop :=
  Completes 0xE0 .canConfig
      (fun c t => field (par c 0) 30 2 ≠ 3 ∧ nbtOk (par c 1) = true ∧ dbtOk (par c 2) = true ∧ dbtOk (par c 3) = true
        ∧ 20 ≤ dataBit (par c 3) ∧ (bit (par c 4) 0 = true → field (par c 4) 8 6 + field (par c 4) 16 6 = dataBit (par c 3))
        ∧ (bit (par c 0) 22 = true → 10 ≤ (par c 5).toNat) ∧ (canCh t c.target).state = 0)
      (fun c t => okSn (setCan c.target { canCh t c.target with
        cfg := par c 0, nbt := par c 1, dbt := par c 2, xbt := par c 3, pwm := par c 4, refCyc := (par c 5).toNat
        refAge := 0, refPend := false, refCycle := 63 } t))
  ∧ Completes 0xE1 .canFilter (fun c _ => field (par c 2) 29 3 ≤ 4)
      (fun c t =>
        let x := canCh t (c.target / 64)
        okSn (setCan (c.target / 64) { x with
          filters := tsetMany 0 x.filters (4 * (c.target % 64)) [par c 0, par c 1, par c 2, par c 3] } t))
  ∧ Completes 0xE2 .canSignal
      (fun c t => field (par c 0) 28 2 ≠ 3 ∧ (bit (par c 0) 31 = true → (par c 3).toNat ≠ 0)
        ∧ (t.dev = .ready ∨ signalInUse t c.target = false))
      (fun c t => okSn (setSignal c.target { p0 := par c 0, scale := par c 1, offs := par c 2, maxAge := (par c 3).toNat } t))
  ∧ Completes 0xE3 .canSched
      (fun c _ => ((upTo 8).all fun i => !badWordSrc (par c (3 + i))) = true ∧ (bit (par c 0) 31 = true →
        field (par c 0) 29 2 ≠ 3 ∧ lenAllowed (if field (par c 0) 29 2 = 0 then 0 else 1) (field (par c 0) 0 6) = true
          ∧ field (par c 0) 0 6 ≤ 32))
      (fun c t =>
        let x := canCh t (c.target / 32)
        let slot : CanSlot := { p0 := par c 0, p1 := par c 1, p2 := par c 2, srcs := (upTo 8).map fun i => par c (3 + i) }
        okSn (setCan (c.target / 32) { x with slots := tset {} x.slots (c.target % 32) slot } t))
  ∧ Completes 0xE4 .canSend
      (fun c t =>
        let x := canCh t c.target
        let w0 := wordAt c.image 0
        let w1 := wordAt c.image 1
        inWindow t false (addrAt c 0) (messageBytes (field w1 20 12)) = true ∧ field w0 30 2 ≠ 3 ∧ field w0 30 2 ≤ canMode x
          ∧ ¬ (field w0 30 2 = 2 ∧ bit w0 29 = true) ∧ lenAllowed (field w0 30 2) (field w1 20 12) = true ∧ bit w1 16 = false
          ∧ ((upTo 5).all fun i => wordAt c.image (3 + i) == 0) = true
          ∧ x.state ≠ 0 ∧ x.state ≠ 4 ∧ canListen x = false ∧ t.dev ≠ .safe)
      (fun _ t => .wait .device [t.sn] t)
  ∧ Completes 0xE5 .canCtrl (fun c _ => par c 0 = 0) (fun c t => okSn (canState c.target 0 t))
  ∧ Completes 0xE5 .canCtrl (fun c t => par c 0 = 1 ∧ (canCh t c.target).state = 0)
      (fun c t => okSn (canState c.target 1 (setCan c.target { canCh t c.target with tec := 0, recv := 0 }
        (useGate (0x0C + c.target) t))))
  ∧ Completes 0xE5 .canCtrl (fun c t => par c 0 = 1 ∧ (canCh t c.target).state ≠ 0) (fun _ t => okSn t)
  ∧ Completes 0xE5 .canCtrl (fun c _ => par c 0 = 3)
      (fun c t =>
        let x := canCh t c.target
        let keep := x.tx.filter fun e => e.onBus
        okSn (setShadow c.target ((canShadow t c.target).filter fun e => keep.any (sameEntry e))
          (setCan c.target { x with tx := keep, held := [] } t)))
  ∧ Completes 0xE5 .canCtrl (fun c t => par c 0 = 2 ∧ (canCh t c.target).state = 4) (fun c t => okSn (canState c.target 5 t))
  ∧ Completes 0xE6 .canRxRead
      (fun c t => 1 ≤ (par c 1).toNat ∧ (par c 1).toNat ≤ 64 ∧ inWindow t true (addrAt c 2) (par c 4).toNat = true
        ∧ bit (par c 0) 0 = false)
      (fun c t =>
        let es := rxTake (par c 1).toNat (par c 4).toNat (rxFree t c.target)
        let bs := es.flatMap fun e => rxBytes e none
        .write (addrAt c 2) bs (dword (word bs.length) (word es.length)) t)
  ∧ (∀ e, Completes 0xE6 .canRxRead
      (fun c t => 1 ≤ (par c 1).toNat ∧ (par c 1).toNat ≤ 64 ∧ inWindow t true (addrAt c 2) (par c 4).toNat = true
        ∧ bit (par c 0) 0 = true ∧ tget none (canCh t c.target).hp (field (par c 0) 1 2) = some e
        ∧ (rxBytes e (some (field (par c 0) 1 2))).length ≤ (par c 4).toNat)
      (fun c t =>
        let bs := rxBytes e (some (field (par c 0) 1 2))
        .write (addrAt c 2) bs (dword (word bs.length) 1) t))
  ∧ Completes 0xE6 .canRxRead
      (fun c t => 1 ≤ (par c 1).toNat ∧ (par c 1).toNat ≤ 64 ∧ inWindow t true (addrAt c 2) (par c 4).toNat = true
        ∧ bit (par c 0) 0 = true ∧ tget none (canCh t c.target).hp (field (par c 0) 1 2) = none)
      (fun _ t => okRes 0 t)
  ∧ Completes 0xE7 .canStatus (fun c t => par c 0 = 9 ∧ (canCh t c.target).tec ≤ 255)
      (fun c t =>
        let x := canCh t c.target
        okRes (dw (x.state + x.tec % 256 * 2 ^ 8 + x.recv % 256 * 2 ^ 16 + x.tx.length % 64 * 2 ^ 24
          + (loWord x.timeMark).toNat * 2 ^ 32)) t)
  ∧ Completes 0xE7 .canStatus (fun c t => (par c 0).toNat < 9 ∧ (canCh t c.target).tec ≤ 255)
      (fun c t =>
        let x := canCh t c.target
        okRes (dw (x.state + x.tec % 256 * 2 ^ 8 + x.recv % 256 * 2 ^ 16 + x.tx.length % 64 * 2 ^ 24
          + tget 0 x.counts (par c 0).toNat * 2 ^ 32)) t)

/-- The event, recorder, observation and lock commands (17 R518 to R534). -/
def Obligations.EventAndLockCommandsComplete : Prop :=
  Completes 0xE8 .evtRoute (fun c _ => (par c 0).toNat ≠ 0 ∧ c.target + (par c 0).toNat ≤ 512)
      (fun c t => okSn (forEach ((upTo (par c 0).toNat).map (c.target + ·))
        (fun k u => routeWrite k (par c 1) false 1 (cmdId c) 0xE8 u) t))
  ∧ Completes 0xE9 .evtStatus (fun _ _ => True)
      (fun c t => okRes (dword (word (tget 0 t.evts.fwCount c.target)) (tget 0 t.evts.data c.target)) t)
  ∧ Completes 0xEA .evrRead
      (fun c t => 1 ≤ (par c 1).toNat ∧ (par c 1).toNat ≤ 65536 ∧ inWindow t true (addrAt c 2) (par c 4).toNat = true)
      (fun c t =>
        let ws := readRecords t (par c 1).toNat (par c 0).toNat (par c 4).toNat
        .write (addrAt c 2) (bytesOf ws) (dword (word (4 * ws.length)) (word (ws.length / 16))) t)
  ∧ Completes 0xEB .evrClear (fun _ t => lockOpen t = true) (fun _ t => .wait .device [t.sn] t)
  ∧ Completes 0xEC .obsCtrl
      (fun c t => field (par c 0) 3 2 ≠ 3 ∧ (par c 1).toNat ≤ 16 ∧ lockOpen t = true ∧ bit (par c 0) 0 = true)
      (fun c t => okSn (raise 0x1F3 1 (useGate 0x14 { t with trace := {
        run := true, div := field (par c 0) 1 2, plane := field (par c 0) 3 2, events := bit (par c 0) 5
        sigs := (upTo (par c 1).toNat).map (obsSignal c) } })))
  ∧ Completes 0xEC .obsCtrl
      (fun c t => field (par c 0) 3 2 ≠ 3 ∧ (par c 1).toNat ≤ 16 ∧ lockOpen t = true ∧ bit (par c 0) 0 = false)
      (fun _ t => okSn (stopTrace 1 t))
  ∧ Completes 0xED .obsRead
      (fun c t => (0x80 ≤ c.target ∨ isPlane (par c 0).toNat = true) ∧ lockOpen t = true)
      (fun c t => okRes (tallyOf t (par c 0).toNat c.target) t)
  ∧ Completes 0xEE .lockChallenge (fun c t => par c 0 = 0 ∧ barredFor t = 0)
      (fun _ t => okRes (Config.nonce t.freeCtr).1 (raise 0x1F2 1 { t with
        freeCtr := t.freeCtr + 1, lock := { t.lock with nonce := some (Config.nonce t.freeCtr), nonceAge := 0 } }))
  ∧ (∀ n, Completes 0xEE .lockChallenge (fun c t => par c 0 = 1 ∧ barredFor t = 0 ∧ t.lock.nonce = some n)
      (fun _ t => okRes n.2 t))
  ∧ (∀ n, Completes 0xEF .lock (fun c t => par c 0 = 0 ∧ t.lock.nonce = some n ∧ responseOk t n c = true)
      (fun _ t => okSn (raise 0x1F2 2 { t with
        lock := { t.lock with nonce := none, isOpen := true, openTicks := 0 }, led := { t.led with lockFails := 0 } })))
  ∧ Completes 0xEF .lock (fun c _ => par c 0 = 1) (fun _ t => okSn (closeLock 1 t))

/-- What a host makes of the registers of BAR0 (02 R47 to R55, 13 R422, R423, 17 R519, R520). -/
def Obligations.RegisterRowsTakeEffect : Prop :=
  (∀ (s : State) (q : Nat) (v : Word), bar0Ok s = true → q < 64 →
      (bit (qpOf s q).ctrl 0 = false → sizesOk (setBit v 0 true) = true →
        exec (.qpEnable q v) s = .next (qpRaise q 2 (qpOf s q).retry (setQp q { qpOf s q with
          ctrl := setBit v 0 true, sqHead := 0, sqTail := 0, cqHead := 0, cqTail := 0, phase := true, seq := 0
          paused := false, retry := false, coalCount := 0, coalAge := 0 } s)))
      ∧ (bit (qpOf s q).ctrl 0 = true → exec (.qpDisable q v) s = .next
        (qpRaise q 1 (qpOf s q).err (setQp q { qpOf s q with
          ctrl := setField (setBit v 0 false) 8 8 (field (qpOf s q).ctrl 8 8), err := false, errCause := 0 } s)))
      ∧ (bit (qpOf s q).ctrl 0 = true → (qpOf s q).err = false → v.toNat < sqLen (qpOf s q) →
        exec (.qpSqTail q v) s = .next (setQp q { qpOf s q with tailReg := v, sqTail := v.toNat, paused := false } s))
      ∧ (bit (qpOf s q).ctrl 0 = true → (qpOf s q).err = false → v.toNat < cqLen (qpOf s q) →
        (v.toNat + cqLen (qpOf s q) - (qpOf s q).cqHead) % cqLen (qpOf s q)
          ≤ ((qpOf s q).cqTail + cqLen (qpOf s q) - (qpOf s q).cqHead) % cqLen (qpOf s q) →
        exec (.qpCqHead q v) s = .next (setQp q { qpOf s q with headReg := v, cqHead := v.toNat } s))
      ∧ ((qpOf s q).retry = true →
        exec (.qpRetryClear q) s = .next (qpRaise q 2 true (setQp q { qpOf s q with retry := false } s)))
      ∧ exec (.readClearCounter (0x1018 + 64 * q)) s = .next (
          let t := setQp q { qpOf s q with crcErrs := 0 } s
          { t with hif := { t.hif with rdata := dw (qpOf s q).crcErrs.toNat } })
      ∧ exec (.readClearCounter 0x6018) s = .next (
          let t := setMem { s.mem with xlatMisses := 0 } s
          { t with hif := { t.hif with rdata := dw s.mem.xlatMisses.toNat } }))
  ∧ (∀ (s : State) (src : Nat) (v : Word), bar0Ok s = true → src < 512 →
      exec (.evtCfgWrite src v) s = .next (routeWrite src v true 3 0xFFFFFFFF 0 s)
      ∧ (bit v 31 = true ∨ bit v 30 = true → exec (.evtAck src v) s = .next (routeWrite src v true 3 0xFFFFFFFF 0 s)))
  ∧ (∀ (s : State) (off : Nat) (v : DWord), bar0Ok s = true → off < 0x100000 →
      (off % 4 = 0 → exec (.registerWrite off false v) s = .next (writeReg off (loWord v) s))
      ∧ (off % 8 = 0 →
        exec (.registerWrite off true v) s = .next (writeReg (off + 4) (hiWord v) (writeReg off (loWord v) s))))
  ∧ (∀ (s : State) (ch : Nat) (pte : List DWord), bar0Ok s = true → ch < 16 → (dmaCh s ch).state = 2 → ch ≠ 1 →
      (s.mem.xlatEn = false → exec (.dmaChResume ch pte) s = .next (drainAll (
        raise 0x1E5 (2 + ch * 2 ^ 8 + (dmaCh s ch).cause * 2 ^ 16)
          (setDmaCh ch { dmaCh s ch with state := 1, cause := 0, walk := false, failed := none, suspTicks := 0 } s))))
      ∧ exec (.dmaChStop ch) s = .next (startReads (endTransfer ch stAborted 0 s)))
  ∧ (∀ (s : State), exec .xlatInvAll s = .next (invalidate (fun m => { m with tlb := [], walk := [] }) s)
      ∧ exec .xlatInvDone s = .next (setMem { s.mem with invBusy := false } s))
  ∧ (∀ (s : State) (page : Nat), page < 2 ^ 36 → exec (.xlatInvPage page) s = .next
      (invalidate (fun m => { m with tlb := m.tlb.filter fun x => !decide (page * 4096 / 2 ^ x.2.1 = x.1) }) s))

/-- The PCIe function (02 R42 to R45, 17 R518). -/
def Obligations.LinkRowsTakeEffect : Prop :=
  ∀ (s : State),
    (s.hif.linkUp = true →
      exec .functionLevelReset s = .next (raise 0x1F6 3 (
        let t := loseWork s
        { t with hif := { t.hif with d3hot := false }, evts := { t.evts with cfg := [] } }))
      ∧ exec .linkDown s = .next (raiseExt 0x1F6 1 [word (s.hif.cmds.length + s.hif.posts.length)] (
        let t := loseWork s
        { t with hif := { t.hif with linkUp := false, linkRate := 0, linkWidth := 0, d3hot := false, msixEn := false } }))
      ∧ (s.hif.d3hot = false → exec .d3hotEntry s = .next (raise 0x1F6 4 { s with hif := { s.hif with d3hot := true } }))
      ∧ (s.hif.d3hot = true → exec .d0Entry s = .next (raise 0x1F6 5 (sendPending (
        let t := loseWork s
        { t with hif := { t.hif with d3hot := false } })))))
    ∧ (∀ rate width, isLink rate width = true → rate ≠ 2 → s.hif.linkUp = false → tget false s.clock.powered 0x04 = true →
      tget false s.clock.tripped 0x04 = false →
      exec (.linkUp rate width) s = .next (raise 0x1F6 (2 + (dw rate).toNat % 256 * 2 ^ 8 + width * 2 ^ 16)
        (sendPending { s with hif := { s.hif with linkUp := true, linkRate := rate, linkWidth := width, msixEn := true, msixMask := false } })))

/-- The rows of the front end (02 R58 to R84). Entries held for ORDER go on afterwards. -/
def Obligations.FrontEndRowsTakeEffect : Prop :=
  (∀ (s : State) (q : Nat) (ws image : List Word), q < 64 → (qpOf s q).sqHead ≠ (qpOf s q).sqTail →
      let c := entryOfWords q ws image
      let op := field (wordAt ws 0) 0 8
      (entryCrcOk ws = true → exec (.entryFetch q ws image) s
        = .next (orderCut (startReads (submit op (if isFast op then coreOf op else forward op) c s))))
      ∧ (entryCrcOk ws = false → fetchable s { c with flags := 0 } = true →
        exec (.entryFetch q ws image) s = .next (orderCut (crcFail { c with flags := 0 } s))))
  ∧ (∀ (s : State) (x : Cmd), x.sub.qp < 64 → placeable s x = true → afterF x.op s = false →
      (s.hif.cmds.find? fun y => placeable s y && y.sub.qp == x.sub.qp && y.sub.tag == x.sub.tag) = some x →
      exec (.timedPlacement x.sub.qp x.sub.tag) s = .next (orderCut (finish x.op x.sub
        (placement x { s with hif := { s.hif with cmds := s.hif.cmds.erase x } }))))
  ∧ (∀ (s : State) (x : Cmd), x.sub.qp < 64 → forwardable x = true →
      (s.hif.cmds.find? fun y => forwardable y && y.sub.qp == x.sub.qp && y.sub.tag == x.sub.tag) = some x →
      exec (.forwardedCommit x.sub.qp { tag := x.sub.tag }) s = .next (afterState s (orderCut (commitForwarded x s)))
      ∧ (let u := { s with hif := { s.hif with cmds := s.hif.cmds.erase x } }
        afterF x.op s = false → overtaken x.op s = false → ∀ st r t, coreOf x.op x.sub u = .done st r t →
          commitForwarded x s = finish x.op x.sub (.done st r t)))
  ∧ (∀ (s : State) (q : Nat), q < 64 → bit (qpOf s q).coalCtrl 1 = true → field (qpOf s q).coalCtrl 24 8 ≠ 0 →
      0 < (qpOf s q).coalCount → field (qpOf s q).coalCtrl 24 8 ≤ (qpOf s q).coalAge →
      exec (.coalesceTimeout q) s = .next (signalQp q s))
  ∧ (∀ (s : State) (x : Cmd), x.sub.qp < 64 → faultable x = true → afterF x.op s = false → overtaken x.op s = false →
      (s.hif.cmds.find? fun y => faultable y && y.sub.qp == x.sub.qp && y.sub.tag == x.sub.tag) = some x →
      exec (.forwardedCommit x.sub.qp { tag := x.sub.tag, fault := true }) s = .next (afterState s (orderCut (firmwareFault x s))))
  ∧ (∀ (s : State),
      (s.hif.fwHigh = true → backlog s ≤ 192 → s.hif.timedHigh = false →
        exec .backlogEased s = .next (easePairs false { s with hif := { s.hif with fwHigh := false } }))
      ∧ (s.hif.fwHigh = false → s.hif.timedHigh = true → timedCount s ≤ 768 →
        exec .backlogEased s = .next (easePairs true { s with hif := { s.hif with timedHigh := false } })))

/-- The dispatcher rows of a sample (03 R96 to R128, 04 R139, 05 R165 to R169, 06 R202, 10 R335). -/
def Obligations.DispatchRowsTakeEffect : Prop :=
  (∀ (s : State), halted s = false →
    (∀ loop port v q sn slot src bad, loop < 1024 → port < 4 → slot < 100 →
      (src < 10 → bad / 4 % 2 = 0 → exec (.tokenDelivery loop port v q sn slot src bad) s
        = .next (forEach [1, 2] (fun k t =>
          if !computes (pstat t k) then t
          else if bad / k % 2 = 1 then reportParity k t
          else setPlane k (takeToken (mkToken 0 port loop v q sn) slot src (planeOf t k)) t) s))
      ∧ (src < 10 → bad / 4 % 2 = 1 → exec (.tokenDelivery loop port v q sn slot src bad) s
        = .next (sharedParity (1 + loop * 2 ^ 16) s))
      ∧ (10 ≤ src → src < 13 → exec (.tokenDelivery loop port v q sn slot src bad) s
        = .next (forEach [1, 2] (fun k t =>
          if computes (pstat t k) && bad / k % 2 == 1 then
            reportParity k (setPlane k (dropCopy (hurtToken (mkToken (srcKind src) port loop v q sn)) (planeOf t k)) t)
          else t) s)))
    ∧ (∀ booth, booth < 16 → exec (.taskFire booth) s = .next (onPlanes (fun p => issueNext booth (settleCut p)) s))
    ∧ (∀ loop, loop < 1024 →
      let t := onPlanes (fun p => completeTask (portFree s) loop (settleCut p)) s
      exec (.loopExecution loop) s = .next t
      ∧ (loopMode (actPlane s) loop = 7 → loopMode (actPlane t) loop = 6 → exec (.coastLimitReached loop) s = .next t)
      ∧ (3 ≤ loopMode (actPlane s) loop → loopMode (actPlane s) loop ≤ 5 →
        (loopMode (actPlane t) loop = 6 ∨ loopMode (actPlane t) loop = 7) →
        field (lw (actPlane t) loop wStale) 0 16 ≠ 0 →
        field (lw (actPlane t) loop wStale) 0 16 ≤ field (lw (actPlane t) loop wStale) 16 16 →
        exec (.staleLimitReached loop) s = .next t))
    ∧ (∀ n, n < 128 → exec (.stepDurationDue n) s = .next (onPlanes (durationStep s n) s))
    ∧ (∀ e, e < 16 → exec (.triggerArmed e) s = .next (onPlanes (trigArm e) s)
      ∧ exec (.triggerWindowComplete e) s = .next (onPlanes (fun p => trigDone e (trigWriteDue e p)) s))
    ∧ (∀ g, g < 4 →
      (100 ≤ (group (actPlane s) g).quiet → groupQuiet (actPlane s) g = true →
        exec (.boothPowerDown g) s = .next (groupsDown g s))
      ∧ exec (.boothWakeDone g) s = .next (wakeGroup 4 g s)))
  ∧ (∀ (s : State), halted s = false → s.ump.relDone = false → s.boot.preTick = false → s.ump.roll = none →
      let a := onPlanes (shadowRead s) (scanStart s)
      let b := onPlanes (fun p => flowRelease (portFree a) (deadlineFire p)) a
      let c := onPlanes (masksEval b) b
      let d := onPlanes (sessionsEval c) c
      let e := onPlanes (trigsEval d) d
      exec .sampleDeadline s = .next (orderCut (canSendAll (setUmp { e.ump with relDone := true } e))))

/-- The tick (00 R9, 01 R34). -/
def Obligations.InputCutAdvancesTheSample : Prop :=
  (∀ (s : State) (gp enc : List Word) (bad : BitVec 16),
    (cutRuns s = true →
      let u := fieldCut (samplePins gp enc bad (advanceSn (endSample (orderCut s))))
      exec (.inputCut gp enc bad) s
        = .next (orderCut (readsDone (refuseLate (sharedCut (if halted u then winWritesCut u else planesCut u))))))
    ∧ (cutRuns s = false → exec (.inputCut gp enc bad) s = .next (orderCut s)))
  ∧ (∀ (s : State), s.boot.preTick = false →
      (advanceSn s).sn = s.sn + 1 ∧ (advanceSn s).ump.relDone = false ∧ (advanceSn s).ump.sigDone = false
      ∧ (computes s.ump.a = true → (advanceSn s).planeA.sn = s.sn + 1)
      ∧ (computes s.ump.b = true → (advanceSn s).planeB.sn = s.sn + 1))

/-- The commit (01 R19, 12 Table 12-2) and the posting (17 R516). -/
def Obligations.CommitAndPostingRowsTakeEffect : Prop :=
  ∀ (s : State),
    (∀ bad : List Nat, (bad.all fun c => decide (c < 4352)) = true → s.dev ≠ .off → s.dev ≠ .standby → s.boot.preTick = false →
      (s.boot.firstCommit = true → exec (.outputCommit bad) s = .next (commitAll bad s))
      ∧ (s.boot.firstCommit = false →
        exec (.outputCommit bad) s = .next (commitAll bad (forEach (upTo 8) gridOrigin (firstCommit s)))))
    ∧ (let u := scanProgress 5200 s
      (coveredFrom u = none → exec .eventPosting s = .next (postUpTo u.sn (readNo u) u))
      ∧ (∀ n, coveredFrom u = some n → exec .eventPosting s = .next (postBefore n u)))

/-- The rows of the umpire (11 R347 to R370). -/
def Obligations.UmpireRowsTakeEffect : Prop :=
  (∀ (s : State) (p : Nat), isPlane p = true →
    (∀ cls unit, 1 ≤ cls → cls ≤ 5 → exec (.planeResignation p cls unit) s = .next (lose p cls (unit % 256) false s))
    ∧ (halted s = false → (pstat s p).code = 2 → (pstat s p).ticks % 100 = 0 → (pstat s p).repTick = false →
      exec (.healthReport p true) s = .next (setPstat p { pstat s p with
        repTick := true, repMissed := 0, health := some (healthWord (pstat s p)), repSeq := (pstat s p).repSeq + 1 } s))
    ∧ (halted s = false → (pstat s p).code = 2 → exec (.selfTestSlice p true) s = .next (setPstat p
        (if (pstat s p).slicePos + 1 = 152 then { pstat s p with slicePos := 0, rotations := (pstat s p).rotations + 1 }
          else { pstat s p with slicePos := (pstat s p).slicePos + 1 }) s))
    ∧ (halted s = false → (pstat s p).code = 3 → (pstat s p).ticks < 100000 → causeStands s p = false →
      exec (.diagnosisPassed p) s = .next (toState p 4 0 s))
    ∧ ((pstat s p).code = 3 → 100000 ≤ (pstat s p).ticks → exec (.suspectTimeout p) s = .next (toState p 5 0 s))
    ∧ (halted s = false → (pstat s p).code = 4 → (pstat s p).finalCut = false → s.ump.sw = none →
      exec (.resyncCopyRound p) s = .next (setPstat p { pstat s p with copied := true } (copyTo p s))
      ∧ (quietTick s = true → (pclk s p).aligned = true → (pstat s p).copied = true → (pstat s p).ticks < 100000 →
        exec (.resyncFinalCut p) s = .next (raiseAt (s.sn + 1) 0x1D4 (2 + p * 2 ^ 8)
          (setPstat p { pstat s p with finalCut := true, finalSn := s.sn + 1, resyncAgree := 0 } (takeTime p (copyTo p s))))
        ∧ (planeOf (takeTime p (copyTo p s)) p).clk.rRef = (planeOf s p).clk.r + 4000))
    ∧ ((pstat s p).code = 4 → 1000 ≤ (pstat s p).resyncAgree →
      exec (.resyncComplete p) s = .next (raise 0x1D4 (3 + p * 2 ^ 8) (toState p 2 0 s)))
    ∧ ((pstat s p).code = 4 → (pstat s p).finalCut = false → 100000 ≤ (pstat s p).ticks →
      exec (.resyncTimeout p) s = .next (toState p 5 0 s)))
  ∧ (∀ (s : State), halted s = false →
    (s.boot.preTick = false → exec .signatureExchange s = .next (signatureExchange s))
    ∧ (∀ ha hb, s.ump.a.code = 1 → s.ump.b.code = 2 → heartbeatCounts s (some ha) = true →
      let t := setPstat 2 { s.ump.b with resigned := 0 } (setPstat 1 { s.ump.a with resigned := 0 } s)
      exec (.heartbeatDeadline (some ha) none) s = .next (lose 2 3 s.ump.b.unit true t)
      ∧ (hb.crc ≠ heartbeatCrc hb ∨ hb.sn ≠ s.sn →
        exec (.heartbeatDeadline (some ha) (some hb)) s = .next (lose 2 3 s.ump.b.unit true t))
      ∧ (heartbeatCounts s (some hb) = true → exec (.heartbeatDeadline (some ha) (some hb)) s = .next t))
    ∧ (∀ p, heartbeatCounts s (some (heartbeatOf s p)) = true)
    ∧ (∀ r, s.ump.roll = some r → s.ump.a.code = 1 → s.ump.b.code ≠ 2 →
      exec (.checkRollVerdict true true) s = .next
        (rollStays r 1 (raise 0x1D0 4 (setPstat 2 { s.ump.b with diag := r.units.flatMap slicesOf }
          (setPstat 1 { s.ump.a with diag := r.units.flatMap slicesOf } s))))))
  ∧ (∀ (s : State) x, s.ump.sw = some x → snLater x.electAt s.sn = false → s.ump.relDone = true →
      exec .switchoverElection s = .next (elect false s))

/-- The rows of the ledger (11 R374, 17 R524, 09 R316). -/
def Obligations.LedgerRowsTakeEffect : Prop :=
  ∀ (s : State), ledgerOn s = true → tget false s.clock.tripped 0x02 = false →
    (∀ e t, nextEntry s = some (e, t) → exec (.journalWrite true) s = .next (writeEntry e (setLed { t.led with tries := 0 } t))
      ∧ (s.led.tries < 3 → exec (.journalWrite false) s
        = .next (sharedParity 3 (setLed { s.led with tries := s.led.tries + 1 } s)))
      ∧ (3 ≤ s.led.tries → exec (.journalWrite false) s
        = .next (raise 0x1D5 3 (setLed { t.led with tries := 0, writeErrs := t.led.writeErrs + 1 } t))))
    ∧ (∀ e t, nextRecord s = some (e, t) → s.evts.full = false →
      exec (.eventRecordWrite true) s = .next (queueLost (putRecord e t)))
    ∧ (∀ x, s.hif.cmds.find? ledgerCmd = some x →
      exec (.ledgerReadBack true) s
        = .next (finish x.op x.sub (readBackOk x { s with hif := { s.hif with cmds := s.hif.cmds.erase x } })))

/-- The rows of the axes and of safety (08 R261, R269, 09 R296 to R307). -/
def Obligations.AxisAndSafetyRowsTakeEffect : Prop :=
  (∀ (s : State) (a : Nat), a < 64 →
    (halted s = false → exec (.axisTick a) s = .next (onPlanes (axTick s a) s)
      ∧ ((axHid (actPlane s) a).ticked = false →
        (stallCause s (axDrive s a (axFeedback s a (actPlane s)))
          (axEmf s a (axDrive s a (axFeedback s a (actPlane s)))) a ≠ 0) →
        exec (.stallDeclared a) s = .next (onPlanes (axTick s a) s)))
    ∧ exec .safetyEvaluation s = .next (onPlanes (safeEval s) s)
    ∧ (let t := onPlanes (safeEval s) s
      ((safeAx (actPlane t) a).demand = true → (safeAx (actPlane t) a).cause = 6 → (safeAx (actPlane s) a).demand = false →
        exec (.discrepancyDemand a) s = .next t)
      ∧ ((safeAx (actPlane s) a).ss1.isSome = true → (safeAx (actPlane t) a).ss1 = none →
        exec (.ss1TorqueOff a) s = .next t)))
  ∧ (∀ (s : State) (k l : Nat), k < 8 → pulseLine s k = some l → tget false (planeOf s (l + 1)).safe.lines k = true →
      exec (.stoTestPulse k false) s = .next (onPlanesSl (fun sl => lineFault sl k l) s)
      ∧ exec (.stoTestPulse k true) s = .next s)
  ∧ (∀ (s : State) (n : Nat), n < 64 →
    (∀ pdu, exec (.safetyPduReceive n pdu) s
      = .next (onPlanes (fun p => { p with safe := { p.safe with pdus := p.safe.pdus ++ [(n, pdu)] } }) s))
    ∧ exec (.safetyWatchdogExpiry n) s = .next (onPlanes (fun p =>
        if (connOf p n).state = 1 ∧ (connOf p n).wdt = 0 then failConn n 1 p else p) s)
    ∧ (canConn s.sealed n = none → exec (.safetyPduSend n) s = .next (onPlanes (sendPdu s n) s)))

/-- Rows INSTR_NOP to F_EDGE (07 R230, R233, Tables 7-3 and 7-4): the effect on the planes whose next instruction it is, and
on nothing else. That a row acts only as the next instruction is log entry 13. -/
def Obligations.BitInstructionsTakeEffect : Prop :=
  (ScanRow .instrNop (wordX 0 0) fun p => addCost 2 p)
  ∧ (∀ n : Nat, n < 0x10000 → ScanRow (.rung n) (wordX 1 n) fun p =>
      addCost 2 (setScan { p.scan with rlo := true, stack := [], rung := n } p))
  ∧ (∀ a : Nat, a < 0x200000 → ScanRow (.andBit a) (wordX 2 a) fun p => addCost 2 (setRlo (rloOf p && sbit p a) p))
  ∧ (∀ a : Nat, a < 0x200000 → ScanRow (.andnBit a) (wordX 3 a) fun p => addCost 2 (setRlo (rloOf p && !sbit p a) p))
  ∧ (∀ a : Nat, a < 0x200000 → ScanRow (.orBit a) (wordX 4 a) fun p => addCost 2 (setRlo (rloOf p || sbit p a) p))
  ∧ (∀ a : Nat, a < 0x200000 → ScanRow (.ornBit a) (wordX 5 a) fun p => addCost 2 (setRlo (rloOf p || !sbit p a) p))
  ∧ (ScanRow .push (wordX 6 0) fun p =>
      addCost 2 (setScan { p.scan with stack := p.scan.rlo :: p.scan.stack, rlo := true } p))
  ∧ (ScanRow .popand (wordX 7 0) fun p =>
      addCost 2 (setScan { p.scan with rlo := p.scan.stack.headD false && p.scan.rlo, stack := p.scan.stack.tail } p))
  ∧ (ScanRow .popor (wordX 8 0) fun p =>
      addCost 2 (setScan { p.scan with rlo := p.scan.stack.headD false || p.scan.rlo, stack := p.scan.stack.tail } p))
  ∧ (ScanRow .notRlo (wordX 9 0) fun p => addCost 2 (setRlo (!rloOf p) p))
  ∧ (∀ a : Nat, a < 0x200000 → ScanRow (.outBit a) (wordX 0xA a) fun p => addCost 4 (setSbit a (rloOf p) p))
  ∧ (∀ a : Nat, a < 0x200000 → ScanRow (.setBit a) (wordX 0xB a) fun p =>
      if rloOf p then addCost 4 (setSbit a true p) else addCost 2 p)
  ∧ (∀ a : Nat, a < 0x200000 → ScanRow (.rstBit a) (wordX 0xC a) fun p =>
      if rloOf p then addCost 4 (setSbit a false p) else addCost 2 p)
  ∧ (∀ x : Nat, x < 0x2000 → ScanRow (.rEdge x) (wordX 0xD x) fun p =>
      addCost 2 (setRlo (rloOf p && !sbit p (0xA000 * 32 + x) && !p.scan.priming)
      (setSbit (0xA000 * 32 + x) (rloOf p) p)))
  ∧ (∀ x : Nat, x < 0x2000 → ScanRow (.fEdge x) (wordX 0xE x) fun p =>
      addCost 2 (setRlo (!rloOf p && sbit p (0xA000 * 32 + x) && !p.scan.priming)
      (setSbit (0xA000 * 32 + x) (rloOf p) p)))

/-- Rows TON to CRES (07 R230 to R232): the effect on the planes whose next instruction it is, and on nothing else. -/
def Obligations.TimerAndCounterInstructionsTakeEffect : Prop :=
  (∀ x : Nat, x < 1024 → ScanRow (.ton x) (wordX 0x10 x) fun p =>
      let t := tonStep (rloOf p) p.scan.delta (timerOf p x)
      addCost 8 (setRlo t.q (setTimer x t p)))
  ∧ (∀ x : Nat, x < 1024 → ScanRow (.tof x) (wordX 0x11 x) fun p =>
      let t := tofStep (rloOf p) p.scan.delta (timerOf p x)
      addCost 8 (setRlo t.q (setTimer x t p)))
  ∧ (∀ x : Nat, x < 1024 → ScanRow (.tp x) (wordX 0x12 x) fun p =>
      let t := tpStep p.scan.priming (rloOf p) p.scan.delta (timerOf p x)
      addCost 8 (setRlo t.q (setTimer x t p)))
  ∧ (∀ x : Nat, x < 1024 → ScanRow (.tres x) (wordX 0x13 x) fun p =>
      addCost 4 (if rloOf p then setTimer x { timerOf p x with acc := 0, tt := false, q := false } p else p))
  ∧ (∀ x : Nat, x < 1024 → ScanRow (.ctu x) (wordX 0x14 x) fun p => iCtu x p)
  ∧ (∀ x : Nat, x < 1024 → ScanRow (.ctd x) (wordX 0x15 x) fun p => iCtd x p)
  ∧ (∀ x : Nat, x < 1024 → ScanRow (.cres x) (wordX 0x16 x) fun p =>
      let st := sd p (0x9000 + 4 * x + 2)
      addCost 4 (if rloOf p then setCtr x 0 (bit st 0) (bit st 1) p else p))

/-- Rows CGT to END (07 R230 to R238): the effect on the planes whose next instruction it is, and on nothing else. -/
def Obligations.WordInstructionsTakeEffect : Prop :=
  (∀ a b : Nat, a < 65536 → b < 65536 → ScanRow (.cgt a b) (wordW2 0x18 a b) fun p =>
      addCost 4 (setRlo (rloOf p && decide ((sd p b).toInt < (sd p a).toInt)) p))
  ∧ (∀ a b : Nat, a < 65536 → b < 65536 → ScanRow (.cge a b) (wordW2 0x19 a b) fun p =>
      addCost 4 (setRlo (rloOf p && decide ((sd p b).toInt ≤ (sd p a).toInt)) p))
  ∧ (∀ a b : Nat, a < 65536 → b < 65536 → ScanRow (.clt a b) (wordW2 0x1A a b) fun p =>
      addCost 4 (setRlo (rloOf p && decide ((sd p a).toInt < (sd p b).toInt)) p))
  ∧ (∀ a b : Nat, a < 65536 → b < 65536 → ScanRow (.cle a b) (wordW2 0x1B a b) fun p =>
      addCost 4 (setRlo (rloOf p && decide ((sd p a).toInt ≤ (sd p b).toInt)) p))
  ∧ (∀ a b : Nat, a < 65536 → b < 65536 → ScanRow (.ceq a b) (wordW2 0x1C a b) fun p =>
      addCost 4 (setRlo (rloOf p && (sd p a).toInt == (sd p b).toInt) p))
  ∧ (∀ a b : Nat, a < 65536 → b < 65536 → ScanRow (.cne a b) (wordW2 0x1D a b) fun p =>
      addCost 4 (setRlo (rloOf p && (sd p a).toInt != (sd p b).toInt) p))
  ∧ (∀ lo x hi : Nat, lo < 65536 → x < 65536 → hi < 65536 → ScanRow (.lim lo x hi) (wordW3 0x1E lo x hi) fun p =>
      addCost 6 (setRlo (rloOf p
      && decide ((sd p lo).toInt ≤ (sd p x).toInt ∧ (sd p x).toInt ≤ (sd p hi).toInt)) p))
  ∧ (∀ a b : Nat, a < 65536 → b < 65536 → ScanRow (.mov a b) (wordW2 0x1F a b) fun p =>
      if rloOf p then addCost 6 (setSd b (ownedMerge p b (sd p a)) p) else addCost 4 p)
  ∧ (∀ x : Nat, x < 128 → ScanRow (.holds x) (wordX 0x21 x) fun p => addCost 4 (setSbit (0x5120 * 32 + x) (rloOf p) p))
  ∧ (∀ x : Nat, x < 1024 → ScanRow (.park x) (wordX 0x22 x) fun p => addCost 4 (setSbit (0x5100 * 32 + x) (rloOf p) p))
  ∧ (∀ x : Nat, x < 4224 → ScanRow (.force x) (wordX 0x23 x) fun p => addCost 4 (setSbit (0x5140 * 32 + x) (rloOf p) p))
  ∧ (∀ (a : Nat) (v : Word), a < 65536 → ScanRow (.movi a v) (wordI 0x20 a v.toNat) fun p =>
      if rloOf p then addCost 6 (setSd a (ownedMerge p a v) p) else addCost 4 p)
  ∧ (∀ e code : Nat, e < 0x2000 → code < 65536 → ScanRow (.evt e code) (wordI 0x24 e code) fun p =>
      addCost 4 (setSbit (0xA000 * 32 + e) (rloOf p)
        (if rloOf p && !sbit p (0xA000 * 32 + e) && !p.scan.priming then
          praise 0x1F5 (word (code + p.scan.rung * 65536)) p else p)))
  ∧ (ScanRow .endProg (wordX 0x3F 0) fun p => setScan { p.scan with
      executing := false, finished := true, lastTime := p.scan.cost, maxTime := max p.scan.maxTime p.scan.cost } p)

/-- The rows of a scan cycle (07 R225, R228, R241). -/
def Obligations.ScanCycleRowsTakeEffect : Prop :=
  ∀ (s : State),
    (scanOn s = true → (actPlane s).scan.mode = 1 → (actPlane s).scan.gridStart = true → scanBusy (actPlane s) = false →
      exec .scanCycleStart s = .next (onPlanes (startCycle (commitWrites writeStarting s)) (commitWrites writeStarting s)))
    ∧ exec .scanShadowRead s = .next (onPlanes (shadowRead s) s)
    ∧ exec .scanDeadline s = .next (takeArms (onPlanes (scanDeadline s) s))

/-- The rows of the recorder, the DRAM and the DMA engine (10 R324 to R330, 13 R407 to R423). -/
def Obligations.RecordingAndMemoryRowsTakeEffect : Prop :=
  (∀ (s : State),
      let t := recDue s
      t.recorder.running = true → t.recorder.taken = true →
      (∀ b, b < 16 → exec (.intervalClose b) s = .next (closeDue (b + 1) t))
      ∧ (t.recHeld = [] → exec .timeRecord s = .next (timeRecord (closeDue 16 t))))
  ∧ (∀ (s : State) (head : Word), nextChannel s false = some 1 →
      exec (.streamBurst head) s = .next (streamStep head.toNat (setMem { s.mem with rr := 1 } s)))
  ∧ (∀ (s : State) (req ecc : Nat), dramServes s = true →
      let u := burstEnd s
      let own := turnOwner u u.mem.slot
      (ecc ≠ 3 → dramServes u = true →
        (own ≠ 0 → requests u req own = true → exec (.dramGrant req ecc) s
          = .next (grantTo own ecc (stally (0xA0 + own) 1 (nextSlot u))))
        ∧ ((own = 0 ∨ requests u req own = false) → ∀ k, background u req = some k → exec (.dramGrant req ecc) s
          = .next (grantTo k ecc (stally (0xA8 + k) 1 (setMem { (nextSlot u).mem with lastBg := k } (nextSlot u))))))
      ∧ (s.mem.granted ≠ 0 → s.mem.interrupted = false →
        exec .dramRefresh s = .next (setMem { s.mem with interrupted := true } s))
      ∧ (s.mem.granted = 6 → exec (.scrubBlock ecc) s = .next (scrubBlock ecc s)
        ∧ (eccAt ecc (256 * s.mem.scrubPos) 256 s = 0 → scrubBlock ecc s = nextBlock (setMem { s.mem with granted := 0 } s))))
  ∧ (∀ (s : State) (req : Nat), s.dev = .start → exec (.dramGrant req 3) s = .next (dramLost s))
  ∧ (∀ (s : State), s.mem.granted = 1 → exec .memoryWatchdogBite s = .next (
      let t := raise 0x1E4 (1 + 1 * 2 ^ 8) (countMem 3 (setMem { s.mem with granted := 0, interrupted := false } s))
      spoilDram (t.recorder.pos / 256 * 256) 256 t))
  ∧ (∀ (s : State) (k : Nat), s.mem.xlatEn = false → k ≠ 1 →
      inWindow s (!(dmaCh s k).dir) ((dmaCh s k).host + (dmaCh s k).done) (burstBytes (dmaCh s k)) = true →
      (nextChannel s false = some k → nextChannel s true = none → exec (.dmaBurst 0) s = .next (moveBurst k s))
      ∧ (nextChannel s true = some k → (nextChannel s false = none ∨ nextChannel s false = some 1) →
        exec (.dmaBurst 0) s = .next (moveBurst k s))
      ∧ (∀ j, nextChannel s false = some k → nextChannel s true = some j → j ≠ 1 →
        exec (.dmaBurst 0) s = .next (dmaStep j false (moveBurst k s))))
  ∧ (∀ (s : State) (ch q : Nat) (pte : List DWord), ch < 16 → ch ≠ 0 → q < 64 → s.mem.xlatEn = true → (dmaCh s ch).walk = true →
      ∀ sh page perm t, walkPage s ch (walkAddr s ch q) (walkWrites s ch q) pte = .leaf sh page perm t →
      exec (.translationWalk ch q pte) s
        = .next (pageHere ch (tlbFill ch (walkAddr s ch q) sh page perm t (setDmaCh ch { dmaCh s ch with walk := false } s))))
  ∧ (∀ (s : State) (ch : Nat), 2 ≤ ch → ch < 16 → (dmaCh s ch).state = 2 → 100000 ≤ (dmaCh s ch).suspTicks →
      (s.hif.cmds.any fun c => servedBy (dmaCh s ch) c && dmaTimed c.op) = true →
      exec (.dmaSuspendTimeout ch) s = .next (startReads (endTransfer ch stTimeout 0 s)))
  ∧ (∀ (s : State) (ch q : Nat), 2 ≤ ch → ch < 16 → q < 64 → (dmaCh s ch).state = 1 →
      exec (.completionTimeout ch q) s = .next (startReads (stopChannel ch 9 stBadParam
        (setDmaCh ch { dmaCh s ch with faultVa := (dmaCh s ch).host + (dmaCh s ch).done } s))))

/-- The rows of the analogue front ends (14 R435 to R452). -/
def Obligations.AnalogRowsTakeEffect : Prop :=
  (∀ (s : State) (ch : Nat) (codes : List Int) (k : Nat), ch < 64 →
      ((schedule s (agroup s (ch / 16)).low (ch / 16) 1).find? fun e => e.1 == ch) = some (ch, some true) →
      (agroup s (ch / 16)).roleA = some k → afeUp s (ch / 16 / 2) = true → (aiOf s ch).nxt = none → (aiOf s ch).test = none →
      (droppedChans s (ch / 16)).contains ch = false → codes.length = aiOvs (aiCfg s ch) →
      let r := convertAi s ch k (agroup s (ch / 16)).low codes
      exec (.aiConversion ch codes false) s = .next (broadcastFrom 1 ch r.2.1 r.2.2 (s.sn + 1) 99 0
        (convEvents ch (aiOf s ch) r.1 (setAi ch { r.1 with nxt := some r.2 } s))))
  ∧ (∀ (s : State) (ch : Nat), ch < 64 →
      ((aiOf s ch).nfail = true → 10 ≤ (aiOf s ch).nrun → exec (.ne43Recovery ch) s
        = .next (raise 0x1B4 (3 + ch * 256) (setAi ch { aiOf s ch with nfail := false, nrun := 0 } s)))
      ∧ (∀ res k, (aiOf s ch).test = some k → exec (.afeTestDone ch res) s = .next (completeWaiting
        (fun y => y.op == 0xC6 && y.wait == .device && y.sub.target == ch) stOk
        (if k = 1 then dw (if fsOne < 4 * ((res.toInt - (aiOf s ch).value.toInt).natAbs : Int) then 1 else 0) else dw res.toNat)
        (groupEvent (ch / 16) 6 ch k (setAi ch { aiOf s ch with test := none } s)))))
  ∧ (∀ (s : State) (g : Nat) (res : Word), g < 4 → (agroup s g).test0 = true →
      exec (.afeTestDone (64 + g) res) s = .next (completeWaiting
        (fun y => y.op == 0xC6 && y.wait == .device && y.sub.target == 64 + g) stOk (dw res.toNat)
        (groupEvent g 6 0 0 (setAgroup g { agroup s g with test0 := false } s))))
  ∧ (∀ (s : State) (g : Nat), g < 4 →
      (∀ (at5 : Nat) (codes : List (List Int)), at5 < 2000 → trigLive s g = true → (agroup s g).inj ≠ [] →
        afeUp s (g / 2) = true → codes.length = (agroup s g).inj.length →
        ((agroup s g).inj.zip codes).all (fun y => y.2.isEmpty || y.2.length == aiOvs (aiCfg s y.1)) = true →
        let runs := (agroup s g).runs.any fun r => decide (r.1 ≤ (at5 : Int) ∧ (at5 : Int) < r.2)
        (∀ k, runs = false → (agroup s g).roleA = some k →
          let b := (agroup s g).runs.foldl (fun m r => max m r.2) ((at5 : Int) + ((agroup s g).delay : Int))
          let plan := injectPlan s (agroup s g).low (agroup s g).inj codes b
          exec (.injectedTrigger g at5 codes) s = .next (injectDue g (setAgroup g { agroup s g with
            runs := (agroup s g).runs ++ [(b, plan.foldl (fun m t => max m t.1) b)]
            todo := (agroup s g).todo ++ plan } s)))
        ∧ (runs = true → (agroup s g).missTick = true → exec (.injectedTrigger g at5 codes) s
          = .next (setAgroup g { agroup s g with injMiss := (agroup s g).injMiss + 1, missTick := true } s)))
      ∧ ((agroup s g).rot = 0 → (agroup s g).spare.isSome = true → (agroup s g).calPeriod * 100000 ≤ (agroup s g).calTicks →
        exec (.calRotationStart g) s = .next (startRotation g s))
      ∧ (∀ k diff, (agroup s g).spare = some k → (agroup s g).rot = 1 → 64 ≤ (agroup s g).dupTicks →
        diff ≤ (agroup s g).calTol → (agroup s g).rotB = false →
        exec (.calHandover g diff) s = .next (setAgroup g { agroup s g with
          roleA := some k, spare := (agroup s g).roleA, rot := 2, nextB := true, handSn := s.sn } s))
      ∧ (∀ k coef, (agroup s g).spare = some k → (agroup s g).rot = 2 →
        exec (.calCoeffLoaded g coef true) s = .next (endCal g stOk (dw (agroup s g).handSn.toNat)
          (groupEvent g 1 k 0 (setAgroup g { agroup s g with rot := 0, rotations := (agroup s g).rotations + 1 }
            (setAnalog { s.analog with coef := tsetMany (0, 16777216) s.analog.coef (8 * k) (coef.take 8) } s))))))
  ∧ (∀ (s : State) (k : Nat), k < 32 →
      (∀ im, 1000 * ((clBefore s k - im.toInt).natAbs : Int) ≤ 5 * fsOne → (clOf s k).open_ = false →
        exec (.clMeasure k im false) s = .next (setCl k { clOf s k with
          im := im, drvLimit := false, shortCnt := 0, goodRun := (clOf s k).goodRun + 1, openRun := 0 } s))
      ∧ (3 ≤ (clOf s k).shortCnt → (clOf s k).lost = false → (clOf s k).open_ = false →
        exec (.complianceLost k) s = .next (raise 0x1B5 (1 + k * 256) (setCl k { clOf s k with lost := true } s)))
      ∧ ((clOf s k).lost = true → 10 ≤ (clOf s k).goodRun →
        exec (.complianceRestored k) s = .next (raise 0x1B5 (2 + k * 256) (setCl k { clOf s k with lost := false } s)))
      ∧ (3 ≤ (clOf s k).openRun → (clOf s k).open_ = false →
        exec (.clOpen k) s = .next (raise 0x1B5 (3 + k * 256) (setCl k { clOf s k with open_ := true } s)))
      ∧ (alarmDue s k = true → (clOf s k).alarm = false →
        exec (.retransmitAlarm k) s = .next (raise 0x1B5 (5 + k * 256) (setCl k { clOf s k with alarm := true } s)))
      ∧ (tget false s.analog.ovld k = false → exec (.aoOverload k true) s = .next (raise 0x1B7 (1 + k * 256)
        (setAnalog { s.analog with ovld := tset false s.analog.ovld k true } s))))
  ∧ (∀ (s : State) (v : Nat), 1000 ≤ v → v ≤ 3000 → s.analog.loopvState = 0 →
      exec (.loopvMeasure v) s = .next (setAnalog { s.analog with loopv := v, loopvState := 0 } s))
  ∧ (∀ (s : State) (k : Nat), k < 64 →
      let x : Pwm := tget {} s.analog.pw k
      let u := tget 0 s.outs.chan (64 + k)
      x.next < 2000 → exec (.pwmPeriodStart k) s = .next (setAnalog { s.analog with pw := tset {} s.analog.pw k { x with
        high := (rdiv (clampI 0 fsOne u.toInt * x.period) 16777216).toNat, duty := u, running := true, next := x.next + x.period } } s))

/-- The rows of the field ports, the management ports and device time (15 R458 to R485). -/
def Obligations.FieldAndTimeRowsTakeEffect : Prop :=
  (∀ (s : State) (p : Nat), p < 8 → (fport s p).speed ≠ 0 →
      ((fport s p).linkUp = true →
        (∀ f, frameCause s p f = 0 → (station s (32 * p + f.src)).mac ≠ 0 →
          exec (.frameReceive p f) s = .next (setPort p { fport s p with rx := (fport s p).rx ++ [f] } s))
        ∧ (∀ f, frameCause s p f ≠ 0 → (fport s p).discTick = true → exec (.frameReceive p f) s = .next
          (setPort p { fport s p with discards := satAdd 0xFFFFFFFF (fport s p).discards 1, discTick := true } s))
        ∧ ((fport s p).txBusy ≤ 5000 → deciding s = false → s.boot.firstCommit = true → (fport s p).resend = true →
          exec (.outputFrameSend p) s = .next (sendFrame p s))
        ∧ exec (.fieldLinkDown p) s
          = .next (portEvent p 2 0 (setPort p { fport s p with
            linkUp := false, linkFell := true, clockRec := false, resend := false } s)))
      ∧ ((fport s p).linkUp = false → exec (.fieldLinkUp p) s
          = .next (portEvent p 1 0 (setPort p { fport s p with linkUp := true, clockRec := true, txBusy := 0 } s)))
      ∧ (∀ f, ((fport s p).rx.find? fun y => !snLater y.sn (s.sn + 1)) = some f → heldBack (actPlane s) (p + 1) = false →
          exec (.frameDelivery p) s = .next (deliverFrame p f (setPort p { fport s p with rx := (fport s p).rx.erase f } s))))
  ∧ (∀ (s : State) (k : Nat), k < 256 → (station s k).en = true → (fport s (k / 32)).lostCnt ≤ (station s k).missed →
      exec (.stationLost k) s = .next (stationLost k s))
  ∧ (∀ (s : State) (k : Nat), k < 2 → (mgt s k).mode ≠ 0 →
      ((mgt s k).linkUp = true → ptpEn s = true → s.field.ptp.port = k → ptpPort s = some k →
        ∀ st d, st = s.field.ptp.portState → exec (.ptpMessageReceive k { portState := st, offset := none, delay := d }) s
          = .next (setPtp { s.field.ptp with
              portState := st, delay := d
              rxTime := instant (takeFree s).1 s - dw (field s.field.ptp.lats 16 16) } (takeFree s).2))
      ∧ ((mgt s k).linkUp = false → exec (.mgtLinkChange k true) s
        = .next (choosePort (raise (0x188 + k) 1 (setMgt k { mgt s k with linkUp := true } s)))))
  ∧ (∀ (s : State) (kind k : Nat), isPtpKind kind = true → ptpPort s = some k → ptpEn s = true → activeNo s ≠ 0 →
      ptpRole s kind = true → exec (.ptpMessageSend kind) s = .next (setPtp { s.field.ptp with
        sent := some (ptpOut s k kind (instant (takeFree s).1 s + dw (field s.field.ptp.lats 0 16))) } (takeFree s).2))
  ∧ (∀ (s : State) (u : Nat), u < 4 → cmpReached s 3999 u = true →
      exec (.timeCompareFire u) s = .next (cmpFire u s))

/-- The rows of the CAN channels (16 R490 to R510). -/
def Obligations.CanRowsTakeEffect : Prop :=
  ∀ (s : State) (ch : Nat), ch < 8 →
    (∀ f ts, canOnline (canCh s ch) = true → f.fmt ≤ canMode (canCh s ch) → ¬ (f.fmt = 2 ∧ f.ide = true) → lenAllowed f.fmt f.data.length = true →
      canRefEn (canCh s ch) = false → exec (.canFrameReceive ch f ts) s = .next (receiveFrame ch f ts s))
    ∧ (∀ k, k < 32 → slotDue (canSlot (canCh s ch) k) = true → canReleases s = true → s.boot.firstCommit = true →
      (field (canSlot (canCh s ch) k).p0 29 2 = 0 ∨ canMode (canCh s ch) ≠ 0) → exec (.canSchedRelease ch k) s = .next (canPlace ch (schedEntry s ch k) (setCan ch { canCh s ch with
        slots := tset {} (canCh s ch).slots k { canSlot (canCh s ch) k with sent := true } } s)))
    ∧ (∀ e r, (canCh s ch).tx = e :: r → canSends (canCh s ch) = true →
      (e.evt = false → exec (.canTxComplete ch) s = .next (startHead ch
        (confine ch (canCount ch 5 (popHead ch (setCan ch { canCh s ch with tec := (canCh s ch).tec - 1 } s))))))
      ∧ exec (.canTxError ch) s = .next (txErrorCount ch (retryHead ch e r s))
      ∧ exec (.canArbitrationLost ch) s = .next (setCan ch { canCh s ch with
        tx := if canReleases s then { e with onBus := false } :: r else r } s))
    ∧ (canRefEn (canCh s ch) = true → canReleases s = true → (canCh s ch).state ≠ 0 →
      ((canCh s ch).refAge % (canCh s ch).refCyc = 0 → exec (.referenceMessage ch false) s = .next (presentRef ch s))
      ∧ ((canCh s ch).refPend = true → canSends (canCh s ch) = true →
        ((canCh s ch).tx.any fun e => e.onBus) = false → exec (.referenceMessage ch true) s = .next (sentRef ch s)))
    ∧ ((canCh s ch).state = 5 → exec (.busOffRecovery ch) s
      = .next (startHead ch (canState ch 2 (setCan ch { canCh s ch with tec := 0, recv := 0 } s))))
    ∧ ((canCh s ch).state = 1 → exec (.canIntegrationDone ch) s = .next (startHead ch (canState ch 2 s)))
    ∧ (canOnline (canCh s ch) = true → exec (.canReceiveError ch) s
      = .next (confine ch (setCan ch { canCh s ch with recv := min 255 ((canCh s ch).recv + 1) } s)))

/-- Resets and power (12 R381 to R396, 18 R563 to R565, 09 R315). -/
def Obligations.ResetRowsTakeEffect : Prop :=
  (∀ (s : State),
      exec .porstAssert s = .next (
        let r := resetCore s
        { r with clock := { r.clock with opsec := s.led.opsec } })
      ∧ exec .sealOpenAssert s = .next { s with sealed := { s.sealed with openAsserted := true, openFell := false } }
      ∧ exec .sealOpenDeassert s = .next { s with sealed := { s.sealed with openFell := true } }
      ∧ (s.sealed.openFell = true → (sealOpenCut s).sealed.openAsserted = false))
  ∧ (∀ (s : State) (x : Straps), x.bootSel < 4 →
      (s.boot.porst = true → s.boot.warm = false → exec (.porstRelease x) s = .next (enterStart false (sampleStraps x
        { s with boot := { s.boot with porst := false }, led := { s.led with pcc := s.led.pcc + 1 } })))
      ∧ (s.boot.warm = true → s.boot.porst = false → s.boot.warmPending = false →
        exec (.warmRstRelease x) s = .next (enterStart false (sampleStraps x { s with boot := { s.boot with warm := false } }))))
  ∧ (∀ (s : State), s.boot.warm = false → s.boot.ckptOpen = false →
      (s.dev = .ready → exec .warmRstFall s = .next (warmReset { s with boot := { s.boot with warm := true } }))
      ∧ (takesCkpt s = true → exec .warmRstFall s = .next (
        let t := beginCkpt 2 { s with boot := { s.boot with warm := true } }
        { t with boot := { t.boot with warmPending := true } })))
  ∧ (∀ (s : State), s.boot.warmPending = true → exec .warmResetApply s = .next (warmReset s))
  ∧ (∀ (s : State), s.boot.pwrfail = none → s.boot.ckptOpen = false → takesCkpt s = true →
      exec .pwrfailAssert s = .next (beginCkpt 1 (writeOpsec true { s with boot := { s.boot with pwrfail := some s.sn } })))
  ∧ (∀ (s : State), s.boot.ckptOpen = true →
      (s.boot.ckptShadow = [] → s.sn = s.boot.ckptF → exec .checkpointShadowLatch s = .next (shadowLatch s)
        ∧ shadowLatch s = (
          let t := handOver s
          let sh := ([1, 2].filter fun k => computes (pstat t k)).map fun k => (k, shadowOf k t)
          let u := flushEntries { t with boot := { t.boot with ckptShadow := sh } }
          if u.led.jqueue.isEmpty then
            setHalf u.boot.ckptHalf (some { (tget default u.boot.ckptShadow (readNo u) : Ckpt) with valid := false }) u
          else u))
      ∧ (s.boot.ckptShadow ≠ [] → exec (.checkpointValidMark true) s = .next (validMark true s)))
  ∧ (∀ (s : State), s.boot.pwrfail.isSome = true → exec .pwrfailRelease s = .next (pwrfailRelease s)
      ∧ (pwrfailRelease s).boot.pwrfail = none)
  ∧ (∀ (s : State) (d : Nat), d < 20 →
      (tget false s.clock.powered (feedOf d) = true → tget false s.clock.tripped d = false →
        exec (.supplyTrip d) s = .next (supplyLost d (raise 0x1C4 (1 + d * 2 ^ 8)
          { s with clock := { s.clock with tripped := tset false s.clock.tripped d true } })))
      ∧ (tget false s.clock.tripped d = true → exec (.supplyRestored d) s = .next (raise 0x1C4 (2 + d * 2 ^ 8)
          { s with clock := { s.clock with tripped := tset false s.clock.tripped d false } })))
  ∧ (∀ (s : State), s.dev = .standby → s.clock.wake.isSome = true →
      exec .wakeTimerExpiry s = .next (enterStart true { s with clock := { s.clock with wake := none } }))
  ∧ (∀ (s : State), s.dev = .idle → s.clock.idleWake.isSome = true → levelReached s = true →
      exec .idleWakeCommit s = .next (
        let t := { wakeDram s with dev := .run, clock := { s.clock with idleWake := none } }
        recBegin (completeWaiting (fun x => x.op == 0x02 && x.wait == .device) stOk (dw t.sn.toNat) t)))

/-- Start-up (12 R386 to R397, 18 R540 to R551). -/
def Obligations.StartupRowsTakeEffect : Prop :=
  (∀ (s : State) (k : Nat), k = 3 ∨ k = 4 → (clkSrc s k).running = true → (clkSrc s k).stable = false →
      let t := setClkSrc k { clkSrc s k with counted := true, stable := true, lost := false } s
      exec (.rcStable k) s = .next (
        if k = 4 then { t with clock := { t.clock with smArmed := srcSound s 2 } }
        else if s.dev = .start then sealedRead (wakeDram (forEach rcDomains (setPower · true) t)) else t))
  ∧ (∀ (s : State) (k : Nat), k < 2 → (clkSrc s k).running = true → (clkSrc s k).stable = false → (clkSrc s k).lost = false →
      xmArmed s = true →
      exec (.crystalStable k) s = .next (setClkSrc k { clkSrc s k with counted := true, stable := true } s))
  ∧ (∀ (s : State), (clkSrc s 2).running = true → (clkSrc s 2).stable = false → (clkSrc s 2).lost = false → srcSound s 4 = true →
      exec (.crystalStable 2) s = .next (takeXtal32 (setClkSrc 2 { clkSrc s 2 with counted := true, stable := true } s)))
  ∧ (∀ (s : State) (p : Nat), isPlane p = true → starting s p = true →
      (srcSound s (p - 1) = true → (pclk s p).locked = false →
        exec (.pllLock p) s = .next (bootLevel p (forEach (planeDomains p) (setPower · true)
          (setPclk p { pclk s p with locked := true } (setPstat p { pstat s p with pllLocked := true } s))))
        ∧ exec (.pllLockTimeout p) s = .next (startFail p 2 s))
      ∧ (srcSound s (p - 1) = false → exec (.crystalStartTimeout p) s = .next (startFail p 1 s))
      ∧ ((pstat s p).pllLocked = true → ∀ f0 f1, exec (.firmwareChecked p f0 f1) s = .next (
          let t := holdsImage 1 (fwFinds f1 s 1) (holdsImage 0 (fwFinds f0 s 0) s)
          fwSettle { t with boot := { t.boot with fwFound := tput (tdel s.boot.fwFound p) p (fwFinds f0 s 0, fwFinds f1 s 1) } }))
      ∧ ((pstat s p).fwOk = true → (pstat s p).testDone = false →
        exec (.selfTestDone p true) s = .next (setPstat p { pstat s p with testDone := true } s)
        ∧ exec (.selfTestDone p false) s = .next (startFail p 4 s))
      ∧ ((pstat s p).testDone = true → (pstat s p).ready = false → exec (.planeReady p) s
        = .next (postLoaded p (setPstat p { pstat (loadRestore p s) p with ready := true } (loadRestore p s))))
      ∧ (electable s p = false → exec (.startupTimeout p) s = .next (startFail p 7 s)))
  ∧ (∀ (s : State), activeNo s = 0 → s.dev = .start → electable s 1 = true → electable s 2 = true →
      exec .startupElection s = .next (toState 2 2 0 (toState 1 1 0 s)))

/-- The rows of the clocks (18 R545 to R557). -/
def Obligations.ClockRowsTakeEffect : Prop :=
  (∀ (s : State) (p cause : Nat), isPlane p = true → 1 ≤ cause → cause ≤ 3 → (clkSrc s (p - 1)).running = true → xmArmed s = true →
      (pstat s p).code ≠ 0 →
      exec (.clockMonitorTrip p false cause) s = .next (coast p (sourceLost (p - 1) cause s)))
  ∧ (∀ (s : State) (cause : Nat), 1 ≤ cause → cause ≤ 2 → watched s 3 4 = true →
      exec (.sharedClockTrip 3 cause) s = .next (fastRcLost (sourceLost 3 cause s)))
  ∧ (∀ (s : State) (cause : Nat), 1 ≤ cause → cause ≤ 2 → watched s 2 4 = true → s.clock.umpSlow = false →
      exec (.sharedClockTrip 2 cause) s = .next (umpireLost (raise 0x1C1 1 { sourceLost 2 cause s with
        clock := { (sourceLost 2 cause s).clock with umpSlow := true, smArmed := false } })))
  ∧ (∀ (s : State), (clkSrc s 2).lost = true → srcSound s 4 = true →
      exec (.clockSourceRecovered 2) s = .next (takeXtal32 (raise 0x1C0 (2 + 2 * 2 ^ 8)
        (setClkSrc 2 { clkSrc s 2 with counted := true, stable := true, lost := false } s))))
  ∧ (∀ (s : State) (delta : Int) (trim : Word), computes s.ump.a = true → computes s.ump.b = true → delta.natAbs ≤ 80 →
      let k := pclk s (steered s)
      let new := clampI (-trimLimit) trimLimit (clampI (k.trim.toInt - trimStep) (k.trim.toInt + trimStep) trim.toInt)
      exec (.tickAlignment delta trim) s = .next (setPclk (steered s) { k with
        trim := BitVec.ofInt 32 new
        alignRun := if decide (delta ≤ 20) && decide (-20 ≤ delta) then k.alignRun + 1 else 0
        limitRun := if new = trimLimit ∨ new = -trimLimit then k.limitRun + 1 else 0 }
        { s with clock := { s.clock with delta := delta } }))
  ∧ (∀ (s : State) (p : Nat), isPlane p = true →
      (100 ≤ (pclk s p).alignRun → (pclk s p).aligned = false →
        exec (.planeAligned p) s = .next (raise 0x1C2 (2 + p * 256) (setPclk p { pclk s p with aligned := true } s)))
      ∧ (100 ≤ (pclk s p).limitRun →
        exec (.trimLimit p) s = .next (raise 0x1C2 (1 + p * 256) (setPclk p { pclk s p with limitRun := 0 } s)))
      ∧ (mgtPowered s p = true → (pclk s p).level < 2 →
        exec (.droopFallback p) s = .next (levelEvent (pclk s p).level ((pclk s p).level + 1) 3
          (setPclk p { pclk s p with level := (pclk s p).level + 1, vid := vidCode ((pclk s p).level + 1), settle := none }
            { s with clock := { s.clock with fallback := some (max ((pclk s p).level + 1) (s.clock.fallback.getD 0)) } })))
      ∧ (∀ l cause, (pclk s p).settle = some (l, 0, cause) → exec (.levelSettleExpiry p) s = .next (completeDvfs (
          let t := setPclk p { pclk s p with level := l, settle := none } s
          if (pclk s (otherPlane p)).settle.isNone then levelEvent (pclk s p).level l cause t else t))))
  ∧ (∀ (s : State), halted s = false → s.ump.ticks ≠ 0 → s.ump.ticks % 1000 = 0 → s.ump.a.code = 1 → s.ump.b.code = 2 →
      exec (.tickPeriodCheck true false) s = .next (lose 2 2 s.ump.b.unit false s)
      ∧ exec (.tickPeriodCheck true true) s = .next s)
  ∧ (∀ (s : State), s.clock.fallback.isSome = true →
      exec .droopRelease s = .next (applyLevel 4 { s with clock := { s.clock with fallback := none } }))
  ∧ (∀ (s : State) (k : Nat) (n : Word), k < 8 →
      let f : FCount := tget {} s.clock.counters k
      f.busy = true → clkStopped s f.meas = false →
      exec (.measurementDone k n false) s = .next (completeWaiting
        (fun x => x.op == 0x05 && x.wait == .device && x.sub.qp == f.qp && x.sub.tag == f.tag) stOk (dword n (word f.gate))
        (raise 0x1C7 (1 + k * 256) (setCounter k {} s))))

/-- The lock unit, operating seconds and the test access port (17 R523 to R534, 20 R606). -/
def Obligations.LockAndTapRowsTakeEffect : Prop :=
  (∀ (s : State),
      (2880000000 ≤ s.lock.openTicks → exec .fieldLockExpiry s = .next (closeLock 2 s))
      ∧ (60 ≤ s.lock.nonceAge → exec .nonceExpiry s = .next { s with lock := { s.lock with nonce := none } })
      ∧ (s.dev ≠ .off → s.dev ≠ .standby → exec .operatingSecond s = .next { s with
          clock := { s.clock with opsec := s.clock.opsec + 1, opsecDue := s.clock.opsecDue + 1 }
          lock := { s.lock with nonceAge := s.lock.nonceAge + 1, failAge := s.lock.failAge + 1 } })
      ∧ (60 ≤ s.clock.opsecDue → exec (.opsecWrite true) s = .next (writeOpsec true s)))
  ∧ (∀ (s : State), tapOn s = true →
      (∀ bits n, exec (.tapBypass bits n) s = .next (setTap 0xFF (2 * bits % 2 ^ n) s))
      ∧ exec .tapIdcode s = .next (setTap 0x01 0x2A1249CB s)
      ∧ exec .tapReset s = .next (setTap 0x01 0 s)
      ∧ (lockOpen s = false → exec .tapSample s = .next (setTap 0x02 0 s)
        ∧ (∀ sel, exec (.tapObsSel sel) s = .next (setTap 0x10 0 s)) ∧ exec .tapObsData s = .next (setTap 0x11 0 s))
      ∧ (lockOpen s = true →
        (∃ t, exec .tapSample s = .next t ∧ t.tap.ir = 0x02)
        ∧ (∀ sel, ∃ t, exec (.tapObsSel sel) s = .next t ∧ t.tap.ir = 0x10 ∧ t.tap.obsSel = sel)
        ∧ (bit s.tap.obsSel 9 = true → exec .tapObsData s = .next (setTap 0x11 (traceStatus s) s))
        ∧ (bit s.tap.obsSel 9 = false → exec .tapObsData s
          = .next (setTap 0x11 (tallyOf s (if bit s.tap.obsSel 8 then 2 else 1) (field s.tap.obsSel 0 8)).toNat s))))

/-- The rows of the MS-240 window (19 R570 to R579). -/
def Obligations.WindowRowsTakeEffect : Prop :=
  (∀ (s : State), windowOn s = true → s.window.request = none →
    (windowWrites s = true →
      (∀ (l : Nat) (d : BitVec 16), l < 64 →
        exec (.winSpHi l d) s = .next (setWin { s.window with spHi := tset 0 s.window.spHi l (field d 0 4) } s)
        ∧ exec (.winMoHi l d) s = .next (setWin { s.window with moHi := tset 0 s.window.moHi l (field d 0 4) } s)
        ∧ exec (.winSpLo l d) s = .next (queueWrite l 0 (codeValue (tget 0 s.window.spHi l) d) s)
        ∧ exec (.winMoLo l d) s = .next (queueWrite l 1 (codeValue (tget 0 s.window.moHi l) d) s)
        ∧ exec (.winMode l d) s = .next (queueWrite l 2 (word (field d 0 4)) s))
      ∧ (∀ d : BitVec 16, exec (.winClaim d) s = .next (winAsk false d.toNat s))
      ∧ exec .winStart s = .next (winAsk true 1 s) ∧ exec .winHold s = .next (winAsk true 2 s)
      ∧ exec .winResume s = .next (winAsk true 3 s) ∧ exec .winAdvance s = .next (winAsk true 4 s)
      ∧ exec .winAbort s = .next (winAsk true 5 s))
    ∧ (windowReads s = true → s.window.blank = false → ∀ a : Nat,
      (isStatusAddr a = true → exec (.windowStatusRead a) s = .next (
        let t := statusClear a s
        setWin { t.window with dout := BitVec.ofNat 16 (statusValue s a).toNat } t))
      ∧ (isStatusAddr a = false → a < 0x1000 →
        exec (.windowRead a) s = .next (setWin { s.window with dout := BitVec.ofNat 16 (winValue s a) } s))))
  ∧ (∀ (s : State) cmd d, s.window.request = some (cmd, d) →
      exec .windowRequestTimeout s = .next (winDone (setWstat (if cmd then 0 else 1) s)))

/-- One step takes the command at the front of the queue; that an empty queue idles is the model's choice (log entry 1). -/
def Obligations.StepRunsTheFrontCommand : Prop :=
  (∀ (c : Instr) (r : List Instr) (s : State), s.pending = c :: r → step s = exec c { s with pending := r })
  ∧ ∀ s : State, s.pending = [] → step s = .next s

/-- Values that the spec states for reset (00 R13, 02 R51, R62, 12 R381, 17 R520, R533). -/
def Obligations.ResetHoldsTheStatedValues : Prop :=
  State.reset.dev = .off ∧ State.reset.boot.porst = true ∧ State.reset.sn = 0 ∧ State.reset.pending = []
  ∧ readReg State.reset 0x0 = 0xA1240043 ∧ readReg State.reset 0x8 = 0
  ∧ (∀ q : Nat, (qpOf State.reset q).ctrl = 0x00004400 ∧ (qpOf State.reset q).phase = true ∧ (qpOf State.reset q).seq = 0)
  ∧ (∀ src : Nat, src < 0x200 → bit (evtCfg State.reset src) 27 = decide (0x40 ≤ src)
      ∧ bit (evtCfg State.reset src) 31 = false ∧ bit (evtCfg State.reset src) 30 = false)
  ∧ State.reset.lock.isOpen = false ∧ State.reset.ump.a.code = 0 ∧ State.reset.ump.b.code = 0
  ∧ State.reset.memWf ∧ State.reset.oneActive

/-- The canonical form of host memory is an invariant of every step. -/
def Obligations.EveryStepKeepsHostMemoryForm : Prop :=
  ∀ s t : State, s.memWf → step s = .next t → t.memWf

/-- At most one plane is ACTIVE: an invariant of every step (01 R18, 11 R347, R349). -/
def Obligations.EveryStepKeepsOneActivePlane : Prop :=
  ∀ s t : State, s.oneActive → step s = .next t → t.oneActive

/-- No well-formed command stops; only an event row that names no existing object faults. -/
def Obligations.WellFormedCommandsAnswer : Prop :=
  (∀ (i : Instr) (s : State), i.wf = true → ∃ t, exec i s = .next t)
  ∧ ∀ (i : Instr) (s : State), (∃ t, exec i s = .next t) ∨ exec i s = .fault .noSuchObject

/-- The queue of waiting commands belongs to the outside world: no command changes it. -/
def Obligations.CommandsKeepTheQueue : Prop :=
  ∀ (c : Instr) (s t : State), exec c s = .next t → t.pending = s.pending

/-- SAFE is left only by a reset (01 R30). -/
def Obligations.OnlyResetsLeaveSafe : Prop :=
  ∀ (c : Instr) (s t : State), s.dev = .safe → exec c s = .next t → t.dev ≠ .safe →
    c = .porstAssert ∨ (∃ x, c = .porstRelease x) ∨ c = .warmRstFall ∨ c = .warmResetApply ∨ ∃ x, c = .warmRstRelease x

/-- No command, firmware path or recipe writes the SL registers (01 R20). -/
def Obligations.SealedRegistersChangeOnlyAtReset : Prop :=
  ∀ (c : Instr) (s t : State), exec c s = .next t → (t.sealed.regs ≠ s.sealed.regs ∨ t.sealed.valid ≠ s.sealed.valid) →
    (∃ k, c = .rcStable k) ∨ c = .porstAssert ∨ c = .warmRstFall ∨ c = .warmResetApply ∨ t.dev = .standby

/-- The sample number advances by one per tick, at the input cut (00 R9). -/
def Obligations.SampleNumberAdvancesAtTheInputCut : Prop :=
  ∀ (c : Instr) (s t : State), exec c s = .next t → t.sn ≠ s.sn →
    (∃ gp enc bad, c = .inputCut gp enc bad ∧ t.sn = if s.boot.preTick then s.boot.firstSn else s.sn + 1)
    ∨ (t.sn = 0 ∧ (t.dev = .off ∨ t.dev = .start ∨ t.dev = .standby))

/-- The fence of an analogue-valued output channel (01 R22). -/
def Obligations.AnalogueOutputsAreFenced : Prop :=
  ∀ (s : State) (bad : List Nat) (ch : Nat), ch < 32 → (∀ b ∈ bad, b < 4352) → bad.contains ch = false →
    s.dev = .run → s.boot.preTick = false → s.boot.firstCommit = true → activeNo s ≠ 0 → s.ump.sw = none → s.ump.roll = none →
    chanOff s ch = false → tget false s.outs.have_ ch = true →
    forcedSafe s (actPlane s) ch = false → lateHold s (actPlane s) ch = false →
    let v := (axisOutput (actPlane s) ch).getD (outReg (actPlane s) ch)
    let c := tget 0 s.outs.chan ch
    let lo := (fence s.sealed ch 0).toInt
    let hi := (fence s.sealed ch 1).toInt
    let slew := (fence s.sealed ch 2).toInt
    let u0 := min (max v.toInt lo) hi
    let u1 := if u0 > c.toInt + slew then c.toInt + slew else u0
    let u2 := if u1 < c.toInt - slew then c.toInt - slew else u1
    ∃ t, exec (.outputCommit bad) s = .next t ∧ tget 0 t.outs.chan ch = BitVec.ofInt 32 u2
      ∧ tget false t.outs.fenced ch = decide (BitVec.ofInt 32 u2 ≠ v)

/-- The three timers, case by case (07 R231). -/
def Obligations.TimersFollowR231 : Prop :=
  ∀ (s : State) (k x : Nat), (k = 1 ∨ k = 2) → computes (pstat s k) = true → scanOn s = true → x < 1024 →
    let p := planeOf s k
    let o := timerOf p x
    let r := rloOf p
    let d := p.scan.delta
    let acc1 := min (o.acc + d) o.act
    let same := fun (n : Timer) => n.pre = o.pre ∧ n.inp = r
    (nextInstr p = some (wordX 0x10 x) → ∃ t, exec (.ton x) s = .next t ∧
      let n := timerOf (planeOf t k) x
      same n ∧ rloOf (planeOf t k) = n.q
      ∧ (r = false → n.act = o.act ∧ n.acc = 0 ∧ n.tt = false ∧ n.q = false)
      ∧ (r = true → o.inp = false → n.act = o.pre ∧ n.acc = 0 ∧ n.tt = decide (o.pre ≠ 0) ∧ n.q = decide (o.pre = 0))
      ∧ (r = true → o.inp = true → o.tt = true →
          n.act = o.act ∧ n.acc = acc1 ∧ n.tt = decide (acc1 < o.act) ∧ n.q = decide (o.act ≤ acc1))
      ∧ (r = true → o.inp = true → o.tt = false →
          n.act = o.act ∧ n.acc = o.acc ∧ n.tt = false ∧ n.q = decide (o.act ≤ o.acc)))
    ∧ (nextInstr p = some (wordX 0x11 x) → ∃ t, exec (.tof x) s = .next t ∧
      let n := timerOf (planeOf t k) x
      same n ∧ rloOf (planeOf t k) = n.q
      ∧ (r = true → n.act = o.act ∧ n.acc = 0 ∧ n.tt = false ∧ n.q = true)
      ∧ (r = false → o.inp = true →
          n.act = o.pre ∧ n.acc = 0 ∧ n.tt = decide (o.pre ≠ 0) ∧ n.q = (o.q && decide (o.pre ≠ 0)))
      ∧ (r = false → o.inp = false → o.tt = true →
          n.act = o.act ∧ n.acc = acc1 ∧ n.tt = decide (acc1 < o.act) ∧ n.q = (o.q && decide (acc1 < o.act)))
      ∧ (r = false → o.inp = false → o.tt = false → n.act = o.act ∧ n.acc = o.acc ∧ n.tt = false ∧ n.q = o.q))
    ∧ (nextInstr p = some (wordX 0x12 x) → ∃ t, exec (.tp x) s = .next t ∧
      let n := timerOf (planeOf t k) x
      same n ∧ rloOf (planeOf t k) = n.q
      ∧ (r = true → o.inp = false → o.tt = false → p.scan.priming = false →
          n.act = o.pre ∧ n.acc = 0 ∧ n.tt = decide (o.pre ≠ 0) ∧ n.q = decide (o.pre ≠ 0))
      ∧ (o.tt = true →
          n.act = o.act ∧ n.acc = acc1 ∧ n.tt = decide (acc1 < o.act) ∧ n.q = (o.q && decide (acc1 < o.act)))
      ∧ ((r = false ∨ o.inp = true) → o.tt = false → n.act = o.act ∧ n.acc = o.acc ∧ n.tt = false ∧ n.q = o.q))

/-- The two counters (07 R232). -/
def Obligations.CountersFollowR232 : Prop :=
  ∀ (s : State) (k x : Nat), (k = 1 ∨ k = 2) → computes (pstat s k) = true → scanOn s = true → x < 1024 →
    (planeOf s k).scan.priming = false →
    let p := planeOf s k
    let pre := sd p (0x9000 + 4 * x)
    let acc := sd p (0x9000 + 4 * x + 1)
    let st := sd p (0x9000 + 4 * x + 2)
    let after := fun (q : Plane) (n : Int) (cu cd : Bool) =>
      sd q (0x9000 + 4 * x) = pre ∧ (sd q (0x9000 + 4 * x + 1)).toInt = n
      ∧ bit (sd q (0x9000 + 4 * x + 2)) 0 = cu ∧ bit (sd q (0x9000 + 4 * x + 2)) 1 = cd
      ∧ bit (sd q (0x9000 + 4 * x + 2)) 2 = decide (pre.toInt ≤ n) ∧ bit (sd q (0x9000 + 4 * x + 2)) 3 = decide (n ≤ 0)
    (nextInstr p = some (wordX 0x14 x) → ∃ t, exec (.ctu x) s = .next t ∧
      after (planeOf t k) (if rloOf p ∧ bit st 0 = false ∧ acc.toInt ≠ 0x7FFFFFFF then acc.toInt + 1 else acc.toInt)
        (rloOf p) (bit st 1))
    ∧ (nextInstr p = some (wordX 0x15 x) → ∃ t, exec (.ctd x) s = .next t ∧
      after (planeOf t k) (if rloOf p ∧ bit st 1 = false ∧ acc.toInt ≠ -0x80000000 then acc.toInt - 1 else acc.toInt)
        (bit st 0) (rloOf p))

/-- Rate changes of device time (15 R484). -/
def Obligations.RateChangesKeepTimeContinuous : Prop :=
  ∀ (c : Sub) (s : State), runsNow 0xD9 c s = true → servoOn (begun 0xD9 c s) = false →
    let at_ := fun (o : PlaneTime) => let d := (o.r.toNat : Int) - o.rRef.toNat
      o.ofs.toInt + d * 163840 + rdiv (d * 163840 * s.field.time.rate.toInt) (2 ^ 40)
    let tq := at_ (actPlane s).clk
    ∃ t, exec (.timeRate c) s = .next t
      ∧ (∀ k, k = 1 ∨ k = 2 → let o := (planeOf s k).clk
        (planeOf t k).clk = { r := o.r, rRef := o.r, ofs := BitVec.ofInt 96 (at_ o) })
      ∧ t.field.time.rate = par c 0 ∧ tqNow s = tq ∧ (-2 ^ 95 ≤ tq ∧ tq < 2 ^ 95 → tqNow t = tq)

/-- Reading a status register of the window (19 R574). -/
def Obligations.StatusReadsClearWhatTheyReturn : Prop :=
  (∀ (s : State) (a : Nat), isStatus a = true → windowOn s = true → windowReads s = true → s.window.request = none →
    s.window.blank = false → computes (pstat s (readNo s)) = true →
    ∃ t, exec (.windowStatusRead a) s = .next t ∧ t.window.dout = BitVec.ofNat 16 (statusValue s a).toNat
      ∧ statusValue t a = 0
      ∧ ∀ b, isStatus b = true → (b / 16 ≠ a / 16) → statusValue t b = statusValue s b)
  ∧ (∀ (s : State) (a : Nat), isStatus a = true → windowOn s = true → windowReads s = true → s.window.request = none →
    s.window.blank = true →
    exec (.windowStatusRead a) s = .next { s with window := { s.window with dout := 0xFFFF } })
  ∧ ∀ (s : State) (l k : Nat), l < 64 → k < 16 →
    bit (statusValue (setWstat k s) 0x404) k = true ∧ bit (statusValue (setLstat l k s) (16 * l + 8)) k = true

/-- The path of an entry through the checks of Table 2-10 (02 R59, R74). -/
def Obligations.EntryChecksDecideTheCommand : Prop :=
  ∀ row ∈ hostRows, ∀ (c : Sub) (s : State),
    let u := refreshOrders s
    let p := qpOf s c.qp
    (¬ c.qp < 64 ∨ bit p.ctrl 0 = false ∨ p.err = true ∨ p.paused = true ∨ s.hif.d3hot = true ∨ s.hif.linkUp = false →
      exec (row.2 c) s = .next s)
    ∧ (fetchable u c = true →
      (tagHeld u c = true → exec (row.2 c) s = .next (complete c stBadParam 0 (consumed c u)))
      ∧ (tagHeld u c = false → ∀ st, checkForm row.1 c = some st →
          exec (row.2 c) s = .next (complete c st 0 (consumed c u)))
      ∧ (tagHeld u c = false → checkForm row.1 c = none → (hasOrder c = false ∨ openTags u c.qp = []) →
          (∀ st, checkState row.1 c s.dev = some st → exec (row.2 c) s = .next (complete c st 0 (consumed c u)))
          ∧ (checkState row.1 c s.dev = none → wouldBusy row.1 c u = true →
              ∃ t, exec (row.2 c) s = .next t ∧ (qpOf t c.qp).paused = true ∧ (qpOf t c.qp).sqHead = p.sqHead
                ∧ (qpOf t c.qp).pauseSrc = isFast row.1 ∧ t.bare = s.bare)))

/-- The completion entry of Table 2-12 (02 R61, R62) shown on NOP. -/
def Obligations.CompletionEntryIsWritten : Prop :=
  ∀ (c : Sub) (s : State), runsNow 0x00 c s = true →
    let p := qpOf s c.qp
    let a := p.cqBase.toNat + 16 * p.cqTail
    let b := busOf (begun 0x00 c s) a
    waitingPosts s c.qp = [] → translate (begun 0x00 c s) true a = .ready →
    (∀ v < 64, let m := (msixWord s v 0).toNat + (msixWord s v 1).toNat * 2 ^ 32; m + 4 ≤ b ∨ b + 16 ≤ m) →
    ∃ t, exec (.nop c) s = .next t
      ∧ (∀ i < 16, hostRead t (b + i) = (bytesOf [word c.tag.toNat, s.sn, 0,
          word (p.seq.toNat + (p.sqHead + 1) % sqLen p * 2 ^ 16 + p.phase.toNat * 2 ^ 31)])[i]?)
      ∧ (qpOf t c.qp).cqTail = (p.cqTail + 1) % cqLen p ∧ (qpOf t c.qp).seq = p.seq + 1
      ∧ (qpOf t c.qp).phase = (if p.cqTail + 1 = cqLen p then !p.phase else p.phase)

/-- Frame of the reporting commands. -/
def Obligations.StatusCommandsChangeNothingElse : Prop :=
  ∀ row ∈ hostRows, row.1 ∈ statusOps → ∀ (c : Sub) (s t : State), exec (row.2 c) s = .next t →
    t.bare = s.bare
    ∧ (∀ q, q ≠ c.qp → qpOf t q = qpOf s q)
    ∧ { t.hif with
        qps := s.hif.qps, cmds := s.hif.cmds, hostMem := s.hif.hostMem, pba := s.hif.pba, posts := s.hif.posts
        ch0 := s.hif.ch0, fwHigh := s.hif.fwHigh, timedHigh := s.hif.timedHigh } = s.hif
    ∧ (∀ q, q ≠ c.qp → waitingPosts t q = waitingPosts s q)
    ∧ (t.hif.cmds.map (·.sub) = s.hif.cmds.map (·.sub) ∨ t.hif.cmds.map (·.sub) = s.hif.cmds.map (·.sub) ++ [c])
    ∧ ∀ a : Nat,
      let e := (qpOf s c.qp).cqBase.toNat + 16 * (qpOf s c.qp).cqTail
      (∀ b, b = busOf s e ∨ b = busOf (consumed c s) e → a < b ∨ b + 16 ≤ a) →
      (∀ v < 64, let m := (msixWord s v 0).toNat + (msixWord s v 1).toNat * 2 ^ 32; a < m ∨ m + 4 ≤ a) →
      hostRead t a = hostRead s a

/-- Frame of the commands that act on the planes. -/
def Obligations.PlaneCommandsKeepTheSharedBlocks : Prop :=
  ∀ row ∈ hostRows, row.1 ∈ planeOps → ∀ (c : Sub) (s t : State), exec (row.2 c) s = .next t →
    { t.bare with planeA := s.planeA, planeB := s.planeB } = s.bare

/-- Frame of the commands that act on shared blocks. -/
def Obligations.SharedCommandsKeepThePlanes : Prop :=
  (∀ row ∈ hostRows, row.1 ∈ sharedOps → ∀ (c : Sub) (s t : State), exec (row.2 c) s = .next t →
    t.planeA = s.planeA ∧ t.planeB = s.planeB)
  ∧ (∀ (c : Sub) (s t : State), exec (.clConfig c) s = .next t → ∀ k, k = 1 ∨ k = 2 →
    let p := planeOf s k
    planeOf t k = p ∨ planeOf t k = { p with fab := { p.fab with outReg := p.fab.outReg.filter fun x => x.1 != 32 + c.target } })
  ∧ ∀ (c : Sub) (s t : State), exec (.timeStep c) s = .next t ∨ exec (.timeRate c) s = .next t → ∀ k, k = 1 ∨ k = 2 →
    { planeOf t k with clk := (planeOf s k).clk } = planeOf s k

/-- The registers of a posting (17 R519). -/
def Obligations.PostingSetsPendAndOvr : Prop :=
  ∀ (es : List Ev) (s : State) (src : Nat),
    let mine := es.filter fun e => e.src == src
    let t := postList es s
    (mine = [] → evtCfg t src = evtCfg s src ∧ tget 0 t.evts.data src = tget 0 s.evts.data src)
    ∧ ∀ e, mine.getLast? = some e →
      bit (evtCfg t src) 31 = true
      ∧ bit (evtCfg t src) 30 = (bit (evtCfg s src) 30 || bit (evtCfg s src) 31 || decide (2 ≤ mine.length))
      ∧ (∀ i < 30, bit (evtCfg t src) i = bit (evtCfg s src) i)
      ∧ tget 0 t.evts.data src = e.data

/-- The divisor rule (03 R94) at the cut. -/
def Obligations.DivisorsCountTicks : Prop :=
  ∀ (p : Plane) (held : List Nat) (l : Nat), held.contains l = false → ((loopRecs p).filter fun r => r.loop == l).length = 1 →
    let n := field (lw p l wTiming) 0 10
    let q := divCut held p
    (n = 0 → q.fab.due.contains l = true ∧ field (lw q l wTiming) 0 10 = (loopDiv p l - 1) % 1024)
    ∧ (n ≠ 0 → q.fab.due.contains l = false ∧ field (lw q l wTiming) 0 10 = n - 1)
end

