-- ==== Sys2Proof/Laws/Dispatch.lean ====
section
/-! SUPPORT. One equation for each command: what the dispatch runs for it. -/

namespace Sys2Proof.Machine

variable (s : State)

@[simp] theorem exec_nop (c) : exec (.nop c) s = execNop c s := rfl
@[simp] theorem exec_identify (c) : exec (.identify c) s = execIdentify c s := rfl
@[simp] theorem exec_setState (c) : exec (.setState c) s = execSetState c s := rfl
@[simp] theorem exec_abort (c) : exec (.abort c) s = execAbort c s := rfl
@[simp] theorem exec_clkStatus (c) : exec (.clkStatus c) s = execClkStatus c s := rfl
@[simp] theorem exec_clkMeasure (c) : exec (.clkMeasure c) s = execClkMeasure c s := rfl
@[simp] theorem exec_clkGate (c) : exec (.clkGate c) s = execClkGate c s := rfl
@[simp] theorem exec_pwrStatus (c) : exec (.pwrStatus c) s = execPwrStatus c s := rfl
@[simp] theorem exec_dvfsSet (c) : exec (.dvfsSet c) s = execDvfsSet c s := rfl
@[simp] theorem exec_clkoutCfg (c) : exec (.clkoutCfg c) s = execClkoutCfg c s := rfl
@[simp] theorem exec_loopSetSp (c) : exec (.loopSetSp c) s = execLoopSetSp c s := rfl
@[simp] theorem exec_loopSetOut (c) : exec (.loopSetOut c) s = execLoopSetOut c s := rfl
@[simp] theorem exec_loopRead (c) : exec (.loopRead c) s = execLoopRead c s := rfl
@[simp] theorem exec_loopSetMode (c) : exec (.loopSetMode c) s = execLoopSetMode c s := rfl
@[simp] theorem exec_loopWrite (c) : exec (.loopWrite c) s = execLoopWrite c s := rfl
@[simp] theorem exec_boothStatus (c) : exec (.boothStatus c) s = execBoothStatus c s := rfl
@[simp] theorem exec_boothKeepAwake (c) : exec (.boothKeepAwake c) s = execBoothKeepAwake c s := rfl
@[simp] theorem exec_modelLoad (c) : exec (.modelLoad c) s = execModelLoad c s := rfl
@[simp] theorem exec_modelReinit (c) : exec (.modelReinit c) s = execModelReinit c s := rfl
@[simp] theorem exec_testStart (c) : exec (.testStart c) s = execTestStart c s := rfl
@[simp] theorem exec_testStop (c) : exec (.testStop c) s = execTestStop c s := rfl
@[simp] theorem exec_testStatus (c) : exec (.testStatus c) s = execTestStatus c s := rfl
@[simp] theorem exec_captRead (c) : exec (.captRead c) s = execCaptRead c s := rfl
@[simp] theorem exec_dispLoad (c) : exec (.dispLoad c) s = execDispLoad c s := rfl
@[simp] theorem exec_dispSetPrio (c) : exec (.dispSetPrio c) s = execDispSetPrio c s := rfl
@[simp] theorem exec_dispStatus (c) : exec (.dispStatus c) s = execDispStatus c s := rfl
@[simp] theorem exec_dispFlowStatus (c) : exec (.dispFlowStatus c) s = execDispFlowStatus c s := rfl
@[simp] theorem exec_sessAdvance (c) : exec (.sessAdvance c) s = execSessAdvance c s := rfl
@[simp] theorem exec_sessHold (c) : exec (.sessHold c) s = execSessHold c s := rfl
@[simp] theorem exec_sessLoad (c) : exec (.sessLoad c) s = execSessLoad c s := rfl
@[simp] theorem exec_sessStart (c) : exec (.sessStart c) s = execSessStart c s := rfl
@[simp] theorem exec_sessResume (c) : exec (.sessResume c) s = execSessResume c s := rfl
@[simp] theorem exec_sessAbort (c) : exec (.sessAbort c) s = execSessAbort c s := rfl
@[simp] theorem exec_sessUnload (c) : exec (.sessUnload c) s = execSessUnload c s := rfl
@[simp] theorem exec_sessStatus (c) : exec (.sessStatus c) s = execSessStatus c s := rfl
@[simp] theorem exec_scanLoad (c) : exec (.scanLoad c) s = execScanLoad c s := rfl
@[simp] theorem exec_scanMode (c) : exec (.scanMode c) s = execScanMode c s := rfl
@[simp] theorem exec_scanWrite (c) : exec (.scanWrite c) s = execScanWrite c s := rfl
@[simp] theorem exec_scanRead (c) : exec (.scanRead c) s = execScanRead c s := rfl
@[simp] theorem exec_scanStatus (c) : exec (.scanStatus c) s = execScanStatus c s := rfl
@[simp] theorem exec_axConfig (c) : exec (.axConfig c) s = execAxConfig c s := rfl
@[simp] theorem exec_axWrite (c) : exec (.axWrite c) s = execAxWrite c s := rfl
@[simp] theorem exec_axEnable (c) : exec (.axEnable c) s = execAxEnable c s := rfl
@[simp] theorem exec_axMove (c) : exec (.axMove c) s = execAxMove c s := rfl
@[simp] theorem exec_axStop (c) : exec (.axStop c) s = execAxStop c s := rfl
@[simp] theorem exec_axSetLimits (c) : exec (.axSetLimits c) s = execAxSetLimits c s := rfl
@[simp] theorem exec_axHome (c) : exec (.axHome c) s = execAxHome c s := rfl
@[simp] theorem exec_axGear (c) : exec (.axGear c) s = execAxGear c s := rfl
@[simp] theorem exec_axGearSched (c) : exec (.axGearSched c) s = execAxGearSched c s := rfl
@[simp] theorem exec_axClear (c) : exec (.axClear c) s = execAxClear c s := rfl
@[simp] theorem exec_axRead (c) : exec (.axRead c) s = execAxRead c s := rfl
@[simp] theorem exec_safeStatus (c) : exec (.safeStatus c) s = execSafeStatus c s := rfl
@[simp] theorem exec_safeRequest (c) : exec (.safeRequest c) s = execSafeRequest c s := rfl
@[simp] theorem exec_safeReset (c) : exec (.safeReset c) s = execSafeReset c s := rfl
@[simp] theorem exec_sconnStatus (c) : exec (.sconnStatus c) s = execSconnStatus c s := rfl
@[simp] theorem exec_sealStage (c) : exec (.sealStage c) s = execSealStage c s := rfl
@[simp] theorem exec_sealCommit (c) : exec (.sealCommit c) s = execSealCommit c s := rfl
@[simp] theorem exec_sealRead (c) : exec (.sealRead c) s = execSealRead c s := rfl
@[simp] theorem exec_recConfig (c) : exec (.recConfig c) s = execRecConfig c s := rfl
@[simp] theorem exec_recStream (c) : exec (.recStream c) s = execRecStream c s := rfl
@[simp] theorem exec_recStatus (c) : exec (.recStatus c) s = execRecStatus c s := rfl
@[simp] theorem exec_recFetch (c) : exec (.recFetch c) s = execRecFetch c s := rfl
@[simp] theorem exec_trigConfig (c) : exec (.trigConfig c) s = execTrigConfig c s := rfl
@[simp] theorem exec_trigCtrl (c) : exec (.trigCtrl c) s = execTrigCtrl c s := rfl
@[simp] theorem exec_trigStatus (c) : exec (.trigStatus c) s = execTrigStatus c s := rfl
@[simp] theorem exec_maskLoad (c) : exec (.maskLoad c) s = execMaskLoad c s := rfl
@[simp] theorem exec_maskArm (c) : exec (.maskArm c) s = execMaskArm c s := rfl
@[simp] theorem exec_maskStatus (c) : exec (.maskStatus c) s = execMaskStatus c s := rfl
@[simp] theorem exec_planeStatus (c) : exec (.planeStatus c) s = execPlaneStatus c s := rfl
@[simp] theorem exec_planeHealth (c) : exec (.planeHealth c) s = execPlaneHealth c s := rfl
@[simp] theorem exec_planeRestore (c) : exec (.planeRestore c) s = execPlaneRestore c s := rfl
@[simp] theorem exec_planeOffline (c) : exec (.planeOffline c) s = execPlaneOffline c s := rfl
@[simp] theorem exec_planeSwap (c) : exec (.planeSwap c) s = execPlaneSwap c s := rfl
@[simp] theorem exec_planeConfig (c) : exec (.planeConfig c) s = execPlaneConfig c s := rfl
@[simp] theorem exec_ledgerStatus (c) : exec (.ledgerStatus c) s = execLedgerStatus c s := rfl
@[simp] theorem exec_journalRead (c) : exec (.journalRead c) s = execJournalRead c s := rfl
@[simp] theorem exec_fwStage (c) : exec (.fwStage c) s = execFwStage c s := rfl
@[simp] theorem exec_fwSelect (c) : exec (.fwSelect c) s = execFwSelect c s := rfl
@[simp] theorem exec_memStatus (c) : exec (.memStatus c) s = execMemStatus c s := rfl
@[simp] theorem exec_turnSet (c) : exec (.turnSet c) s = execTurnSet c s := rfl
@[simp] theorem exec_turnRead (c) : exec (.turnRead c) s = execTurnRead c s := rfl
@[simp] theorem exec_memScrub (c) : exec (.memScrub c) s = execMemScrub c s := rfl
@[simp] theorem exec_aiConfig (c) : exec (.aiConfig c) s = execAiConfig c s := rfl
@[simp] theorem exec_afeSeq (c) : exec (.afeSeq c) s = execAfeSeq c s := rfl
@[simp] theorem exec_aoConfig (c) : exec (.aoConfig c) s = execAoConfig c s := rfl
@[simp] theorem exec_clConfig (c) : exec (.clConfig c) s = execClConfig c s := rfl
@[simp] theorem exec_pwConfig (c) : exec (.pwConfig c) s = execPwConfig c s := rfl
@[simp] theorem exec_afeCal (c) : exec (.afeCal c) s = execAfeCal c s := rfl
@[simp] theorem exec_afeTest (c) : exec (.afeTest c) s = execAfeTest c s := rfl
@[simp] theorem exec_afeStatus (c) : exec (.afeStatus c) s = execAfeStatus c s := rfl
@[simp] theorem exec_afeMode (c) : exec (.afeMode c) s = execAfeMode c s := rfl
@[simp] theorem exec_gpConfig (c) : exec (.gpConfig c) s = execGpConfig c s := rfl
@[simp] theorem exec_fpConfig (c) : exec (.fpConfig c) s = execFpConfig c s := rfl
@[simp] theorem exec_fpStation (c) : exec (.fpStation c) s = execFpStation c s := rfl
@[simp] theorem exec_fpArm (c) : exec (.fpArm c) s = execFpArm c s := rfl
@[simp] theorem exec_fpStatus (c) : exec (.fpStatus c) s = execFpStatus c s := rfl
@[simp] theorem exec_mgtConfig (c) : exec (.mgtConfig c) s = execMgtConfig c s := rfl
@[simp] theorem exec_ptpConfig (c) : exec (.ptpConfig c) s = execPtpConfig c s := rfl
@[simp] theorem exec_ptpStatus (c) : exec (.ptpStatus c) s = execPtpStatus c s := rfl
@[simp] theorem exec_timeRead (c) : exec (.timeRead c) s = execTimeRead c s := rfl
@[simp] theorem exec_timeStep (c) : exec (.timeStep c) s = execTimeStep c s := rfl
@[simp] theorem exec_timeRate (c) : exec (.timeRate c) s = execTimeRate c s := rfl
@[simp] theorem exec_timeCmp (c) : exec (.timeCmp c) s = execTimeCmp c s := rfl
@[simp] theorem exec_timeStatus (c) : exec (.timeStatus c) s = execTimeStatus c s := rfl
@[simp] theorem exec_canConfig (c) : exec (.canConfig c) s = execCanConfig c s := rfl
@[simp] theorem exec_canFilter (c) : exec (.canFilter c) s = execCanFilter c s := rfl
@[simp] theorem exec_canSignal (c) : exec (.canSignal c) s = execCanSignal c s := rfl
@[simp] theorem exec_canSched (c) : exec (.canSched c) s = execCanSched c s := rfl
@[simp] theorem exec_canSend (c) : exec (.canSend c) s = execCanSend c s := rfl
@[simp] theorem exec_canCtrl (c) : exec (.canCtrl c) s = execCanCtrl c s := rfl
@[simp] theorem exec_canRxRead (c) : exec (.canRxRead c) s = execCanRxRead c s := rfl
@[simp] theorem exec_canStatus (c) : exec (.canStatus c) s = execCanStatus c s := rfl
@[simp] theorem exec_evtRoute (c) : exec (.evtRoute c) s = execEvtRoute c s := rfl
@[simp] theorem exec_evtStatus (c) : exec (.evtStatus c) s = execEvtStatus c s := rfl
@[simp] theorem exec_evrRead (c) : exec (.evrRead c) s = execEvrRead c s := rfl
@[simp] theorem exec_evrClear (c) : exec (.evrClear c) s = execEvrClear c s := rfl
@[simp] theorem exec_obsCtrl (c) : exec (.obsCtrl c) s = execObsCtrl c s := rfl
@[simp] theorem exec_obsRead (c) : exec (.obsRead c) s = execObsRead c s := rfl
@[simp] theorem exec_lockChallenge (c) : exec (.lockChallenge c) s = execLockChallenge c s := rfl
@[simp] theorem exec_lock (c) : exec (.lock c) s = execLock c s := rfl
@[simp] theorem exec_qpEnable (qp) (v) : exec (.qpEnable qp v) s = execQpEnable qp v s := rfl
@[simp] theorem exec_qpDisable (qp) (v) : exec (.qpDisable qp v) s = execQpDisable qp v s := rfl
@[simp] theorem exec_qpSqTail (qp) (v) : exec (.qpSqTail qp v) s = execQpSqTail qp v s := rfl
@[simp] theorem exec_qpCqHead (qp) (v) : exec (.qpCqHead qp v) s = execQpCqHead qp v s := rfl
@[simp] theorem exec_qpRetryClear (qp) : exec (.qpRetryClear qp) s = execQpRetryClear qp s := rfl
@[simp] theorem exec_readClearCounter (off) : exec (.readClearCounter off) s = execReadClearCounter off s := rfl
@[simp] theorem exec_evtCfgWrite (src) (v) : exec (.evtCfgWrite src v) s = execEvtCfgWrite src v s := rfl
@[simp] theorem exec_evtAck (src) (v) : exec (.evtAck src v) s = execEvtAck src v s := rfl
@[simp] theorem exec_dmaChResume (ch) (pte) : exec (.dmaChResume ch pte) s = execDmaChResume ch pte s := rfl
@[simp] theorem exec_dmaChStop (ch) : exec (.dmaChStop ch) s = execDmaChStop ch s := rfl
@[simp] theorem exec_xlatInvAll : exec .xlatInvAll s = execXlatInvAll s := rfl
@[simp] theorem exec_xlatInvPage (page) : exec (.xlatInvPage page) s = execXlatInvPage page s := rfl
@[simp] theorem exec_xlatInvDone : exec .xlatInvDone s = execXlatInvDone s := rfl
@[simp] theorem exec_registerWrite (off) (wide) (v) : exec (.registerWrite off wide v) s = execRegisterWrite off wide v s := rfl
@[simp] theorem exec_functionLevelReset : exec .functionLevelReset s = execFunctionLevelReset s := rfl
@[simp] theorem exec_linkDown : exec .linkDown s = execLinkDown s := rfl
@[simp] theorem exec_linkUp (rate) (width) : exec (.linkUp rate width) s = execLinkUp rate width s := rfl
@[simp] theorem exec_d3hotEntry : exec .d3hotEntry s = execD3hotEntry s := rfl
@[simp] theorem exec_d0Entry : exec .d0Entry s = execD0Entry s := rfl
@[simp] theorem exec_entryFetch (qp) (words) (image) : exec (.entryFetch qp words image) s = execEntryFetch qp words image s := rfl
@[simp] theorem exec_coalesceTimeout (qp) : exec (.coalesceTimeout qp) s = execCoalesceTimeout qp s := rfl
@[simp] theorem exec_timedPlacement (qp) (tag) : exec (.timedPlacement qp tag) s = execTimedPlacement qp tag s := rfl
@[simp] theorem exec_backlogEased : exec .backlogEased s = execBacklogEased s := rfl
@[simp] theorem exec_forwardedCommit (qp) (fwd) : exec (.forwardedCommit qp fwd) s = execForwardedCommit qp fwd s := rfl
@[simp] theorem exec_inputCut (gp) (enc) (encBad) : exec (.inputCut gp enc encBad) s = execInputCut gp enc encBad s := rfl
@[simp] theorem exec_tokenDelivery (loop) (port) (v) (q) (sn) (slot) (src) (bad) : exec (.tokenDelivery loop port v q sn slot src bad) s = execTokenDelivery loop port v q sn slot src bad s := rfl
@[simp] theorem exec_taskFire (booth) : exec (.taskFire booth) s = execTaskFire booth s := rfl
@[simp] theorem exec_loopExecution (loop) : exec (.loopExecution loop) s = execLoopExecution loop s := rfl
@[simp] theorem exec_coastLimitReached (loop) : exec (.coastLimitReached loop) s = execCoastLimitReached loop s := rfl
@[simp] theorem exec_staleLimitReached (loop) : exec (.staleLimitReached loop) s = execStaleLimitReached loop s := rfl
@[simp] theorem exec_sampleDeadline : exec .sampleDeadline s = execSampleDeadline s := rfl
@[simp] theorem exec_stepDurationDue (sess) : exec (.stepDurationDue sess) s = execStepDurationDue sess s := rfl
@[simp] theorem exec_triggerArmed (eng) : exec (.triggerArmed eng) s = execTriggerArmed eng s := rfl
@[simp] theorem exec_triggerWindowComplete (eng) : exec (.triggerWindowComplete eng) s = execTriggerWindowComplete eng s := rfl
@[simp] theorem exec_outputCommit (bad) : exec (.outputCommit bad) s = execOutputCommit bad s := rfl
@[simp] theorem exec_signatureExchange : exec .signatureExchange s = execSignatureExchange s := rfl
@[simp] theorem exec_checkRollVerdict (okA) (okB) : exec (.checkRollVerdict okA okB) s = execCheckRollVerdict okA okB s := rfl
@[simp] theorem exec_heartbeatDeadline (hbA) (hbB) : exec (.heartbeatDeadline hbA hbB) s = execHeartbeatDeadline hbA hbB s := rfl
@[simp] theorem exec_planeResignation (plane) (cls) (unit) : exec (.planeResignation plane cls unit) s = execPlaneResignation plane cls unit s := rfl
@[simp] theorem exec_switchoverElection : exec .switchoverElection s = execSwitchoverElection s := rfl
@[simp] theorem exec_healthReport (plane) (arrived) : exec (.healthReport plane arrived) s = execHealthReport plane arrived s := rfl
@[simp] theorem exec_selfTestSlice (plane) (pass) : exec (.selfTestSlice plane pass) s = execSelfTestSlice plane pass s := rfl
@[simp] theorem exec_diagnosisPassed (plane) : exec (.diagnosisPassed plane) s = execDiagnosisPassed plane s := rfl
@[simp] theorem exec_suspectTimeout (plane) : exec (.suspectTimeout plane) s = execSuspectTimeout plane s := rfl
@[simp] theorem exec_resyncCopyRound (plane) : exec (.resyncCopyRound plane) s = execResyncCopyRound plane s := rfl
@[simp] theorem exec_resyncFinalCut (plane) : exec (.resyncFinalCut plane) s = execResyncFinalCut plane s := rfl
@[simp] theorem exec_resyncComplete (plane) : exec (.resyncComplete plane) s = execResyncComplete plane s := rfl
@[simp] theorem exec_resyncTimeout (plane) : exec (.resyncTimeout plane) s = execResyncTimeout plane s := rfl
@[simp] theorem exec_journalWrite (ok) : exec (.journalWrite ok) s = execJournalWrite ok s := rfl
@[simp] theorem exec_eventPosting : exec .eventPosting s = execEventPosting s := rfl
@[simp] theorem exec_eventRecordWrite (ok) : exec (.eventRecordWrite ok) s = execEventRecordWrite ok s := rfl
@[simp] theorem exec_axisTick (ax) : exec (.axisTick ax) s = execAxisTick ax s := rfl
@[simp] theorem exec_stallDeclared (ax) : exec (.stallDeclared ax) s = execStallDeclared ax s := rfl
@[simp] theorem exec_safetyEvaluation : exec .safetyEvaluation s = execSafetyEvaluation s := rfl
@[simp] theorem exec_discrepancyDemand (ax) : exec (.discrepancyDemand ax) s = execDiscrepancyDemand ax s := rfl
@[simp] theorem exec_ss1TorqueOff (ax) : exec (.ss1TorqueOff ax) s = execSs1TorqueOff ax s := rfl
@[simp] theorem exec_stoTestPulse (pair) (ok) : exec (.stoTestPulse pair ok) s = execStoTestPulse pair ok s := rfl
@[simp] theorem exec_safetyPduReceive (conn) (pdu) : exec (.safetyPduReceive conn pdu) s = execSafetyPduReceive conn pdu s := rfl
@[simp] theorem exec_safetyWatchdogExpiry (conn) : exec (.safetyWatchdogExpiry conn) s = execSafetyWatchdogExpiry conn s := rfl
@[simp] theorem exec_safetyPduSend (conn) : exec (.safetyPduSend conn) s = execSafetyPduSend conn s := rfl
@[simp] theorem exec_scanCycleStart : exec .scanCycleStart s = execScanCycleStart s := rfl
@[simp] theorem exec_scanDeadline : exec .scanDeadline s = execScanDeadline s := rfl
@[simp] theorem exec_scanShadowRead : exec .scanShadowRead s = execScanShadowRead s := rfl
@[simp] theorem exec_instrNop : exec .instrNop s = execInstrNop s := rfl
@[simp] theorem exec_rung (n) : exec (.rung n) s = execRung n s := rfl
@[simp] theorem exec_andBit (a) : exec (.andBit a) s = execAndBit a s := rfl
@[simp] theorem exec_andnBit (a) : exec (.andnBit a) s = execAndnBit a s := rfl
@[simp] theorem exec_orBit (a) : exec (.orBit a) s = execOrBit a s := rfl
@[simp] theorem exec_ornBit (a) : exec (.ornBit a) s = execOrnBit a s := rfl
@[simp] theorem exec_push : exec .push s = execPush s := rfl
@[simp] theorem exec_popand : exec .popand s = execPopand s := rfl
@[simp] theorem exec_popor : exec .popor s = execPopor s := rfl
@[simp] theorem exec_notRlo : exec .notRlo s = execNotRlo s := rfl
@[simp] theorem exec_outBit (a) : exec (.outBit a) s = execOutBit a s := rfl
@[simp] theorem exec_setBit (a) : exec (.setBit a) s = execSetBit a s := rfl
@[simp] theorem exec_rstBit (a) : exec (.rstBit a) s = execRstBit a s := rfl
@[simp] theorem exec_rEdge (x) : exec (.rEdge x) s = execREdge x s := rfl
@[simp] theorem exec_fEdge (x) : exec (.fEdge x) s = execFEdge x s := rfl
@[simp] theorem exec_ton (x) : exec (.ton x) s = execTon x s := rfl
@[simp] theorem exec_tof (x) : exec (.tof x) s = execTof x s := rfl
@[simp] theorem exec_tp (x) : exec (.tp x) s = execTp x s := rfl
@[simp] theorem exec_tres (x) : exec (.tres x) s = execTres x s := rfl
@[simp] theorem exec_ctu (x) : exec (.ctu x) s = execCtu x s := rfl
@[simp] theorem exec_ctd (x) : exec (.ctd x) s = execCtd x s := rfl
@[simp] theorem exec_cres (x) : exec (.cres x) s = execCres x s := rfl
@[simp] theorem exec_cgt (a) (b) : exec (.cgt a b) s = execCgt a b s := rfl
@[simp] theorem exec_cge (a) (b) : exec (.cge a b) s = execCge a b s := rfl
@[simp] theorem exec_clt (a) (b) : exec (.clt a b) s = execClt a b s := rfl
@[simp] theorem exec_cle (a) (b) : exec (.cle a b) s = execCle a b s := rfl
@[simp] theorem exec_ceq (a) (b) : exec (.ceq a b) s = execCeq a b s := rfl
@[simp] theorem exec_cne (a) (b) : exec (.cne a b) s = execCne a b s := rfl
@[simp] theorem exec_lim (lo) (x) (hi) : exec (.lim lo x hi) s = execLim lo x hi s := rfl
@[simp] theorem exec_mov (a) (b) : exec (.mov a b) s = execMov a b s := rfl
@[simp] theorem exec_movi (a) (imm) : exec (.movi a imm) s = execMovi a imm s := rfl
@[simp] theorem exec_holds (x) : exec (.holds x) s = execHolds x s := rfl
@[simp] theorem exec_park (x) : exec (.park x) s = execPark x s := rfl
@[simp] theorem exec_force (x) : exec (.force x) s = execForce x s := rfl
@[simp] theorem exec_evt (e) (code) : exec (.evt e code) s = execEvt e code s := rfl
@[simp] theorem exec_endProg : exec .endProg s = execEndProg s := rfl
@[simp] theorem exec_boothPowerDown (group) : exec (.boothPowerDown group) s = execBoothPowerDown group s := rfl
@[simp] theorem exec_boothWakeDone (group) : exec (.boothWakeDone group) s = execBoothWakeDone group s := rfl
@[simp] theorem exec_intervalClose (booth) : exec (.intervalClose booth) s = execIntervalClose booth s := rfl
@[simp] theorem exec_timeRecord : exec .timeRecord s = execTimeRecord s := rfl
@[simp] theorem exec_streamBurst (head) : exec (.streamBurst head) s = execStreamBurst head s := rfl
@[simp] theorem exec_dramGrant (req) (ecc) : exec (.dramGrant req ecc) s = execDramGrant req ecc s := rfl
@[simp] theorem exec_dramRefresh : exec .dramRefresh s = execDramRefresh s := rfl
@[simp] theorem exec_memoryWatchdogBite : exec .memoryWatchdogBite s = execMemoryWatchdogBite s := rfl
@[simp] theorem exec_scrubBlock (ecc) : exec (.scrubBlock ecc) s = execScrubBlock ecc s := rfl
@[simp] theorem exec_dmaBurst (err) : exec (.dmaBurst err) s = execDmaBurst err s := rfl
@[simp] theorem exec_translationWalk (ch) (qp) (pte) : exec (.translationWalk ch qp pte) s = execTranslationWalk ch qp pte s := rfl
@[simp] theorem exec_dmaSuspendTimeout (ch) : exec (.dmaSuspendTimeout ch) s = execDmaSuspendTimeout ch s := rfl
@[simp] theorem exec_aiConversion (ch) (codes) (parityBad) : exec (.aiConversion ch codes parityBad) s = execAiConversion ch codes parityBad s := rfl
@[simp] theorem exec_ne43Recovery (ch) : exec (.ne43Recovery ch) s = execNe43Recovery ch s := rfl
@[simp] theorem exec_injectedTrigger (group) (at5ns) (codes) : exec (.injectedTrigger group at5ns codes) s = execInjectedTrigger group at5ns codes s := rfl
@[simp] theorem exec_calRotationStart (group) : exec (.calRotationStart group) s = execCalRotationStart group s := rfl
@[simp] theorem exec_calHandover (group) (diff) : exec (.calHandover group diff) s = execCalHandover group diff s := rfl
@[simp] theorem exec_calCoeffLoaded (group) (coef) (ok) : exec (.calCoeffLoaded group coef ok) s = execCalCoeffLoaded group coef ok s := rfl
@[simp] theorem exec_afeTestDone (ch) (res) : exec (.afeTestDone ch res) s = execAfeTestDone ch res s := rfl
@[simp] theorem exec_clMeasure (ch) (im) (lim) : exec (.clMeasure ch im lim) s = execClMeasure ch im lim s := rfl
@[simp] theorem exec_complianceLost (ch) : exec (.complianceLost ch) s = execComplianceLost ch s := rfl
@[simp] theorem exec_complianceRestored (ch) : exec (.complianceRestored ch) s = execComplianceRestored ch s := rfl
@[simp] theorem exec_clOpen (ch) : exec (.clOpen ch) s = execClOpen ch s := rfl
@[simp] theorem exec_retransmitAlarm (ch) : exec (.retransmitAlarm ch) s = execRetransmitAlarm ch s := rfl
@[simp] theorem exec_loopvMeasure (v) : exec (.loopvMeasure v) s = execLoopvMeasure v s := rfl
@[simp] theorem exec_aoOverload (ch) (acting) : exec (.aoOverload ch acting) s = execAoOverload ch acting s := rfl
@[simp] theorem exec_pwmPeriodStart (ch) : exec (.pwmPeriodStart ch) s = execPwmPeriodStart ch s := rfl
@[simp] theorem exec_frameReceive (port) (f) : exec (.frameReceive port f) s = execFrameReceive port f s := rfl
@[simp] theorem exec_frameDelivery (port) : exec (.frameDelivery port) s = execFrameDelivery port s := rfl
@[simp] theorem exec_outputFrameSend (port) : exec (.outputFrameSend port) s = execOutputFrameSend port s := rfl
@[simp] theorem exec_stationLost (station) : exec (.stationLost station) s = execStationLost station s := rfl
@[simp] theorem exec_fieldLinkDown (port) : exec (.fieldLinkDown port) s = execFieldLinkDown port s := rfl
@[simp] theorem exec_fieldLinkUp (port) : exec (.fieldLinkUp port) s = execFieldLinkUp port s := rfl
@[simp] theorem exec_ptpMessageReceive (port) (m) : exec (.ptpMessageReceive port m) s = execPtpMessageReceive port m s := rfl
@[simp] theorem exec_ptpMessageSend (kind) : exec (.ptpMessageSend kind) s = execPtpMessageSend kind s := rfl
@[simp] theorem exec_mgtLinkChange (port) (up) : exec (.mgtLinkChange port up) s = execMgtLinkChange port up s := rfl
@[simp] theorem exec_timeCompareFire (unit) : exec (.timeCompareFire unit) s = execTimeCompareFire unit s := rfl
@[simp] theorem exec_canFrameReceive (ch) (f) (tstamp) : exec (.canFrameReceive ch f tstamp) s = execCanFrameReceive ch f tstamp s := rfl
@[simp] theorem exec_canSchedRelease (ch) (slot) : exec (.canSchedRelease ch slot) s = execCanSchedRelease ch slot s := rfl
@[simp] theorem exec_canTxComplete (ch) : exec (.canTxComplete ch) s = execCanTxComplete ch s := rfl
@[simp] theorem exec_canTxError (ch) : exec (.canTxError ch) s = execCanTxError ch s := rfl
@[simp] theorem exec_canArbitrationLost (ch) : exec (.canArbitrationLost ch) s = execCanArbitrationLost ch s := rfl
@[simp] theorem exec_referenceMessage (ch) (sent) : exec (.referenceMessage ch sent) s = execReferenceMessage ch sent s := rfl
@[simp] theorem exec_busOffRecovery (ch) : exec (.busOffRecovery ch) s = execBusOffRecovery ch s := rfl
@[simp] theorem exec_porstAssert : exec .porstAssert s = execPorstAssert s := rfl
@[simp] theorem exec_porstRelease (x) : exec (.porstRelease x) s = execPorstRelease x s := rfl
@[simp] theorem exec_warmRstFall : exec .warmRstFall s = execWarmRstFall s := rfl
@[simp] theorem exec_warmResetApply : exec .warmResetApply s = execWarmResetApply s := rfl
@[simp] theorem exec_warmRstRelease (x) : exec (.warmRstRelease x) s = execWarmRstRelease x s := rfl
@[simp] theorem exec_pwrfailAssert : exec .pwrfailAssert s = execPwrfailAssert s := rfl
@[simp] theorem exec_checkpointShadowLatch : exec .checkpointShadowLatch s = execCheckpointShadowLatch s := rfl
@[simp] theorem exec_checkpointValidMark (ok) : exec (.checkpointValidMark ok) s = execCheckpointValidMark ok s := rfl
@[simp] theorem exec_pwrfailRelease : exec .pwrfailRelease s = execPwrfailRelease s := rfl
@[simp] theorem exec_supplyTrip (dom) : exec (.supplyTrip dom) s = execSupplyTrip dom s := rfl
@[simp] theorem exec_supplyRestored (dom) : exec (.supplyRestored dom) s = execSupplyRestored dom s := rfl
@[simp] theorem exec_sealOpenAssert : exec .sealOpenAssert s = execSealOpenAssert s := rfl
@[simp] theorem exec_sealOpenDeassert : exec .sealOpenDeassert s = execSealOpenDeassert s := rfl
@[simp] theorem exec_wakeTimerExpiry : exec .wakeTimerExpiry s = execWakeTimerExpiry s := rfl
@[simp] theorem exec_idleWakeCommit : exec .idleWakeCommit s = execIdleWakeCommit s := rfl
@[simp] theorem exec_crystalStable (xtal) : exec (.crystalStable xtal) s = execCrystalStable xtal s := rfl
@[simp] theorem exec_pllLock (plane) : exec (.pllLock plane) s = execPllLock plane s := rfl
@[simp] theorem exec_firmwareChecked (plane) (found0) (found1) : exec (.firmwareChecked plane found0 found1) s = execFirmwareChecked plane found0 found1 s := rfl
@[simp] theorem exec_selfTestDone (plane) (pass) : exec (.selfTestDone plane pass) s = execSelfTestDone plane pass s := rfl
@[simp] theorem exec_planeReady (plane) : exec (.planeReady plane) s = execPlaneReady plane s := rfl
@[simp] theorem exec_startupElection : exec .startupElection s = execStartupElection s := rfl
@[simp] theorem exec_startupTimeout (plane) : exec (.startupTimeout plane) s = execStartupTimeout plane s := rfl
@[simp] theorem exec_crystalStartTimeout (plane) : exec (.crystalStartTimeout plane) s = execCrystalStartTimeout plane s := rfl
@[simp] theorem exec_clockMonitorTrip (plane) (pll) (cause) : exec (.clockMonitorTrip plane pll cause) s = execClockMonitorTrip plane pll cause s := rfl
@[simp] theorem exec_sharedClockTrip (src) (cause) : exec (.sharedClockTrip src cause) s = execSharedClockTrip src cause s := rfl
@[simp] theorem exec_clockSourceRecovered (src) : exec (.clockSourceRecovered src) s = execClockSourceRecovered src s := rfl
@[simp] theorem exec_tickAlignment (delta) (trim) : exec (.tickAlignment delta trim) s = execTickAlignment delta trim s := rfl
@[simp] theorem exec_planeAligned (plane) : exec (.planeAligned plane) s = execPlaneAligned plane s := rfl
@[simp] theorem exec_tickPeriodCheck (okA) (okB) : exec (.tickPeriodCheck okA okB) s = execTickPeriodCheck okA okB s := rfl
@[simp] theorem exec_trimLimit (plane) : exec (.trimLimit plane) s = execTrimLimit plane s := rfl
@[simp] theorem exec_droopFallback (plane) : exec (.droopFallback plane) s = execDroopFallback plane s := rfl
@[simp] theorem exec_droopRelease : exec .droopRelease s = execDroopRelease s := rfl
@[simp] theorem exec_levelSettleExpiry (plane) : exec (.levelSettleExpiry plane) s = execLevelSettleExpiry plane s := rfl
@[simp] theorem exec_measurementDone (ctr) (count) (timeout) : exec (.measurementDone ctr count timeout) s = execMeasurementDone ctr count timeout s := rfl
@[simp] theorem exec_fieldLockExpiry : exec .fieldLockExpiry s = execFieldLockExpiry s := rfl
@[simp] theorem exec_nonceExpiry : exec .nonceExpiry s = execNonceExpiry s := rfl
@[simp] theorem exec_opsecWrite (ok) : exec (.opsecWrite ok) s = execOpsecWrite ok s := rfl
@[simp] theorem exec_tapBypass (bits) (n) : exec (.tapBypass bits n) s = execTapBypass bits n s := rfl
@[simp] theorem exec_tapIdcode : exec .tapIdcode s = execTapIdcode s := rfl
@[simp] theorem exec_tapSample : exec .tapSample s = execTapSample s := rfl
@[simp] theorem exec_tapObsSel (sel) : exec (.tapObsSel sel) s = execTapObsSel sel s := rfl
@[simp] theorem exec_tapObsData : exec .tapObsData s = execTapObsData s := rfl
@[simp] theorem exec_tapReset : exec .tapReset s = execTapReset s := rfl
@[simp] theorem exec_winSpHi (loop) (d) : exec (.winSpHi loop d) s = execWinSpHi loop d s := rfl
@[simp] theorem exec_winSpLo (loop) (d) : exec (.winSpLo loop d) s = execWinSpLo loop d s := rfl
@[simp] theorem exec_winMoHi (loop) (d) : exec (.winMoHi loop d) s = execWinMoHi loop d s := rfl
@[simp] theorem exec_winMoLo (loop) (d) : exec (.winMoLo loop d) s = execWinMoLo loop d s := rfl
@[simp] theorem exec_winMode (loop) (d) : exec (.winMode loop d) s = execWinMode loop d s := rfl
@[simp] theorem exec_winClaim (d) : exec (.winClaim d) s = execWinClaim d s := rfl
@[simp] theorem exec_winStart : exec .winStart s = execWinStart s := rfl
@[simp] theorem exec_winHold : exec .winHold s = execWinHold s := rfl
@[simp] theorem exec_winResume : exec .winResume s = execWinResume s := rfl
@[simp] theorem exec_winAdvance : exec .winAdvance s = execWinAdvance s := rfl
@[simp] theorem exec_winAbort : exec .winAbort s = execWinAbort s := rfl
@[simp] theorem exec_windowStatusRead (addr) : exec (.windowStatusRead addr) s = execWindowStatusRead addr s := rfl
@[simp] theorem exec_windowRead (addr) : exec (.windowRead addr) s = execWindowRead addr s := rfl
@[simp] theorem exec_windowRequestTimeout : exec .windowRequestTimeout s = execWindowRequestTimeout s := rfl
@[simp] theorem exec_rcStable (src) : exec (.rcStable src) s = execRcStable src s := rfl
@[simp] theorem exec_pllLockTimeout (plane) : exec (.pllLockTimeout plane) s = execPllLockTimeout plane s := rfl
@[simp] theorem exec_canIntegrationDone (ch) : exec (.canIntegrationDone ch) s = execCanIntegrationDone ch s := rfl
@[simp] theorem exec_canReceiveError (ch) : exec (.canReceiveError ch) s = execCanReceiveError ch s := rfl
@[simp] theorem exec_completionTimeout (ch) (qp) : exec (.completionTimeout ch qp) s = execCompletionTimeout ch qp s := rfl
@[simp] theorem exec_ledgerReadBack (ok) : exec (.ledgerReadBack ok) s = execLedgerReadBack ok s := rfl
@[simp] theorem exec_operatingSecond : exec .operatingSecond s = execOperatingSecond s := rfl

end Sys2Proof.Machine
end

