-- ==== Sys2Proof/Laws/Host.lean ====
section
/-! SUPPORT. What the path of a host command can change: everything outside the host interface, the events, the trace port
and the counts stays until the command itself is executed. -/

namespace Sys2Proof.Machine

variable (s t : State)

/-- The state that an outcome carries. -/
def OpOut.state : OpOut → State
  | .done _ _ s => s
  | .wait _ _ s => s
  | .write _ _ _ s => s

/-- A loop that keeps an observation at each turn keeps it altogether. -/
theorem forEach_keeps {β : Type} (g : σ → β) (l : List α) (f : α → σ → σ) (h : ∀ a u, g (f a u) = g u) (u : σ) :
    g (forEach l f u) = g u := by
  unfold forEach
  induction l generalizing u with
  | nil => rfl
  | cons a r ih => simp only [List.foldl_cons]; rw [ih, h]

@[simp] theorem hostWrite_bare (a : Nat) (bs : List Byte) : (hostWrite a bs s).bare = s.bare := rfl
@[simp] theorem setQp_bare (q : Nat) (v : QPair) : (setQp q v s).bare = s.bare := rfl
@[simp] theorem stally_bare (k n : Nat) : (stally k n s).bare = s.bare := rfl
@[simp] theorem setEvtCfg_bare (k : Nat) (v : Word) : (setEvtCfg k v s).bare = s.bare := rfl
@[simp] theorem takeFree_bare : (takeFree s).2.bare = s.bare := rfl

@[simp] theorem msixSend_bare (v : Nat) : (msixSend v s).bare = s.bare := by
  unfold msixSend
  split
  · rfl
  · split <;> rfl

@[simp] theorem evTime_bare (e : Ev) : (evTime e s).2.bare = s.bare := by
  unfold evTime
  split
  · rfl
  · split <;> rfl

@[simp] theorem queueRecord_bare (e : Ev) : (queueRecord e s).bare = s.bare := by
  unfold queueRecord
  split
  · exact evTime_bare s e
  · rfl

theorem evts_bare (x : Evts) : State.bare { s with evts := x } = s.bare := rfl
@[simp] theorem postFlags_bare (e : Ev) : (postFlags e s).bare = s.bare := by unfold postFlags; exact evts_bare s _
@[simp] theorem traceEvent_bare (e : Ev) : (traceEvent e s).bare = s.bare := by unfold traceEvent; split <;> rfl
@[simp] theorem postOne_bare (e : Ev) : (postOne e s).bare = s.bare := by unfold postOne; dsimp only; split <;> simp

@[simp] theorem postList_bare (es : List Ev) : (postList es s).bare = s.bare := by
  unfold postList
  dsimp only
  rw [forEach_keeps State.bare _ _ (fun v u => by rw [stally_bare, msixSend_bare]),
    forEach_keeps State.bare _ _ (fun e u => postOne_bare u e)]

@[simp] theorem raiseExt_bare (k : Nat) (d : Word) (x : List Word) : (raiseExt k d x s).bare = s.bare := by
  unfold raiseExt
  dsimp only
  split
  · exact postList_bare s _
  · rfl

@[simp] theorem raise_bare (k d : Nat) : (raise k d s).bare = s.bare := raiseExt_bare s k _ _
@[simp] theorem logF6_bare (a b d : Nat) (e : Word) (op : Nat) (v : Word) : (logF6 a b d e op v s).bare = s.bare :=
  raiseExt_bare s _ _ _

@[simp] theorem signalQp_bare (q : Nat) : (signalQp q s).bare = s.bare := by
  unfold signalQp
  rw [raiseExt_bare, msixSend_bare, setQp_bare]

@[simp] theorem countIrq_bare (q : Nat) (b : Bool) : (countIrq q b s).bare = s.bare := by
  unfold countIrq
  dsimp only
  split
  · split
    · rw [signalQp_bare, setQp_bare]
    · exact setQp_bare s _ _
  · rfl

@[simp] theorem countMem_bare (k : Nat) : (countMem k s).bare = s.bare := rfl

@[simp] theorem tlbTouch_bare (a : Nat) : (tlbTouch a s).bare = s.bare := by
  unfold tlbTouch
  split <;> rfl

@[simp] theorem stopQp_bare (q c : Nat) : (stopQp q c s).bare = s.bare := by
  unfold stopQp
  rw [raiseExt_bare, setQp_bare]

@[simp] theorem qpFault_bare (q c : Nat) : (qpFault q c s).bare = s.bare := by
  unfold qpFault
  rw [stopQp_bare, raise_bare, countMem_bare]

@[simp] theorem setCh0_bare (x : Ch0) : (setCh0 x s).bare = s.bare := rfl

@[simp] theorem stampPost_bare (op : Nat) (n : Option Word) (c : Sub) : (stampPost op n c s).bare = s.bare := by
  unfold stampPost
  split <;> rfl

@[simp] theorem postNow_bare (q : Nat) (tag : BitVec 16) (st : Nat) (r : DWord) (b : Bool) :
    (postNow q tag st r b s).bare = s.bare := by
  unfold postNow
  rw [countIrq_bare, setQp_bare, setCh0_bare, hostWrite_bare]

@[simp] theorem post_bare (q : Nat) (tag : BitVec 16) (st : Nat) (r : DWord) (b : Bool) : (post q tag st r b s).bare = s.bare := by
  unfold post
  dsimp only
  split
  · rfl
  · split
    · rw [postNow_bare, tlbTouch_bare]
    · rfl
    · exact qpFault_bare s q _

/-- Without translation, and with no completion of the pair waiting for a page, a completion is posted at once. -/
theorem post_of_free (q : Nat) (tag : BitVec 16) (st : Nat) (r : DWord) (b : Bool) (h : s.mem.xlatEn = false)
    (hp : s.hif.posts = []) : post q tag st r b s = postNow q tag st r b s := by
  have hw : waitingPosts s q = [] := by simp [waitingPosts, hp]
  have hx : translate s true (cqAddr s q) = .ready := by simp [translate, h]
  have hf : tlbTouch (cqAddr s q) s = s := by simp [tlbTouch, h]
  simp [post, hw, hx, hf]

@[simp] theorem complete_bare (c : Sub) (st : Nat) (r : DWord) : (complete c st r s).bare = s.bare := post_bare s _ _ _ _ _
@[simp] theorem consume_bare (q : Nat) : (consume q s).bare = s.bare := by
  unfold consume
  rw [tlbTouch_bare, setQp_bare]
@[simp] theorem consumed_bare (c : Sub) : (consumed c s).bare = s.bare := consume_bare s _
@[simp] theorem notFetched_bare (q : Nat) : (notFetched q s).bare = s.bare := by
  unfold notFetched
  split
  · split
    · exact qpFault_bare s q _
    · rfl
  · rfl
@[simp] theorem refreshOrders_bare : (refreshOrders s).bare = s.bare := rfl
@[simp] theorem addCmd_bare (x : Cmd) : (addCmd x s).bare = s.bare := rfl
@[simp] theorem holdOrder_bare (op : Nat) (c : Sub) : (holdOrder op c s).bare = s.bare := rfl

@[simp] theorem refuseBusy_bare (c : Sub) (b : Bool) : (refuseBusy c b s).bare = s.bare := by
  unfold refuseBusy
  rw [setQp_bare, complete_bare]

@[simp] theorem notifyIf_bare (b : Bool) (c : Sub) : (notifyIf b c s).bare = s.bare := by unfold notifyIf; split <;> simp

/-- Ending an execution changes nothing outside the host interface, the events and the counts. -/
@[simp] theorem finish_bare (op : Nat) (c : Sub) (o : OpOut) : (finish op c o).bare = o.state.bare := by
  unfold finish OpOut.state
  split
  · dsimp only
    rw [stampPost_bare, complete_bare, notifyIf_bare]
  · exact notifyIf_bare _ _ _
  · rw [complete_bare, hostWrite_bare]

/-- Everything a host command can do outside the host interface, the events and the counts, it does in its execution. -/
theorem submit_bare (op : Nat) (core : Sub → State → OpOut) (c : Sub) (h : ∀ u, (core c u).state.bare = u.bare) :
    (submit op core c s).bare = s.bare := by
  unfold submit
  dsimp only
  split
  · exact notFetched_bare s _
  · split
    · simp
    · split
      · simp
      · split
        · simp
        · split
          · simp
          · unfold execEntry
            extract_lets u
            have hu : u.bare = s.bare := consumed_bare _ c
            clear_value u
            split
            · rw [complete_bare, hu]
            · split
              · rw [complete_bare, hu]
              · rw [finish_bare, h, hu]

theorem afterF_bare (op : Nat) : afterF op s = afterF op s.bare := rfl
theorem overtaken_bare (op : Nat) : overtaken op s = overtaken op s.bare := rfl

/-- An accepted command is executed in the state it has begun in. -/
theorem submit_of_runsNow (op : Nat) (core : Sub → State → OpOut) (c : Sub) (h : runsNow op c s = true) :
    submit op core c s = finish op c (core c (begun op c s)) := by
  unfold runsNow at h
  simp only [Bool.and_eq_true, Bool.not_eq_true', Option.isNone_iff_eq_none, Bool.or_eq_true] at h
  obtain ⟨⟨⟨⟨⟨⟨⟨h1, h2⟩, h3⟩, h4⟩, h5⟩, h6⟩, h7⟩, h8⟩ := h
  have hd : (refreshOrders s).dev = s.dev := rfl
  have hheld : (hasOrder c && !(openTags (refreshOrders s) c.qp).isEmpty) = false := by
    rcases h5 with h | h <;> simp [h]
  have a1 : afterF op (stally (if isFast op then 0x85 else 0x86) 1 (consumed c (refreshOrders s))) = afterF op s := by
    rw [afterF_bare, stally_bare, consumed_bare, refreshOrders_bare, ← afterF_bare]
  have a2 : overtaken op (stally (if isFast op then 0x85 else 0x86) 1 (consumed c (refreshOrders s))) = overtaken op s := by
    rw [overtaken_bare, stally_bare, consumed_bare, refreshOrders_bare, ← overtaken_bare]
  unfold submit
  simp only [h1, h2, h3, hd, h4, hheld, h6, Bool.not_true, Bool.false_eq_true, if_false]
  unfold execEntry begun
  simp [a1, a2, h7, h8]

end Sys2Proof.Machine
end

