-- ==== Sys2Proof/Laws/Table.lean ====
section
/-! SUPPORT. What the sparse tables, the bit fields and the words' halves do: the lemmas that stand for their definitions. -/

namespace Sys2Proof.Machine

/-! Sparse tables -/

theorem tget_tput (d : α) (t : Tab α) (k : Nat) (v : α) (j : Nat) :
    tget d (tput t k v) j = if k = j then v else tget d t j := by
  induction t with
  | nil => simp [tput, tget]
  | cons e r ih =>
    obtain ⟨k', v'⟩ := e
    simp only [tput]
    split
    · simp [tget]
    · split
      · subst_vars
        simp only [tget]
        split <;> rfl
      · simp only [tget, ih]
        split
        · subst_vars
          simp [*]
        · rfl

theorem tget_tdel (d : α) (t : Tab α) (k j : Nat) : tget d (tdel t k) j = if k = j then d else tget d t j := by
  induction t with
  | nil => simp [tdel, tget]
  | cons e r ih =>
    obtain ⟨k', v'⟩ := e
    simp only [tdel]
    split
    · subst_vars
      rw [ih]
      simp only [tget]
      split <;> simp_all
    · simp only [tget, ih]
      split
      · subst_vars
        simp [Ne.symm ‹_›]
      · rfl

theorem tget_tset [DecidableEq α] (d : α) (t : Tab α) (k : Nat) (v : α) (j : Nat) :
    tget d (tset d t k v) j = if k = j then v else tget d t j := by
  unfold tset
  split
  · subst_vars
    rw [tget_tdel]
  · rw [tget_tput, tget_tdel]
    split <;> rfl

@[simp] theorem tget_tset_self [DecidableEq α] (d : α) (t : Tab α) (k : Nat) (v : α) : tget d (tset d t k v) k = v := by
  simp [tget_tset]

theorem tget_tset_ne [DecidableEq α] (d : α) (t : Tab α) (k : Nat) (v : α) (j : Nat) (h : k ≠ j) :
    tget d (tset d t k v) j = tget d t j := by
  simp [tget_tset, h]

theorem tget_tmod [DecidableEq α] (d : α) (t : Tab α) (k : Nat) (f : α → α) (j : Nat) :
    tget d (tmod d t k f) j = if k = j then f (tget d t k) else tget d t j := tget_tset d t k _ j

theorem tget_tsetMany [DecidableEq α] (d : α) (l : List α) : ∀ (t : Tab α) (k j : Nat),
    tget d (tsetMany d t k l) j = if k ≤ j ∧ j < k + l.length then l.getD (j - k) d else tget d t j := by
  induction l with
  | nil => intro t k j; simp [tsetMany]
  | cons v r ih =>
    intro t k j
    simp only [tsetMany, ih, tget_tset, List.length_cons]
    by_cases h : j = k
    · subst h
      simp
    · by_cases h1 : k ≤ j
      · have h2 : j - k = (j - (k + 1)) + 1 := by omega
        simp only [h2, List.getD_cons_succ]
        have : (k + 1 ≤ j ∧ j < k + 1 + r.length) ↔ (k ≤ j ∧ j < k + (r.length + 1)) := by omega
        simp only [this, if_neg (Ne.symm h)]
      · rw [if_neg (by omega), if_neg (Ne.symm h), if_neg (by omega)]

/-! Bit fields -/

theorem bit_word (n i : Nat) (h : i < 32) : bit (word n) i = decide (n / 2 ^ i % 2 = 1) := by
  rw [bit, word, BitVec.getLsbD_ofNat, Nat.testBit_eq_decide_div_mod_eq]
  simp [h]

theorem field_lt (w : BitVec n) (lo len : Nat) : field w lo len < 2 ^ len := Nat.mod_lt _ (by positivity)

theorem bit_eq_field (w : BitVec n) (i : Nat) : bit w i = decide (field w i 1 = 1) := by
  simp [bit, field, fieldN, BitVec.getLsbD, Nat.testBit_eq_decide_div_mod_eq]

/-! Halves of a 64-bit word -/

theorem dword_halves (d : DWord) : dword (loWord d) (hiWord d) = d := by
  apply BitVec.eq_of_toNat_eq
  have := d.isLt
  simp only [dword, loWord, hiWord, BitVec.toNat_ofNat]
  omega

theorem loWord_dword (a b : Word) : loWord (dword a b) = a := by
  apply BitVec.eq_of_toNat_eq
  have := a.isLt
  have := b.isLt
  simp only [dword, loWord, BitVec.toNat_ofNat]
  omega

theorem hiWord_dword (a b : Word) : hiWord (dword a b) = b := by
  apply BitVec.eq_of_toNat_eq
  have := a.isLt
  have := b.isLt
  simp only [dword, hiWord, BitVec.toNat_ofNat]
  omega

end Sys2Proof.Machine
end

