-- ==== Sys2Proof/Laws/Memory.lean ====
section
/-! SUPPORT. The bytes that the device writes in host memory: their canonical form is kept, and what each of them reads as. -/

namespace Sys2Proof.Machine

/-- Every listed address is above k. -/
def AddrsAbove (k : Nat) (m : List Host.Cell) : Prop := ∀ c ∈ m, k < c.1

theorem memSorted_cons (c : Host.Cell) (m : List Host.Cell) :
    memSorted (c :: m) = true ↔ AddrsAbove c.1 m ∧ memSorted m = true := by
  induction m generalizing c with
  | nil => simp [memSorted, AddrsAbove]
  | cons d r ih =>
    simp only [memSorted, Bool.and_eq_true, decide_eq_true_eq, AddrsAbove, List.mem_cons, forall_eq_or_imp]
    constructor
    · rintro ⟨h, hs⟩
      refine ⟨⟨h, fun e he => ?_⟩, hs⟩
      exact Nat.lt_trans h (((ih d).1 hs).1 e he)
    · rintro ⟨⟨h, _⟩, hs⟩
      exact ⟨h, hs⟩

theorem tdel_above (k a : Nat) (m : List Host.Cell) (h : AddrsAbove k m) : AddrsAbove k (tdel m a) := by
  induction m with
  | nil => exact h
  | cons c r ih =>
    obtain ⟨b, v⟩ := c
    have hr : AddrsAbove k r := fun e he => h e (List.mem_cons_of_mem _ he)
    simp only [tdel]
    split
    · exact ih hr
    · intro e he
      rcases List.mem_cons.1 he with rfl | he
      · exact h _ List.mem_cons_self
      · exact ih hr e he

theorem tput_above (k a : Nat) (v : Byte) (m : List Host.Cell) (ha : k < a) (h : AddrsAbove k m) :
    AddrsAbove k (tput m a v) := by
  induction m with
  | nil => intro e he; simp only [tput, List.mem_singleton] at he; subst he; exact ha
  | cons c r ih =>
    obtain ⟨b, w⟩ := c
    have hr : AddrsAbove k r := fun e he => h e (List.mem_cons_of_mem _ he)
    simp only [tput]
    split
    · intro e he
      rcases List.mem_cons.1 he with rfl | he
      · exact ha
      · exact h e he
    · split
      · intro e he
        rcases List.mem_cons.1 he with rfl | he
        · exact ha
        · exact hr e he
      · intro e he
        rcases List.mem_cons.1 he with rfl | he
        · exact h _ List.mem_cons_self
        · exact ih hr e he

theorem tdel_sorted (a : Nat) (m : List Host.Cell) (h : memSorted m = true) : memSorted (tdel m a) = true := by
  induction m with
  | nil => exact h
  | cons c r ih =>
    obtain ⟨b, v⟩ := c
    obtain ⟨h1, h2⟩ := (memSorted_cons _ _).1 h
    simp only [tdel]
    split
    · exact ih h2
    · exact (memSorted_cons _ _).2 ⟨tdel_above _ _ _ h1, ih h2⟩

theorem tput_sorted (a : Nat) (v : Byte) (m : List Host.Cell) (h : memSorted m = true) : memSorted (tput m a v) = true := by
  induction m with
  | nil => rfl
  | cons c r ih =>
    obtain ⟨b, w⟩ := c
    obtain ⟨h1, h2⟩ := (memSorted_cons _ _).1 h
    simp only [tput]
    split
    · refine (memSorted_cons _ _).2 ⟨fun e he => ?_, h⟩
      rcases List.mem_cons.1 he with rfl | he
      · assumption
      · exact Nat.lt_trans ‹_› (h1 e he)
    · split
      · subst_vars
        exact (memSorted_cons _ _).2 ⟨h1, h2⟩
      · exact (memSorted_cons _ _).2 ⟨tput_above _ _ _ _ (by omega) h1, ih h2⟩

/-- Bytes written one after another keep the canonical form. -/
theorem writeCells_sorted (a : Nat) (l : List (Byte × Nat)) (m : List Host.Cell) (h : memSorted m = true) :
    memSorted (l.foldl (fun m b => tput (tdel m (a + b.2)) (a + b.2) b.1) m) = true := by
  induction l generalizing m with
  | nil => exact h
  | cons b r ih => exact ih _ (tput_sorted _ _ _ (tdel_sorted _ _ h))

/-- A write to host memory keeps its canonical form. -/
theorem hostWrite_memWf (a : Nat) (bs : List Byte) (s : State) (h : s.memWf) : (hostWrite a bs s).memWf :=
  writeCells_sorted a _ _ h

theorem tput_map (f : α → β) (m : Tab α) (k : Nat) (v : α) :
    (tput m k v).map (fun c => (c.1, f c.2)) = tput (m.map fun c => (c.1, f c.2)) k (f v) := by
  induction m with
  | nil => rfl
  | cons c r ih =>
    simp only [tput, List.map_cons]
    split
    · rfl
    · split
      · rfl
      · simp [ih]

theorem tdel_map (f : α → β) (m : Tab α) (k : Nat) :
    (tdel m k).map (fun c => (c.1, f c.2)) = tdel (m.map fun c => (c.1, f c.2)) k := by
  induction m with
  | nil => rfl
  | cons c r ih =>
    simp only [tdel, List.map_cons]
    split
    · exact ih
    · simp [ih]

/-- What the byte at address b reads as in a list of cells. -/
def cellAt (m : List Host.Cell) (b : Nat) : Option Byte := tget none (m.map fun c => (c.1, some c.2)) b

theorem cellAt_put (m : List Host.Cell) (a : Nat) (v : Byte) (b : Nat) :
    cellAt (tput (tdel m a) a v) b = if a = b then some v else cellAt m b := by
  unfold cellAt
  rw [tput_map, tdel_map, tget_tput, tget_tdel]
  split <;> rfl

theorem cellAt_write (a b : Nat) (bs : List Byte) (n : Nat) (m : List Host.Cell) :
    cellAt ((bs.zipIdx n).foldl (fun m b => tput (tdel m (a + b.2)) (a + b.2) b.1) m) b
      = if a + n ≤ b ∧ b < a + n + bs.length then bs[b - (a + n)]? else cellAt m b := by
  induction bs generalizing n m with
  | nil => simp
  | cons v r ih =>
    simp only [List.zipIdx_cons, List.foldl_cons, ih, cellAt_put, List.length_cons]
    by_cases h : b = a + n
    · subst h
      simp
    · rw [if_neg (Ne.symm h)]
      by_cases h1 : a + n ≤ b
      · have h2 : b - (a + n) = (b - (a + (n + 1))) + 1 := by omega
        rw [h2, List.getElem?_cons_succ]
        have : (a + (n + 1) ≤ b ∧ b < a + (n + 1) + r.length) ↔ (a + n ≤ b ∧ b < a + n + (r.length + 1)) := by omega
        simp only [this]
      · rw [if_neg (by omega), if_neg (by omega)]

/-- After a write, the bytes written read back and every other address reads as before. -/
theorem hostRead_hostWrite (a : Nat) (bs : List Byte) (s : State) (b : Nat) :
    hostRead (hostWrite a bs s) b = if a ≤ b ∧ b < a + bs.length then bs[b - a]? else hostRead s b :=
  cellAt_write a b bs 0 s.hif.hostMem

theorem reset_memWf : State.reset.memWf := rfl

end Sys2Proof.Machine
end

