-- ==== Sys2Proof/Laws/PerInstr.lean ====
section
/-! SUPPORT. What well-formedness means for each row: the entry of a host command names an existing queue pair and fits its
words; no other row carries an entry. -/

namespace Sys2Proof.Laws.WellFormedness

/-- The submission entry that a row carries. -/
def entryOf : Instr → Option Sub
  | .nop c => some c
  | .identify c => some c
  | .setState c => some c
  | .abort c => some c
  | .clkStatus c => some c
  | .clkMeasure c => some c
  | .clkGate c => some c
  | .pwrStatus c => some c
  | .dvfsSet c => some c
  | .clkoutCfg c => some c
  | .loopSetSp c => some c
  | .loopSetOut c => some c
  | .loopRead c => some c
  | .loopSetMode c => some c
  | .loopWrite c => some c
  | .boothStatus c => some c
  | .boothKeepAwake c => some c
  | .modelLoad c => some c
  | .modelReinit c => some c
  | .testStart c => some c
  | .testStop c => some c
  | .testStatus c => some c
  | .captRead c => some c
  | .dispLoad c => some c
  | .dispSetPrio c => some c
  | .dispStatus c => some c
  | .dispFlowStatus c => some c
  | .sessAdvance c => some c
  | .sessHold c => some c
  | .sessLoad c => some c
  | .sessStart c => some c
  | .sessResume c => some c
  | .sessAbort c => some c
  | .sessUnload c => some c
  | .sessStatus c => some c
  | .scanLoad c => some c
  | .scanMode c => some c
  | .scanWrite c => some c
  | .scanRead c => some c
  | .scanStatus c => some c
  | .axConfig c => some c
  | .axWrite c => some c
  | .axEnable c => some c
  | .axMove c => some c
  | .axStop c => some c
  | .axSetLimits c => some c
  | .axHome c => some c
  | .axGear c => some c
  | .axGearSched c => some c
  | .axClear c => some c
  | .axRead c => some c
  | .safeStatus c => some c
  | .safeRequest c => some c
  | .safeReset c => some c
  | .sconnStatus c => some c
  | .sealStage c => some c
  | .sealCommit c => some c
  | .sealRead c => some c
  | .recConfig c => some c
  | .recStream c => some c
  | .recStatus c => some c
  | .recFetch c => some c
  | .trigConfig c => some c
  | .trigCtrl c => some c
  | .trigStatus c => some c
  | .maskLoad c => some c
  | .maskArm c => some c
  | .maskStatus c => some c
  | .planeStatus c => some c
  | .planeHealth c => some c
  | .planeRestore c => some c
  | .planeOffline c => some c
  | .planeSwap c => some c
  | .planeConfig c => some c
  | .ledgerStatus c => some c
  | .journalRead c => some c
  | .fwStage c => some c
  | .fwSelect c => some c
  | .memStatus c => some c
  | .turnSet c => some c
  | .turnRead c => some c
  | .memScrub c => some c
  | .aiConfig c => some c
  | .afeSeq c => some c
  | .aoConfig c => some c
  | .clConfig c => some c
  | .pwConfig c => some c
  | .afeCal c => some c
  | .afeTest c => some c
  | .afeStatus c => some c
  | .afeMode c => some c
  | .gpConfig c => some c
  | .fpConfig c => some c
  | .fpStation c => some c
  | .fpArm c => some c
  | .fpStatus c => some c
  | .mgtConfig c => some c
  | .ptpConfig c => some c
  | .ptpStatus c => some c
  | .timeRead c => some c
  | .timeStep c => some c
  | .timeRate c => some c
  | .timeCmp c => some c
  | .timeStatus c => some c
  | .canConfig c => some c
  | .canFilter c => some c
  | .canSignal c => some c
  | .canSched c => some c
  | .canSend c => some c
  | .canCtrl c => some c
  | .canRxRead c => some c
  | .canStatus c => some c
  | .evtRoute c => some c
  | .evtStatus c => some c
  | .evrRead c => some c
  | .evrClear c => some c
  | .obsCtrl c => some c
  | .obsRead c => some c
  | .lockChallenge c => some c
  | .lock c => some c
  | .qpEnable _ _ => none
  | .qpDisable _ _ => none
  | .qpSqTail _ _ => none
  | .qpCqHead _ _ => none
  | .qpRetryClear _ => none
  | .readClearCounter _ => none
  | .evtCfgWrite _ _ => none
  | .evtAck _ _ => none
  | .dmaChResume _ _ => none
  | .dmaChStop _ => none
  | .xlatInvAll => none
  | .xlatInvPage _ => none
  | .xlatInvDone => none
  | .registerWrite _ _ _ => none
  | .functionLevelReset => none
  | .linkDown => none
  | .linkUp _ _ => none
  | .d3hotEntry => none
  | .d0Entry => none
  | .entryFetch _ _ _ => none
  | .coalesceTimeout _ => none
  | .timedPlacement _ _ => none
  | .backlogEased => none
  | .forwardedCommit _ _ => none
  | .inputCut _ _ _ => none
  | .tokenDelivery _ _ _ _ _ _ _ _ => none
  | .taskFire _ => none
  | .loopExecution _ => none
  | .coastLimitReached _ => none
  | .staleLimitReached _ => none
  | .sampleDeadline => none
  | .stepDurationDue _ => none
  | .triggerArmed _ => none
  | .triggerWindowComplete _ => none
  | .outputCommit _ => none
  | .signatureExchange => none
  | .checkRollVerdict _ _ => none
  | .heartbeatDeadline _ _ => none
  | .planeResignation _ _ _ => none
  | .switchoverElection => none
  | .healthReport _ _ => none
  | .selfTestSlice _ _ => none
  | .diagnosisPassed _ => none
  | .suspectTimeout _ => none
  | .resyncCopyRound _ => none
  | .resyncFinalCut _ => none
  | .resyncComplete _ => none
  | .resyncTimeout _ => none
  | .journalWrite _ => none
  | .eventPosting => none
  | .eventRecordWrite _ => none
  | .axisTick _ => none
  | .stallDeclared _ => none
  | .safetyEvaluation => none
  | .discrepancyDemand _ => none
  | .ss1TorqueOff _ => none
  | .stoTestPulse _ _ => none
  | .safetyPduReceive _ _ => none
  | .safetyWatchdogExpiry _ => none
  | .safetyPduSend _ => none
  | .scanCycleStart => none
  | .scanDeadline => none
  | .scanShadowRead => none
  | .instrNop => none
  | .rung _ => none
  | .andBit _ => none
  | .andnBit _ => none
  | .orBit _ => none
  | .ornBit _ => none
  | .push => none
  | .popand => none
  | .popor => none
  | .notRlo => none
  | .outBit _ => none
  | .setBit _ => none
  | .rstBit _ => none
  | .rEdge _ => none
  | .fEdge _ => none
  | .ton _ => none
  | .tof _ => none
  | .tp _ => none
  | .tres _ => none
  | .ctu _ => none
  | .ctd _ => none
  | .cres _ => none
  | .cgt _ _ => none
  | .cge _ _ => none
  | .clt _ _ => none
  | .cle _ _ => none
  | .ceq _ _ => none
  | .cne _ _ => none
  | .lim _ _ _ => none
  | .mov _ _ => none
  | .movi _ _ => none
  | .holds _ => none
  | .park _ => none
  | .force _ => none
  | .evt _ _ => none
  | .endProg => none
  | .boothPowerDown _ => none
  | .boothWakeDone _ => none
  | .intervalClose _ => none
  | .timeRecord => none
  | .streamBurst _ => none
  | .dramGrant _ _ => none
  | .dramRefresh => none
  | .memoryWatchdogBite => none
  | .scrubBlock _ => none
  | .dmaBurst _ => none
  | .translationWalk _ _ _ => none
  | .dmaSuspendTimeout _ => none
  | .aiConversion _ _ _ => none
  | .ne43Recovery _ => none
  | .injectedTrigger _ _ _ => none
  | .calRotationStart _ => none
  | .calHandover _ _ => none
  | .calCoeffLoaded _ _ _ => none
  | .afeTestDone _ _ => none
  | .clMeasure _ _ _ => none
  | .complianceLost _ => none
  | .complianceRestored _ => none
  | .clOpen _ => none
  | .retransmitAlarm _ => none
  | .loopvMeasure _ => none
  | .aoOverload _ _ => none
  | .pwmPeriodStart _ => none
  | .frameReceive _ _ => none
  | .frameDelivery _ => none
  | .outputFrameSend _ => none
  | .stationLost _ => none
  | .fieldLinkDown _ => none
  | .fieldLinkUp _ => none
  | .ptpMessageReceive _ _ => none
  | .ptpMessageSend _ => none
  | .mgtLinkChange _ _ => none
  | .timeCompareFire _ => none
  | .canFrameReceive _ _ _ => none
  | .canSchedRelease _ _ => none
  | .canTxComplete _ => none
  | .canTxError _ => none
  | .canArbitrationLost _ => none
  | .referenceMessage _ _ => none
  | .busOffRecovery _ => none
  | .porstAssert => none
  | .porstRelease _ => none
  | .warmRstFall => none
  | .warmResetApply => none
  | .warmRstRelease _ => none
  | .pwrfailAssert => none
  | .checkpointShadowLatch => none
  | .checkpointValidMark _ => none
  | .pwrfailRelease => none
  | .supplyTrip _ => none
  | .supplyRestored _ => none
  | .sealOpenAssert => none
  | .sealOpenDeassert => none
  | .wakeTimerExpiry => none
  | .idleWakeCommit => none
  | .crystalStable _ => none
  | .pllLock _ => none
  | .firmwareChecked _ _ _ => none
  | .selfTestDone _ _ => none
  | .planeReady _ => none
  | .startupElection => none
  | .startupTimeout _ => none
  | .crystalStartTimeout _ => none
  | .clockMonitorTrip _ _ _ => none
  | .sharedClockTrip _ _ => none
  | .clockSourceRecovered _ => none
  | .tickAlignment _ _ => none
  | .planeAligned _ => none
  | .tickPeriodCheck _ _ => none
  | .trimLimit _ => none
  | .droopFallback _ => none
  | .droopRelease => none
  | .levelSettleExpiry _ => none
  | .measurementDone _ _ _ => none
  | .fieldLockExpiry => none
  | .nonceExpiry => none
  | .opsecWrite _ => none
  | .tapBypass _ _ => none
  | .tapIdcode => none
  | .tapSample => none
  | .tapObsSel _ => none
  | .tapObsData => none
  | .tapReset => none
  | .winSpHi _ _ => none
  | .winSpLo _ _ => none
  | .winMoHi _ _ => none
  | .winMoLo _ _ => none
  | .winMode _ _ => none
  | .winClaim _ => none
  | .winStart => none
  | .winHold => none
  | .winResume => none
  | .winAdvance => none
  | .winAbort => none
  | .windowStatusRead _ => none
  | .windowRead _ => none
  | .windowRequestTimeout => none
  | .rcStable _ => none
  | .pllLockTimeout _ => none
  | .canIntegrationDone _ => none
  | .canReceiveError _ => none
  | .completionTimeout _ _ => none
  | .ledgerReadBack _ => none
  | .operatingSecond => none

/-- A well-formed row that carries an entry carries one of an existing queue pair, whose target and parameters fit their words
(02 R51, Table 2-8). -/
def Statement (i : Instr) : Prop :=
  i.wf = true → ∀ c, entryOf i = some c → c.qp < 64 ∧ c.target < 2 ^ 32 ∧ c.params.length ≤ 12

/-- A row that carries the entry c. -/
theorem of_entry (c : Sub) (h : c.wf = true) : c.qp < 64 ∧ c.target < 2 ^ 32 ∧ c.params.length ≤ 12 := by
  unfold Sub.wf at h
  simp only [Bool.and_eq_true, decide_eq_true_eq] at h
  exact ⟨h.1.1, h.1.2, h.2⟩

theorem nop (c : Sub) : Statement (.nop c) := fun h _ e => Option.some.inj e ▸ of_entry c h
theorem identify (c : Sub) : Statement (.identify c) := fun h _ e => Option.some.inj e ▸ of_entry c h
theorem setState (c : Sub) : Statement (.setState c) := fun h _ e => Option.some.inj e ▸ of_entry c h
theorem abort (c : Sub) : Statement (.abort c) := fun h _ e => Option.some.inj e ▸ of_entry c h
theorem clkStatus (c : Sub) : Statement (.clkStatus c) := fun h _ e => Option.some.inj e ▸ of_entry c h
theorem clkMeasure (c : Sub) : Statement (.clkMeasure c) := fun h _ e => Option.some.inj e ▸ of_entry c h
theorem clkGate (c : Sub) : Statement (.clkGate c) := fun h _ e => Option.some.inj e ▸ of_entry c h
theorem pwrStatus (c : Sub) : Statement (.pwrStatus c) := fun h _ e => Option.some.inj e ▸ of_entry c h
theorem dvfsSet (c : Sub) : Statement (.dvfsSet c) := fun h _ e => Option.some.inj e ▸ of_entry c h
theorem clkoutCfg (c : Sub) : Statement (.clkoutCfg c) := fun h _ e => Option.some.inj e ▸ of_entry c h
theorem loopSetSp (c : Sub) : Statement (.loopSetSp c) := fun h _ e => Option.some.inj e ▸ of_entry c h
theorem loopSetOut (c : Sub) : Statement (.loopSetOut c) := fun h _ e => Option.some.inj e ▸ of_entry c h
theorem loopRead (c : Sub) : Statement (.loopRead c) := fun h _ e => Option.some.inj e ▸ of_entry c h
theorem loopSetMode (c : Sub) : Statement (.loopSetMode c) := fun h _ e => Option.some.inj e ▸ of_entry c h
theorem loopWrite (c : Sub) : Statement (.loopWrite c) := fun h _ e => Option.some.inj e ▸ of_entry c h
theorem boothStatus (c : Sub) : Statement (.boothStatus c) := fun h _ e => Option.some.inj e ▸ of_entry c h
theorem boothKeepAwake (c : Sub) : Statement (.boothKeepAwake c) := fun h _ e => Option.some.inj e ▸ of_entry c h
theorem modelLoad (c : Sub) : Statement (.modelLoad c) := fun h _ e => Option.some.inj e ▸ of_entry c h
theorem modelReinit (c : Sub) : Statement (.modelReinit c) := fun h _ e => Option.some.inj e ▸ of_entry c h
theorem testStart (c : Sub) : Statement (.testStart c) := fun h _ e => Option.some.inj e ▸ of_entry c h
theorem testStop (c : Sub) : Statement (.testStop c) := fun h _ e => Option.some.inj e ▸ of_entry c h
theorem testStatus (c : Sub) : Statement (.testStatus c) := fun h _ e => Option.some.inj e ▸ of_entry c h
theorem captRead (c : Sub) : Statement (.captRead c) := fun h _ e => Option.some.inj e ▸ of_entry c h
theorem dispLoad (c : Sub) : Statement (.dispLoad c) := fun h _ e => Option.some.inj e ▸ of_entry c h
theorem dispSetPrio (c : Sub) : Statement (.dispSetPrio c) := fun h _ e => Option.some.inj e ▸ of_entry c h
theorem dispStatus (c : Sub) : Statement (.dispStatus c) := fun h _ e => Option.some.inj e ▸ of_entry c h
theorem dispFlowStatus (c : Sub) : Statement (.dispFlowStatus c) := fun h _ e => Option.some.inj e ▸ of_entry c h
theorem sessAdvance (c : Sub) : Statement (.sessAdvance c) := fun h _ e => Option.some.inj e ▸ of_entry c h
theorem sessHold (c : Sub) : Statement (.sessHold c) := fun h _ e => Option.some.inj e ▸ of_entry c h
theorem sessLoad (c : Sub) : Statement (.sessLoad c) := fun h _ e => Option.some.inj e ▸ of_entry c h
theorem sessStart (c : Sub) : Statement (.sessStart c) := fun h _ e => Option.some.inj e ▸ of_entry c h
theorem sessResume (c : Sub) : Statement (.sessResume c) := fun h _ e => Option.some.inj e ▸ of_entry c h
theorem sessAbort (c : Sub) : Statement (.sessAbort c) := fun h _ e => Option.some.inj e ▸ of_entry c h
theorem sessUnload (c : Sub) : Statement (.sessUnload c) := fun h _ e => Option.some.inj e ▸ of_entry c h
theorem sessStatus (c : Sub) : Statement (.sessStatus c) := fun h _ e => Option.some.inj e ▸ of_entry c h
theorem scanLoad (c : Sub) : Statement (.scanLoad c) := fun h _ e => Option.some.inj e ▸ of_entry c h
theorem scanMode (c : Sub) : Statement (.scanMode c) := fun h _ e => Option.some.inj e ▸ of_entry c h
theorem scanWrite (c : Sub) : Statement (.scanWrite c) := fun h _ e => Option.some.inj e ▸ of_entry c h
theorem scanRead (c : Sub) : Statement (.scanRead c) := fun h _ e => Option.some.inj e ▸ of_entry c h
theorem scanStatus (c : Sub) : Statement (.scanStatus c) := fun h _ e => Option.some.inj e ▸ of_entry c h
theorem axConfig (c : Sub) : Statement (.axConfig c) := fun h _ e => Option.some.inj e ▸ of_entry c h
theorem axWrite (c : Sub) : Statement (.axWrite c) := fun h _ e => Option.some.inj e ▸ of_entry c h
theorem axEnable (c : Sub) : Statement (.axEnable c) := fun h _ e => Option.some.inj e ▸ of_entry c h
theorem axMove (c : Sub) : Statement (.axMove c) := fun h _ e => Option.some.inj e ▸ of_entry c h
theorem axStop (c : Sub) : Statement (.axStop c) := fun h _ e => Option.some.inj e ▸ of_entry c h
theorem axSetLimits (c : Sub) : Statement (.axSetLimits c) := fun h _ e => Option.some.inj e ▸ of_entry c h
theorem axHome (c : Sub) : Statement (.axHome c) := fun h _ e => Option.some.inj e ▸ of_entry c h
theorem axGear (c : Sub) : Statement (.axGear c) := fun h _ e => Option.some.inj e ▸ of_entry c h
theorem axGearSched (c : Sub) : Statement (.axGearSched c) := fun h _ e => Option.some.inj e ▸ of_entry c h
theorem axClear (c : Sub) : Statement (.axClear c) := fun h _ e => Option.some.inj e ▸ of_entry c h
theorem axRead (c : Sub) : Statement (.axRead c) := fun h _ e => Option.some.inj e ▸ of_entry c h
theorem safeStatus (c : Sub) : Statement (.safeStatus c) := fun h _ e => Option.some.inj e ▸ of_entry c h
theorem safeRequest (c : Sub) : Statement (.safeRequest c) := fun h _ e => Option.some.inj e ▸ of_entry c h
theorem safeReset (c : Sub) : Statement (.safeReset c) := fun h _ e => Option.some.inj e ▸ of_entry c h
theorem sconnStatus (c : Sub) : Statement (.sconnStatus c) := fun h _ e => Option.some.inj e ▸ of_entry c h
theorem sealStage (c : Sub) : Statement (.sealStage c) := fun h _ e => Option.some.inj e ▸ of_entry c h
theorem sealCommit (c : Sub) : Statement (.sealCommit c) := fun h _ e => Option.some.inj e ▸ of_entry c h
theorem sealRead (c : Sub) : Statement (.sealRead c) := fun h _ e => Option.some.inj e ▸ of_entry c h
theorem recConfig (c : Sub) : Statement (.recConfig c) := fun h _ e => Option.some.inj e ▸ of_entry c h
theorem recStream (c : Sub) : Statement (.recStream c) := fun h _ e => Option.some.inj e ▸ of_entry c h
theorem recStatus (c : Sub) : Statement (.recStatus c) := fun h _ e => Option.some.inj e ▸ of_entry c h
theorem recFetch (c : Sub) : Statement (.recFetch c) := fun h _ e => Option.some.inj e ▸ of_entry c h
theorem trigConfig (c : Sub) : Statement (.trigConfig c) := fun h _ e => Option.some.inj e ▸ of_entry c h
theorem trigCtrl (c : Sub) : Statement (.trigCtrl c) := fun h _ e => Option.some.inj e ▸ of_entry c h
theorem trigStatus (c : Sub) : Statement (.trigStatus c) := fun h _ e => Option.some.inj e ▸ of_entry c h
theorem maskLoad (c : Sub) : Statement (.maskLoad c) := fun h _ e => Option.some.inj e ▸ of_entry c h
theorem maskArm (c : Sub) : Statement (.maskArm c) := fun h _ e => Option.some.inj e ▸ of_entry c h
theorem maskStatus (c : Sub) : Statement (.maskStatus c) := fun h _ e => Option.some.inj e ▸ of_entry c h
theorem planeStatus (c : Sub) : Statement (.planeStatus c) := fun h _ e => Option.some.inj e ▸ of_entry c h
theorem planeHealth (c : Sub) : Statement (.planeHealth c) := fun h _ e => Option.some.inj e ▸ of_entry c h
theorem planeRestore (c : Sub) : Statement (.planeRestore c) := fun h _ e => Option.some.inj e ▸ of_entry c h
theorem planeOffline (c : Sub) : Statement (.planeOffline c) := fun h _ e => Option.some.inj e ▸ of_entry c h
theorem planeSwap (c : Sub) : Statement (.planeSwap c) := fun h _ e => Option.some.inj e ▸ of_entry c h
theorem planeConfig (c : Sub) : Statement (.planeConfig c) := fun h _ e => Option.some.inj e ▸ of_entry c h
theorem ledgerStatus (c : Sub) : Statement (.ledgerStatus c) := fun h _ e => Option.some.inj e ▸ of_entry c h
theorem journalRead (c : Sub) : Statement (.journalRead c) := fun h _ e => Option.some.inj e ▸ of_entry c h
theorem fwStage (c : Sub) : Statement (.fwStage c) := fun h _ e => Option.some.inj e ▸ of_entry c h
theorem fwSelect (c : Sub) : Statement (.fwSelect c) := fun h _ e => Option.some.inj e ▸ of_entry c h
theorem memStatus (c : Sub) : Statement (.memStatus c) := fun h _ e => Option.some.inj e ▸ of_entry c h
theorem turnSet (c : Sub) : Statement (.turnSet c) := fun h _ e => Option.some.inj e ▸ of_entry c h
theorem turnRead (c : Sub) : Statement (.turnRead c) := fun h _ e => Option.some.inj e ▸ of_entry c h
theorem memScrub (c : Sub) : Statement (.memScrub c) := fun h _ e => Option.some.inj e ▸ of_entry c h
theorem aiConfig (c : Sub) : Statement (.aiConfig c) := fun h _ e => Option.some.inj e ▸ of_entry c h
theorem afeSeq (c : Sub) : Statement (.afeSeq c) := fun h _ e => Option.some.inj e ▸ of_entry c h
theorem aoConfig (c : Sub) : Statement (.aoConfig c) := fun h _ e => Option.some.inj e ▸ of_entry c h
theorem clConfig (c : Sub) : Statement (.clConfig c) := fun h _ e => Option.some.inj e ▸ of_entry c h
theorem pwConfig (c : Sub) : Statement (.pwConfig c) := fun h _ e => Option.some.inj e ▸ of_entry c h
theorem afeCal (c : Sub) : Statement (.afeCal c) := fun h _ e => Option.some.inj e ▸ of_entry c h
theorem afeTest (c : Sub) : Statement (.afeTest c) := fun h _ e => Option.some.inj e ▸ of_entry c h
theorem afeStatus (c : Sub) : Statement (.afeStatus c) := fun h _ e => Option.some.inj e ▸ of_entry c h
theorem afeMode (c : Sub) : Statement (.afeMode c) := fun h _ e => Option.some.inj e ▸ of_entry c h
theorem gpConfig (c : Sub) : Statement (.gpConfig c) := fun h _ e => Option.some.inj e ▸ of_entry c h
theorem fpConfig (c : Sub) : Statement (.fpConfig c) := fun h _ e => Option.some.inj e ▸ of_entry c h
theorem fpStation (c : Sub) : Statement (.fpStation c) := fun h _ e => Option.some.inj e ▸ of_entry c h
theorem fpArm (c : Sub) : Statement (.fpArm c) := fun h _ e => Option.some.inj e ▸ of_entry c h
theorem fpStatus (c : Sub) : Statement (.fpStatus c) := fun h _ e => Option.some.inj e ▸ of_entry c h
theorem mgtConfig (c : Sub) : Statement (.mgtConfig c) := fun h _ e => Option.some.inj e ▸ of_entry c h
theorem ptpConfig (c : Sub) : Statement (.ptpConfig c) := fun h _ e => Option.some.inj e ▸ of_entry c h
theorem ptpStatus (c : Sub) : Statement (.ptpStatus c) := fun h _ e => Option.some.inj e ▸ of_entry c h
theorem timeRead (c : Sub) : Statement (.timeRead c) := fun h _ e => Option.some.inj e ▸ of_entry c h
theorem timeStep (c : Sub) : Statement (.timeStep c) := fun h _ e => Option.some.inj e ▸ of_entry c h
theorem timeRate (c : Sub) : Statement (.timeRate c) := fun h _ e => Option.some.inj e ▸ of_entry c h
theorem timeCmp (c : Sub) : Statement (.timeCmp c) := fun h _ e => Option.some.inj e ▸ of_entry c h
theorem timeStatus (c : Sub) : Statement (.timeStatus c) := fun h _ e => Option.some.inj e ▸ of_entry c h
theorem canConfig (c : Sub) : Statement (.canConfig c) := fun h _ e => Option.some.inj e ▸ of_entry c h
theorem canFilter (c : Sub) : Statement (.canFilter c) := fun h _ e => Option.some.inj e ▸ of_entry c h
theorem canSignal (c : Sub) : Statement (.canSignal c) := fun h _ e => Option.some.inj e ▸ of_entry c h
theorem canSched (c : Sub) : Statement (.canSched c) := fun h _ e => Option.some.inj e ▸ of_entry c h
theorem canSend (c : Sub) : Statement (.canSend c) := fun h _ e => Option.some.inj e ▸ of_entry c h
theorem canCtrl (c : Sub) : Statement (.canCtrl c) := fun h _ e => Option.some.inj e ▸ of_entry c h
theorem canRxRead (c : Sub) : Statement (.canRxRead c) := fun h _ e => Option.some.inj e ▸ of_entry c h
theorem canStatus (c : Sub) : Statement (.canStatus c) := fun h _ e => Option.some.inj e ▸ of_entry c h
theorem evtRoute (c : Sub) : Statement (.evtRoute c) := fun h _ e => Option.some.inj e ▸ of_entry c h
theorem evtStatus (c : Sub) : Statement (.evtStatus c) := fun h _ e => Option.some.inj e ▸ of_entry c h
theorem evrRead (c : Sub) : Statement (.evrRead c) := fun h _ e => Option.some.inj e ▸ of_entry c h
theorem evrClear (c : Sub) : Statement (.evrClear c) := fun h _ e => Option.some.inj e ▸ of_entry c h
theorem obsCtrl (c : Sub) : Statement (.obsCtrl c) := fun h _ e => Option.some.inj e ▸ of_entry c h
theorem obsRead (c : Sub) : Statement (.obsRead c) := fun h _ e => Option.some.inj e ▸ of_entry c h
theorem lockChallenge (c : Sub) : Statement (.lockChallenge c) := fun h _ e => Option.some.inj e ▸ of_entry c h
theorem lock (c : Sub) : Statement (.lock c) := fun h _ e => Option.some.inj e ▸ of_entry c h
theorem qpEnable (qp : Nat) (v : Word) : Statement (.qpEnable qp v) := fun _ _ e => nomatch e
theorem qpDisable (qp : Nat) (v : Word) : Statement (.qpDisable qp v) := fun _ _ e => nomatch e
theorem qpSqTail (qp : Nat) (v : Word) : Statement (.qpSqTail qp v) := fun _ _ e => nomatch e
theorem qpCqHead (qp : Nat) (v : Word) : Statement (.qpCqHead qp v) := fun _ _ e => nomatch e
theorem qpRetryClear (qp : Nat) : Statement (.qpRetryClear qp) := fun _ _ e => nomatch e
theorem readClearCounter (off : Nat) : Statement (.readClearCounter off) := fun _ _ e => nomatch e
theorem evtCfgWrite (src : Nat) (v : Word) : Statement (.evtCfgWrite src v) := fun _ _ e => nomatch e
theorem evtAck (src : Nat) (v : Word) : Statement (.evtAck src v) := fun _ _ e => nomatch e
theorem dmaChResume (ch : Nat) (pte : (List DWord)) : Statement (.dmaChResume ch pte) := fun _ _ e => nomatch e
theorem dmaChStop (ch : Nat) : Statement (.dmaChStop ch) := fun _ _ e => nomatch e
theorem xlatInvAll : Statement (.xlatInvAll) := fun _ _ e => nomatch e
theorem xlatInvPage (page : Nat) : Statement (.xlatInvPage page) := fun _ _ e => nomatch e
theorem xlatInvDone : Statement (.xlatInvDone) := fun _ _ e => nomatch e
theorem registerWrite (off : Nat) (wide : Bool) (v : DWord) : Statement (.registerWrite off wide v) := fun _ _ e => nomatch e
theorem functionLevelReset : Statement (.functionLevelReset) := fun _ _ e => nomatch e
theorem linkDown : Statement (.linkDown) := fun _ _ e => nomatch e
theorem linkUp (rate : Nat) (width : Nat) : Statement (.linkUp rate width) := fun _ _ e => nomatch e
theorem d3hotEntry : Statement (.d3hotEntry) := fun _ _ e => nomatch e
theorem d0Entry : Statement (.d0Entry) := fun _ _ e => nomatch e
theorem entryFetch (qp : Nat) (words : (List Word)) (image : (List Word)) : Statement (.entryFetch qp words image) := fun _ _ e => nomatch e
theorem coalesceTimeout (qp : Nat) : Statement (.coalesceTimeout qp) := fun _ _ e => nomatch e
theorem timedPlacement (qp : Nat) (tag : (BitVec 16)) : Statement (.timedPlacement qp tag) := fun _ _ e => nomatch e
theorem backlogEased : Statement (.backlogEased) := fun _ _ e => nomatch e
theorem forwardedCommit (qp : Nat) (fwd : Forwarded) : Statement (.forwardedCommit qp fwd) := fun _ _ e => nomatch e
theorem inputCut (gp : (List Word)) (enc : (List Word)) (encBad : (BitVec 16)) : Statement (.inputCut gp enc encBad) := fun _ _ e => nomatch e
theorem tokenDelivery (loop : Nat) (port : Nat) (v : Word) (q : Bool) (sn : (BitVec 16)) (slot : Nat) (src : Nat) (bad : Nat) : Statement (.tokenDelivery loop port v q sn slot src bad) := fun _ _ e => nomatch e
theorem taskFire (booth : Nat) : Statement (.taskFire booth) := fun _ _ e => nomatch e
theorem loopExecution (loop : Nat) : Statement (.loopExecution loop) := fun _ _ e => nomatch e
theorem coastLimitReached (loop : Nat) : Statement (.coastLimitReached loop) := fun _ _ e => nomatch e
theorem staleLimitReached (loop : Nat) : Statement (.staleLimitReached loop) := fun _ _ e => nomatch e
theorem sampleDeadline : Statement (.sampleDeadline) := fun _ _ e => nomatch e
theorem stepDurationDue (sess : Nat) : Statement (.stepDurationDue sess) := fun _ _ e => nomatch e
theorem triggerArmed (eng : Nat) : Statement (.triggerArmed eng) := fun _ _ e => nomatch e
theorem triggerWindowComplete (eng : Nat) : Statement (.triggerWindowComplete eng) := fun _ _ e => nomatch e
theorem outputCommit (bad : (List Nat)) : Statement (.outputCommit bad) := fun _ _ e => nomatch e
theorem signatureExchange : Statement (.signatureExchange) := fun _ _ e => nomatch e
theorem checkRollVerdict (okA : Bool) (okB : Bool) : Statement (.checkRollVerdict okA okB) := fun _ _ e => nomatch e
theorem heartbeatDeadline (hbA : (Option Heartbeat)) (hbB : (Option Heartbeat)) : Statement (.heartbeatDeadline hbA hbB) := fun _ _ e => nomatch e
theorem planeResignation (plane : Nat) (cls : Nat) (unit : Nat) : Statement (.planeResignation plane cls unit) := fun _ _ e => nomatch e
theorem switchoverElection : Statement (.switchoverElection) := fun _ _ e => nomatch e
theorem healthReport (plane : Nat) (arrived : Bool) : Statement (.healthReport plane arrived) := fun _ _ e => nomatch e
theorem selfTestSlice (plane : Nat) (pass : Bool) : Statement (.selfTestSlice plane pass) := fun _ _ e => nomatch e
theorem diagnosisPassed (plane : Nat) : Statement (.diagnosisPassed plane) := fun _ _ e => nomatch e
theorem suspectTimeout (plane : Nat) : Statement (.suspectTimeout plane) := fun _ _ e => nomatch e
theorem resyncCopyRound (plane : Nat) : Statement (.resyncCopyRound plane) := fun _ _ e => nomatch e
theorem resyncFinalCut (plane : Nat) : Statement (.resyncFinalCut plane) := fun _ _ e => nomatch e
theorem resyncComplete (plane : Nat) : Statement (.resyncComplete plane) := fun _ _ e => nomatch e
theorem resyncTimeout (plane : Nat) : Statement (.resyncTimeout plane) := fun _ _ e => nomatch e
theorem journalWrite (ok : Bool) : Statement (.journalWrite ok) := fun _ _ e => nomatch e
theorem eventPosting : Statement (.eventPosting) := fun _ _ e => nomatch e
theorem eventRecordWrite (ok : Bool) : Statement (.eventRecordWrite ok) := fun _ _ e => nomatch e
theorem axisTick (ax : Nat) : Statement (.axisTick ax) := fun _ _ e => nomatch e
theorem stallDeclared (ax : Nat) : Statement (.stallDeclared ax) := fun _ _ e => nomatch e
theorem safetyEvaluation : Statement (.safetyEvaluation) := fun _ _ e => nomatch e
theorem discrepancyDemand (ax : Nat) : Statement (.discrepancyDemand ax) := fun _ _ e => nomatch e
theorem ss1TorqueOff (ax : Nat) : Statement (.ss1TorqueOff ax) := fun _ _ e => nomatch e
theorem stoTestPulse (pair : Nat) (ok : Bool) : Statement (.stoTestPulse pair ok) := fun _ _ e => nomatch e
theorem safetyPduReceive (conn : Nat) (pdu : (List Byte)) : Statement (.safetyPduReceive conn pdu) := fun _ _ e => nomatch e
theorem safetyWatchdogExpiry (conn : Nat) : Statement (.safetyWatchdogExpiry conn) := fun _ _ e => nomatch e
theorem safetyPduSend (conn : Nat) : Statement (.safetyPduSend conn) := fun _ _ e => nomatch e
theorem scanCycleStart : Statement (.scanCycleStart) := fun _ _ e => nomatch e
theorem scanDeadline : Statement (.scanDeadline) := fun _ _ e => nomatch e
theorem scanShadowRead : Statement (.scanShadowRead) := fun _ _ e => nomatch e
theorem instrNop : Statement (.instrNop) := fun _ _ e => nomatch e
theorem rung (n : Nat) : Statement (.rung n) := fun _ _ e => nomatch e
theorem andBit (a : Nat) : Statement (.andBit a) := fun _ _ e => nomatch e
theorem andnBit (a : Nat) : Statement (.andnBit a) := fun _ _ e => nomatch e
theorem orBit (a : Nat) : Statement (.orBit a) := fun _ _ e => nomatch e
theorem ornBit (a : Nat) : Statement (.ornBit a) := fun _ _ e => nomatch e
theorem push : Statement (.push) := fun _ _ e => nomatch e
theorem popand : Statement (.popand) := fun _ _ e => nomatch e
theorem popor : Statement (.popor) := fun _ _ e => nomatch e
theorem notRlo : Statement (.notRlo) := fun _ _ e => nomatch e
theorem outBit (a : Nat) : Statement (.outBit a) := fun _ _ e => nomatch e
theorem setBit (a : Nat) : Statement (.setBit a) := fun _ _ e => nomatch e
theorem rstBit (a : Nat) : Statement (.rstBit a) := fun _ _ e => nomatch e
theorem rEdge (x : Nat) : Statement (.rEdge x) := fun _ _ e => nomatch e
theorem fEdge (x : Nat) : Statement (.fEdge x) := fun _ _ e => nomatch e
theorem ton (x : Nat) : Statement (.ton x) := fun _ _ e => nomatch e
theorem tof (x : Nat) : Statement (.tof x) := fun _ _ e => nomatch e
theorem tp (x : Nat) : Statement (.tp x) := fun _ _ e => nomatch e
theorem tres (x : Nat) : Statement (.tres x) := fun _ _ e => nomatch e
theorem ctu (x : Nat) : Statement (.ctu x) := fun _ _ e => nomatch e
theorem ctd (x : Nat) : Statement (.ctd x) := fun _ _ e => nomatch e
theorem cres (x : Nat) : Statement (.cres x) := fun _ _ e => nomatch e
theorem cgt (a : Nat) (b : Nat) : Statement (.cgt a b) := fun _ _ e => nomatch e
theorem cge (a : Nat) (b : Nat) : Statement (.cge a b) := fun _ _ e => nomatch e
theorem clt (a : Nat) (b : Nat) : Statement (.clt a b) := fun _ _ e => nomatch e
theorem cle (a : Nat) (b : Nat) : Statement (.cle a b) := fun _ _ e => nomatch e
theorem ceq (a : Nat) (b : Nat) : Statement (.ceq a b) := fun _ _ e => nomatch e
theorem cne (a : Nat) (b : Nat) : Statement (.cne a b) := fun _ _ e => nomatch e
theorem lim (lo : Nat) (x : Nat) (hi : Nat) : Statement (.lim lo x hi) := fun _ _ e => nomatch e
theorem mov (a : Nat) (b : Nat) : Statement (.mov a b) := fun _ _ e => nomatch e
theorem movi (a : Nat) (imm : Word) : Statement (.movi a imm) := fun _ _ e => nomatch e
theorem holds (x : Nat) : Statement (.holds x) := fun _ _ e => nomatch e
theorem park (x : Nat) : Statement (.park x) := fun _ _ e => nomatch e
theorem force (x : Nat) : Statement (.force x) := fun _ _ e => nomatch e
theorem evt (e : Nat) (code : Nat) : Statement (.evt e code) := fun _ _ e => nomatch e
theorem endProg : Statement (.endProg) := fun _ _ e => nomatch e
theorem boothPowerDown (group : Nat) : Statement (.boothPowerDown group) := fun _ _ e => nomatch e
theorem boothWakeDone (group : Nat) : Statement (.boothWakeDone group) := fun _ _ e => nomatch e
theorem intervalClose (booth : Nat) : Statement (.intervalClose booth) := fun _ _ e => nomatch e
theorem timeRecord : Statement (.timeRecord) := fun _ _ e => nomatch e
theorem streamBurst (head : Word) : Statement (.streamBurst head) := fun _ _ e => nomatch e
theorem dramGrant (req : Nat) (ecc : Nat) : Statement (.dramGrant req ecc) := fun _ _ e => nomatch e
theorem dramRefresh : Statement (.dramRefresh) := fun _ _ e => nomatch e
theorem memoryWatchdogBite : Statement (.memoryWatchdogBite) := fun _ _ e => nomatch e
theorem scrubBlock (ecc : Nat) : Statement (.scrubBlock ecc) := fun _ _ e => nomatch e
theorem dmaBurst (err : Nat) : Statement (.dmaBurst err) := fun _ _ e => nomatch e
theorem translationWalk (ch : Nat) (qp : Nat) (pte : (List DWord)) : Statement (.translationWalk ch qp pte) := fun _ _ e => nomatch e
theorem dmaSuspendTimeout (ch : Nat) : Statement (.dmaSuspendTimeout ch) := fun _ _ e => nomatch e
theorem aiConversion (ch : Nat) (codes : (List Int)) (parityBad : Bool) : Statement (.aiConversion ch codes parityBad) := fun _ _ e => nomatch e
theorem ne43Recovery (ch : Nat) : Statement (.ne43Recovery ch) := fun _ _ e => nomatch e
theorem injectedTrigger (group : Nat) (at5ns : Nat) (codes : (List (List Int))) : Statement (.injectedTrigger group at5ns codes) := fun _ _ e => nomatch e
theorem calRotationStart (group : Nat) : Statement (.calRotationStart group) := fun _ _ e => nomatch e
theorem calHandover (group : Nat) (diff : Nat) : Statement (.calHandover group diff) := fun _ _ e => nomatch e
theorem calCoeffLoaded (group : Nat) (coef : (List (Int × Int))) (ok : Bool) : Statement (.calCoeffLoaded group coef ok) := fun _ _ e => nomatch e
theorem afeTestDone (ch : Nat) (res : Word) : Statement (.afeTestDone ch res) := fun _ _ e => nomatch e
theorem clMeasure (ch : Nat) (im : Word) (lim : Bool) : Statement (.clMeasure ch im lim) := fun _ _ e => nomatch e
theorem complianceLost (ch : Nat) : Statement (.complianceLost ch) := fun _ _ e => nomatch e
theorem complianceRestored (ch : Nat) : Statement (.complianceRestored ch) := fun _ _ e => nomatch e
theorem clOpen (ch : Nat) : Statement (.clOpen ch) := fun _ _ e => nomatch e
theorem retransmitAlarm (ch : Nat) : Statement (.retransmitAlarm ch) := fun _ _ e => nomatch e
theorem loopvMeasure (v : Nat) : Statement (.loopvMeasure v) := fun _ _ e => nomatch e
theorem aoOverload (ch : Nat) (acting : Bool) : Statement (.aoOverload ch acting) := fun _ _ e => nomatch e
theorem pwmPeriodStart (ch : Nat) : Statement (.pwmPeriodStart ch) := fun _ _ e => nomatch e
theorem frameReceive (port : Nat) (f : KFrame) : Statement (.frameReceive port f) := fun _ _ e => nomatch e
theorem frameDelivery (port : Nat) : Statement (.frameDelivery port) := fun _ _ e => nomatch e
theorem outputFrameSend (port : Nat) : Statement (.outputFrameSend port) := fun _ _ e => nomatch e
theorem stationLost (station : Nat) : Statement (.stationLost station) := fun _ _ e => nomatch e
theorem fieldLinkDown (port : Nat) : Statement (.fieldLinkDown port) := fun _ _ e => nomatch e
theorem fieldLinkUp (port : Nat) : Statement (.fieldLinkUp port) := fun _ _ e => nomatch e
theorem ptpMessageReceive (port : Nat) (m : PtpMsg) : Statement (.ptpMessageReceive port m) := fun _ _ e => nomatch e
theorem ptpMessageSend (kind : Nat) : Statement (.ptpMessageSend kind) := fun _ _ e => nomatch e
theorem mgtLinkChange (port : Nat) (up : Bool) : Statement (.mgtLinkChange port up) := fun _ _ e => nomatch e
theorem timeCompareFire (unit : Nat) : Statement (.timeCompareFire unit) := fun _ _ e => nomatch e
theorem canFrameReceive (ch : Nat) (f : CanFrame) (tstamp : DWord) : Statement (.canFrameReceive ch f tstamp) := fun _ _ e => nomatch e
theorem canSchedRelease (ch : Nat) (slot : Nat) : Statement (.canSchedRelease ch slot) := fun _ _ e => nomatch e
theorem canTxComplete (ch : Nat) : Statement (.canTxComplete ch) := fun _ _ e => nomatch e
theorem canTxError (ch : Nat) : Statement (.canTxError ch) := fun _ _ e => nomatch e
theorem canArbitrationLost (ch : Nat) : Statement (.canArbitrationLost ch) := fun _ _ e => nomatch e
theorem referenceMessage (ch : Nat) (sent : Bool) : Statement (.referenceMessage ch sent) := fun _ _ e => nomatch e
theorem busOffRecovery (ch : Nat) : Statement (.busOffRecovery ch) := fun _ _ e => nomatch e
theorem porstAssert : Statement (.porstAssert) := fun _ _ e => nomatch e
theorem porstRelease (x : Straps) : Statement (.porstRelease x) := fun _ _ e => nomatch e
theorem warmRstFall : Statement (.warmRstFall) := fun _ _ e => nomatch e
theorem warmResetApply : Statement (.warmResetApply) := fun _ _ e => nomatch e
theorem warmRstRelease (x : Straps) : Statement (.warmRstRelease x) := fun _ _ e => nomatch e
theorem pwrfailAssert : Statement (.pwrfailAssert) := fun _ _ e => nomatch e
theorem checkpointShadowLatch : Statement (.checkpointShadowLatch) := fun _ _ e => nomatch e
theorem checkpointValidMark (ok : Bool) : Statement (.checkpointValidMark ok) := fun _ _ e => nomatch e
theorem pwrfailRelease : Statement (.pwrfailRelease) := fun _ _ e => nomatch e
theorem supplyTrip (dom : Nat) : Statement (.supplyTrip dom) := fun _ _ e => nomatch e
theorem supplyRestored (dom : Nat) : Statement (.supplyRestored dom) := fun _ _ e => nomatch e
theorem sealOpenAssert : Statement (.sealOpenAssert) := fun _ _ e => nomatch e
theorem sealOpenDeassert : Statement (.sealOpenDeassert) := fun _ _ e => nomatch e
theorem wakeTimerExpiry : Statement (.wakeTimerExpiry) := fun _ _ e => nomatch e
theorem idleWakeCommit : Statement (.idleWakeCommit) := fun _ _ e => nomatch e
theorem crystalStable (xtal : Nat) : Statement (.crystalStable xtal) := fun _ _ e => nomatch e
theorem pllLock (plane : Nat) : Statement (.pllLock plane) := fun _ _ e => nomatch e
theorem firmwareChecked (plane : Nat) (found0 : Bool) (found1 : Bool) : Statement (.firmwareChecked plane found0 found1) := fun _ _ e => nomatch e
theorem selfTestDone (plane : Nat) (pass : Bool) : Statement (.selfTestDone plane pass) := fun _ _ e => nomatch e
theorem planeReady (plane : Nat) : Statement (.planeReady plane) := fun _ _ e => nomatch e
theorem startupElection : Statement (.startupElection) := fun _ _ e => nomatch e
theorem startupTimeout (plane : Nat) : Statement (.startupTimeout plane) := fun _ _ e => nomatch e
theorem crystalStartTimeout (plane : Nat) : Statement (.crystalStartTimeout plane) := fun _ _ e => nomatch e
theorem clockMonitorTrip (plane : Nat) (pll : Bool) (cause : Nat) : Statement (.clockMonitorTrip plane pll cause) := fun _ _ e => nomatch e
theorem sharedClockTrip (src : Nat) (cause : Nat) : Statement (.sharedClockTrip src cause) := fun _ _ e => nomatch e
theorem clockSourceRecovered (src : Nat) : Statement (.clockSourceRecovered src) := fun _ _ e => nomatch e
theorem tickAlignment (delta : Int) (trim : Word) : Statement (.tickAlignment delta trim) := fun _ _ e => nomatch e
theorem planeAligned (plane : Nat) : Statement (.planeAligned plane) := fun _ _ e => nomatch e
theorem tickPeriodCheck (okA : Bool) (okB : Bool) : Statement (.tickPeriodCheck okA okB) := fun _ _ e => nomatch e
theorem trimLimit (plane : Nat) : Statement (.trimLimit plane) := fun _ _ e => nomatch e
theorem droopFallback (plane : Nat) : Statement (.droopFallback plane) := fun _ _ e => nomatch e
theorem droopRelease : Statement (.droopRelease) := fun _ _ e => nomatch e
theorem levelSettleExpiry (plane : Nat) : Statement (.levelSettleExpiry plane) := fun _ _ e => nomatch e
theorem measurementDone (ctr : Nat) (count : Word) (timeout : Bool) : Statement (.measurementDone ctr count timeout) := fun _ _ e => nomatch e
theorem fieldLockExpiry : Statement (.fieldLockExpiry) := fun _ _ e => nomatch e
theorem nonceExpiry : Statement (.nonceExpiry) := fun _ _ e => nomatch e
theorem opsecWrite (ok : Bool) : Statement (.opsecWrite ok) := fun _ _ e => nomatch e
theorem tapBypass (bits : Nat) (n : Nat) : Statement (.tapBypass bits n) := fun _ _ e => nomatch e
theorem tapIdcode : Statement (.tapIdcode) := fun _ _ e => nomatch e
theorem tapSample : Statement (.tapSample) := fun _ _ e => nomatch e
theorem tapObsSel (sel : (BitVec 10)) : Statement (.tapObsSel sel) := fun _ _ e => nomatch e
theorem tapObsData : Statement (.tapObsData) := fun _ _ e => nomatch e
theorem tapReset : Statement (.tapReset) := fun _ _ e => nomatch e
theorem winSpHi (loop : Nat) (d : (BitVec 16)) : Statement (.winSpHi loop d) := fun _ _ e => nomatch e
theorem winSpLo (loop : Nat) (d : (BitVec 16)) : Statement (.winSpLo loop d) := fun _ _ e => nomatch e
theorem winMoHi (loop : Nat) (d : (BitVec 16)) : Statement (.winMoHi loop d) := fun _ _ e => nomatch e
theorem winMoLo (loop : Nat) (d : (BitVec 16)) : Statement (.winMoLo loop d) := fun _ _ e => nomatch e
theorem winMode (loop : Nat) (d : (BitVec 16)) : Statement (.winMode loop d) := fun _ _ e => nomatch e
theorem winClaim (d : (BitVec 16)) : Statement (.winClaim d) := fun _ _ e => nomatch e
theorem winStart : Statement (.winStart) := fun _ _ e => nomatch e
theorem winHold : Statement (.winHold) := fun _ _ e => nomatch e
theorem winResume : Statement (.winResume) := fun _ _ e => nomatch e
theorem winAdvance : Statement (.winAdvance) := fun _ _ e => nomatch e
theorem winAbort : Statement (.winAbort) := fun _ _ e => nomatch e
theorem windowStatusRead (addr : Nat) : Statement (.windowStatusRead addr) := fun _ _ e => nomatch e
theorem windowRead (addr : Nat) : Statement (.windowRead addr) := fun _ _ e => nomatch e
theorem windowRequestTimeout : Statement (.windowRequestTimeout) := fun _ _ e => nomatch e
theorem rcStable (src : Nat) : Statement (.rcStable src) := fun _ _ e => nomatch e
theorem pllLockTimeout (plane : Nat) : Statement (.pllLockTimeout plane) := fun _ _ e => nomatch e
theorem canIntegrationDone (ch : Nat) : Statement (.canIntegrationDone ch) := fun _ _ e => nomatch e
theorem canReceiveError (ch : Nat) : Statement (.canReceiveError ch) := fun _ _ e => nomatch e
theorem completionTimeout (ch : Nat) (qp : Nat) : Statement (.completionTimeout ch qp) := fun _ _ e => nomatch e
theorem ledgerReadBack (ok : Bool) : Statement (.ledgerReadBack ok) := fun _ _ e => nomatch e
theorem operatingSecond : Statement (.operatingSecond) := fun _ _ e => nomatch e

end Sys2Proof.Laws.WellFormedness
end

