-- ==== Sys2Proof/Laws/State.lean ====
section
/-! SUPPORT. What each named update of the state leaves as it was, field by field, so that no proof unfolds one. -/

namespace Sys2Proof.Machine

/-! The device -/

@[simp] theorem setTime_dev (t : DevTime) (s : State) : (setTime t s).dev = s.dev := rfl
@[simp] theorem setTime_sn (t : DevTime) (s : State) : (setTime t s).sn = s.sn := rfl
@[simp] theorem setTime_planeA (t : DevTime) (s : State) : (setTime t s).planeA = s.planeA := rfl
@[simp] theorem setTime_planeB (t : DevTime) (s : State) : (setTime t s).planeB = s.planeB := rfl
@[simp] theorem setTime_hif (t : DevTime) (s : State) : (setTime t s).hif = s.hif := rfl
@[simp] theorem setTime_evts (t : DevTime) (s : State) : (setTime t s).evts = s.evts := rfl
@[simp] theorem setTime_trace (t : DevTime) (s : State) : (setTime t s).trace = s.trace := rfl
@[simp] theorem setTime_tap (t : DevTime) (s : State) : (setTime t s).tap = s.tap := rfl
@[simp] theorem setTime_lock (t : DevTime) (s : State) : (setTime t s).lock = s.lock := rfl
@[simp] theorem setTime_tally (t : DevTime) (s : State) : (setTime t s).tally = s.tally := rfl
@[simp] theorem setTime_ump (t : DevTime) (s : State) : (setTime t s).ump = s.ump := rfl
@[simp] theorem setTime_led (t : DevTime) (s : State) : (setTime t s).led = s.led := rfl
@[simp] theorem setTime_boot (t : DevTime) (s : State) : (setTime t s).boot = s.boot := rfl
@[simp] theorem setTime_sealed (t : DevTime) (s : State) : (setTime t s).sealed = s.sealed := rfl
@[simp] theorem setTime_recorder (t : DevTime) (s : State) : (setTime t s).recorder = s.recorder := rfl
@[simp] theorem setTime_recHeld (t : DevTime) (s : State) : (setTime t s).recHeld = s.recHeld := rfl
@[simp] theorem setTime_mem (t : DevTime) (s : State) : (setTime t s).mem = s.mem := rfl
@[simp] theorem setTime_analog (t : DevTime) (s : State) : (setTime t s).analog = s.analog := rfl
@[simp] theorem setTime_outs (t : DevTime) (s : State) : (setTime t s).outs = s.outs := rfl
@[simp] theorem setTime_can (t : DevTime) (s : State) : (setTime t s).can = s.can := rfl
@[simp] theorem setTime_clock (t : DevTime) (s : State) : (setTime t s).clock = s.clock := rfl
@[simp] theorem setTime_window (t : DevTime) (s : State) : (setTime t s).window = s.window := rfl
@[simp] theorem setTime_pins (t : DevTime) (s : State) : (setTime t s).pins = s.pins := rfl
@[simp] theorem setTime_freeCtr (t : DevTime) (s : State) : (setTime t s).freeCtr = s.freeCtr := rfl
@[simp] theorem setTime_pending (t : DevTime) (s : State) : (setTime t s).pending = s.pending := rfl

@[simp] theorem setPtp_dev (p : Ptp) (s : State) : (setPtp p s).dev = s.dev := rfl
@[simp] theorem setPtp_sn (p : Ptp) (s : State) : (setPtp p s).sn = s.sn := rfl
@[simp] theorem setPtp_planeA (p : Ptp) (s : State) : (setPtp p s).planeA = s.planeA := rfl
@[simp] theorem setPtp_planeB (p : Ptp) (s : State) : (setPtp p s).planeB = s.planeB := rfl
@[simp] theorem setPtp_hif (p : Ptp) (s : State) : (setPtp p s).hif = s.hif := rfl
@[simp] theorem setPtp_evts (p : Ptp) (s : State) : (setPtp p s).evts = s.evts := rfl
@[simp] theorem setPtp_trace (p : Ptp) (s : State) : (setPtp p s).trace = s.trace := rfl
@[simp] theorem setPtp_tap (p : Ptp) (s : State) : (setPtp p s).tap = s.tap := rfl
@[simp] theorem setPtp_lock (p : Ptp) (s : State) : (setPtp p s).lock = s.lock := rfl
@[simp] theorem setPtp_tally (p : Ptp) (s : State) : (setPtp p s).tally = s.tally := rfl
@[simp] theorem setPtp_ump (p : Ptp) (s : State) : (setPtp p s).ump = s.ump := rfl
@[simp] theorem setPtp_led (p : Ptp) (s : State) : (setPtp p s).led = s.led := rfl
@[simp] theorem setPtp_boot (p : Ptp) (s : State) : (setPtp p s).boot = s.boot := rfl
@[simp] theorem setPtp_sealed (p : Ptp) (s : State) : (setPtp p s).sealed = s.sealed := rfl
@[simp] theorem setPtp_recorder (p : Ptp) (s : State) : (setPtp p s).recorder = s.recorder := rfl
@[simp] theorem setPtp_recHeld (p : Ptp) (s : State) : (setPtp p s).recHeld = s.recHeld := rfl
@[simp] theorem setPtp_mem (p : Ptp) (s : State) : (setPtp p s).mem = s.mem := rfl
@[simp] theorem setPtp_analog (p : Ptp) (s : State) : (setPtp p s).analog = s.analog := rfl
@[simp] theorem setPtp_outs (p : Ptp) (s : State) : (setPtp p s).outs = s.outs := rfl
@[simp] theorem setPtp_can (p : Ptp) (s : State) : (setPtp p s).can = s.can := rfl
@[simp] theorem setPtp_clock (p : Ptp) (s : State) : (setPtp p s).clock = s.clock := rfl
@[simp] theorem setPtp_window (p : Ptp) (s : State) : (setPtp p s).window = s.window := rfl
@[simp] theorem setPtp_pins (p : Ptp) (s : State) : (setPtp p s).pins = s.pins := rfl
@[simp] theorem setPtp_freeCtr (p : Ptp) (s : State) : (setPtp p s).freeCtr = s.freeCtr := rfl
@[simp] theorem setPtp_pending (p : Ptp) (s : State) : (setPtp p s).pending = s.pending := rfl

@[simp] theorem setMgt_dev (k : Nat) (m : MgtPort) (s : State) : (setMgt k m s).dev = s.dev := rfl
@[simp] theorem setMgt_sn (k : Nat) (m : MgtPort) (s : State) : (setMgt k m s).sn = s.sn := rfl
@[simp] theorem setMgt_planeA (k : Nat) (m : MgtPort) (s : State) : (setMgt k m s).planeA = s.planeA := rfl
@[simp] theorem setMgt_planeB (k : Nat) (m : MgtPort) (s : State) : (setMgt k m s).planeB = s.planeB := rfl
@[simp] theorem setMgt_hif (k : Nat) (m : MgtPort) (s : State) : (setMgt k m s).hif = s.hif := rfl
@[simp] theorem setMgt_evts (k : Nat) (m : MgtPort) (s : State) : (setMgt k m s).evts = s.evts := rfl
@[simp] theorem setMgt_trace (k : Nat) (m : MgtPort) (s : State) : (setMgt k m s).trace = s.trace := rfl
@[simp] theorem setMgt_tap (k : Nat) (m : MgtPort) (s : State) : (setMgt k m s).tap = s.tap := rfl
@[simp] theorem setMgt_lock (k : Nat) (m : MgtPort) (s : State) : (setMgt k m s).lock = s.lock := rfl
@[simp] theorem setMgt_tally (k : Nat) (m : MgtPort) (s : State) : (setMgt k m s).tally = s.tally := rfl
@[simp] theorem setMgt_ump (k : Nat) (m : MgtPort) (s : State) : (setMgt k m s).ump = s.ump := rfl
@[simp] theorem setMgt_led (k : Nat) (m : MgtPort) (s : State) : (setMgt k m s).led = s.led := rfl
@[simp] theorem setMgt_boot (k : Nat) (m : MgtPort) (s : State) : (setMgt k m s).boot = s.boot := rfl
@[simp] theorem setMgt_sealed (k : Nat) (m : MgtPort) (s : State) : (setMgt k m s).sealed = s.sealed := rfl
@[simp] theorem setMgt_recorder (k : Nat) (m : MgtPort) (s : State) : (setMgt k m s).recorder = s.recorder := rfl
@[simp] theorem setMgt_recHeld (k : Nat) (m : MgtPort) (s : State) : (setMgt k m s).recHeld = s.recHeld := rfl
@[simp] theorem setMgt_mem (k : Nat) (m : MgtPort) (s : State) : (setMgt k m s).mem = s.mem := rfl
@[simp] theorem setMgt_analog (k : Nat) (m : MgtPort) (s : State) : (setMgt k m s).analog = s.analog := rfl
@[simp] theorem setMgt_outs (k : Nat) (m : MgtPort) (s : State) : (setMgt k m s).outs = s.outs := rfl
@[simp] theorem setMgt_can (k : Nat) (m : MgtPort) (s : State) : (setMgt k m s).can = s.can := rfl
@[simp] theorem setMgt_clock (k : Nat) (m : MgtPort) (s : State) : (setMgt k m s).clock = s.clock := rfl
@[simp] theorem setMgt_window (k : Nat) (m : MgtPort) (s : State) : (setMgt k m s).window = s.window := rfl
@[simp] theorem setMgt_pins (k : Nat) (m : MgtPort) (s : State) : (setMgt k m s).pins = s.pins := rfl
@[simp] theorem setMgt_freeCtr (k : Nat) (m : MgtPort) (s : State) : (setMgt k m s).freeCtr = s.freeCtr := rfl
@[simp] theorem setMgt_pending (k : Nat) (m : MgtPort) (s : State) : (setMgt k m s).pending = s.pending := rfl

@[simp] theorem setCmp_dev (u : Nat) (x : Cmp) (s : State) : (setCmp u x s).dev = s.dev := rfl
@[simp] theorem setCmp_sn (u : Nat) (x : Cmp) (s : State) : (setCmp u x s).sn = s.sn := rfl
@[simp] theorem setCmp_planeA (u : Nat) (x : Cmp) (s : State) : (setCmp u x s).planeA = s.planeA := rfl
@[simp] theorem setCmp_planeB (u : Nat) (x : Cmp) (s : State) : (setCmp u x s).planeB = s.planeB := rfl
@[simp] theorem setCmp_hif (u : Nat) (x : Cmp) (s : State) : (setCmp u x s).hif = s.hif := rfl
@[simp] theorem setCmp_evts (u : Nat) (x : Cmp) (s : State) : (setCmp u x s).evts = s.evts := rfl
@[simp] theorem setCmp_trace (u : Nat) (x : Cmp) (s : State) : (setCmp u x s).trace = s.trace := rfl
@[simp] theorem setCmp_tap (u : Nat) (x : Cmp) (s : State) : (setCmp u x s).tap = s.tap := rfl
@[simp] theorem setCmp_lock (u : Nat) (x : Cmp) (s : State) : (setCmp u x s).lock = s.lock := rfl
@[simp] theorem setCmp_tally (u : Nat) (x : Cmp) (s : State) : (setCmp u x s).tally = s.tally := rfl
@[simp] theorem setCmp_ump (u : Nat) (x : Cmp) (s : State) : (setCmp u x s).ump = s.ump := rfl
@[simp] theorem setCmp_led (u : Nat) (x : Cmp) (s : State) : (setCmp u x s).led = s.led := rfl
@[simp] theorem setCmp_boot (u : Nat) (x : Cmp) (s : State) : (setCmp u x s).boot = s.boot := rfl
@[simp] theorem setCmp_sealed (u : Nat) (x : Cmp) (s : State) : (setCmp u x s).sealed = s.sealed := rfl
@[simp] theorem setCmp_recorder (u : Nat) (x : Cmp) (s : State) : (setCmp u x s).recorder = s.recorder := rfl
@[simp] theorem setCmp_recHeld (u : Nat) (x : Cmp) (s : State) : (setCmp u x s).recHeld = s.recHeld := rfl
@[simp] theorem setCmp_mem (u : Nat) (x : Cmp) (s : State) : (setCmp u x s).mem = s.mem := rfl
@[simp] theorem setCmp_analog (u : Nat) (x : Cmp) (s : State) : (setCmp u x s).analog = s.analog := rfl
@[simp] theorem setCmp_outs (u : Nat) (x : Cmp) (s : State) : (setCmp u x s).outs = s.outs := rfl
@[simp] theorem setCmp_can (u : Nat) (x : Cmp) (s : State) : (setCmp u x s).can = s.can := rfl
@[simp] theorem setCmp_clock (u : Nat) (x : Cmp) (s : State) : (setCmp u x s).clock = s.clock := rfl
@[simp] theorem setCmp_window (u : Nat) (x : Cmp) (s : State) : (setCmp u x s).window = s.window := rfl
@[simp] theorem setCmp_pins (u : Nat) (x : Cmp) (s : State) : (setCmp u x s).pins = s.pins := rfl
@[simp] theorem setCmp_freeCtr (u : Nat) (x : Cmp) (s : State) : (setCmp u x s).freeCtr = s.freeCtr := rfl
@[simp] theorem setCmp_pending (u : Nat) (x : Cmp) (s : State) : (setCmp u x s).pending = s.pending := rfl

@[simp] theorem updateCmd_dev (x y : Cmd) (s : State) : (updateCmd x y s).dev = s.dev := rfl
@[simp] theorem updateCmd_sn (x y : Cmd) (s : State) : (updateCmd x y s).sn = s.sn := rfl
@[simp] theorem updateCmd_planeA (x y : Cmd) (s : State) : (updateCmd x y s).planeA = s.planeA := rfl
@[simp] theorem updateCmd_planeB (x y : Cmd) (s : State) : (updateCmd x y s).planeB = s.planeB := rfl
@[simp] theorem updateCmd_evts (x y : Cmd) (s : State) : (updateCmd x y s).evts = s.evts := rfl
@[simp] theorem updateCmd_trace (x y : Cmd) (s : State) : (updateCmd x y s).trace = s.trace := rfl
@[simp] theorem updateCmd_tap (x y : Cmd) (s : State) : (updateCmd x y s).tap = s.tap := rfl
@[simp] theorem updateCmd_lock (x y : Cmd) (s : State) : (updateCmd x y s).lock = s.lock := rfl
@[simp] theorem updateCmd_tally (x y : Cmd) (s : State) : (updateCmd x y s).tally = s.tally := rfl
@[simp] theorem updateCmd_ump (x y : Cmd) (s : State) : (updateCmd x y s).ump = s.ump := rfl
@[simp] theorem updateCmd_led (x y : Cmd) (s : State) : (updateCmd x y s).led = s.led := rfl
@[simp] theorem updateCmd_boot (x y : Cmd) (s : State) : (updateCmd x y s).boot = s.boot := rfl
@[simp] theorem updateCmd_sealed (x y : Cmd) (s : State) : (updateCmd x y s).sealed = s.sealed := rfl
@[simp] theorem updateCmd_recorder (x y : Cmd) (s : State) : (updateCmd x y s).recorder = s.recorder := rfl
@[simp] theorem updateCmd_recHeld (x y : Cmd) (s : State) : (updateCmd x y s).recHeld = s.recHeld := rfl
@[simp] theorem updateCmd_mem (x y : Cmd) (s : State) : (updateCmd x y s).mem = s.mem := rfl
@[simp] theorem updateCmd_analog (x y : Cmd) (s : State) : (updateCmd x y s).analog = s.analog := rfl
@[simp] theorem updateCmd_outs (x y : Cmd) (s : State) : (updateCmd x y s).outs = s.outs := rfl
@[simp] theorem updateCmd_field (x y : Cmd) (s : State) : (updateCmd x y s).field = s.field := rfl
@[simp] theorem updateCmd_can (x y : Cmd) (s : State) : (updateCmd x y s).can = s.can := rfl
@[simp] theorem updateCmd_clock (x y : Cmd) (s : State) : (updateCmd x y s).clock = s.clock := rfl
@[simp] theorem updateCmd_window (x y : Cmd) (s : State) : (updateCmd x y s).window = s.window := rfl
@[simp] theorem updateCmd_pins (x y : Cmd) (s : State) : (updateCmd x y s).pins = s.pins := rfl
@[simp] theorem updateCmd_freeCtr (x y : Cmd) (s : State) : (updateCmd x y s).freeCtr = s.freeCtr := rfl
@[simp] theorem updateCmd_pending (x y : Cmd) (s : State) : (updateCmd x y s).pending = s.pending := rfl

@[simp] theorem setMem_dev (m : Mem) (s : State) : (setMem m s).dev = s.dev := rfl
@[simp] theorem setMem_sn (m : Mem) (s : State) : (setMem m s).sn = s.sn := rfl
@[simp] theorem setMem_planeA (m : Mem) (s : State) : (setMem m s).planeA = s.planeA := rfl
@[simp] theorem setMem_planeB (m : Mem) (s : State) : (setMem m s).planeB = s.planeB := rfl
@[simp] theorem setMem_hif (m : Mem) (s : State) : (setMem m s).hif = s.hif := rfl
@[simp] theorem setMem_evts (m : Mem) (s : State) : (setMem m s).evts = s.evts := rfl
@[simp] theorem setMem_trace (m : Mem) (s : State) : (setMem m s).trace = s.trace := rfl
@[simp] theorem setMem_tap (m : Mem) (s : State) : (setMem m s).tap = s.tap := rfl
@[simp] theorem setMem_lock (m : Mem) (s : State) : (setMem m s).lock = s.lock := rfl
@[simp] theorem setMem_tally (m : Mem) (s : State) : (setMem m s).tally = s.tally := rfl
@[simp] theorem setMem_ump (m : Mem) (s : State) : (setMem m s).ump = s.ump := rfl
@[simp] theorem setMem_led (m : Mem) (s : State) : (setMem m s).led = s.led := rfl
@[simp] theorem setMem_boot (m : Mem) (s : State) : (setMem m s).boot = s.boot := rfl
@[simp] theorem setMem_sealed (m : Mem) (s : State) : (setMem m s).sealed = s.sealed := rfl
@[simp] theorem setMem_recorder (m : Mem) (s : State) : (setMem m s).recorder = s.recorder := rfl
@[simp] theorem setMem_recHeld (m : Mem) (s : State) : (setMem m s).recHeld = s.recHeld := rfl
@[simp] theorem setMem_analog (m : Mem) (s : State) : (setMem m s).analog = s.analog := rfl
@[simp] theorem setMem_outs (m : Mem) (s : State) : (setMem m s).outs = s.outs := rfl
@[simp] theorem setMem_field (m : Mem) (s : State) : (setMem m s).field = s.field := rfl
@[simp] theorem setMem_can (m : Mem) (s : State) : (setMem m s).can = s.can := rfl
@[simp] theorem setMem_clock (m : Mem) (s : State) : (setMem m s).clock = s.clock := rfl
@[simp] theorem setMem_window (m : Mem) (s : State) : (setMem m s).window = s.window := rfl
@[simp] theorem setMem_pins (m : Mem) (s : State) : (setMem m s).pins = s.pins := rfl
@[simp] theorem setMem_freeCtr (m : Mem) (s : State) : (setMem m s).freeCtr = s.freeCtr := rfl
@[simp] theorem setMem_pending (m : Mem) (s : State) : (setMem m s).pending = s.pending := rfl

@[simp] theorem setDmaCh_dev (k : Nat) (v : DmaCh) (s : State) : (setDmaCh k v s).dev = s.dev := rfl
@[simp] theorem setDmaCh_sn (k : Nat) (v : DmaCh) (s : State) : (setDmaCh k v s).sn = s.sn := rfl
@[simp] theorem setDmaCh_planeA (k : Nat) (v : DmaCh) (s : State) : (setDmaCh k v s).planeA = s.planeA := rfl
@[simp] theorem setDmaCh_planeB (k : Nat) (v : DmaCh) (s : State) : (setDmaCh k v s).planeB = s.planeB := rfl
@[simp] theorem setDmaCh_hif (k : Nat) (v : DmaCh) (s : State) : (setDmaCh k v s).hif = s.hif := rfl
@[simp] theorem setDmaCh_evts (k : Nat) (v : DmaCh) (s : State) : (setDmaCh k v s).evts = s.evts := rfl
@[simp] theorem setDmaCh_trace (k : Nat) (v : DmaCh) (s : State) : (setDmaCh k v s).trace = s.trace := rfl
@[simp] theorem setDmaCh_tap (k : Nat) (v : DmaCh) (s : State) : (setDmaCh k v s).tap = s.tap := rfl
@[simp] theorem setDmaCh_lock (k : Nat) (v : DmaCh) (s : State) : (setDmaCh k v s).lock = s.lock := rfl
@[simp] theorem setDmaCh_tally (k : Nat) (v : DmaCh) (s : State) : (setDmaCh k v s).tally = s.tally := rfl
@[simp] theorem setDmaCh_ump (k : Nat) (v : DmaCh) (s : State) : (setDmaCh k v s).ump = s.ump := rfl
@[simp] theorem setDmaCh_led (k : Nat) (v : DmaCh) (s : State) : (setDmaCh k v s).led = s.led := rfl
@[simp] theorem setDmaCh_boot (k : Nat) (v : DmaCh) (s : State) : (setDmaCh k v s).boot = s.boot := rfl
@[simp] theorem setDmaCh_sealed (k : Nat) (v : DmaCh) (s : State) : (setDmaCh k v s).sealed = s.sealed := rfl
@[simp] theorem setDmaCh_recorder (k : Nat) (v : DmaCh) (s : State) : (setDmaCh k v s).recorder = s.recorder := rfl
@[simp] theorem setDmaCh_recHeld (k : Nat) (v : DmaCh) (s : State) : (setDmaCh k v s).recHeld = s.recHeld := rfl
@[simp] theorem setDmaCh_analog (k : Nat) (v : DmaCh) (s : State) : (setDmaCh k v s).analog = s.analog := rfl
@[simp] theorem setDmaCh_outs (k : Nat) (v : DmaCh) (s : State) : (setDmaCh k v s).outs = s.outs := rfl
@[simp] theorem setDmaCh_field (k : Nat) (v : DmaCh) (s : State) : (setDmaCh k v s).field = s.field := rfl
@[simp] theorem setDmaCh_can (k : Nat) (v : DmaCh) (s : State) : (setDmaCh k v s).can = s.can := rfl
@[simp] theorem setDmaCh_clock (k : Nat) (v : DmaCh) (s : State) : (setDmaCh k v s).clock = s.clock := rfl
@[simp] theorem setDmaCh_window (k : Nat) (v : DmaCh) (s : State) : (setDmaCh k v s).window = s.window := rfl
@[simp] theorem setDmaCh_pins (k : Nat) (v : DmaCh) (s : State) : (setDmaCh k v s).pins = s.pins := rfl
@[simp] theorem setDmaCh_freeCtr (k : Nat) (v : DmaCh) (s : State) : (setDmaCh k v s).freeCtr = s.freeCtr := rfl
@[simp] theorem setDmaCh_pending (k : Nat) (v : DmaCh) (s : State) : (setDmaCh k v s).pending = s.pending := rfl

@[simp] theorem countMem_dev (k : Nat) (s : State) : (countMem k s).dev = s.dev := rfl
@[simp] theorem countMem_sn (k : Nat) (s : State) : (countMem k s).sn = s.sn := rfl
@[simp] theorem countMem_planeA (k : Nat) (s : State) : (countMem k s).planeA = s.planeA := rfl
@[simp] theorem countMem_planeB (k : Nat) (s : State) : (countMem k s).planeB = s.planeB := rfl
@[simp] theorem countMem_hif (k : Nat) (s : State) : (countMem k s).hif = s.hif := rfl
@[simp] theorem countMem_evts (k : Nat) (s : State) : (countMem k s).evts = s.evts := rfl
@[simp] theorem countMem_trace (k : Nat) (s : State) : (countMem k s).trace = s.trace := rfl
@[simp] theorem countMem_tap (k : Nat) (s : State) : (countMem k s).tap = s.tap := rfl
@[simp] theorem countMem_lock (k : Nat) (s : State) : (countMem k s).lock = s.lock := rfl
@[simp] theorem countMem_tally (k : Nat) (s : State) : (countMem k s).tally = s.tally := rfl
@[simp] theorem countMem_ump (k : Nat) (s : State) : (countMem k s).ump = s.ump := rfl
@[simp] theorem countMem_led (k : Nat) (s : State) : (countMem k s).led = s.led := rfl
@[simp] theorem countMem_boot (k : Nat) (s : State) : (countMem k s).boot = s.boot := rfl
@[simp] theorem countMem_sealed (k : Nat) (s : State) : (countMem k s).sealed = s.sealed := rfl
@[simp] theorem countMem_recorder (k : Nat) (s : State) : (countMem k s).recorder = s.recorder := rfl
@[simp] theorem countMem_recHeld (k : Nat) (s : State) : (countMem k s).recHeld = s.recHeld := rfl
@[simp] theorem countMem_analog (k : Nat) (s : State) : (countMem k s).analog = s.analog := rfl
@[simp] theorem countMem_outs (k : Nat) (s : State) : (countMem k s).outs = s.outs := rfl
@[simp] theorem countMem_field (k : Nat) (s : State) : (countMem k s).field = s.field := rfl
@[simp] theorem countMem_can (k : Nat) (s : State) : (countMem k s).can = s.can := rfl
@[simp] theorem countMem_clock (k : Nat) (s : State) : (countMem k s).clock = s.clock := rfl
@[simp] theorem countMem_window (k : Nat) (s : State) : (countMem k s).window = s.window := rfl
@[simp] theorem countMem_pins (k : Nat) (s : State) : (countMem k s).pins = s.pins := rfl
@[simp] theorem countMem_freeCtr (k : Nat) (s : State) : (countMem k s).freeCtr = s.freeCtr := rfl
@[simp] theorem countMem_pending (k : Nat) (s : State) : (countMem k s).pending = s.pending := rfl

@[simp] theorem setWin_dev (w : WindowBus) (s : State) : (setWin w s).dev = s.dev := rfl
@[simp] theorem setWin_sn (w : WindowBus) (s : State) : (setWin w s).sn = s.sn := rfl
@[simp] theorem setWin_planeA (w : WindowBus) (s : State) : (setWin w s).planeA = s.planeA := rfl
@[simp] theorem setWin_planeB (w : WindowBus) (s : State) : (setWin w s).planeB = s.planeB := rfl
@[simp] theorem setWin_hif (w : WindowBus) (s : State) : (setWin w s).hif = s.hif := rfl
@[simp] theorem setWin_evts (w : WindowBus) (s : State) : (setWin w s).evts = s.evts := rfl
@[simp] theorem setWin_trace (w : WindowBus) (s : State) : (setWin w s).trace = s.trace := rfl
@[simp] theorem setWin_tap (w : WindowBus) (s : State) : (setWin w s).tap = s.tap := rfl
@[simp] theorem setWin_lock (w : WindowBus) (s : State) : (setWin w s).lock = s.lock := rfl
@[simp] theorem setWin_tally (w : WindowBus) (s : State) : (setWin w s).tally = s.tally := rfl
@[simp] theorem setWin_ump (w : WindowBus) (s : State) : (setWin w s).ump = s.ump := rfl
@[simp] theorem setWin_led (w : WindowBus) (s : State) : (setWin w s).led = s.led := rfl
@[simp] theorem setWin_boot (w : WindowBus) (s : State) : (setWin w s).boot = s.boot := rfl
@[simp] theorem setWin_sealed (w : WindowBus) (s : State) : (setWin w s).sealed = s.sealed := rfl
@[simp] theorem setWin_recorder (w : WindowBus) (s : State) : (setWin w s).recorder = s.recorder := rfl
@[simp] theorem setWin_recHeld (w : WindowBus) (s : State) : (setWin w s).recHeld = s.recHeld := rfl
@[simp] theorem setWin_mem (w : WindowBus) (s : State) : (setWin w s).mem = s.mem := rfl
@[simp] theorem setWin_analog (w : WindowBus) (s : State) : (setWin w s).analog = s.analog := rfl
@[simp] theorem setWin_outs (w : WindowBus) (s : State) : (setWin w s).outs = s.outs := rfl
@[simp] theorem setWin_field (w : WindowBus) (s : State) : (setWin w s).field = s.field := rfl
@[simp] theorem setWin_can (w : WindowBus) (s : State) : (setWin w s).can = s.can := rfl
@[simp] theorem setWin_clock (w : WindowBus) (s : State) : (setWin w s).clock = s.clock := rfl
@[simp] theorem setWin_pins (w : WindowBus) (s : State) : (setWin w s).pins = s.pins := rfl
@[simp] theorem setWin_freeCtr (w : WindowBus) (s : State) : (setWin w s).freeCtr = s.freeCtr := rfl
@[simp] theorem setWin_pending (w : WindowBus) (s : State) : (setWin w s).pending = s.pending := rfl

@[simp] theorem setWstat_dev (b : Nat) (s : State) : (setWstat b s).dev = s.dev := rfl
@[simp] theorem setWstat_sn (b : Nat) (s : State) : (setWstat b s).sn = s.sn := rfl
@[simp] theorem setWstat_planeA (b : Nat) (s : State) : (setWstat b s).planeA = s.planeA := rfl
@[simp] theorem setWstat_planeB (b : Nat) (s : State) : (setWstat b s).planeB = s.planeB := rfl
@[simp] theorem setWstat_hif (b : Nat) (s : State) : (setWstat b s).hif = s.hif := rfl
@[simp] theorem setWstat_evts (b : Nat) (s : State) : (setWstat b s).evts = s.evts := rfl
@[simp] theorem setWstat_trace (b : Nat) (s : State) : (setWstat b s).trace = s.trace := rfl
@[simp] theorem setWstat_tap (b : Nat) (s : State) : (setWstat b s).tap = s.tap := rfl
@[simp] theorem setWstat_lock (b : Nat) (s : State) : (setWstat b s).lock = s.lock := rfl
@[simp] theorem setWstat_tally (b : Nat) (s : State) : (setWstat b s).tally = s.tally := rfl
@[simp] theorem setWstat_ump (b : Nat) (s : State) : (setWstat b s).ump = s.ump := rfl
@[simp] theorem setWstat_led (b : Nat) (s : State) : (setWstat b s).led = s.led := rfl
@[simp] theorem setWstat_boot (b : Nat) (s : State) : (setWstat b s).boot = s.boot := rfl
@[simp] theorem setWstat_sealed (b : Nat) (s : State) : (setWstat b s).sealed = s.sealed := rfl
@[simp] theorem setWstat_recorder (b : Nat) (s : State) : (setWstat b s).recorder = s.recorder := rfl
@[simp] theorem setWstat_recHeld (b : Nat) (s : State) : (setWstat b s).recHeld = s.recHeld := rfl
@[simp] theorem setWstat_mem (b : Nat) (s : State) : (setWstat b s).mem = s.mem := rfl
@[simp] theorem setWstat_analog (b : Nat) (s : State) : (setWstat b s).analog = s.analog := rfl
@[simp] theorem setWstat_outs (b : Nat) (s : State) : (setWstat b s).outs = s.outs := rfl
@[simp] theorem setWstat_field (b : Nat) (s : State) : (setWstat b s).field = s.field := rfl
@[simp] theorem setWstat_can (b : Nat) (s : State) : (setWstat b s).can = s.can := rfl
@[simp] theorem setWstat_clock (b : Nat) (s : State) : (setWstat b s).clock = s.clock := rfl
@[simp] theorem setWstat_pins (b : Nat) (s : State) : (setWstat b s).pins = s.pins := rfl
@[simp] theorem setWstat_freeCtr (b : Nat) (s : State) : (setWstat b s).freeCtr = s.freeCtr := rfl
@[simp] theorem setWstat_pending (b : Nat) (s : State) : (setWstat b s).pending = s.pending := rfl

@[simp] theorem setLstat_dev (l b : Nat) (s : State) : (setLstat l b s).dev = s.dev := rfl
@[simp] theorem setLstat_sn (l b : Nat) (s : State) : (setLstat l b s).sn = s.sn := rfl
@[simp] theorem setLstat_planeA (l b : Nat) (s : State) : (setLstat l b s).planeA = s.planeA := rfl
@[simp] theorem setLstat_planeB (l b : Nat) (s : State) : (setLstat l b s).planeB = s.planeB := rfl
@[simp] theorem setLstat_hif (l b : Nat) (s : State) : (setLstat l b s).hif = s.hif := rfl
@[simp] theorem setLstat_evts (l b : Nat) (s : State) : (setLstat l b s).evts = s.evts := rfl
@[simp] theorem setLstat_trace (l b : Nat) (s : State) : (setLstat l b s).trace = s.trace := rfl
@[simp] theorem setLstat_tap (l b : Nat) (s : State) : (setLstat l b s).tap = s.tap := rfl
@[simp] theorem setLstat_lock (l b : Nat) (s : State) : (setLstat l b s).lock = s.lock := rfl
@[simp] theorem setLstat_tally (l b : Nat) (s : State) : (setLstat l b s).tally = s.tally := rfl
@[simp] theorem setLstat_ump (l b : Nat) (s : State) : (setLstat l b s).ump = s.ump := rfl
@[simp] theorem setLstat_led (l b : Nat) (s : State) : (setLstat l b s).led = s.led := rfl
@[simp] theorem setLstat_boot (l b : Nat) (s : State) : (setLstat l b s).boot = s.boot := rfl
@[simp] theorem setLstat_sealed (l b : Nat) (s : State) : (setLstat l b s).sealed = s.sealed := rfl
@[simp] theorem setLstat_recorder (l b : Nat) (s : State) : (setLstat l b s).recorder = s.recorder := rfl
@[simp] theorem setLstat_recHeld (l b : Nat) (s : State) : (setLstat l b s).recHeld = s.recHeld := rfl
@[simp] theorem setLstat_mem (l b : Nat) (s : State) : (setLstat l b s).mem = s.mem := rfl
@[simp] theorem setLstat_analog (l b : Nat) (s : State) : (setLstat l b s).analog = s.analog := rfl
@[simp] theorem setLstat_outs (l b : Nat) (s : State) : (setLstat l b s).outs = s.outs := rfl
@[simp] theorem setLstat_field (l b : Nat) (s : State) : (setLstat l b s).field = s.field := rfl
@[simp] theorem setLstat_can (l b : Nat) (s : State) : (setLstat l b s).can = s.can := rfl
@[simp] theorem setLstat_clock (l b : Nat) (s : State) : (setLstat l b s).clock = s.clock := rfl
@[simp] theorem setLstat_pins (l b : Nat) (s : State) : (setLstat l b s).pins = s.pins := rfl
@[simp] theorem setLstat_freeCtr (l b : Nat) (s : State) : (setLstat l b s).freeCtr = s.freeCtr := rfl
@[simp] theorem setLstat_pending (l b : Nat) (s : State) : (setLstat l b s).pending = s.pending := rfl

@[simp] theorem setCan_dev (ch : Nat) (v : CanChan) (s : State) : (setCan ch v s).dev = s.dev := rfl
@[simp] theorem setCan_sn (ch : Nat) (v : CanChan) (s : State) : (setCan ch v s).sn = s.sn := rfl
@[simp] theorem setCan_planeA (ch : Nat) (v : CanChan) (s : State) : (setCan ch v s).planeA = s.planeA := rfl
@[simp] theorem setCan_planeB (ch : Nat) (v : CanChan) (s : State) : (setCan ch v s).planeB = s.planeB := rfl
@[simp] theorem setCan_hif (ch : Nat) (v : CanChan) (s : State) : (setCan ch v s).hif = s.hif := rfl
@[simp] theorem setCan_evts (ch : Nat) (v : CanChan) (s : State) : (setCan ch v s).evts = s.evts := rfl
@[simp] theorem setCan_trace (ch : Nat) (v : CanChan) (s : State) : (setCan ch v s).trace = s.trace := rfl
@[simp] theorem setCan_tap (ch : Nat) (v : CanChan) (s : State) : (setCan ch v s).tap = s.tap := rfl
@[simp] theorem setCan_lock (ch : Nat) (v : CanChan) (s : State) : (setCan ch v s).lock = s.lock := rfl
@[simp] theorem setCan_tally (ch : Nat) (v : CanChan) (s : State) : (setCan ch v s).tally = s.tally := rfl
@[simp] theorem setCan_ump (ch : Nat) (v : CanChan) (s : State) : (setCan ch v s).ump = s.ump := rfl
@[simp] theorem setCan_led (ch : Nat) (v : CanChan) (s : State) : (setCan ch v s).led = s.led := rfl
@[simp] theorem setCan_boot (ch : Nat) (v : CanChan) (s : State) : (setCan ch v s).boot = s.boot := rfl
@[simp] theorem setCan_sealed (ch : Nat) (v : CanChan) (s : State) : (setCan ch v s).sealed = s.sealed := rfl
@[simp] theorem setCan_recorder (ch : Nat) (v : CanChan) (s : State) : (setCan ch v s).recorder = s.recorder := rfl
@[simp] theorem setCan_recHeld (ch : Nat) (v : CanChan) (s : State) : (setCan ch v s).recHeld = s.recHeld := rfl
@[simp] theorem setCan_mem (ch : Nat) (v : CanChan) (s : State) : (setCan ch v s).mem = s.mem := rfl
@[simp] theorem setCan_analog (ch : Nat) (v : CanChan) (s : State) : (setCan ch v s).analog = s.analog := rfl
@[simp] theorem setCan_outs (ch : Nat) (v : CanChan) (s : State) : (setCan ch v s).outs = s.outs := rfl
@[simp] theorem setCan_field (ch : Nat) (v : CanChan) (s : State) : (setCan ch v s).field = s.field := rfl
@[simp] theorem setCan_clock (ch : Nat) (v : CanChan) (s : State) : (setCan ch v s).clock = s.clock := rfl
@[simp] theorem setCan_window (ch : Nat) (v : CanChan) (s : State) : (setCan ch v s).window = s.window := rfl
@[simp] theorem setCan_pins (ch : Nat) (v : CanChan) (s : State) : (setCan ch v s).pins = s.pins := rfl
@[simp] theorem setCan_freeCtr (ch : Nat) (v : CanChan) (s : State) : (setCan ch v s).freeCtr = s.freeCtr := rfl
@[simp] theorem setCan_pending (ch : Nat) (v : CanChan) (s : State) : (setCan ch v s).pending = s.pending := rfl

@[simp] theorem setSignal_dev (k : Nat) (v : CanSignal) (s : State) : (setSignal k v s).dev = s.dev := rfl
@[simp] theorem setSignal_sn (k : Nat) (v : CanSignal) (s : State) : (setSignal k v s).sn = s.sn := rfl
@[simp] theorem setSignal_planeA (k : Nat) (v : CanSignal) (s : State) : (setSignal k v s).planeA = s.planeA := rfl
@[simp] theorem setSignal_planeB (k : Nat) (v : CanSignal) (s : State) : (setSignal k v s).planeB = s.planeB := rfl
@[simp] theorem setSignal_hif (k : Nat) (v : CanSignal) (s : State) : (setSignal k v s).hif = s.hif := rfl
@[simp] theorem setSignal_evts (k : Nat) (v : CanSignal) (s : State) : (setSignal k v s).evts = s.evts := rfl
@[simp] theorem setSignal_trace (k : Nat) (v : CanSignal) (s : State) : (setSignal k v s).trace = s.trace := rfl
@[simp] theorem setSignal_tap (k : Nat) (v : CanSignal) (s : State) : (setSignal k v s).tap = s.tap := rfl
@[simp] theorem setSignal_lock (k : Nat) (v : CanSignal) (s : State) : (setSignal k v s).lock = s.lock := rfl
@[simp] theorem setSignal_tally (k : Nat) (v : CanSignal) (s : State) : (setSignal k v s).tally = s.tally := rfl
@[simp] theorem setSignal_ump (k : Nat) (v : CanSignal) (s : State) : (setSignal k v s).ump = s.ump := rfl
@[simp] theorem setSignal_led (k : Nat) (v : CanSignal) (s : State) : (setSignal k v s).led = s.led := rfl
@[simp] theorem setSignal_boot (k : Nat) (v : CanSignal) (s : State) : (setSignal k v s).boot = s.boot := rfl
@[simp] theorem setSignal_sealed (k : Nat) (v : CanSignal) (s : State) : (setSignal k v s).sealed = s.sealed := rfl
@[simp] theorem setSignal_recorder (k : Nat) (v : CanSignal) (s : State) : (setSignal k v s).recorder = s.recorder := rfl
@[simp] theorem setSignal_recHeld (k : Nat) (v : CanSignal) (s : State) : (setSignal k v s).recHeld = s.recHeld := rfl
@[simp] theorem setSignal_mem (k : Nat) (v : CanSignal) (s : State) : (setSignal k v s).mem = s.mem := rfl
@[simp] theorem setSignal_analog (k : Nat) (v : CanSignal) (s : State) : (setSignal k v s).analog = s.analog := rfl
@[simp] theorem setSignal_outs (k : Nat) (v : CanSignal) (s : State) : (setSignal k v s).outs = s.outs := rfl
@[simp] theorem setSignal_field (k : Nat) (v : CanSignal) (s : State) : (setSignal k v s).field = s.field := rfl
@[simp] theorem setSignal_clock (k : Nat) (v : CanSignal) (s : State) : (setSignal k v s).clock = s.clock := rfl
@[simp] theorem setSignal_window (k : Nat) (v : CanSignal) (s : State) : (setSignal k v s).window = s.window := rfl
@[simp] theorem setSignal_pins (k : Nat) (v : CanSignal) (s : State) : (setSignal k v s).pins = s.pins := rfl
@[simp] theorem setSignal_freeCtr (k : Nat) (v : CanSignal) (s : State) : (setSignal k v s).freeCtr = s.freeCtr := rfl
@[simp] theorem setSignal_pending (k : Nat) (v : CanSignal) (s : State) : (setSignal k v s).pending = s.pending := rfl

@[simp] theorem setShadow_dev (ch : Nat) (v : List TxEnt) (s : State) : (setShadow ch v s).dev = s.dev := rfl
@[simp] theorem setShadow_sn (ch : Nat) (v : List TxEnt) (s : State) : (setShadow ch v s).sn = s.sn := rfl
@[simp] theorem setShadow_planeA (ch : Nat) (v : List TxEnt) (s : State) : (setShadow ch v s).planeA = s.planeA := rfl
@[simp] theorem setShadow_planeB (ch : Nat) (v : List TxEnt) (s : State) : (setShadow ch v s).planeB = s.planeB := rfl
@[simp] theorem setShadow_hif (ch : Nat) (v : List TxEnt) (s : State) : (setShadow ch v s).hif = s.hif := rfl
@[simp] theorem setShadow_evts (ch : Nat) (v : List TxEnt) (s : State) : (setShadow ch v s).evts = s.evts := rfl
@[simp] theorem setShadow_trace (ch : Nat) (v : List TxEnt) (s : State) : (setShadow ch v s).trace = s.trace := rfl
@[simp] theorem setShadow_tap (ch : Nat) (v : List TxEnt) (s : State) : (setShadow ch v s).tap = s.tap := rfl
@[simp] theorem setShadow_lock (ch : Nat) (v : List TxEnt) (s : State) : (setShadow ch v s).lock = s.lock := rfl
@[simp] theorem setShadow_tally (ch : Nat) (v : List TxEnt) (s : State) : (setShadow ch v s).tally = s.tally := rfl
@[simp] theorem setShadow_ump (ch : Nat) (v : List TxEnt) (s : State) : (setShadow ch v s).ump = s.ump := rfl
@[simp] theorem setShadow_led (ch : Nat) (v : List TxEnt) (s : State) : (setShadow ch v s).led = s.led := rfl
@[simp] theorem setShadow_boot (ch : Nat) (v : List TxEnt) (s : State) : (setShadow ch v s).boot = s.boot := rfl
@[simp] theorem setShadow_sealed (ch : Nat) (v : List TxEnt) (s : State) : (setShadow ch v s).sealed = s.sealed := rfl
@[simp] theorem setShadow_recorder (ch : Nat) (v : List TxEnt) (s : State) : (setShadow ch v s).recorder = s.recorder := rfl
@[simp] theorem setShadow_recHeld (ch : Nat) (v : List TxEnt) (s : State) : (setShadow ch v s).recHeld = s.recHeld := rfl
@[simp] theorem setShadow_mem (ch : Nat) (v : List TxEnt) (s : State) : (setShadow ch v s).mem = s.mem := rfl
@[simp] theorem setShadow_analog (ch : Nat) (v : List TxEnt) (s : State) : (setShadow ch v s).analog = s.analog := rfl
@[simp] theorem setShadow_outs (ch : Nat) (v : List TxEnt) (s : State) : (setShadow ch v s).outs = s.outs := rfl
@[simp] theorem setShadow_field (ch : Nat) (v : List TxEnt) (s : State) : (setShadow ch v s).field = s.field := rfl
@[simp] theorem setShadow_clock (ch : Nat) (v : List TxEnt) (s : State) : (setShadow ch v s).clock = s.clock := rfl
@[simp] theorem setShadow_window (ch : Nat) (v : List TxEnt) (s : State) : (setShadow ch v s).window = s.window := rfl
@[simp] theorem setShadow_pins (ch : Nat) (v : List TxEnt) (s : State) : (setShadow ch v s).pins = s.pins := rfl
@[simp] theorem setShadow_freeCtr (ch : Nat) (v : List TxEnt) (s : State) : (setShadow ch v s).freeCtr = s.freeCtr := rfl
@[simp] theorem setShadow_pending (ch : Nat) (v : List TxEnt) (s : State) : (setShadow ch v s).pending = s.pending := rfl

@[simp] theorem setPstat_dev (p : Nat) (v : PStat) (s : State) : (setPstat p v s).dev = s.dev := by
  unfold setPstat
  split <;> rfl
@[simp] theorem setPstat_sn (p : Nat) (v : PStat) (s : State) : (setPstat p v s).sn = s.sn := by
  unfold setPstat
  split <;> rfl
@[simp] theorem setPstat_planeA (p : Nat) (v : PStat) (s : State) : (setPstat p v s).planeA = s.planeA := by
  unfold setPstat
  split <;> rfl
@[simp] theorem setPstat_planeB (p : Nat) (v : PStat) (s : State) : (setPstat p v s).planeB = s.planeB := by
  unfold setPstat
  split <;> rfl
@[simp] theorem setPstat_hif (p : Nat) (v : PStat) (s : State) : (setPstat p v s).hif = s.hif := by
  unfold setPstat
  split <;> rfl
@[simp] theorem setPstat_evts (p : Nat) (v : PStat) (s : State) : (setPstat p v s).evts = s.evts := by
  unfold setPstat
  split <;> rfl
@[simp] theorem setPstat_trace (p : Nat) (v : PStat) (s : State) : (setPstat p v s).trace = s.trace := by
  unfold setPstat
  split <;> rfl
@[simp] theorem setPstat_tap (p : Nat) (v : PStat) (s : State) : (setPstat p v s).tap = s.tap := by
  unfold setPstat
  split <;> rfl
@[simp] theorem setPstat_lock (p : Nat) (v : PStat) (s : State) : (setPstat p v s).lock = s.lock := by
  unfold setPstat
  split <;> rfl
@[simp] theorem setPstat_tally (p : Nat) (v : PStat) (s : State) : (setPstat p v s).tally = s.tally := by
  unfold setPstat
  split <;> rfl
@[simp] theorem setPstat_led (p : Nat) (v : PStat) (s : State) : (setPstat p v s).led = s.led := by
  unfold setPstat
  split <;> rfl
@[simp] theorem setPstat_boot (p : Nat) (v : PStat) (s : State) : (setPstat p v s).boot = s.boot := by
  unfold setPstat
  split <;> rfl
@[simp] theorem setPstat_sealed (p : Nat) (v : PStat) (s : State) : (setPstat p v s).sealed = s.sealed := by
  unfold setPstat
  split <;> rfl
@[simp] theorem setPstat_recorder (p : Nat) (v : PStat) (s : State) : (setPstat p v s).recorder = s.recorder := by
  unfold setPstat
  split <;> rfl
@[simp] theorem setPstat_recHeld (p : Nat) (v : PStat) (s : State) : (setPstat p v s).recHeld = s.recHeld := by
  unfold setPstat
  split <;> rfl
@[simp] theorem setPstat_mem (p : Nat) (v : PStat) (s : State) : (setPstat p v s).mem = s.mem := by
  unfold setPstat
  split <;> rfl
@[simp] theorem setPstat_analog (p : Nat) (v : PStat) (s : State) : (setPstat p v s).analog = s.analog := by
  unfold setPstat
  split <;> rfl
@[simp] theorem setPstat_outs (p : Nat) (v : PStat) (s : State) : (setPstat p v s).outs = s.outs := by
  unfold setPstat
  split <;> rfl
@[simp] theorem setPstat_field (p : Nat) (v : PStat) (s : State) : (setPstat p v s).field = s.field := by
  unfold setPstat
  split <;> rfl
@[simp] theorem setPstat_can (p : Nat) (v : PStat) (s : State) : (setPstat p v s).can = s.can := by
  unfold setPstat
  split <;> rfl
@[simp] theorem setPstat_clock (p : Nat) (v : PStat) (s : State) : (setPstat p v s).clock = s.clock := by
  unfold setPstat
  split <;> rfl
@[simp] theorem setPstat_window (p : Nat) (v : PStat) (s : State) : (setPstat p v s).window = s.window := by
  unfold setPstat
  split <;> rfl
@[simp] theorem setPstat_pins (p : Nat) (v : PStat) (s : State) : (setPstat p v s).pins = s.pins := by
  unfold setPstat
  split <;> rfl
@[simp] theorem setPstat_freeCtr (p : Nat) (v : PStat) (s : State) : (setPstat p v s).freeCtr = s.freeCtr := by
  unfold setPstat
  split <;> rfl
@[simp] theorem setPstat_pending (p : Nat) (v : PStat) (s : State) : (setPstat p v s).pending = s.pending := by
  unfold setPstat
  split <;> rfl

@[simp] theorem setPlane_dev (p : Nat) (v : Plane) (s : State) : (setPlane p v s).dev = s.dev := by
  unfold setPlane
  split <;> rfl
@[simp] theorem setPlane_sn (p : Nat) (v : Plane) (s : State) : (setPlane p v s).sn = s.sn := by
  unfold setPlane
  split <;> rfl
@[simp] theorem setPlane_hif (p : Nat) (v : Plane) (s : State) : (setPlane p v s).hif = s.hif := by
  unfold setPlane
  split <;> rfl
@[simp] theorem setPlane_evts (p : Nat) (v : Plane) (s : State) : (setPlane p v s).evts = s.evts := by
  unfold setPlane
  split <;> rfl
@[simp] theorem setPlane_trace (p : Nat) (v : Plane) (s : State) : (setPlane p v s).trace = s.trace := by
  unfold setPlane
  split <;> rfl
@[simp] theorem setPlane_tap (p : Nat) (v : Plane) (s : State) : (setPlane p v s).tap = s.tap := by
  unfold setPlane
  split <;> rfl
@[simp] theorem setPlane_lock (p : Nat) (v : Plane) (s : State) : (setPlane p v s).lock = s.lock := by
  unfold setPlane
  split <;> rfl
@[simp] theorem setPlane_tally (p : Nat) (v : Plane) (s : State) : (setPlane p v s).tally = s.tally := by
  unfold setPlane
  split <;> rfl
@[simp] theorem setPlane_ump (p : Nat) (v : Plane) (s : State) : (setPlane p v s).ump = s.ump := by
  unfold setPlane
  split <;> rfl
@[simp] theorem setPlane_led (p : Nat) (v : Plane) (s : State) : (setPlane p v s).led = s.led := by
  unfold setPlane
  split <;> rfl
@[simp] theorem setPlane_boot (p : Nat) (v : Plane) (s : State) : (setPlane p v s).boot = s.boot := by
  unfold setPlane
  split <;> rfl
@[simp] theorem setPlane_sealed (p : Nat) (v : Plane) (s : State) : (setPlane p v s).sealed = s.sealed := by
  unfold setPlane
  split <;> rfl
@[simp] theorem setPlane_recorder (p : Nat) (v : Plane) (s : State) : (setPlane p v s).recorder = s.recorder := by
  unfold setPlane
  split <;> rfl
@[simp] theorem setPlane_recHeld (p : Nat) (v : Plane) (s : State) : (setPlane p v s).recHeld = s.recHeld := by
  unfold setPlane
  split <;> rfl
@[simp] theorem setPlane_mem (p : Nat) (v : Plane) (s : State) : (setPlane p v s).mem = s.mem := by
  unfold setPlane
  split <;> rfl
@[simp] theorem setPlane_analog (p : Nat) (v : Plane) (s : State) : (setPlane p v s).analog = s.analog := by
  unfold setPlane
  split <;> rfl
@[simp] theorem setPlane_outs (p : Nat) (v : Plane) (s : State) : (setPlane p v s).outs = s.outs := by
  unfold setPlane
  split <;> rfl
@[simp] theorem setPlane_field (p : Nat) (v : Plane) (s : State) : (setPlane p v s).field = s.field := by
  unfold setPlane
  split <;> rfl
@[simp] theorem setPlane_can (p : Nat) (v : Plane) (s : State) : (setPlane p v s).can = s.can := by
  unfold setPlane
  split <;> rfl
@[simp] theorem setPlane_clock (p : Nat) (v : Plane) (s : State) : (setPlane p v s).clock = s.clock := by
  unfold setPlane
  split <;> rfl
@[simp] theorem setPlane_window (p : Nat) (v : Plane) (s : State) : (setPlane p v s).window = s.window := by
  unfold setPlane
  split <;> rfl
@[simp] theorem setPlane_pins (p : Nat) (v : Plane) (s : State) : (setPlane p v s).pins = s.pins := by
  unfold setPlane
  split <;> rfl
@[simp] theorem setPlane_freeCtr (p : Nat) (v : Plane) (s : State) : (setPlane p v s).freeCtr = s.freeCtr := by
  unfold setPlane
  split <;> rfl
@[simp] theorem setPlane_pending (p : Nat) (v : Plane) (s : State) : (setPlane p v s).pending = s.pending := by
  unfold setPlane
  split <;> rfl

@[simp] theorem setEvtCfg_dev (src : Nat) (v : Word) (s : State) : (setEvtCfg src v s).dev = s.dev := rfl
@[simp] theorem setEvtCfg_sn (src : Nat) (v : Word) (s : State) : (setEvtCfg src v s).sn = s.sn := rfl
@[simp] theorem setEvtCfg_planeA (src : Nat) (v : Word) (s : State) : (setEvtCfg src v s).planeA = s.planeA := rfl
@[simp] theorem setEvtCfg_planeB (src : Nat) (v : Word) (s : State) : (setEvtCfg src v s).planeB = s.planeB := rfl
@[simp] theorem setEvtCfg_hif (src : Nat) (v : Word) (s : State) : (setEvtCfg src v s).hif = s.hif := rfl
@[simp] theorem setEvtCfg_trace (src : Nat) (v : Word) (s : State) : (setEvtCfg src v s).trace = s.trace := rfl
@[simp] theorem setEvtCfg_tap (src : Nat) (v : Word) (s : State) : (setEvtCfg src v s).tap = s.tap := rfl
@[simp] theorem setEvtCfg_lock (src : Nat) (v : Word) (s : State) : (setEvtCfg src v s).lock = s.lock := rfl
@[simp] theorem setEvtCfg_tally (src : Nat) (v : Word) (s : State) : (setEvtCfg src v s).tally = s.tally := rfl
@[simp] theorem setEvtCfg_ump (src : Nat) (v : Word) (s : State) : (setEvtCfg src v s).ump = s.ump := rfl
@[simp] theorem setEvtCfg_led (src : Nat) (v : Word) (s : State) : (setEvtCfg src v s).led = s.led := rfl
@[simp] theorem setEvtCfg_boot (src : Nat) (v : Word) (s : State) : (setEvtCfg src v s).boot = s.boot := rfl
@[simp] theorem setEvtCfg_sealed (src : Nat) (v : Word) (s : State) : (setEvtCfg src v s).sealed = s.sealed := rfl
@[simp] theorem setEvtCfg_recorder (src : Nat) (v : Word) (s : State) : (setEvtCfg src v s).recorder = s.recorder := rfl
@[simp] theorem setEvtCfg_recHeld (src : Nat) (v : Word) (s : State) : (setEvtCfg src v s).recHeld = s.recHeld := rfl
@[simp] theorem setEvtCfg_mem (src : Nat) (v : Word) (s : State) : (setEvtCfg src v s).mem = s.mem := rfl
@[simp] theorem setEvtCfg_analog (src : Nat) (v : Word) (s : State) : (setEvtCfg src v s).analog = s.analog := rfl
@[simp] theorem setEvtCfg_outs (src : Nat) (v : Word) (s : State) : (setEvtCfg src v s).outs = s.outs := rfl
@[simp] theorem setEvtCfg_field (src : Nat) (v : Word) (s : State) : (setEvtCfg src v s).field = s.field := rfl
@[simp] theorem setEvtCfg_can (src : Nat) (v : Word) (s : State) : (setEvtCfg src v s).can = s.can := rfl
@[simp] theorem setEvtCfg_clock (src : Nat) (v : Word) (s : State) : (setEvtCfg src v s).clock = s.clock := rfl
@[simp] theorem setEvtCfg_window (src : Nat) (v : Word) (s : State) : (setEvtCfg src v s).window = s.window := rfl
@[simp] theorem setEvtCfg_pins (src : Nat) (v : Word) (s : State) : (setEvtCfg src v s).pins = s.pins := rfl
@[simp] theorem setEvtCfg_freeCtr (src : Nat) (v : Word) (s : State) : (setEvtCfg src v s).freeCtr = s.freeCtr := rfl
@[simp] theorem setEvtCfg_pending (src : Nat) (v : Word) (s : State) : (setEvtCfg src v s).pending = s.pending := rfl

@[simp] theorem setQp_dev (q : Nat) (v : QPair) (s : State) : (setQp q v s).dev = s.dev := rfl
@[simp] theorem setQp_sn (q : Nat) (v : QPair) (s : State) : (setQp q v s).sn = s.sn := rfl
@[simp] theorem setQp_planeA (q : Nat) (v : QPair) (s : State) : (setQp q v s).planeA = s.planeA := rfl
@[simp] theorem setQp_planeB (q : Nat) (v : QPair) (s : State) : (setQp q v s).planeB = s.planeB := rfl
@[simp] theorem setQp_evts (q : Nat) (v : QPair) (s : State) : (setQp q v s).evts = s.evts := rfl
@[simp] theorem setQp_trace (q : Nat) (v : QPair) (s : State) : (setQp q v s).trace = s.trace := rfl
@[simp] theorem setQp_tap (q : Nat) (v : QPair) (s : State) : (setQp q v s).tap = s.tap := rfl
@[simp] theorem setQp_lock (q : Nat) (v : QPair) (s : State) : (setQp q v s).lock = s.lock := rfl
@[simp] theorem setQp_tally (q : Nat) (v : QPair) (s : State) : (setQp q v s).tally = s.tally := rfl
@[simp] theorem setQp_ump (q : Nat) (v : QPair) (s : State) : (setQp q v s).ump = s.ump := rfl
@[simp] theorem setQp_led (q : Nat) (v : QPair) (s : State) : (setQp q v s).led = s.led := rfl
@[simp] theorem setQp_boot (q : Nat) (v : QPair) (s : State) : (setQp q v s).boot = s.boot := rfl
@[simp] theorem setQp_sealed (q : Nat) (v : QPair) (s : State) : (setQp q v s).sealed = s.sealed := rfl
@[simp] theorem setQp_recorder (q : Nat) (v : QPair) (s : State) : (setQp q v s).recorder = s.recorder := rfl
@[simp] theorem setQp_recHeld (q : Nat) (v : QPair) (s : State) : (setQp q v s).recHeld = s.recHeld := rfl
@[simp] theorem setQp_mem (q : Nat) (v : QPair) (s : State) : (setQp q v s).mem = s.mem := rfl
@[simp] theorem setQp_analog (q : Nat) (v : QPair) (s : State) : (setQp q v s).analog = s.analog := rfl
@[simp] theorem setQp_outs (q : Nat) (v : QPair) (s : State) : (setQp q v s).outs = s.outs := rfl
@[simp] theorem setQp_field (q : Nat) (v : QPair) (s : State) : (setQp q v s).field = s.field := rfl
@[simp] theorem setQp_can (q : Nat) (v : QPair) (s : State) : (setQp q v s).can = s.can := rfl
@[simp] theorem setQp_clock (q : Nat) (v : QPair) (s : State) : (setQp q v s).clock = s.clock := rfl
@[simp] theorem setQp_window (q : Nat) (v : QPair) (s : State) : (setQp q v s).window = s.window := rfl
@[simp] theorem setQp_pins (q : Nat) (v : QPair) (s : State) : (setQp q v s).pins = s.pins := rfl
@[simp] theorem setQp_freeCtr (q : Nat) (v : QPair) (s : State) : (setQp q v s).freeCtr = s.freeCtr := rfl
@[simp] theorem setQp_pending (q : Nat) (v : QPair) (s : State) : (setQp q v s).pending = s.pending := rfl

@[simp] theorem setTap_dev (ir : BitVec 8) (tdo : Nat) (s : State) : (setTap ir tdo s).dev = s.dev := rfl
@[simp] theorem setTap_sn (ir : BitVec 8) (tdo : Nat) (s : State) : (setTap ir tdo s).sn = s.sn := rfl
@[simp] theorem setTap_planeA (ir : BitVec 8) (tdo : Nat) (s : State) : (setTap ir tdo s).planeA = s.planeA := rfl
@[simp] theorem setTap_planeB (ir : BitVec 8) (tdo : Nat) (s : State) : (setTap ir tdo s).planeB = s.planeB := rfl
@[simp] theorem setTap_hif (ir : BitVec 8) (tdo : Nat) (s : State) : (setTap ir tdo s).hif = s.hif := rfl
@[simp] theorem setTap_evts (ir : BitVec 8) (tdo : Nat) (s : State) : (setTap ir tdo s).evts = s.evts := rfl
@[simp] theorem setTap_trace (ir : BitVec 8) (tdo : Nat) (s : State) : (setTap ir tdo s).trace = s.trace := rfl
@[simp] theorem setTap_lock (ir : BitVec 8) (tdo : Nat) (s : State) : (setTap ir tdo s).lock = s.lock := rfl
@[simp] theorem setTap_tally (ir : BitVec 8) (tdo : Nat) (s : State) : (setTap ir tdo s).tally = s.tally := rfl
@[simp] theorem setTap_ump (ir : BitVec 8) (tdo : Nat) (s : State) : (setTap ir tdo s).ump = s.ump := rfl
@[simp] theorem setTap_led (ir : BitVec 8) (tdo : Nat) (s : State) : (setTap ir tdo s).led = s.led := rfl
@[simp] theorem setTap_boot (ir : BitVec 8) (tdo : Nat) (s : State) : (setTap ir tdo s).boot = s.boot := rfl
@[simp] theorem setTap_sealed (ir : BitVec 8) (tdo : Nat) (s : State) : (setTap ir tdo s).sealed = s.sealed := rfl
@[simp] theorem setTap_recorder (ir : BitVec 8) (tdo : Nat) (s : State) : (setTap ir tdo s).recorder = s.recorder := rfl
@[simp] theorem setTap_recHeld (ir : BitVec 8) (tdo : Nat) (s : State) : (setTap ir tdo s).recHeld = s.recHeld := rfl
@[simp] theorem setTap_mem (ir : BitVec 8) (tdo : Nat) (s : State) : (setTap ir tdo s).mem = s.mem := rfl
@[simp] theorem setTap_analog (ir : BitVec 8) (tdo : Nat) (s : State) : (setTap ir tdo s).analog = s.analog := rfl
@[simp] theorem setTap_outs (ir : BitVec 8) (tdo : Nat) (s : State) : (setTap ir tdo s).outs = s.outs := rfl
@[simp] theorem setTap_field (ir : BitVec 8) (tdo : Nat) (s : State) : (setTap ir tdo s).field = s.field := rfl
@[simp] theorem setTap_can (ir : BitVec 8) (tdo : Nat) (s : State) : (setTap ir tdo s).can = s.can := rfl
@[simp] theorem setTap_clock (ir : BitVec 8) (tdo : Nat) (s : State) : (setTap ir tdo s).clock = s.clock := rfl
@[simp] theorem setTap_window (ir : BitVec 8) (tdo : Nat) (s : State) : (setTap ir tdo s).window = s.window := rfl
@[simp] theorem setTap_pins (ir : BitVec 8) (tdo : Nat) (s : State) : (setTap ir tdo s).pins = s.pins := rfl
@[simp] theorem setTap_freeCtr (ir : BitVec 8) (tdo : Nat) (s : State) : (setTap ir tdo s).freeCtr = s.freeCtr := rfl
@[simp] theorem setTap_pending (ir : BitVec 8) (tdo : Nat) (s : State) : (setTap ir tdo s).pending = s.pending := rfl

@[simp] theorem setPort_dev (k : Nat) (p : FPort) (s : State) : (setPort k p s).dev = s.dev := rfl
@[simp] theorem setPort_sn (k : Nat) (p : FPort) (s : State) : (setPort k p s).sn = s.sn := rfl
@[simp] theorem setPort_planeA (k : Nat) (p : FPort) (s : State) : (setPort k p s).planeA = s.planeA := rfl
@[simp] theorem setPort_planeB (k : Nat) (p : FPort) (s : State) : (setPort k p s).planeB = s.planeB := rfl
@[simp] theorem setPort_hif (k : Nat) (p : FPort) (s : State) : (setPort k p s).hif = s.hif := rfl
@[simp] theorem setPort_evts (k : Nat) (p : FPort) (s : State) : (setPort k p s).evts = s.evts := rfl
@[simp] theorem setPort_trace (k : Nat) (p : FPort) (s : State) : (setPort k p s).trace = s.trace := rfl
@[simp] theorem setPort_tap (k : Nat) (p : FPort) (s : State) : (setPort k p s).tap = s.tap := rfl
@[simp] theorem setPort_lock (k : Nat) (p : FPort) (s : State) : (setPort k p s).lock = s.lock := rfl
@[simp] theorem setPort_tally (k : Nat) (p : FPort) (s : State) : (setPort k p s).tally = s.tally := rfl
@[simp] theorem setPort_ump (k : Nat) (p : FPort) (s : State) : (setPort k p s).ump = s.ump := rfl
@[simp] theorem setPort_led (k : Nat) (p : FPort) (s : State) : (setPort k p s).led = s.led := rfl
@[simp] theorem setPort_boot (k : Nat) (p : FPort) (s : State) : (setPort k p s).boot = s.boot := rfl
@[simp] theorem setPort_sealed (k : Nat) (p : FPort) (s : State) : (setPort k p s).sealed = s.sealed := rfl
@[simp] theorem setPort_recorder (k : Nat) (p : FPort) (s : State) : (setPort k p s).recorder = s.recorder := rfl
@[simp] theorem setPort_recHeld (k : Nat) (p : FPort) (s : State) : (setPort k p s).recHeld = s.recHeld := rfl
@[simp] theorem setPort_mem (k : Nat) (p : FPort) (s : State) : (setPort k p s).mem = s.mem := rfl
@[simp] theorem setPort_analog (k : Nat) (p : FPort) (s : State) : (setPort k p s).analog = s.analog := rfl
@[simp] theorem setPort_outs (k : Nat) (p : FPort) (s : State) : (setPort k p s).outs = s.outs := rfl
@[simp] theorem setPort_can (k : Nat) (p : FPort) (s : State) : (setPort k p s).can = s.can := rfl
@[simp] theorem setPort_clock (k : Nat) (p : FPort) (s : State) : (setPort k p s).clock = s.clock := rfl
@[simp] theorem setPort_window (k : Nat) (p : FPort) (s : State) : (setPort k p s).window = s.window := rfl
@[simp] theorem setPort_pins (k : Nat) (p : FPort) (s : State) : (setPort k p s).pins = s.pins := rfl
@[simp] theorem setPort_freeCtr (k : Nat) (p : FPort) (s : State) : (setPort k p s).freeCtr = s.freeCtr := rfl
@[simp] theorem setPort_pending (k : Nat) (p : FPort) (s : State) : (setPort k p s).pending = s.pending := rfl

@[simp] theorem setStation_dev (k : Nat) (x : Station) (s : State) : (setStation k x s).dev = s.dev := rfl
@[simp] theorem setStation_sn (k : Nat) (x : Station) (s : State) : (setStation k x s).sn = s.sn := rfl
@[simp] theorem setStation_planeA (k : Nat) (x : Station) (s : State) : (setStation k x s).planeA = s.planeA := rfl
@[simp] theorem setStation_planeB (k : Nat) (x : Station) (s : State) : (setStation k x s).planeB = s.planeB := rfl
@[simp] theorem setStation_hif (k : Nat) (x : Station) (s : State) : (setStation k x s).hif = s.hif := rfl
@[simp] theorem setStation_evts (k : Nat) (x : Station) (s : State) : (setStation k x s).evts = s.evts := rfl
@[simp] theorem setStation_trace (k : Nat) (x : Station) (s : State) : (setStation k x s).trace = s.trace := rfl
@[simp] theorem setStation_tap (k : Nat) (x : Station) (s : State) : (setStation k x s).tap = s.tap := rfl
@[simp] theorem setStation_lock (k : Nat) (x : Station) (s : State) : (setStation k x s).lock = s.lock := rfl
@[simp] theorem setStation_tally (k : Nat) (x : Station) (s : State) : (setStation k x s).tally = s.tally := rfl
@[simp] theorem setStation_ump (k : Nat) (x : Station) (s : State) : (setStation k x s).ump = s.ump := rfl
@[simp] theorem setStation_led (k : Nat) (x : Station) (s : State) : (setStation k x s).led = s.led := rfl
@[simp] theorem setStation_boot (k : Nat) (x : Station) (s : State) : (setStation k x s).boot = s.boot := rfl
@[simp] theorem setStation_sealed (k : Nat) (x : Station) (s : State) : (setStation k x s).sealed = s.sealed := rfl
@[simp] theorem setStation_recorder (k : Nat) (x : Station) (s : State) : (setStation k x s).recorder = s.recorder := rfl
@[simp] theorem setStation_recHeld (k : Nat) (x : Station) (s : State) : (setStation k x s).recHeld = s.recHeld := rfl
@[simp] theorem setStation_mem (k : Nat) (x : Station) (s : State) : (setStation k x s).mem = s.mem := rfl
@[simp] theorem setStation_analog (k : Nat) (x : Station) (s : State) : (setStation k x s).analog = s.analog := rfl
@[simp] theorem setStation_outs (k : Nat) (x : Station) (s : State) : (setStation k x s).outs = s.outs := rfl
@[simp] theorem setStation_can (k : Nat) (x : Station) (s : State) : (setStation k x s).can = s.can := rfl
@[simp] theorem setStation_clock (k : Nat) (x : Station) (s : State) : (setStation k x s).clock = s.clock := rfl
@[simp] theorem setStation_window (k : Nat) (x : Station) (s : State) : (setStation k x s).window = s.window := rfl
@[simp] theorem setStation_pins (k : Nat) (x : Station) (s : State) : (setStation k x s).pins = s.pins := rfl
@[simp] theorem setStation_freeCtr (k : Nat) (x : Station) (s : State) : (setStation k x s).freeCtr = s.freeCtr := rfl
@[simp] theorem setStation_pending (k : Nat) (x : Station) (s : State) : (setStation k x s).pending = s.pending := rfl

@[simp] theorem setOuts_dev (o : Outs) (s : State) : (setOuts o s).dev = s.dev := rfl
@[simp] theorem setOuts_sn (o : Outs) (s : State) : (setOuts o s).sn = s.sn := rfl
@[simp] theorem setOuts_planeA (o : Outs) (s : State) : (setOuts o s).planeA = s.planeA := rfl
@[simp] theorem setOuts_planeB (o : Outs) (s : State) : (setOuts o s).planeB = s.planeB := rfl
@[simp] theorem setOuts_hif (o : Outs) (s : State) : (setOuts o s).hif = s.hif := rfl
@[simp] theorem setOuts_evts (o : Outs) (s : State) : (setOuts o s).evts = s.evts := rfl
@[simp] theorem setOuts_trace (o : Outs) (s : State) : (setOuts o s).trace = s.trace := rfl
@[simp] theorem setOuts_tap (o : Outs) (s : State) : (setOuts o s).tap = s.tap := rfl
@[simp] theorem setOuts_lock (o : Outs) (s : State) : (setOuts o s).lock = s.lock := rfl
@[simp] theorem setOuts_tally (o : Outs) (s : State) : (setOuts o s).tally = s.tally := rfl
@[simp] theorem setOuts_ump (o : Outs) (s : State) : (setOuts o s).ump = s.ump := rfl
@[simp] theorem setOuts_led (o : Outs) (s : State) : (setOuts o s).led = s.led := rfl
@[simp] theorem setOuts_boot (o : Outs) (s : State) : (setOuts o s).boot = s.boot := rfl
@[simp] theorem setOuts_sealed (o : Outs) (s : State) : (setOuts o s).sealed = s.sealed := rfl
@[simp] theorem setOuts_recorder (o : Outs) (s : State) : (setOuts o s).recorder = s.recorder := rfl
@[simp] theorem setOuts_recHeld (o : Outs) (s : State) : (setOuts o s).recHeld = s.recHeld := rfl
@[simp] theorem setOuts_mem (o : Outs) (s : State) : (setOuts o s).mem = s.mem := rfl
@[simp] theorem setOuts_analog (o : Outs) (s : State) : (setOuts o s).analog = s.analog := rfl
@[simp] theorem setOuts_field (o : Outs) (s : State) : (setOuts o s).field = s.field := rfl
@[simp] theorem setOuts_can (o : Outs) (s : State) : (setOuts o s).can = s.can := rfl
@[simp] theorem setOuts_clock (o : Outs) (s : State) : (setOuts o s).clock = s.clock := rfl
@[simp] theorem setOuts_window (o : Outs) (s : State) : (setOuts o s).window = s.window := rfl
@[simp] theorem setOuts_pins (o : Outs) (s : State) : (setOuts o s).pins = s.pins := rfl
@[simp] theorem setOuts_freeCtr (o : Outs) (s : State) : (setOuts o s).freeCtr = s.freeCtr := rfl
@[simp] theorem setOuts_pending (o : Outs) (s : State) : (setOuts o s).pending = s.pending := rfl

@[simp] theorem setHalf_dev (h : Nat) (c : Option Ckpt) (s : State) : (setHalf h c s).dev = s.dev := rfl
@[simp] theorem setHalf_sn (h : Nat) (c : Option Ckpt) (s : State) : (setHalf h c s).sn = s.sn := rfl
@[simp] theorem setHalf_planeA (h : Nat) (c : Option Ckpt) (s : State) : (setHalf h c s).planeA = s.planeA := rfl
@[simp] theorem setHalf_planeB (h : Nat) (c : Option Ckpt) (s : State) : (setHalf h c s).planeB = s.planeB := rfl
@[simp] theorem setHalf_hif (h : Nat) (c : Option Ckpt) (s : State) : (setHalf h c s).hif = s.hif := rfl
@[simp] theorem setHalf_evts (h : Nat) (c : Option Ckpt) (s : State) : (setHalf h c s).evts = s.evts := rfl
@[simp] theorem setHalf_trace (h : Nat) (c : Option Ckpt) (s : State) : (setHalf h c s).trace = s.trace := rfl
@[simp] theorem setHalf_tap (h : Nat) (c : Option Ckpt) (s : State) : (setHalf h c s).tap = s.tap := rfl
@[simp] theorem setHalf_lock (h : Nat) (c : Option Ckpt) (s : State) : (setHalf h c s).lock = s.lock := rfl
@[simp] theorem setHalf_tally (h : Nat) (c : Option Ckpt) (s : State) : (setHalf h c s).tally = s.tally := rfl
@[simp] theorem setHalf_ump (h : Nat) (c : Option Ckpt) (s : State) : (setHalf h c s).ump = s.ump := rfl
@[simp] theorem setHalf_boot (h : Nat) (c : Option Ckpt) (s : State) : (setHalf h c s).boot = s.boot := rfl
@[simp] theorem setHalf_sealed (h : Nat) (c : Option Ckpt) (s : State) : (setHalf h c s).sealed = s.sealed := rfl
@[simp] theorem setHalf_recorder (h : Nat) (c : Option Ckpt) (s : State) : (setHalf h c s).recorder = s.recorder := rfl
@[simp] theorem setHalf_recHeld (h : Nat) (c : Option Ckpt) (s : State) : (setHalf h c s).recHeld = s.recHeld := rfl
@[simp] theorem setHalf_mem (h : Nat) (c : Option Ckpt) (s : State) : (setHalf h c s).mem = s.mem := rfl
@[simp] theorem setHalf_analog (h : Nat) (c : Option Ckpt) (s : State) : (setHalf h c s).analog = s.analog := rfl
@[simp] theorem setHalf_outs (h : Nat) (c : Option Ckpt) (s : State) : (setHalf h c s).outs = s.outs := rfl
@[simp] theorem setHalf_field (h : Nat) (c : Option Ckpt) (s : State) : (setHalf h c s).field = s.field := rfl
@[simp] theorem setHalf_can (h : Nat) (c : Option Ckpt) (s : State) : (setHalf h c s).can = s.can := rfl
@[simp] theorem setHalf_clock (h : Nat) (c : Option Ckpt) (s : State) : (setHalf h c s).clock = s.clock := rfl
@[simp] theorem setHalf_window (h : Nat) (c : Option Ckpt) (s : State) : (setHalf h c s).window = s.window := rfl
@[simp] theorem setHalf_pins (h : Nat) (c : Option Ckpt) (s : State) : (setHalf h c s).pins = s.pins := rfl
@[simp] theorem setHalf_freeCtr (h : Nat) (c : Option Ckpt) (s : State) : (setHalf h c s).freeCtr = s.freeCtr := rfl
@[simp] theorem setHalf_pending (h : Nat) (c : Option Ckpt) (s : State) : (setHalf h c s).pending = s.pending := rfl

@[simp] theorem setAnalog_dev (a : Analog) (s : State) : (setAnalog a s).dev = s.dev := rfl
@[simp] theorem setAnalog_sn (a : Analog) (s : State) : (setAnalog a s).sn = s.sn := rfl
@[simp] theorem setAnalog_planeA (a : Analog) (s : State) : (setAnalog a s).planeA = s.planeA := rfl
@[simp] theorem setAnalog_planeB (a : Analog) (s : State) : (setAnalog a s).planeB = s.planeB := rfl
@[simp] theorem setAnalog_hif (a : Analog) (s : State) : (setAnalog a s).hif = s.hif := rfl
@[simp] theorem setAnalog_evts (a : Analog) (s : State) : (setAnalog a s).evts = s.evts := rfl
@[simp] theorem setAnalog_trace (a : Analog) (s : State) : (setAnalog a s).trace = s.trace := rfl
@[simp] theorem setAnalog_tap (a : Analog) (s : State) : (setAnalog a s).tap = s.tap := rfl
@[simp] theorem setAnalog_lock (a : Analog) (s : State) : (setAnalog a s).lock = s.lock := rfl
@[simp] theorem setAnalog_tally (a : Analog) (s : State) : (setAnalog a s).tally = s.tally := rfl
@[simp] theorem setAnalog_ump (a : Analog) (s : State) : (setAnalog a s).ump = s.ump := rfl
@[simp] theorem setAnalog_led (a : Analog) (s : State) : (setAnalog a s).led = s.led := rfl
@[simp] theorem setAnalog_boot (a : Analog) (s : State) : (setAnalog a s).boot = s.boot := rfl
@[simp] theorem setAnalog_sealed (a : Analog) (s : State) : (setAnalog a s).sealed = s.sealed := rfl
@[simp] theorem setAnalog_recorder (a : Analog) (s : State) : (setAnalog a s).recorder = s.recorder := rfl
@[simp] theorem setAnalog_recHeld (a : Analog) (s : State) : (setAnalog a s).recHeld = s.recHeld := rfl
@[simp] theorem setAnalog_mem (a : Analog) (s : State) : (setAnalog a s).mem = s.mem := rfl
@[simp] theorem setAnalog_outs (a : Analog) (s : State) : (setAnalog a s).outs = s.outs := rfl
@[simp] theorem setAnalog_field (a : Analog) (s : State) : (setAnalog a s).field = s.field := rfl
@[simp] theorem setAnalog_can (a : Analog) (s : State) : (setAnalog a s).can = s.can := rfl
@[simp] theorem setAnalog_clock (a : Analog) (s : State) : (setAnalog a s).clock = s.clock := rfl
@[simp] theorem setAnalog_window (a : Analog) (s : State) : (setAnalog a s).window = s.window := rfl
@[simp] theorem setAnalog_pins (a : Analog) (s : State) : (setAnalog a s).pins = s.pins := rfl
@[simp] theorem setAnalog_freeCtr (a : Analog) (s : State) : (setAnalog a s).freeCtr = s.freeCtr := rfl
@[simp] theorem setAnalog_pending (a : Analog) (s : State) : (setAnalog a s).pending = s.pending := rfl

@[simp] theorem setAgroup_dev (g : Nat) (x : AGroup) (s : State) : (setAgroup g x s).dev = s.dev := rfl
@[simp] theorem setAgroup_sn (g : Nat) (x : AGroup) (s : State) : (setAgroup g x s).sn = s.sn := rfl
@[simp] theorem setAgroup_planeA (g : Nat) (x : AGroup) (s : State) : (setAgroup g x s).planeA = s.planeA := rfl
@[simp] theorem setAgroup_planeB (g : Nat) (x : AGroup) (s : State) : (setAgroup g x s).planeB = s.planeB := rfl
@[simp] theorem setAgroup_hif (g : Nat) (x : AGroup) (s : State) : (setAgroup g x s).hif = s.hif := rfl
@[simp] theorem setAgroup_evts (g : Nat) (x : AGroup) (s : State) : (setAgroup g x s).evts = s.evts := rfl
@[simp] theorem setAgroup_trace (g : Nat) (x : AGroup) (s : State) : (setAgroup g x s).trace = s.trace := rfl
@[simp] theorem setAgroup_tap (g : Nat) (x : AGroup) (s : State) : (setAgroup g x s).tap = s.tap := rfl
@[simp] theorem setAgroup_lock (g : Nat) (x : AGroup) (s : State) : (setAgroup g x s).lock = s.lock := rfl
@[simp] theorem setAgroup_tally (g : Nat) (x : AGroup) (s : State) : (setAgroup g x s).tally = s.tally := rfl
@[simp] theorem setAgroup_ump (g : Nat) (x : AGroup) (s : State) : (setAgroup g x s).ump = s.ump := rfl
@[simp] theorem setAgroup_led (g : Nat) (x : AGroup) (s : State) : (setAgroup g x s).led = s.led := rfl
@[simp] theorem setAgroup_boot (g : Nat) (x : AGroup) (s : State) : (setAgroup g x s).boot = s.boot := rfl
@[simp] theorem setAgroup_sealed (g : Nat) (x : AGroup) (s : State) : (setAgroup g x s).sealed = s.sealed := rfl
@[simp] theorem setAgroup_recorder (g : Nat) (x : AGroup) (s : State) : (setAgroup g x s).recorder = s.recorder := rfl
@[simp] theorem setAgroup_recHeld (g : Nat) (x : AGroup) (s : State) : (setAgroup g x s).recHeld = s.recHeld := rfl
@[simp] theorem setAgroup_mem (g : Nat) (x : AGroup) (s : State) : (setAgroup g x s).mem = s.mem := rfl
@[simp] theorem setAgroup_outs (g : Nat) (x : AGroup) (s : State) : (setAgroup g x s).outs = s.outs := rfl
@[simp] theorem setAgroup_field (g : Nat) (x : AGroup) (s : State) : (setAgroup g x s).field = s.field := rfl
@[simp] theorem setAgroup_can (g : Nat) (x : AGroup) (s : State) : (setAgroup g x s).can = s.can := rfl
@[simp] theorem setAgroup_clock (g : Nat) (x : AGroup) (s : State) : (setAgroup g x s).clock = s.clock := rfl
@[simp] theorem setAgroup_window (g : Nat) (x : AGroup) (s : State) : (setAgroup g x s).window = s.window := rfl
@[simp] theorem setAgroup_pins (g : Nat) (x : AGroup) (s : State) : (setAgroup g x s).pins = s.pins := rfl
@[simp] theorem setAgroup_freeCtr (g : Nat) (x : AGroup) (s : State) : (setAgroup g x s).freeCtr = s.freeCtr := rfl
@[simp] theorem setAgroup_pending (g : Nat) (x : AGroup) (s : State) : (setAgroup g x s).pending = s.pending := rfl

@[simp] theorem setAi_dev (ch : Nat) (x : AChan) (s : State) : (setAi ch x s).dev = s.dev := rfl
@[simp] theorem setAi_sn (ch : Nat) (x : AChan) (s : State) : (setAi ch x s).sn = s.sn := rfl
@[simp] theorem setAi_planeA (ch : Nat) (x : AChan) (s : State) : (setAi ch x s).planeA = s.planeA := rfl
@[simp] theorem setAi_planeB (ch : Nat) (x : AChan) (s : State) : (setAi ch x s).planeB = s.planeB := rfl
@[simp] theorem setAi_hif (ch : Nat) (x : AChan) (s : State) : (setAi ch x s).hif = s.hif := rfl
@[simp] theorem setAi_evts (ch : Nat) (x : AChan) (s : State) : (setAi ch x s).evts = s.evts := rfl
@[simp] theorem setAi_trace (ch : Nat) (x : AChan) (s : State) : (setAi ch x s).trace = s.trace := rfl
@[simp] theorem setAi_tap (ch : Nat) (x : AChan) (s : State) : (setAi ch x s).tap = s.tap := rfl
@[simp] theorem setAi_lock (ch : Nat) (x : AChan) (s : State) : (setAi ch x s).lock = s.lock := rfl
@[simp] theorem setAi_tally (ch : Nat) (x : AChan) (s : State) : (setAi ch x s).tally = s.tally := rfl
@[simp] theorem setAi_ump (ch : Nat) (x : AChan) (s : State) : (setAi ch x s).ump = s.ump := rfl
@[simp] theorem setAi_led (ch : Nat) (x : AChan) (s : State) : (setAi ch x s).led = s.led := rfl
@[simp] theorem setAi_boot (ch : Nat) (x : AChan) (s : State) : (setAi ch x s).boot = s.boot := rfl
@[simp] theorem setAi_sealed (ch : Nat) (x : AChan) (s : State) : (setAi ch x s).sealed = s.sealed := rfl
@[simp] theorem setAi_recorder (ch : Nat) (x : AChan) (s : State) : (setAi ch x s).recorder = s.recorder := rfl
@[simp] theorem setAi_recHeld (ch : Nat) (x : AChan) (s : State) : (setAi ch x s).recHeld = s.recHeld := rfl
@[simp] theorem setAi_mem (ch : Nat) (x : AChan) (s : State) : (setAi ch x s).mem = s.mem := rfl
@[simp] theorem setAi_outs (ch : Nat) (x : AChan) (s : State) : (setAi ch x s).outs = s.outs := rfl
@[simp] theorem setAi_field (ch : Nat) (x : AChan) (s : State) : (setAi ch x s).field = s.field := rfl
@[simp] theorem setAi_can (ch : Nat) (x : AChan) (s : State) : (setAi ch x s).can = s.can := rfl
@[simp] theorem setAi_clock (ch : Nat) (x : AChan) (s : State) : (setAi ch x s).clock = s.clock := rfl
@[simp] theorem setAi_window (ch : Nat) (x : AChan) (s : State) : (setAi ch x s).window = s.window := rfl
@[simp] theorem setAi_pins (ch : Nat) (x : AChan) (s : State) : (setAi ch x s).pins = s.pins := rfl
@[simp] theorem setAi_freeCtr (ch : Nat) (x : AChan) (s : State) : (setAi ch x s).freeCtr = s.freeCtr := rfl
@[simp] theorem setAi_pending (ch : Nat) (x : AChan) (s : State) : (setAi ch x s).pending = s.pending := rfl

@[simp] theorem setCl_dev (k : Nat) (x : CLoop) (s : State) : (setCl k x s).dev = s.dev := rfl
@[simp] theorem setCl_sn (k : Nat) (x : CLoop) (s : State) : (setCl k x s).sn = s.sn := rfl
@[simp] theorem setCl_planeA (k : Nat) (x : CLoop) (s : State) : (setCl k x s).planeA = s.planeA := rfl
@[simp] theorem setCl_planeB (k : Nat) (x : CLoop) (s : State) : (setCl k x s).planeB = s.planeB := rfl
@[simp] theorem setCl_hif (k : Nat) (x : CLoop) (s : State) : (setCl k x s).hif = s.hif := rfl
@[simp] theorem setCl_evts (k : Nat) (x : CLoop) (s : State) : (setCl k x s).evts = s.evts := rfl
@[simp] theorem setCl_trace (k : Nat) (x : CLoop) (s : State) : (setCl k x s).trace = s.trace := rfl
@[simp] theorem setCl_tap (k : Nat) (x : CLoop) (s : State) : (setCl k x s).tap = s.tap := rfl
@[simp] theorem setCl_lock (k : Nat) (x : CLoop) (s : State) : (setCl k x s).lock = s.lock := rfl
@[simp] theorem setCl_tally (k : Nat) (x : CLoop) (s : State) : (setCl k x s).tally = s.tally := rfl
@[simp] theorem setCl_ump (k : Nat) (x : CLoop) (s : State) : (setCl k x s).ump = s.ump := rfl
@[simp] theorem setCl_led (k : Nat) (x : CLoop) (s : State) : (setCl k x s).led = s.led := rfl
@[simp] theorem setCl_boot (k : Nat) (x : CLoop) (s : State) : (setCl k x s).boot = s.boot := rfl
@[simp] theorem setCl_sealed (k : Nat) (x : CLoop) (s : State) : (setCl k x s).sealed = s.sealed := rfl
@[simp] theorem setCl_recorder (k : Nat) (x : CLoop) (s : State) : (setCl k x s).recorder = s.recorder := rfl
@[simp] theorem setCl_recHeld (k : Nat) (x : CLoop) (s : State) : (setCl k x s).recHeld = s.recHeld := rfl
@[simp] theorem setCl_mem (k : Nat) (x : CLoop) (s : State) : (setCl k x s).mem = s.mem := rfl
@[simp] theorem setCl_outs (k : Nat) (x : CLoop) (s : State) : (setCl k x s).outs = s.outs := rfl
@[simp] theorem setCl_field (k : Nat) (x : CLoop) (s : State) : (setCl k x s).field = s.field := rfl
@[simp] theorem setCl_can (k : Nat) (x : CLoop) (s : State) : (setCl k x s).can = s.can := rfl
@[simp] theorem setCl_clock (k : Nat) (x : CLoop) (s : State) : (setCl k x s).clock = s.clock := rfl
@[simp] theorem setCl_window (k : Nat) (x : CLoop) (s : State) : (setCl k x s).window = s.window := rfl
@[simp] theorem setCl_pins (k : Nat) (x : CLoop) (s : State) : (setCl k x s).pins = s.pins := rfl
@[simp] theorem setCl_freeCtr (k : Nat) (x : CLoop) (s : State) : (setCl k x s).freeCtr = s.freeCtr := rfl
@[simp] theorem setCl_pending (k : Nat) (x : CLoop) (s : State) : (setCl k x s).pending = s.pending := rfl

@[simp] theorem setUmp_dev (u : Umpire) (s : State) : (setUmp u s).dev = s.dev := rfl
@[simp] theorem setUmp_sn (u : Umpire) (s : State) : (setUmp u s).sn = s.sn := rfl
@[simp] theorem setUmp_planeA (u : Umpire) (s : State) : (setUmp u s).planeA = s.planeA := rfl
@[simp] theorem setUmp_planeB (u : Umpire) (s : State) : (setUmp u s).planeB = s.planeB := rfl
@[simp] theorem setUmp_hif (u : Umpire) (s : State) : (setUmp u s).hif = s.hif := rfl
@[simp] theorem setUmp_evts (u : Umpire) (s : State) : (setUmp u s).evts = s.evts := rfl
@[simp] theorem setUmp_trace (u : Umpire) (s : State) : (setUmp u s).trace = s.trace := rfl
@[simp] theorem setUmp_tap (u : Umpire) (s : State) : (setUmp u s).tap = s.tap := rfl
@[simp] theorem setUmp_lock (u : Umpire) (s : State) : (setUmp u s).lock = s.lock := rfl
@[simp] theorem setUmp_tally (u : Umpire) (s : State) : (setUmp u s).tally = s.tally := rfl
@[simp] theorem setUmp_led (u : Umpire) (s : State) : (setUmp u s).led = s.led := rfl
@[simp] theorem setUmp_boot (u : Umpire) (s : State) : (setUmp u s).boot = s.boot := rfl
@[simp] theorem setUmp_sealed (u : Umpire) (s : State) : (setUmp u s).sealed = s.sealed := rfl
@[simp] theorem setUmp_recorder (u : Umpire) (s : State) : (setUmp u s).recorder = s.recorder := rfl
@[simp] theorem setUmp_recHeld (u : Umpire) (s : State) : (setUmp u s).recHeld = s.recHeld := rfl
@[simp] theorem setUmp_mem (u : Umpire) (s : State) : (setUmp u s).mem = s.mem := rfl
@[simp] theorem setUmp_analog (u : Umpire) (s : State) : (setUmp u s).analog = s.analog := rfl
@[simp] theorem setUmp_outs (u : Umpire) (s : State) : (setUmp u s).outs = s.outs := rfl
@[simp] theorem setUmp_field (u : Umpire) (s : State) : (setUmp u s).field = s.field := rfl
@[simp] theorem setUmp_can (u : Umpire) (s : State) : (setUmp u s).can = s.can := rfl
@[simp] theorem setUmp_clock (u : Umpire) (s : State) : (setUmp u s).clock = s.clock := rfl
@[simp] theorem setUmp_window (u : Umpire) (s : State) : (setUmp u s).window = s.window := rfl
@[simp] theorem setUmp_pins (u : Umpire) (s : State) : (setUmp u s).pins = s.pins := rfl
@[simp] theorem setUmp_freeCtr (u : Umpire) (s : State) : (setUmp u s).freeCtr = s.freeCtr := rfl
@[simp] theorem setUmp_pending (u : Umpire) (s : State) : (setUmp u s).pending = s.pending := rfl

@[simp] theorem setSusp_dev (p : Nat) (l : List Nat) (s : State) : (setSusp p l s).dev = s.dev := rfl
@[simp] theorem setSusp_sn (p : Nat) (l : List Nat) (s : State) : (setSusp p l s).sn = s.sn := rfl
@[simp] theorem setSusp_planeA (p : Nat) (l : List Nat) (s : State) : (setSusp p l s).planeA = s.planeA := rfl
@[simp] theorem setSusp_planeB (p : Nat) (l : List Nat) (s : State) : (setSusp p l s).planeB = s.planeB := rfl
@[simp] theorem setSusp_hif (p : Nat) (l : List Nat) (s : State) : (setSusp p l s).hif = s.hif := rfl
@[simp] theorem setSusp_evts (p : Nat) (l : List Nat) (s : State) : (setSusp p l s).evts = s.evts := rfl
@[simp] theorem setSusp_trace (p : Nat) (l : List Nat) (s : State) : (setSusp p l s).trace = s.trace := rfl
@[simp] theorem setSusp_tap (p : Nat) (l : List Nat) (s : State) : (setSusp p l s).tap = s.tap := rfl
@[simp] theorem setSusp_lock (p : Nat) (l : List Nat) (s : State) : (setSusp p l s).lock = s.lock := rfl
@[simp] theorem setSusp_tally (p : Nat) (l : List Nat) (s : State) : (setSusp p l s).tally = s.tally := rfl
@[simp] theorem setSusp_ump (p : Nat) (l : List Nat) (s : State) : (setSusp p l s).ump = s.ump := rfl
@[simp] theorem setSusp_boot (p : Nat) (l : List Nat) (s : State) : (setSusp p l s).boot = s.boot := rfl
@[simp] theorem setSusp_sealed (p : Nat) (l : List Nat) (s : State) : (setSusp p l s).sealed = s.sealed := rfl
@[simp] theorem setSusp_recorder (p : Nat) (l : List Nat) (s : State) : (setSusp p l s).recorder = s.recorder := rfl
@[simp] theorem setSusp_recHeld (p : Nat) (l : List Nat) (s : State) : (setSusp p l s).recHeld = s.recHeld := rfl
@[simp] theorem setSusp_mem (p : Nat) (l : List Nat) (s : State) : (setSusp p l s).mem = s.mem := rfl
@[simp] theorem setSusp_analog (p : Nat) (l : List Nat) (s : State) : (setSusp p l s).analog = s.analog := rfl
@[simp] theorem setSusp_outs (p : Nat) (l : List Nat) (s : State) : (setSusp p l s).outs = s.outs := rfl
@[simp] theorem setSusp_field (p : Nat) (l : List Nat) (s : State) : (setSusp p l s).field = s.field := rfl
@[simp] theorem setSusp_can (p : Nat) (l : List Nat) (s : State) : (setSusp p l s).can = s.can := rfl
@[simp] theorem setSusp_clock (p : Nat) (l : List Nat) (s : State) : (setSusp p l s).clock = s.clock := rfl
@[simp] theorem setSusp_window (p : Nat) (l : List Nat) (s : State) : (setSusp p l s).window = s.window := rfl
@[simp] theorem setSusp_pins (p : Nat) (l : List Nat) (s : State) : (setSusp p l s).pins = s.pins := rfl
@[simp] theorem setSusp_freeCtr (p : Nat) (l : List Nat) (s : State) : (setSusp p l s).freeCtr = s.freeCtr := rfl
@[simp] theorem setSusp_pending (p : Nat) (l : List Nat) (s : State) : (setSusp p l s).pending = s.pending := rfl

@[simp] theorem setLed_dev (l : Ledger) (s : State) : (setLed l s).dev = s.dev := rfl
@[simp] theorem setLed_sn (l : Ledger) (s : State) : (setLed l s).sn = s.sn := rfl
@[simp] theorem setLed_planeA (l : Ledger) (s : State) : (setLed l s).planeA = s.planeA := rfl
@[simp] theorem setLed_planeB (l : Ledger) (s : State) : (setLed l s).planeB = s.planeB := rfl
@[simp] theorem setLed_hif (l : Ledger) (s : State) : (setLed l s).hif = s.hif := rfl
@[simp] theorem setLed_evts (l : Ledger) (s : State) : (setLed l s).evts = s.evts := rfl
@[simp] theorem setLed_trace (l : Ledger) (s : State) : (setLed l s).trace = s.trace := rfl
@[simp] theorem setLed_tap (l : Ledger) (s : State) : (setLed l s).tap = s.tap := rfl
@[simp] theorem setLed_lock (l : Ledger) (s : State) : (setLed l s).lock = s.lock := rfl
@[simp] theorem setLed_tally (l : Ledger) (s : State) : (setLed l s).tally = s.tally := rfl
@[simp] theorem setLed_ump (l : Ledger) (s : State) : (setLed l s).ump = s.ump := rfl
@[simp] theorem setLed_boot (l : Ledger) (s : State) : (setLed l s).boot = s.boot := rfl
@[simp] theorem setLed_sealed (l : Ledger) (s : State) : (setLed l s).sealed = s.sealed := rfl
@[simp] theorem setLed_recorder (l : Ledger) (s : State) : (setLed l s).recorder = s.recorder := rfl
@[simp] theorem setLed_recHeld (l : Ledger) (s : State) : (setLed l s).recHeld = s.recHeld := rfl
@[simp] theorem setLed_mem (l : Ledger) (s : State) : (setLed l s).mem = s.mem := rfl
@[simp] theorem setLed_analog (l : Ledger) (s : State) : (setLed l s).analog = s.analog := rfl
@[simp] theorem setLed_outs (l : Ledger) (s : State) : (setLed l s).outs = s.outs := rfl
@[simp] theorem setLed_field (l : Ledger) (s : State) : (setLed l s).field = s.field := rfl
@[simp] theorem setLed_can (l : Ledger) (s : State) : (setLed l s).can = s.can := rfl
@[simp] theorem setLed_clock (l : Ledger) (s : State) : (setLed l s).clock = s.clock := rfl
@[simp] theorem setLed_window (l : Ledger) (s : State) : (setLed l s).window = s.window := rfl
@[simp] theorem setLed_pins (l : Ledger) (s : State) : (setLed l s).pins = s.pins := rfl
@[simp] theorem setLed_freeCtr (l : Ledger) (s : State) : (setLed l s).freeCtr = s.freeCtr := rfl
@[simp] theorem setLed_pending (l : Ledger) (s : State) : (setLed l s).pending = s.pending := rfl

/-! A plane -/

@[simp] theorem setLw_sess (l w : Nat) (v : Word) (p : Plane) : (setLw l w v p).sess = p.sess := rfl
@[simp] theorem setLw_scan (l w : Nat) (v : Word) (p : Plane) : (setLw l w v p).scan = p.scan := rfl
@[simp] theorem setLw_axes (l w : Nat) (v : Word) (p : Plane) : (setLw l w v p).axes = p.axes := rfl
@[simp] theorem setLw_safe (l w : Nat) (v : Word) (p : Plane) : (setLw l w v p).safe = p.safe := rfl
@[simp] theorem setLw_trigs (l w : Nat) (v : Word) (p : Plane) : (setLw l w v p).trigs = p.trigs := rfl
@[simp] theorem setLw_masks (l w : Nat) (v : Word) (p : Plane) : (setLw l w v p).masks = p.masks := rfl
@[simp] theorem setLw_tally (l w : Nat) (v : Word) (p : Plane) : (setLw l w v p).tally = p.tally := rfl
@[simp] theorem setLw_sn (l w : Nat) (v : Word) (p : Plane) : (setLw l w v p).sn = p.sn := rfl
@[simp] theorem setLw_clk (l w : Nat) (v : Word) (p : Plane) : (setLw l w v p).clk = p.clk := rfl
@[simp] theorem setLw_evs (l w : Nat) (v : Word) (p : Plane) : (setLw l w v p).evs = p.evs := rfl

@[simp] theorem setLf_sess (l w lo len v : Nat) (p : Plane) : (setLf l w lo len v p).sess = p.sess := rfl
@[simp] theorem setLf_scan (l w lo len v : Nat) (p : Plane) : (setLf l w lo len v p).scan = p.scan := rfl
@[simp] theorem setLf_axes (l w lo len v : Nat) (p : Plane) : (setLf l w lo len v p).axes = p.axes := rfl
@[simp] theorem setLf_safe (l w lo len v : Nat) (p : Plane) : (setLf l w lo len v p).safe = p.safe := rfl
@[simp] theorem setLf_trigs (l w lo len v : Nat) (p : Plane) : (setLf l w lo len v p).trigs = p.trigs := rfl
@[simp] theorem setLf_masks (l w lo len v : Nat) (p : Plane) : (setLf l w lo len v p).masks = p.masks := rfl
@[simp] theorem setLf_tally (l w lo len v : Nat) (p : Plane) : (setLf l w lo len v p).tally = p.tally := rfl
@[simp] theorem setLf_sn (l w lo len v : Nat) (p : Plane) : (setLf l w lo len v p).sn = p.sn := rfl
@[simp] theorem setLf_clk (l w lo len v : Nat) (p : Plane) : (setLf l w lo len v p).clk = p.clk := rfl
@[simp] theorem setLf_evs (l w lo len v : Nat) (p : Plane) : (setLf l w lo len v p).evs = p.evs := rfl

@[simp] theorem setGroup_sess (g : Nat) (v : Group) (p : Plane) : (setGroup g v p).sess = p.sess := rfl
@[simp] theorem setGroup_scan (g : Nat) (v : Group) (p : Plane) : (setGroup g v p).scan = p.scan := rfl
@[simp] theorem setGroup_axes (g : Nat) (v : Group) (p : Plane) : (setGroup g v p).axes = p.axes := rfl
@[simp] theorem setGroup_safe (g : Nat) (v : Group) (p : Plane) : (setGroup g v p).safe = p.safe := rfl
@[simp] theorem setGroup_trigs (g : Nat) (v : Group) (p : Plane) : (setGroup g v p).trigs = p.trigs := rfl
@[simp] theorem setGroup_masks (g : Nat) (v : Group) (p : Plane) : (setGroup g v p).masks = p.masks := rfl
@[simp] theorem setGroup_tally (g : Nat) (v : Group) (p : Plane) : (setGroup g v p).tally = p.tally := rfl
@[simp] theorem setGroup_sn (g : Nat) (v : Group) (p : Plane) : (setGroup g v p).sn = p.sn := rfl
@[simp] theorem setGroup_clk (g : Nat) (v : Group) (p : Plane) : (setGroup g v p).clk = p.clk := rfl
@[simp] theorem setGroup_evs (g : Nat) (v : Group) (p : Plane) : (setGroup g v p).evs = p.evs := rfl

@[simp] theorem setOut_sess (c : Nat) (v : Word) (p : Plane) : (setOut c v p).sess = p.sess := rfl
@[simp] theorem setOut_scan (c : Nat) (v : Word) (p : Plane) : (setOut c v p).scan = p.scan := rfl
@[simp] theorem setOut_axes (c : Nat) (v : Word) (p : Plane) : (setOut c v p).axes = p.axes := rfl
@[simp] theorem setOut_safe (c : Nat) (v : Word) (p : Plane) : (setOut c v p).safe = p.safe := rfl
@[simp] theorem setOut_trigs (c : Nat) (v : Word) (p : Plane) : (setOut c v p).trigs = p.trigs := rfl
@[simp] theorem setOut_masks (c : Nat) (v : Word) (p : Plane) : (setOut c v p).masks = p.masks := rfl
@[simp] theorem setOut_tally (c : Nat) (v : Word) (p : Plane) : (setOut c v p).tally = p.tally := rfl
@[simp] theorem setOut_sn (c : Nat) (v : Word) (p : Plane) : (setOut c v p).sn = p.sn := rfl
@[simp] theorem setOut_clk (c : Nat) (v : Word) (p : Plane) : (setOut c v p).clk = p.clk := rfl
@[simp] theorem setOut_evs (c : Nat) (v : Word) (p : Plane) : (setOut c v p).evs = p.evs := rfl

@[simp] theorem setSw_fab (n w : Nat) (v : Word) (p : Plane) : (setSw n w v p).fab = p.fab := rfl
@[simp] theorem setSw_scan (n w : Nat) (v : Word) (p : Plane) : (setSw n w v p).scan = p.scan := rfl
@[simp] theorem setSw_axes (n w : Nat) (v : Word) (p : Plane) : (setSw n w v p).axes = p.axes := rfl
@[simp] theorem setSw_safe (n w : Nat) (v : Word) (p : Plane) : (setSw n w v p).safe = p.safe := rfl
@[simp] theorem setSw_trigs (n w : Nat) (v : Word) (p : Plane) : (setSw n w v p).trigs = p.trigs := rfl
@[simp] theorem setSw_masks (n w : Nat) (v : Word) (p : Plane) : (setSw n w v p).masks = p.masks := rfl
@[simp] theorem setSw_tally (n w : Nat) (v : Word) (p : Plane) : (setSw n w v p).tally = p.tally := rfl
@[simp] theorem setSw_sn (n w : Nat) (v : Word) (p : Plane) : (setSw n w v p).sn = p.sn := rfl
@[simp] theorem setSw_clk (n w : Nat) (v : Word) (p : Plane) : (setSw n w v p).clk = p.clk := rfl
@[simp] theorem setSw_evs (n w : Nat) (v : Word) (p : Plane) : (setSw n w v p).evs = p.evs := rfl

@[simp] theorem setSf_fab (n w lo len v : Nat) (p : Plane) : (setSf n w lo len v p).fab = p.fab := rfl
@[simp] theorem setSf_scan (n w lo len v : Nat) (p : Plane) : (setSf n w lo len v p).scan = p.scan := rfl
@[simp] theorem setSf_axes (n w lo len v : Nat) (p : Plane) : (setSf n w lo len v p).axes = p.axes := rfl
@[simp] theorem setSf_safe (n w lo len v : Nat) (p : Plane) : (setSf n w lo len v p).safe = p.safe := rfl
@[simp] theorem setSf_trigs (n w lo len v : Nat) (p : Plane) : (setSf n w lo len v p).trigs = p.trigs := rfl
@[simp] theorem setSf_masks (n w lo len v : Nat) (p : Plane) : (setSf n w lo len v p).masks = p.masks := rfl
@[simp] theorem setSf_tally (n w lo len v : Nat) (p : Plane) : (setSf n w lo len v p).tally = p.tally := rfl
@[simp] theorem setSf_sn (n w lo len v : Nat) (p : Plane) : (setSf n w lo len v p).sn = p.sn := rfl
@[simp] theorem setSf_clk (n w lo len v : Nat) (p : Plane) : (setSf n w lo len v p).clk = p.clk := rfl
@[simp] theorem setSf_evs (n w lo len v : Nat) (p : Plane) : (setSf n w lo len v p).evs = p.evs := rfl

@[simp] theorem setSess_fab (v : Sess) (p : Plane) : (setSess v p).fab = p.fab := rfl
@[simp] theorem setSess_scan (v : Sess) (p : Plane) : (setSess v p).scan = p.scan := rfl
@[simp] theorem setSess_axes (v : Sess) (p : Plane) : (setSess v p).axes = p.axes := rfl
@[simp] theorem setSess_safe (v : Sess) (p : Plane) : (setSess v p).safe = p.safe := rfl
@[simp] theorem setSess_trigs (v : Sess) (p : Plane) : (setSess v p).trigs = p.trigs := rfl
@[simp] theorem setSess_masks (v : Sess) (p : Plane) : (setSess v p).masks = p.masks := rfl
@[simp] theorem setSess_tally (v : Sess) (p : Plane) : (setSess v p).tally = p.tally := rfl
@[simp] theorem setSess_sn (v : Sess) (p : Plane) : (setSess v p).sn = p.sn := rfl
@[simp] theorem setSess_clk (v : Sess) (p : Plane) : (setSess v p).clk = p.clk := rfl
@[simp] theorem setSess_evs (v : Sess) (p : Plane) : (setSess v p).evs = p.evs := rfl

@[simp] theorem setPend_fab (n step src : Nat) (p : Plane) : (setPend n step src p).fab = p.fab := rfl
@[simp] theorem setPend_scan (n step src : Nat) (p : Plane) : (setPend n step src p).scan = p.scan := rfl
@[simp] theorem setPend_axes (n step src : Nat) (p : Plane) : (setPend n step src p).axes = p.axes := rfl
@[simp] theorem setPend_safe (n step src : Nat) (p : Plane) : (setPend n step src p).safe = p.safe := rfl
@[simp] theorem setPend_trigs (n step src : Nat) (p : Plane) : (setPend n step src p).trigs = p.trigs := rfl
@[simp] theorem setPend_masks (n step src : Nat) (p : Plane) : (setPend n step src p).masks = p.masks := rfl
@[simp] theorem setPend_tally (n step src : Nat) (p : Plane) : (setPend n step src p).tally = p.tally := rfl
@[simp] theorem setPend_sn (n step src : Nat) (p : Plane) : (setPend n step src p).sn = p.sn := rfl
@[simp] theorem setPend_clk (n step src : Nat) (p : Plane) : (setPend n step src p).clk = p.clk := rfl
@[simp] theorem setPend_evs (n step src : Nat) (p : Plane) : (setPend n step src p).evs = p.evs := rfl

@[simp] theorem setXw_fab (a w : Nat) (v : Word) (p : Plane) : (setXw a w v p).fab = p.fab := rfl
@[simp] theorem setXw_sess (a w : Nat) (v : Word) (p : Plane) : (setXw a w v p).sess = p.sess := rfl
@[simp] theorem setXw_scan (a w : Nat) (v : Word) (p : Plane) : (setXw a w v p).scan = p.scan := rfl
@[simp] theorem setXw_safe (a w : Nat) (v : Word) (p : Plane) : (setXw a w v p).safe = p.safe := rfl
@[simp] theorem setXw_trigs (a w : Nat) (v : Word) (p : Plane) : (setXw a w v p).trigs = p.trigs := rfl
@[simp] theorem setXw_masks (a w : Nat) (v : Word) (p : Plane) : (setXw a w v p).masks = p.masks := rfl
@[simp] theorem setXw_tally (a w : Nat) (v : Word) (p : Plane) : (setXw a w v p).tally = p.tally := rfl
@[simp] theorem setXw_sn (a w : Nat) (v : Word) (p : Plane) : (setXw a w v p).sn = p.sn := rfl
@[simp] theorem setXw_clk (a w : Nat) (v : Word) (p : Plane) : (setXw a w v p).clk = p.clk := rfl
@[simp] theorem setXw_evs (a w : Nat) (v : Word) (p : Plane) : (setXw a w v p).evs = p.evs := rfl

@[simp] theorem setMask_fab (m : Nat) (t : MaskTest) (p : Plane) : (setMask m t p).fab = p.fab := rfl
@[simp] theorem setMask_sess (m : Nat) (t : MaskTest) (p : Plane) : (setMask m t p).sess = p.sess := rfl
@[simp] theorem setMask_scan (m : Nat) (t : MaskTest) (p : Plane) : (setMask m t p).scan = p.scan := rfl
@[simp] theorem setMask_axes (m : Nat) (t : MaskTest) (p : Plane) : (setMask m t p).axes = p.axes := rfl
@[simp] theorem setMask_safe (m : Nat) (t : MaskTest) (p : Plane) : (setMask m t p).safe = p.safe := rfl
@[simp] theorem setMask_trigs (m : Nat) (t : MaskTest) (p : Plane) : (setMask m t p).trigs = p.trigs := rfl
@[simp] theorem setMask_tally (m : Nat) (t : MaskTest) (p : Plane) : (setMask m t p).tally = p.tally := rfl
@[simp] theorem setMask_sn (m : Nat) (t : MaskTest) (p : Plane) : (setMask m t p).sn = p.sn := rfl
@[simp] theorem setMask_clk (m : Nat) (t : MaskTest) (p : Plane) : (setMask m t p).clk = p.clk := rfl
@[simp] theorem setMask_evs (m : Nat) (t : MaskTest) (p : Plane) : (setMask m t p).evs = p.evs := rfl

@[simp] theorem setTrig_fab (e : Nat) (t : Trig) (p : Plane) : (setTrig e t p).fab = p.fab := rfl
@[simp] theorem setTrig_sess (e : Nat) (t : Trig) (p : Plane) : (setTrig e t p).sess = p.sess := rfl
@[simp] theorem setTrig_scan (e : Nat) (t : Trig) (p : Plane) : (setTrig e t p).scan = p.scan := rfl
@[simp] theorem setTrig_axes (e : Nat) (t : Trig) (p : Plane) : (setTrig e t p).axes = p.axes := rfl
@[simp] theorem setTrig_safe (e : Nat) (t : Trig) (p : Plane) : (setTrig e t p).safe = p.safe := rfl
@[simp] theorem setTrig_masks (e : Nat) (t : Trig) (p : Plane) : (setTrig e t p).masks = p.masks := rfl
@[simp] theorem setTrig_tally (e : Nat) (t : Trig) (p : Plane) : (setTrig e t p).tally = p.tally := rfl
@[simp] theorem setTrig_sn (e : Nat) (t : Trig) (p : Plane) : (setTrig e t p).sn = p.sn := rfl
@[simp] theorem setTrig_clk (e : Nat) (t : Trig) (p : Plane) : (setTrig e t p).clk = p.clk := rfl
@[simp] theorem setTrig_evs (e : Nat) (t : Trig) (p : Plane) : (setTrig e t p).evs = p.evs := rfl

@[simp] theorem setSafeAx_fab (a : Nat) (x : SafeAx) (p : Plane) : (setSafeAx a x p).fab = p.fab := rfl
@[simp] theorem setSafeAx_sess (a : Nat) (x : SafeAx) (p : Plane) : (setSafeAx a x p).sess = p.sess := rfl
@[simp] theorem setSafeAx_scan (a : Nat) (x : SafeAx) (p : Plane) : (setSafeAx a x p).scan = p.scan := rfl
@[simp] theorem setSafeAx_axes (a : Nat) (x : SafeAx) (p : Plane) : (setSafeAx a x p).axes = p.axes := rfl
@[simp] theorem setSafeAx_trigs (a : Nat) (x : SafeAx) (p : Plane) : (setSafeAx a x p).trigs = p.trigs := rfl
@[simp] theorem setSafeAx_masks (a : Nat) (x : SafeAx) (p : Plane) : (setSafeAx a x p).masks = p.masks := rfl
@[simp] theorem setSafeAx_tally (a : Nat) (x : SafeAx) (p : Plane) : (setSafeAx a x p).tally = p.tally := rfl
@[simp] theorem setSafeAx_sn (a : Nat) (x : SafeAx) (p : Plane) : (setSafeAx a x p).sn = p.sn := rfl
@[simp] theorem setSafeAx_clk (a : Nat) (x : SafeAx) (p : Plane) : (setSafeAx a x p).clk = p.clk := rfl
@[simp] theorem setSafeAx_evs (a : Nat) (x : SafeAx) (p : Plane) : (setSafeAx a x p).evs = p.evs := rfl

@[simp] theorem setConn_fab (c : Nat) (x : Conn) (p : Plane) : (setConn c x p).fab = p.fab := rfl
@[simp] theorem setConn_sess (c : Nat) (x : Conn) (p : Plane) : (setConn c x p).sess = p.sess := rfl
@[simp] theorem setConn_scan (c : Nat) (x : Conn) (p : Plane) : (setConn c x p).scan = p.scan := rfl
@[simp] theorem setConn_axes (c : Nat) (x : Conn) (p : Plane) : (setConn c x p).axes = p.axes := rfl
@[simp] theorem setConn_trigs (c : Nat) (x : Conn) (p : Plane) : (setConn c x p).trigs = p.trigs := rfl
@[simp] theorem setConn_masks (c : Nat) (x : Conn) (p : Plane) : (setConn c x p).masks = p.masks := rfl
@[simp] theorem setConn_tally (c : Nat) (x : Conn) (p : Plane) : (setConn c x p).tally = p.tally := rfl
@[simp] theorem setConn_sn (c : Nat) (x : Conn) (p : Plane) : (setConn c x p).sn = p.sn := rfl
@[simp] theorem setConn_clk (c : Nat) (x : Conn) (p : Plane) : (setConn c x p).clk = p.clk := rfl
@[simp] theorem setConn_evs (c : Nat) (x : Conn) (p : Plane) : (setConn c x p).evs = p.evs := rfl

@[simp] theorem setScan_fab (x : Scan) (p : Plane) : (setScan x p).fab = p.fab := rfl
@[simp] theorem setScan_sess (x : Scan) (p : Plane) : (setScan x p).sess = p.sess := rfl
@[simp] theorem setScan_axes (x : Scan) (p : Plane) : (setScan x p).axes = p.axes := rfl
@[simp] theorem setScan_safe (x : Scan) (p : Plane) : (setScan x p).safe = p.safe := rfl
@[simp] theorem setScan_trigs (x : Scan) (p : Plane) : (setScan x p).trigs = p.trigs := rfl
@[simp] theorem setScan_masks (x : Scan) (p : Plane) : (setScan x p).masks = p.masks := rfl
@[simp] theorem setScan_tally (x : Scan) (p : Plane) : (setScan x p).tally = p.tally := rfl
@[simp] theorem setScan_sn (x : Scan) (p : Plane) : (setScan x p).sn = p.sn := rfl
@[simp] theorem setScan_clk (x : Scan) (p : Plane) : (setScan x p).clk = p.clk := rfl
@[simp] theorem setScan_evs (x : Scan) (p : Plane) : (setScan x p).evs = p.evs := rfl

@[simp] theorem setSd_fab (a : Nat) (v : Word) (p : Plane) : (setSd a v p).fab = p.fab := rfl
@[simp] theorem setSd_sess (a : Nat) (v : Word) (p : Plane) : (setSd a v p).sess = p.sess := rfl
@[simp] theorem setSd_axes (a : Nat) (v : Word) (p : Plane) : (setSd a v p).axes = p.axes := rfl
@[simp] theorem setSd_safe (a : Nat) (v : Word) (p : Plane) : (setSd a v p).safe = p.safe := rfl
@[simp] theorem setSd_trigs (a : Nat) (v : Word) (p : Plane) : (setSd a v p).trigs = p.trigs := rfl
@[simp] theorem setSd_masks (a : Nat) (v : Word) (p : Plane) : (setSd a v p).masks = p.masks := rfl
@[simp] theorem setSd_tally (a : Nat) (v : Word) (p : Plane) : (setSd a v p).tally = p.tally := rfl
@[simp] theorem setSd_sn (a : Nat) (v : Word) (p : Plane) : (setSd a v p).sn = p.sn := rfl
@[simp] theorem setSd_clk (a : Nat) (v : Word) (p : Plane) : (setSd a v p).clk = p.clk := rfl
@[simp] theorem setSd_evs (a : Nat) (v : Word) (p : Plane) : (setSd a v p).evs = p.evs := rfl

@[simp] theorem setSbit_fab (b : Nat) (v : Bool) (p : Plane) : (setSbit b v p).fab = p.fab := rfl
@[simp] theorem setSbit_sess (b : Nat) (v : Bool) (p : Plane) : (setSbit b v p).sess = p.sess := rfl
@[simp] theorem setSbit_axes (b : Nat) (v : Bool) (p : Plane) : (setSbit b v p).axes = p.axes := rfl
@[simp] theorem setSbit_safe (b : Nat) (v : Bool) (p : Plane) : (setSbit b v p).safe = p.safe := rfl
@[simp] theorem setSbit_trigs (b : Nat) (v : Bool) (p : Plane) : (setSbit b v p).trigs = p.trigs := rfl
@[simp] theorem setSbit_masks (b : Nat) (v : Bool) (p : Plane) : (setSbit b v p).masks = p.masks := rfl
@[simp] theorem setSbit_tally (b : Nat) (v : Bool) (p : Plane) : (setSbit b v p).tally = p.tally := rfl
@[simp] theorem setSbit_sn (b : Nat) (v : Bool) (p : Plane) : (setSbit b v p).sn = p.sn := rfl
@[simp] theorem setSbit_clk (b : Nat) (v : Bool) (p : Plane) : (setSbit b v p).clk = p.clk := rfl
@[simp] theorem setSbit_evs (b : Nat) (v : Bool) (p : Plane) : (setSbit b v p).evs = p.evs := rfl

@[simp] theorem setRlo_fab (b : Bool) (p : Plane) : (setRlo b p).fab = p.fab := rfl
@[simp] theorem setRlo_sess (b : Bool) (p : Plane) : (setRlo b p).sess = p.sess := rfl
@[simp] theorem setRlo_axes (b : Bool) (p : Plane) : (setRlo b p).axes = p.axes := rfl
@[simp] theorem setRlo_safe (b : Bool) (p : Plane) : (setRlo b p).safe = p.safe := rfl
@[simp] theorem setRlo_trigs (b : Bool) (p : Plane) : (setRlo b p).trigs = p.trigs := rfl
@[simp] theorem setRlo_masks (b : Bool) (p : Plane) : (setRlo b p).masks = p.masks := rfl
@[simp] theorem setRlo_tally (b : Bool) (p : Plane) : (setRlo b p).tally = p.tally := rfl
@[simp] theorem setRlo_sn (b : Bool) (p : Plane) : (setRlo b p).sn = p.sn := rfl
@[simp] theorem setRlo_clk (b : Bool) (p : Plane) : (setRlo b p).clk = p.clk := rfl
@[simp] theorem setRlo_evs (b : Bool) (p : Plane) : (setRlo b p).evs = p.evs := rfl

@[simp] theorem addCost_fab (n : Nat) (p : Plane) : (addCost n p).fab = p.fab := rfl
@[simp] theorem addCost_sess (n : Nat) (p : Plane) : (addCost n p).sess = p.sess := rfl
@[simp] theorem addCost_axes (n : Nat) (p : Plane) : (addCost n p).axes = p.axes := rfl
@[simp] theorem addCost_safe (n : Nat) (p : Plane) : (addCost n p).safe = p.safe := rfl
@[simp] theorem addCost_trigs (n : Nat) (p : Plane) : (addCost n p).trigs = p.trigs := rfl
@[simp] theorem addCost_masks (n : Nat) (p : Plane) : (addCost n p).masks = p.masks := rfl
@[simp] theorem addCost_tally (n : Nat) (p : Plane) : (addCost n p).tally = p.tally := rfl
@[simp] theorem addCost_sn (n : Nat) (p : Plane) : (addCost n p).sn = p.sn := rfl
@[simp] theorem addCost_clk (n : Nat) (p : Plane) : (addCost n p).clk = p.clk := rfl
@[simp] theorem addCost_evs (n : Nat) (p : Plane) : (addCost n p).evs = p.evs := rfl

@[simp] theorem setTimer_fab (x : Nat) (t : Timer) (p : Plane) : (setTimer x t p).fab = p.fab := rfl
@[simp] theorem setTimer_sess (x : Nat) (t : Timer) (p : Plane) : (setTimer x t p).sess = p.sess := rfl
@[simp] theorem setTimer_axes (x : Nat) (t : Timer) (p : Plane) : (setTimer x t p).axes = p.axes := rfl
@[simp] theorem setTimer_safe (x : Nat) (t : Timer) (p : Plane) : (setTimer x t p).safe = p.safe := rfl
@[simp] theorem setTimer_trigs (x : Nat) (t : Timer) (p : Plane) : (setTimer x t p).trigs = p.trigs := rfl
@[simp] theorem setTimer_masks (x : Nat) (t : Timer) (p : Plane) : (setTimer x t p).masks = p.masks := rfl
@[simp] theorem setTimer_tally (x : Nat) (t : Timer) (p : Plane) : (setTimer x t p).tally = p.tally := rfl
@[simp] theorem setTimer_sn (x : Nat) (t : Timer) (p : Plane) : (setTimer x t p).sn = p.sn := rfl
@[simp] theorem setTimer_clk (x : Nat) (t : Timer) (p : Plane) : (setTimer x t p).clk = p.clk := rfl
@[simp] theorem setTimer_evs (x : Nat) (t : Timer) (p : Plane) : (setTimer x t p).evs = p.evs := rfl

@[simp] theorem setCtr_fab (x : Nat) (acc : Int) (cu cd : Bool) (p : Plane) : (setCtr x acc cu cd p).fab = p.fab := rfl
@[simp] theorem setCtr_sess (x : Nat) (acc : Int) (cu cd : Bool) (p : Plane) : (setCtr x acc cu cd p).sess = p.sess := rfl
@[simp] theorem setCtr_axes (x : Nat) (acc : Int) (cu cd : Bool) (p : Plane) : (setCtr x acc cu cd p).axes = p.axes := rfl
@[simp] theorem setCtr_safe (x : Nat) (acc : Int) (cu cd : Bool) (p : Plane) : (setCtr x acc cu cd p).safe = p.safe := rfl
@[simp] theorem setCtr_trigs (x : Nat) (acc : Int) (cu cd : Bool) (p : Plane) : (setCtr x acc cu cd p).trigs = p.trigs := rfl
@[simp] theorem setCtr_masks (x : Nat) (acc : Int) (cu cd : Bool) (p : Plane) : (setCtr x acc cu cd p).masks = p.masks := rfl
@[simp] theorem setCtr_tally (x : Nat) (acc : Int) (cu cd : Bool) (p : Plane) : (setCtr x acc cu cd p).tally = p.tally := rfl
@[simp] theorem setCtr_sn (x : Nat) (acc : Int) (cu cd : Bool) (p : Plane) : (setCtr x acc cu cd p).sn = p.sn := rfl
@[simp] theorem setCtr_clk (x : Nat) (acc : Int) (cu cd : Bool) (p : Plane) : (setCtr x acc cu cd p).clk = p.clk := rfl
@[simp] theorem setCtr_evs (x : Nat) (acc : Int) (cu cd : Bool) (p : Plane) : (setCtr x acc cu cd p).evs = p.evs := rfl

@[simp] theorem setFab_sess (f : Fabric) (p : Plane) : (setFab f p).sess = p.sess := rfl
@[simp] theorem setFab_scan (f : Fabric) (p : Plane) : (setFab f p).scan = p.scan := rfl
@[simp] theorem setFab_axes (f : Fabric) (p : Plane) : (setFab f p).axes = p.axes := rfl
@[simp] theorem setFab_safe (f : Fabric) (p : Plane) : (setFab f p).safe = p.safe := rfl
@[simp] theorem setFab_trigs (f : Fabric) (p : Plane) : (setFab f p).trigs = p.trigs := rfl
@[simp] theorem setFab_masks (f : Fabric) (p : Plane) : (setFab f p).masks = p.masks := rfl
@[simp] theorem setFab_tally (f : Fabric) (p : Plane) : (setFab f p).tally = p.tally := rfl
@[simp] theorem setFab_sn (f : Fabric) (p : Plane) : (setFab f p).sn = p.sn := rfl
@[simp] theorem setFab_clk (f : Fabric) (p : Plane) : (setFab f p).clk = p.clk := rfl
@[simp] theorem setFab_evs (f : Fabric) (p : Plane) : (setFab f p).evs = p.evs := rfl

@[simp] theorem setFlowStat_sess (f : Nat) (v : FlowStat) (p : Plane) : (setFlowStat f v p).sess = p.sess := rfl
@[simp] theorem setFlowStat_scan (f : Nat) (v : FlowStat) (p : Plane) : (setFlowStat f v p).scan = p.scan := rfl
@[simp] theorem setFlowStat_axes (f : Nat) (v : FlowStat) (p : Plane) : (setFlowStat f v p).axes = p.axes := rfl
@[simp] theorem setFlowStat_safe (f : Nat) (v : FlowStat) (p : Plane) : (setFlowStat f v p).safe = p.safe := rfl
@[simp] theorem setFlowStat_trigs (f : Nat) (v : FlowStat) (p : Plane) : (setFlowStat f v p).trigs = p.trigs := rfl
@[simp] theorem setFlowStat_masks (f : Nat) (v : FlowStat) (p : Plane) : (setFlowStat f v p).masks = p.masks := rfl
@[simp] theorem setFlowStat_tally (f : Nat) (v : FlowStat) (p : Plane) : (setFlowStat f v p).tally = p.tally := rfl
@[simp] theorem setFlowStat_sn (f : Nat) (v : FlowStat) (p : Plane) : (setFlowStat f v p).sn = p.sn := rfl
@[simp] theorem setFlowStat_clk (f : Nat) (v : FlowStat) (p : Plane) : (setFlowStat f v p).clk = p.clk := rfl
@[simp] theorem setFlowStat_evs (f : Nat) (v : FlowStat) (p : Plane) : (setFlowStat f v p).evs = p.evs := rfl

@[simp] theorem setEntry_sess (l v : Nat) (p : Plane) : (setEntry l v p).sess = p.sess := rfl
@[simp] theorem setEntry_scan (l v : Nat) (p : Plane) : (setEntry l v p).scan = p.scan := rfl
@[simp] theorem setEntry_axes (l v : Nat) (p : Plane) : (setEntry l v p).axes = p.axes := rfl
@[simp] theorem setEntry_safe (l v : Nat) (p : Plane) : (setEntry l v p).safe = p.safe := rfl
@[simp] theorem setEntry_trigs (l v : Nat) (p : Plane) : (setEntry l v p).trigs = p.trigs := rfl
@[simp] theorem setEntry_masks (l v : Nat) (p : Plane) : (setEntry l v p).masks = p.masks := rfl
@[simp] theorem setEntry_tally (l v : Nat) (p : Plane) : (setEntry l v p).tally = p.tally := rfl
@[simp] theorem setEntry_sn (l v : Nat) (p : Plane) : (setEntry l v p).sn = p.sn := rfl
@[simp] theorem setEntry_clk (l v : Nat) (p : Plane) : (setEntry l v p).clk = p.clk := rfl
@[simp] theorem setEntry_evs (l v : Nat) (p : Plane) : (setEntry l v p).evs = p.evs := rfl

@[simp] theorem setTest_sess (l : Nat) (t : Test) (p : Plane) : (setTest l t p).sess = p.sess := rfl
@[simp] theorem setTest_scan (l : Nat) (t : Test) (p : Plane) : (setTest l t p).scan = p.scan := rfl
@[simp] theorem setTest_axes (l : Nat) (t : Test) (p : Plane) : (setTest l t p).axes = p.axes := rfl
@[simp] theorem setTest_safe (l : Nat) (t : Test) (p : Plane) : (setTest l t p).safe = p.safe := rfl
@[simp] theorem setTest_trigs (l : Nat) (t : Test) (p : Plane) : (setTest l t p).trigs = p.trigs := rfl
@[simp] theorem setTest_masks (l : Nat) (t : Test) (p : Plane) : (setTest l t p).masks = p.masks := rfl
@[simp] theorem setTest_tally (l : Nat) (t : Test) (p : Plane) : (setTest l t p).tally = p.tally := rfl
@[simp] theorem setTest_sn (l : Nat) (t : Test) (p : Plane) : (setTest l t p).sn = p.sn := rfl
@[simp] theorem setTest_clk (l : Nat) (t : Test) (p : Plane) : (setTest l t p).clk = p.clk := rfl
@[simp] theorem setTest_evs (l : Nat) (t : Test) (p : Plane) : (setTest l t p).evs = p.evs := rfl

@[simp] theorem setCapt_sess (booth slot : Nat) (v : Word × Word) (p : Plane) : (setCapt booth slot v p).sess = p.sess := rfl
@[simp] theorem setCapt_scan (booth slot : Nat) (v : Word × Word) (p : Plane) : (setCapt booth slot v p).scan = p.scan := rfl
@[simp] theorem setCapt_axes (booth slot : Nat) (v : Word × Word) (p : Plane) : (setCapt booth slot v p).axes = p.axes := rfl
@[simp] theorem setCapt_safe (booth slot : Nat) (v : Word × Word) (p : Plane) : (setCapt booth slot v p).safe = p.safe := rfl
@[simp] theorem setCapt_trigs (booth slot : Nat) (v : Word × Word) (p : Plane) : (setCapt booth slot v p).trigs = p.trigs := rfl
@[simp] theorem setCapt_masks (booth slot : Nat) (v : Word × Word) (p : Plane) : (setCapt booth slot v p).masks = p.masks := rfl
@[simp] theorem setCapt_tally (booth slot : Nat) (v : Word × Word) (p : Plane) : (setCapt booth slot v p).tally = p.tally := rfl
@[simp] theorem setCapt_sn (booth slot : Nat) (v : Word × Word) (p : Plane) : (setCapt booth slot v p).sn = p.sn := rfl
@[simp] theorem setCapt_clk (booth slot : Nat) (v : Word × Word) (p : Plane) : (setCapt booth slot v p).clk = p.clk := rfl
@[simp] theorem setCapt_evs (booth slot : Nat) (v : Word × Word) (p : Plane) : (setCapt booth slot v p).evs = p.evs := rfl

@[simp] theorem setInteg_sess (l : Nat) (x : Int) (p : Plane) : (setInteg l x p).sess = p.sess := rfl
@[simp] theorem setInteg_scan (l : Nat) (x : Int) (p : Plane) : (setInteg l x p).scan = p.scan := rfl
@[simp] theorem setInteg_axes (l : Nat) (x : Int) (p : Plane) : (setInteg l x p).axes = p.axes := rfl
@[simp] theorem setInteg_safe (l : Nat) (x : Int) (p : Plane) : (setInteg l x p).safe = p.safe := rfl
@[simp] theorem setInteg_trigs (l : Nat) (x : Int) (p : Plane) : (setInteg l x p).trigs = p.trigs := rfl
@[simp] theorem setInteg_masks (l : Nat) (x : Int) (p : Plane) : (setInteg l x p).masks = p.masks := rfl
@[simp] theorem setInteg_tally (l : Nat) (x : Int) (p : Plane) : (setInteg l x p).tally = p.tally := rfl
@[simp] theorem setInteg_sn (l : Nat) (x : Int) (p : Plane) : (setInteg l x p).sn = p.sn := rfl
@[simp] theorem setInteg_clk (l : Nat) (x : Int) (p : Plane) : (setInteg l x p).clk = p.clk := rfl
@[simp] theorem setInteg_evs (l : Nat) (x : Int) (p : Plane) : (setInteg l x p).evs = p.evs := rfl

@[simp] theorem setQual_sess (l b : Nat) (v : Bool) (p : Plane) : (setQual l b v p).sess = p.sess := rfl
@[simp] theorem setQual_scan (l b : Nat) (v : Bool) (p : Plane) : (setQual l b v p).scan = p.scan := rfl
@[simp] theorem setQual_axes (l b : Nat) (v : Bool) (p : Plane) : (setQual l b v p).axes = p.axes := rfl
@[simp] theorem setQual_safe (l b : Nat) (v : Bool) (p : Plane) : (setQual l b v p).safe = p.safe := rfl
@[simp] theorem setQual_trigs (l b : Nat) (v : Bool) (p : Plane) : (setQual l b v p).trigs = p.trigs := rfl
@[simp] theorem setQual_masks (l b : Nat) (v : Bool) (p : Plane) : (setQual l b v p).masks = p.masks := rfl
@[simp] theorem setQual_tally (l b : Nat) (v : Bool) (p : Plane) : (setQual l b v p).tally = p.tally := rfl
@[simp] theorem setQual_sn (l b : Nat) (v : Bool) (p : Plane) : (setQual l b v p).sn = p.sn := rfl
@[simp] theorem setQual_clk (l b : Nat) (v : Bool) (p : Plane) : (setQual l b v p).clk = p.clk := rfl
@[simp] theorem setQual_evs (l b : Nat) (v : Bool) (p : Plane) : (setQual l b v p).evs = p.evs := rfl

end Sys2Proof.Machine
end

