-- ==== Sys2Proof/Machine/Kfl.lean ====
section
/-! DEFINITION. The Krydja field link on the wire (15 R465 to R467), and what a compatible station makes of an output frame
(15 R463, R474 to R476, 11 R361). A station is another device: State holds nothing of its inside (log entry 111). -/

namespace Sys2Proof.Machine

/-! Output frames (Tables 15-3, 15-4) -/

/-- The n bytes of a number, low first. -/
def leBytes : Nat → Nat → List Byte
  | 0, _ => []
  | n + 1, x => BitVec.ofNat 8 x :: leBytes n (x / 256)

/-- The n bytes of a number, high first, as Ethernet sends addresses and types (log entry 111). -/
def wireBytes (n x : Nat) : List Byte := (leBytes n x).reverse

/-- A section: its header, then its words. -/
def sectionBytes (x : KSection) : List Byte :=
  leBytes 1 x.addr ++ leBytes 1 (x.data.toNat + x.arm.toNat * 2) ++ leBytes 2 (4 * x.words.length) ++ wordBytes x.ackSn ++ bytesOf x.words

/-- KFL header of the output frame that port p sends. -/
def outHeader (p : Nat) (q : FPort) : List Byte :=
  [0x11, BitVec.ofNat 8 p] ++ leBytes 2 (q.tx.flatMap sectionBytes).length ++ wordBytes q.txSn
    ++ leBytes 1 (fieldCycle q.speed) ++ leBytes 1 q.tx.length ++ leBytes 2 q.epoch.toNat ++ leBytes 4 0

/-- The frame that port p sends, from the destination address to the padding: 03-4B-46-4C-00-0p, its own address, the
EtherType, header and sections. Its FCS is that of IEEE 802.3. -/
def outFrame (p : Nat) (q : FPort) : List Byte :=
  let b := wireBytes 6 (0x034B464C0000 + p) ++ wireBytes 6 q.mac ++ wireBytes 2 0x88B5 ++ outHeader p q ++ q.tx.flatMap sectionBytes
  b ++ List.replicate (60 - b.length) 0

/-! A compatible station -/

/-- A station as its port sees it: what it applied last, and the bits of its status word. -/
structure KflStation where
  lastSn : Option Word := none
  epoch : BitVec 16 := 0
  armed : Bool := false
  safe : Bool := true
  outWd : Bool := false
  ackLag : Bool := false
  outputs : List Word := []
  deriving DecidableEq, Repr, Inhabited

/-- The station applies a frame only if its SN is later than that of the frame it last applied (11 R361). -/
def stationApplies (x : KflStation) (sn : Word) : Bool :=
  match x.lastSn with
  | none => true
  | some n => snLater sn n

/-- A station takes its section of an output frame: words with DATA or ARM, arming, and the late acknowledgement. -/
def stationTakes (sn : Word) (epoch : BitVec 16) (sec : KSection) (x : KflStation) : KflStation :=
  if !stationApplies x sn then x
  else
    let on := x.armed || sec.arm
    { x with
      lastSn := some sn, epoch := epoch, armed := on, safe := !on
      outWd := x.outWd && !(sec.arm && !x.armed)
      ackLag := x.ackLag || snLater sn sec.ackSn
      outputs := if sec.data && on then sec.words else x.outputs }

/-- Its output watchdog expires, not before 3C ticks and 12 µs without an applied frame (R475): its safe state. -/
def stationExpires (x : KflStation) : KflStation := { x with armed := false, safe := true, outWd := true }

/-- Least time of a station's output watchdog, in 0.1 µs. -/
def stationWatchdog (c : Nat) : Nat := 300 * c + 120

/-- Stamp of the inputs that a station samples after the frame of a cycle sample, and the time in 0.1 µs from its
applying that frame to its sampling (R463). -/
def stationStamp (sn : Word) (c : Nat) : Word := sn + word (2 * c)
def stationSamplesAfter (c : Nat) : Nat := 100 * c - 100

/-- Status word of its next input frame (Table 15-5); ACK_LAG starts again with it. -/
def stationStatus (x : KflStation) (mstale : BitVec 16) : Word :=
  word (mstale.toNat + x.outWd.toNat * 2 ^ 28 + x.ackLag.toNat * 2 ^ 29 + x.safe.toNat * 2 ^ 30 + x.armed.toNat * 2 ^ 31)
def stationSent (x : KflStation) : KflStation := { x with ackLag := false }

end Sys2Proof.Machine
end

