-- ==== Sys2Proof/Machine/Package.lean ====
section
/-! DEFINITION. The package (20): the net of every ball (R581, R582), the pins' OFF-state levels (R588), the supplies and
their monitors (R585), the edges of a step/direction sample (R599) and the balls of the boundary cells (R606). Nothing of it
is state: the model's pins are State's own fields. -/

namespace Sys2Proof.Machine

/-! Balls (R581, R582) -/

/-- The net of a ball, with the number of its port, channel, lane or line. -/
inductive Net where
  | ai (k : Nat) (neg : Bool)
  | avss
  | clDrv (k : Nat)
  | clIsns (k : Nat)
  | clVsns (k : Nat)
  | ao (k : Nat)
  | vafe
  | loopvSns
  | refcap (n : Nat)
  | thdA
  | thdK
  /-- lane 0 to 7 FP, 8 and 9 MGT; transmit or receive; the negative ball -/
  | lane (q : Nat) (tx neg : Bool)
  | pcie (l : Nat) (tx neg : Bool)
  | refclk (neg : Bool)
  | gp (n : Nat)
  | pw (n : Nat)
  | sdStep (n : Nat)
  | sdDir (n : Nat)
  /-- signal 0 A, 1 B, 2 Z -/
  | enc (k sig : Nat)
  | sto (k : Nat) (b : Bool)
  /-- place in the control list: 0 CAN0_TX to 62 TRST# -/
  | control (n : Nat)
  | vddio (n : Nat)
  | vddAon
  /-- 0 CA, 1 CB, 2 MA, 3 MB, 4 GND -/
  | vsns (n : Nat)
  | reserved
  | vss
  | vddC (planeB : Bool)
  | vddM (planeB : Bool)
  | vddPhy
  | vdd2h
  | vdd2l
  | vddq
  deriving DecidableEq, Repr

/-- The rows' letters in order of index (Table 20-2): I, O, Q, R, S, X and Z are left out. -/
def rowLetters : List Char :=
  ['A', 'B', 'C', 'D', 'E', 'F', 'G', 'H', 'J', 'K', 'L', 'M', 'N', 'P', 'T', 'U', 'V', 'W', 'Y']

/-- Row index 1 to 45 of a row's name. -/
def rowIndex : List Char → Option Nat
  | [c] => (rowLetters.findIdx? (· == c)).map (· + 1)
  | ['A', c] => (rowLetters.findIdx? (· == c)).map (· + 20)
  | ['B', c] => (rowLetters.findIdx? (· == c)).bind fun n => if n < 7 then some (n + 39) else none
  | _ => none

/-- Named balls of the analogue columns 1 to 10 (Table 20-3). -/
def analogueBall (i j : Nat) : Option Net :=
  if 3 ≤ i ∧ i ≤ 34 then
    if j ≤ 4 then some (.ai (2 * (i - 3) + (j - 1) / 2) (decide (j % 2 = 0)))
    else match j with
      | 6 => some (.clDrv (i - 3))
      | 7 => some (.clIsns (i - 3))
      | 8 => some (.clVsns (i - 3))
      | 9 => some (.ao (i - 3))
      | _ => some .avss
  else if 35 ≤ i ∧ i ≤ 38 ∧ j ≤ 4 then some .vafe
  else if i = 39 then
    match j with
    | 1 => some .loopvSns
    | 2 => some (.refcap 0)
    | 3 => some (.refcap 1)
    | 4 => some .thdA
    | 5 => some .thdK
    | _ => none
  else none

/-- Named balls of columns 11 to 35 (Table 20-3). -/
def middleBall (i j : Nat) : Option Net :=
  if i ≤ 4 then
    if 12 ≤ j ∧ j ≤ 30 ∧ j % 2 = 0 then some (.lane ((j - 12) / 2) (decide (i ≤ 2)) (decide (i % 2 = 0))) else none
  else if 42 ≤ i then
    if 14 ≤ j ∧ j ≤ 23 ∧ (j - 14) % 3 = 0 then some (.pcie ((j - 14) / 3) (decide (i ≤ 43)) (decide (i % 2 = 1)))
    else if j = 29 ∧ i ≤ 43 then some (.refclk (decide (i = 43)))
    else none
  else if j = 23 then
    if i ≤ 12 then some .vddAon
    else if i ≤ 17 then some (.vsns (i - 13))
    else if i ≤ 34 then some .reserved
    else none
  else none

/-- Named balls of the digital columns 36 to 45 (Table 20-3). -/
def digitalBall (i j : Nat) : Option Net :=
  if i ≤ 32 then
    if 42 ≤ j then some (.gp (4 * (i - 1) + (j - 42)))
    else if 40 ≤ j then some (.pw (2 * (i - 1) + (j - 40)))
    else if j = 39 then
      if i ≤ 16 then some (.enc (i - 1) 2) else some (.sto ((i - 17) / 2) (decide (i % 2 = 0)))
    else if j = 38 then some (.enc ((i - 1) / 2) ((i - 1) % 2))
    else if j = 37 then some (if i % 2 = 1 then .sdStep ((i - 1) / 2) else .sdDir ((i - 1) / 2))
    else some (.vddio (1 + (i - 1) / 8))
  else if i ≤ 39 then
    let n := 10 * (i - 33) + (j - 36)
    if n < 63 then some (.control n) else none
  else if i = 40 ∧ j ≤ 43 then some (.vddio 0)
  else if i = 41 ∧ j ≤ 43 then some (.vddio 5)
  else none

/-- The net of a ball of the region that no line of Table 20-3 names (Table 20-4). -/
def regionBall (i j : Nat) : Net :=
  if j ≤ 10 then .avss
  else if 36 ≤ j ∨ i ≤ 4 ∨ 42 ≤ i ∨ j = 23 ∨ (i + j) % 2 = 0 then .vss
  else if i ≤ 30 then .vddC (decide (24 ≤ j))
  else if i ≤ 36 then .vddM (decide (24 ≤ j))
  else if j ≤ 22 then .vddPhy
  else if j ≤ 27 then .vdd2h
  else if j ≤ 31 then .vdd2l
  else .vddq

/-- The net of ball (i, j), for i and j from 1 to 45 (R582). -/
def ballNet (i j : Nat) : Net :=
  (if j ≤ 10 then analogueBall i j else if j ≤ 35 then middleBall i j else digitalBall i j).getD (regionBall i j)

/-- The 2025 balls' nets, row by row. -/
def allBalls : List Net := (upTo 45).flatMap fun i => (upTo 45).map fun j => ballNet (i + 1) (j + 1)

/-- Balls that carry a signal: neither a supply nor ground, nor sense or reserved (the count under Table 20-4). -/
def Net.isSignal : Net → Bool
  | .avss | .vafe | .vddio _ | .vddAon | .vsns _ | .reserved | .vss | .vddC _ | .vddM _ | .vddPhy | .vdd2h | .vdd2l | .vddq =>
    false
  | _ => true

/-- The net that a cell of the boundary register captures (R606). -/
def cellNet (i : Nat) : Net :=
  if i < 128 then .gp i
  else if i < 192 then .pw (i - 128)
  else if i < 224 then if i % 2 = 0 then .sdStep ((i - 192) / 2) else .sdDir ((i - 192) / 2)
  else if i < 272 then .enc ((i - 224) / 3) ((i - 224) % 3)
  else if i < 288 then .sto ((i - 272) / 2) (decide (i % 2 = 1))
  else .control (i - 288)

/-! OFF-state levels (R588) -/

/-- How a pin stands. -/
inductive PinLevel where
  | low
  | high
  /-- an input with the 50 kΩ pull-down -/
  | pulledDown
  /-- an analogue output driven to 0 V -/
  | zeroVolts
  | electricalIdle
  | highImpedance
  deriving DecidableEq, Repr

/-- The OFF-state level of a pin that Table 20-6 names (the MS-240 bus, which shares GP balls, is highImpedance with BUSY# low). -/
def offLevel : Net → Option PinLevel
  | .ao _ | .clDrv _ => some .zeroVolts
  | .pw _ | .sdStep _ | .sdDir _ | .sto _ _ => some .low
  | .gp _ => some .pulledDown
  | .lane _ tx _ | .pcie _ tx _ => if tx then some .electricalIdle else none
  | .control n =>
    if n < 16 then if n % 2 = 0 then some .high else none
    else if 19 ≤ n ∧ n ≤ 21 then some .low
    else if 43 ≤ n ∧ n ≤ 57 then some .low
    else if n = 61 then some .highImpedance
    else none
  | _ => none

/-! Supplies and their monitors (R585) -/

/-- Limits of a supply in mV: the operating range, and where its monitor trips: below the one, above the other. -/
structure SupplyLimits where
  lowest : Nat
  highest : Nat
  tripBelow : Nat
  tripAbove : Nat
  deriving DecidableEq, Repr

/-- Voltage in mV that a VID code requests (18 R555). -/
def vidMillivolts (code : Nat) : Nat := 650 + 10 * code

/-- A monitored supply's limits (Table 20-5), VDD_M at the level voltage `mv`. The VDDIO banks have no monitor, and LOOPV is
only reported (14 R452). -/
def supplyLimits (mv : Nat) : Net → Option SupplyLimits
  | .vddC _ => some { lowest := 725, highest := 775, tripBelow := 700, tripAbove := 800 }
  | .vddM _ => some { lowest := mv - 20, highest := mv + 25, tripBelow := mv - 60, tripAbove := 850 }
  | .vddAon => some { lowest := 760, highest := 840, tripBelow := 740, tripAbove := 860 }
  | .vddPhy => some { lowest := 870, highest := 930, tripBelow := 850, tripAbove := 950 }
  | .vdd2h => some { lowest := 1010, highest := 1120, tripBelow := 990, tripAbove := 1140 }
  | .vdd2l => some { lowest := 870, highest := 970, tripBelow := 850, tripAbove := 990 }
  | .vddq => some { lowest := 470, highest := 570, tripBelow := 460, tripAbove := 580 }
  | .vafe => some { lowest := 4750, highest := 5250, tripBelow := 4600, tripAbove := 5400 }
  | _ => none

/-- The monitor sees the supply outside its trip limits. -/
def supplyTrips (x : SupplyLimits) (mv : Nat) : Bool := decide (mv < x.tripBelow ∨ x.tripAbove < mv)

/-- Place of a supply in the order in which the board raises them (R586). -/
def supplyOrder : Net → Option Nat
  | .vddAon | .vddio 0 => some 1
  | .vddPhy | .vdd2h | .vafe | .vddio _ => some 2
  | .vdd2l => some 3
  | .vddq => some 4
  | .vddC _ | .vddM _ => some 5
  | _ => none

/-- The I/O bank of a digital pin, supplied by VDDIO of its number (Table 20-9). -/
def bankOf : Net → Option Nat
  | .gp n => some (if n < 64 then 1 else 2)
  | .pw _ => some 3
  | .sdStep _ | .sdDir _ | .enc _ _ | .sto _ _ => some 4
  | .control n => some (if n < 16 then 5 else 0)
  | _ => none

/-! Step and direction edges (R599, 08 R278) -/

/-- Rising and falling edges of the k pulses of a sample, after its t0, in ns. A rise is that of the exact grid rounded down. -/
def stepEdges (k pwSel : Nat) : List (Nat × Nat) :=
  (upTo k).map fun i =>
    let rise := 8500 + i * 9000 / k
    (rise, rise + (pwSel + 1) * 100)

end Sys2Proof.Machine
end

