-- ==== Sys2Proof/Tests/Slice0.lean ====
section
/-! SUPPORT. The checks of WellFormed refuse, small steps against values of the spec, and states that meet the hypotheses
of the statements. -/

namespace Sys2Proof.Machine.Tests

/- One theorem at a time: theorems that the kernel decides wait for one another, and every waiting one holds a thread. -/
set_option Elab.async false


/-! Ill-formed commands are refused -/

/-- A host command from a queue pair that does not exist is refused (02 R51). -/
theorem test_wf_host_queue :
    (hostRows.all fun r => !(r.2 { qp := 64 }).wf) = true := by decide
/-- A host command whose TARGET is wider than its word is refused (02 Table 2-8). -/
theorem test_wf_host_target :
    (hostRows.all fun r => !(r.2 { target := 2 ^ 32 }).wf) = true := by decide
/-- A host command with more than twelve parameters is refused (02 Table 2-8). -/
theorem test_wf_host_params :
    (hostRows.all fun r => !(r.2 { params := List.replicate 13 0 }).wf) = true := by decide
/-- A host command within those bounds is well-formed. -/
theorem test_wf_host_good :
    (hostRows.all fun r => (r.2 { qp := 63, target := 2 ^ 32 - 1, params := List.replicate 12 0 }).wf) = true := by decide

/-- A queue pair, counter, source, channel, page, register, link or entry that does not exist (02 R47, R51, 12 R380). -/
theorem test_wf_front :
    ([
      .qpEnable 64 0, .qpDisable 64 0, .qpSqTail 64 0, .qpCqHead 64 0, .qpRetryClear 64,
      .readClearCounter 0x1014, .readClearCounter 0x601C, .evtCfgWrite 512 0, .evtAck 512 0,
      .dmaChResume 16 [], .dmaChStop 16, .xlatInvPage (2 ^ 36), .registerWrite 2 false 0,
      .registerWrite 4 true 0, .registerWrite 0x100000 false 0, .linkUp 32 4, .linkUp 16 8,
      .entryFetch 64 (List.replicate 16 0) [], .entryFetch 0 (List.replicate 15 0) [],
      .coalesceTimeout 64, .timedPlacement 64 0, .forwardedCommit 64 (Forwarded.mk 0 false)] : List Instr).all (fun i => !i.wf) = true := by decide

/-- A count of input registers, a loop, port, slot, booth, session, engine or channel outside its range (03, 04, 05). -/
theorem test_wf_loops :
    ([
      .inputCut [0, 0, 0] [] 0, .inputCut [0, 0, 0, 0] (List.replicate 17 0) 0,
      .tokenDelivery 1024 0 0 false 0 0 0 0, .tokenDelivery 0 4 0 false 0 0 0 0,
      .tokenDelivery 0 0 0 false 0 100 0 0, .tokenDelivery 0 0 0 false 0 0 13 0,
      .tokenDelivery 0 0 0 false 0 0 0 8, .taskFire 16, .loopExecution 1024, .coastLimitReached 1024,
      .staleLimitReached 1024, .stepDurationDue 128, .triggerArmed 16, .triggerWindowComplete 16,
      .outputCommit [4352], .boothPowerDown 4, .boothWakeDone 4, .intervalClose 16] : List Instr).all (fun i => !i.wf) = true := by decide

/-- A plane that is neither A nor B, a resignation class or unit outside its range (11 R345, R362). -/
theorem test_wf_planes :
    ([
      .planeResignation 0 1 0, .planeResignation 1 0 0, .planeResignation 1 6 0,
      .planeResignation 1 1 256, .healthReport 3 true, .selfTestSlice 0 true, .diagnosisPassed 0,
      .suspectTimeout 0, .resyncCopyRound 3, .resyncFinalCut 3, .resyncComplete 0, .resyncTimeout 0] : List Instr).all (fun i => !i.wf) = true := by decide

/-- An axis, a pair of safe outputs or a safety connection that does not exist (08, 09). -/
theorem test_wf_motion :
    ([
      .axisTick 64, .stallDeclared 64, .discrepancyDemand 64, .ss1TorqueOff 64, .stoTestPulse 8 true,
      .safetyPduReceive 64 [], .safetyWatchdogExpiry 64, .safetyPduSend 64] : List Instr).all (fun i => !i.wf) = true := by decide

/-- A bit address, an index or an event outside its field of the instruction word (07 Table 7-2). -/
theorem test_wf_scan_bits :
    ([
      .rung 65536, .andBit 0x200000, .andnBit 0x200000, .orBit 0x200000, .ornBit 0x200000,
      .outBit 0x200000, .setBit 0x200000, .rstBit 0x200000, .rEdge 0x2000, .fEdge 0x2000, .ton 0x2000,
      .tof 0x2000, .tp 0x2000, .tres 0x2000, .ctu 0x2000, .ctd 0x2000, .cres 0x2000, .holds 0x2000,
      .park 0x2000, .force 0x2000, .evt 0x2000 0, .evt 0 0x10000] : List Instr).all (fun i => !i.wf) = true := by decide

/-- A word address wider than sixteen bits (07 Table 7-2). -/
theorem test_wf_scan_words :
    ([
      .cgt 0x10000 0, .cge 0x10000 0, .clt 0x10000 0, .cle 0x10000 0, .ceq 0x10000 0, .cne 0x10000 0,
      .mov 0x10000 0, .movi 0x10000 0, .cgt 0 0x10000, .cge 0 0x10000, .clt 0 0x10000, .cle 0 0x10000,
      .ceq 0 0x10000, .cne 0 0x10000, .mov 0 0x10000, .lim 0x10000 0 0, .lim 0 0x10000 0,
      .lim 0 0 0x10000] : List Instr).all (fun i => !i.wf) = true := by decide

/-- A requester, an error class, a channel or a queue pair outside its range (12, 13). -/
theorem test_wf_memory :
    ([
      .dramGrant 64 0, .dramGrant 0 4, .scrubBlock 3, .dmaBurst 3, .translationWalk 16 0 [],
      .translationWalk 0 64 [], .dmaSuspendTimeout 1, .dmaSuspendTimeout 16, .completionTimeout 16 0,
      .completionTimeout 0 64] : List Instr).all (fun i => !i.wf) = true := by decide

/-- A channel, a group, a phase, a coefficient count or a code outside its range (14). -/
theorem test_wf_analog :
    ([
      .aiConversion 64 [] false, .ne43Recovery 64, .injectedTrigger 4 0 [],
      .injectedTrigger 0 2000 [], .calRotationStart 4, .calHandover 4 0, .calCoeffLoaded 4 [] true,
      .calCoeffLoaded 0 (List.replicate 9 (0, 0)) true, .afeTestDone 68 0, .clMeasure 32 0 false,
      .complianceLost 32, .complianceRestored 32, .clOpen 32, .retransmitAlarm 32,
      .loopvMeasure 0x10000, .aoOverload 32 true, .pwmPeriodStart 64] : List Instr).all (fun i => !i.wf) = true := by decide

/-- A field port, a station, a management port, a message kind or a compare unit that does not exist (15). -/
theorem test_wf_field :
    ([
      .frameReceive 8 {}, .frameDelivery 8, .outputFrameSend 8, .stationLost 256, .fieldLinkDown 8,
      .fieldLinkUp 8, .ptpMessageReceive 2 {}, .ptpMessageSend 4, .ptpMessageSend 10,
      .mgtLinkChange 2 true, .timeCompareFire 4] : List Instr).all (fun i => !i.wf) = true := by decide

/-- A CAN channel or a schedule slot that does not exist (16). -/
theorem test_wf_can :
    ([
      .canFrameReceive 8 {} 0, .canSchedRelease 8 0, .canSchedRelease 0 32, .canTxComplete 8,
      .canTxError 8, .canArbitrationLost 8, .referenceMessage 8 true, .busOffRecovery 8,
      .canIntegrationDone 8, .canReceiveError 8] : List Instr).all (fun i => !i.wf) = true := by decide

/-- A boot strap, a supply domain, a crystal, a plane, a clock source or a counter that does not exist (17, 18). -/
theorem test_wf_power :
    ([
      .porstRelease { bootSel := 4 }, .warmRstRelease { bootSel := 4 }, .supplyTrip 20,
      .supplyRestored 20, .crystalStable 3, .pllLock 0, .firmwareChecked 3 true true,
      .selfTestDone 0 true, .planeReady 0, .startupTimeout 3, .crystalStartTimeout 0,
      .clockMonitorTrip 0 false 1, .clockMonitorTrip 1 false 0, .clockMonitorTrip 1 false 4,
      .sharedClockTrip 1 1, .sharedClockTrip 5 1, .sharedClockTrip 2 0, .sharedClockTrip 2 3,
      .clockSourceRecovered 8, .planeAligned 0, .trimLimit 0, .droopFallback 3, .levelSettleExpiry 0,
      .measurementDone 8 0 false, .rcStable 2, .pllLockTimeout 0] : List Instr).all (fun i => !i.wf) = true := by decide

/-- A bypass pattern longer than its scan, a window address or loop outside the window (19). -/
theorem test_wf_ports :
    ([
      .tapBypass 4 2, .winSpHi 64 0, .winSpLo 64 0, .winMoHi 64 0, .winMoLo 64 0, .winMode 64 0,
      .windowStatusRead 0x400, .windowStatusRead 4, .windowRead 0x1000] : List Instr).all (fun i => !i.wf) = true := by decide

/-- The last value of each of those ranges is well-formed. -/
theorem test_wf_good :
    ([
      .qpEnable 63 0, .readClearCounter 0x1FD8, .readClearCounter 0x6018, .evtAck 511 0,
      .dmaChResume 15 [], .xlatInvPage (2 ^ 36 - 1), .registerWrite 0xFFFFC false 0,
      .registerWrite 0xFFFF8 true 0, .linkUp 2 1, .entryFetch 63 (List.replicate 16 0) [],
      .inputCut [0, 0, 0, 0] [] 0, .tokenDelivery 1023 3 0 false 0 99 12 7, .stepDurationDue 127,
      .outputCommit [4351], .planeResignation 2 5 255, .axisTick 63, .safetyPduSend 63, .rung 65535,
      .outBit 0x1FFFFF, .ton 0x1FFF, .lim 0xFFFF 0xFFFF 0xFFFF, .evt 0x1FFF 0xFFFF, .dramGrant 63 2,
      .dmaSuspendTimeout 15, .injectedTrigger 3 1999 [], .afeTestDone 67 0, .ptpMessageSend 11,
      .timeCompareFire 3, .canSchedRelease 7 31, .porstRelease { bootSel := 3 }, .sharedClockTrip 4 2,
      .clockSourceRecovered 7, .rcStable 4, .tapBypass 3 2, .windowStatusRead 0x3F8,
      .windowStatusRead 0x404, .windowRead 0xFFF] : List Instr).all (fun i => i.wf) = true := by decide

/-! Single steps against the worked examples of the spec -/

/-- The state of most tests and witnesses: the planes elected, the link up, queue pair 0 enabled, one DMA window open. -/
def testState (dev : DevState) : State :=
  { dev := dev, sn := 100
    hif := { linkUp := true, linkRate := 16, linkWidth := 4, qps := [(0, { ctrl := 0x4401 })] }
    boot := { porst := false, preTick := false, firstCommit := true }
    ump := { a := { code := 1 }, b := { code := 2, agreed := true } }
    sealed := { read := true }
    mem := { wins := [(0, { limit := 0xFFFFFFFF, ctrl := 7 })] }
    clock := { powered := (upTo 20).map fun d => (d, true) } }

/-- A command answers a next state that satisfies q. -/
def answers (o : Outcome) (q : State → Bool) : Bool :=
  match o with
  | .next t => q t
  | _ => false

/-- The bytes of words stand in host memory from address a on. -/
def holdsWords (s : State) (a : Nat) (ws : List Word) : Bool :=
  (upTo (4 * ws.length)).all fun i => hostRead s (a + i) == (bytesOf ws)[i]?

/-- 00, worked example: SN 5 is 11 ticks later than SN 0xFFFF_FFFA. -/
theorem test_sn_wraps : snLater 5 0xFFFFFFFA = true ∧ snDiff 5 0xFFFFFFFA = 11 := by decide +kernel

/-- 07, worked example: the words of ten instructions. -/
theorem test_scan_words :
    [wordX 0x01 12, wordX 0x03 0x2580, wordX 0x04 0x62291, wordX 0x10 4, wordX 0x21 5, wordX 0x01 13, wordX 0x02 0x62012,
      wordX 0x03 0x62013, wordX 0x0D 0, wordX 0x0B 0xA3A09]
    = [0x040000000000000C, 0x0C00000000002580, 0x1000000000062291, 0x4000000000000004, 0x8400000000000005,
      0x040000000000000D, 0x0800000000062012, 0x0C00000000062013, 0x3400000000000000, 0x2C000000000A3A09] := by
  decide +kernel

/-- 02, worked example: an ABORT of a timed LOOP_SET_SP of QP2; both completion entries. -/
theorem test_abort_of_a_timed_command :
    let q2 : QPair := { ctrl := 0x6601, cqBase := 0x2000, sqHead := 18, sqTail := 18, cqTail := 39, cqHead := 39, seq := 39 }
    let sub : Sub := { qp := 2, tag := 0x41, flags := 2, target := 0x82, params := [0x00533333], atSn := 0x0012D6F0 }
    let c : Cmd := { sub := sub, op := 0x10, wait := .timed }
    let qps : Tab QPair := [(0, { ctrl := 0x4401, cqBase := 0x1000 }), (2, q2)]
    let h := { (testState .run).hif with qps := qps, cmds := [c] }
    answers (exec (.abort { tag := 7, target := 2, params := [0x41] }) { testState .run with sn := 0x0012D6E8, hif := h })
      (fun t => holdsWords t (0x2000 + 16 * 39) [0x04010041, 0, 0, 0x80120027]
        && holdsWords t 0x1000 [0x00000007, 0x0012D6E8, 0, 0x80010000]) = true := by
  decide +kernel

/-- 01, worked example: AO5 asks for 0.452 FS, and its slew limit admits 0.430 FS. -/
theorem test_commit_is_slew_limited :
    answers (exec (.outputCommit []) { testState .run with
        planeA := { fab := { outReg := [(5, 0x0073B646)] } }
        sealed := { valid := true, regs := [(36, 838861), (37, 15099494), (38, 335544)] }
        outs := { chan := [(5, 6878659)], have_ := [(5, true)] } })
      (fun t => tget 0 t.outs.chan 5 == 0x006E147B && tget false t.outs.fenced 5) = true := by
  decide +kernel

/-- 19, worked example: the code 0xC00 of a set-point, and the read of PV at 0x026. -/
theorem test_window_codes :
    codeValue 0xC 0 = 0x00C00000
    ∧ answers (exec (.windowRead 0x026) { testState .run with
        window := { legacy := true }, planeA := { (({} : Plane)) with fab := { ctxRel := tset 0 [] (64 * 2 + wPv) 0x00BF5C29 } } }) (fun t => t.window.dout == 0x0BF6) = true := by
  decide +kernel

/-- 19, worked example: a read of 0x404 returns SWITCH and clears it. -/
theorem test_window_status_read :
    answers (exec (.windowStatusRead 0x404) (setWstat 5 { testState .run with window := { legacy := true } }))
      (fun t => t.window.dout == 0x0020 && statusValue t 0x404 == 0) = true := by
  decide +kernel

/-- 17, worked example: the record of a stall of axis 12, but for its CRC. -/
theorem test_event_record :
    let s : State := { testState .run with led := { evrGen := 3, pcc := 217 } }
    let e : Ev := { sn := 0x00B00000, src := 0x10C, data := 0x00060102, plane := 1, tNs := 0x0000001ADB000000, opsec := 0x00BC614E }
    let ws := recordWords s e 40000
    (ws.take 8 == [0x0003110C, 0x00B00000, 0x00BC614E, 0x000000D9, 0xDB000000, 0x0000001A, 0x00060102, 0x00009C40]) = true
      ∧ wordAt ws 15 = 0x564C4441 := by
  decide +kernel

/-- 15, worked example: the lengths of the frames of FP3. -/
theorem test_frame_lengths :
    let x := fun i o : Nat => ({ en := true, mods := [(0, o, i)] } : Station)
    let s := { testState .ready with field := { stations := [(96, x 64 32), (97, x 64 32), (98, x 16 16), (99, x 2 2)] } }
    outLength s 3 = 394 ∧ [96, 97, 98, 99].map (fun k => inLength (station s k)) = [290, 290, 98, 64] := by
  decide +kernel

/-- 08, worked example: AX_MOVE of a MOVING axis completes with TARGET_LOCKED (0x0203). -/
theorem test_move_of_a_moving_axis :
    answers (exec (.axMove { tag := 1, target := 12, params := [0, 500000, 0, 0x8000, 0x100, 0x100, 0x10] }) { testState .run with
        planeA := setXw 12 xAstat 2 {}
        hif := { (testState .run).hif with qps := [(0, { ctrl := 0x4401, cqBase := 0x1000 })] } })
      (fun t => holdsWords t 0x1000 [0x02030001]) = true := by
  decide +kernel

/-- 14, worked example: a loop at 0.750 FS that was asked for 0.800 FS counts SHORT_CNT; at 3 it loses compliance. -/
theorem test_short_current_loop :
    answers (exec (.clMeasure 7 12582912 true) { testState .run with outs := { chan := [(39, 0x00CCCCCD)] } })
      (fun t => (clOf t 7).shortCnt == 1) = true
    ∧ answers (exec (.complianceLost 7) { testState .run with analog := { cl := [(7, { shortCnt := 3 })] } })
      (fun t => (clOf t 7).lost && t.evts.queue.any fun e => e.src == 0x1B5 && e.data == 0x0701) = true := by
  decide +kernel

/-- 07 R233: F_EDGE is true on the cycle after its RLO fell, and keeps the new RLO. -/
theorem test_falling_edge :
    let p : ScanProg := { instrs := [wordX 0x0E 5] }
    let pl := setSbit (0xA000 * 32 + 5) true { scan := { executing := true, prog := some p } }
    answers (exec (.fEdge 5) { testState .run with planeA := pl })
      (fun t => rloOf t.planeA && !sbit t.planeA (0xA000 * 32 + 5)) = true := by
  decide +kernel

/-- 12 R381, 17 R533: PORST# takes the device to OFF, and its counts of power cycles stay. -/
theorem test_porst :
    answers (exec .porstAssert { testState .safe with led := { pcc := 217 } })
      (fun t => t.dev == .off && t.boot.porst && t.led.pcc == 217) = true := by
  decide +kernel

/-- The words of the table give no bits. -/
theorem test_no_word_is_a_command : decodeTableWord 32 0 = none := by decide

/-- 20, the net counts under Table 20-4. -/
theorem test_net_counts :
    ([Net.vss, .avss, .vddC false, .vddC true, .vddM false, .vddM true, .vddPhy, .vdd2h, .vdd2l, .vddq, .vddAon, .vafe,
      .vddio 0, .vddio 3, .reserved].map fun n => allBalls.count n)
      = [644, 173, 156, 156, 36, 36, 30, 10, 10, 10, 8, 16, 8, 8, 17]
    ∧ (allBalls.filter Net.isSignal).length = 670 := by
  decide +kernel

/-- 20 R582: CAN0_TX lies at AP36, PORST# at AT42 and TRST# at BA38. -/
theorem test_control_balls :
    rowIndex ['A', 'P'] = some 33 ∧ ballNet 33 36 = .control 0
    ∧ rowIndex ['A', 'T'] = some 34 ∧ ballNet 34 42 = .control 16
    ∧ rowIndex ['B', 'A'] = some 39 ∧ ballNet 39 38 = .control 62 := by
  decide

/-- FIPS 180-4, SHA-256 of "abc". -/
theorem test_sha256 :
    beNat (sha256 [0x61, 0x62, 0x63]) = 0xba7816bf8f01cfea414140de5dae2223b00361a396177a9cb410ff61f20015ad := by
  decide +kernel

/-- 14 R446: a period of 2000 with 500 counts high, CENTRE, begins its high time at count 750. -/
theorem test_pwm_centre :
    let x : Pwm := { centre := true, high := 500, running := true }
    pwmLevel x 749 = false ∧ pwmLevel x 750 = true ∧ pwmLevel x 1249 = true ∧ pwmLevel x 1250 = false := by
  decide

/-! States that meet the hypotheses of the statements: one theorem for each statement, one part for each clause -/

/-- A command of queue pair 0 that waits for its cut. -/
def testCmd : Cmd := { sub := { tag := 3 }, op := 0x06 }

/-! A sealed image that passes its check: every fence has its four words at 1, safety connection 0 has a byte of data, the
word of the CRC is what sealCrc gives, and every other word is 0. -/

/-- Words of the image but for the CRC. -/
def sealBase (i : Nat) : Word :=
  if i = 0 then 0x4C535841 else if i = 1 then 1 else if i = 2 then 1 else if i = 3 then 0x13000 else if i = 4 then 5
  else if 16 ≤ i ∧ i < 528 then 1 else if i = 18177 then 0x00010000 else 0

/-- Words of the image with a CRC word. -/
def sealImage (crc : Word) : List Word := (upTo (sealBytes / 4)).map fun i => if i = 15 then crc else sealBase i

theorem sealImage_length (crc : Word) : (sealImage crc).length = sealBytes / 4 := by simp [sealImage, upTo]

theorem sealWord_image (crc : Word) (i : Nat) (h : i < 19456) :
    sealWord (sealTab (sealImage crc)) i = if i = 15 then crc else sealBase i := by
  have hl : ((sealImage crc).take (sealBytes / 4)) = sealImage crc :=
    List.take_of_length_le (by simp [sealImage_length])
  rw [sealWord, sealTab, hl, tget_tsetMany, if_pos (by rw [sealImage_length, sealBytes]; omega)]
  simp [sealImage, upTo, sealBytes, List.getD_eq_getElem?_getD, h]

theorem sealCrc_image (a b : Word) : sealCrc (sealTab (sealImage a)) = sealCrc (sealTab (sealImage b)) := by
  have h : ∀ l : List Nat, (∀ i ∈ l, i < 19456 ∧ i ≠ 15) →
      l.map (sealWord (sealTab (sealImage a))) = l.map (sealWord (sealTab (sealImage b))) := by
    intro l hl
    apply List.map_congr_left
    intro i hi
    rw [sealWord_image _ _ (hl i hi).1, sealWord_image _ _ (hl i hi).1, if_neg (hl i hi).2, if_neg (hl i hi).2]
  have ht : (upTo (sealBytes / 4)).take 15 = List.range 15 := by decide +kernel
  have hd : (upTo (sealBytes / 4)).drop 16 = (List.range 19440).map (16 + ·) := by
    rw [upTo, show sealBytes / 4 = 16 + 19440 from rfl, List.range_add, List.drop_left' (by simp)]
  unfold sealCrc sealWords
  rw [← List.map_take, ← List.map_take, ← List.map_drop, ← List.map_drop, ht, hd, h (List.range 15), h]
  · intro i hi
    obtain ⟨k, hk, rfl⟩ := List.mem_map.1 hi
    have := List.mem_range.1 hk
    omega
  · intro i hi
    have := List.mem_range.1 hi
    omega

/-- The words of t are those of the image, and its CRC word fits. -/
structure SealGood (t : Tab Word) : Prop where
  base : ∀ i, i < 19456 → i ≠ 15 → sealWord t i = sealBase i
  crc : sealWord t 15 = sealCrc t

theorem exists_sealGood : ∃ ws : List Word, SealGood (sealTab ws) := by
  obtain ⟨crc, hc⟩ : ∃ crc, crc = sealCrc (sealTab (sealImage 0)) := ⟨_, rfl⟩
  refine ⟨sealImage crc, fun i h h15 => ?_, ?_⟩
  · rw [sealWord_image _ _ h, if_neg h15]
  · rw [sealWord_image _ _ (by omega), if_pos rfl, hc]
    exact sealCrc_image _ _

theorem SealGood.slw_eq {t : Tab Word} (g : SealGood t) (i : Nat) (h : i < 19456) (h15 : i ≠ 15) :
    slw (asForce t) i = sealBase i := g.base i h h15

theorem sealBase_one (i : Nat) (h : 16 ≤ i) (h' : i < 528) : sealBase i = 1 := by
  unfold sealBase
  rw [if_neg (by omega), if_neg (by omega), if_neg (by omega), if_neg (by omega), if_neg (by omega), if_pos ⟨h, h'⟩]

theorem sealBase_zero (i : Nat) (h : 528 ≤ i) (h' : i ≠ 18177) : sealBase i = 0 := by
  unfold sealBase
  rw [if_neg (by omega), if_neg (by omega), if_neg (by omega), if_neg (by omega), if_neg (by omega), if_neg (by omega),
    if_neg h']

theorem SealGood.fence_ok {t : Tab Word} (g : SealGood t) (c : Nat) (h : c < 4224) : fenceFails (asForce t) c = false := by
  by_cases hc : c < 128
  · have f : ∀ k, k < 4 → fence (asForce t) c k = 1 := by
      intro k hk
      rw [fence, g.slw_eq _ (by omega) (by omega), sealBase_one _ (by omega) (by omega)]
    simp [fenceFails, f]
  · simp only [fenceFails, analogChan]
    rw [g.slw_eq _ (by omega) (by omega), sealBase_zero _ (by omega) (by omega)]
    simp [hc, bit]

theorem SealGood.srec_ok {t : Tab Word} (g : SealGood t) (a w : Nat) (ha : a < 64) (hw : w < 16) : srec (asForce t) a w = 0 := by
  rw [srec, g.slw_eq _ (by omega) (by omega), sealBase_zero _ (by omega) (by omega)]

theorem SealGood.crec_ok {t : Tab Word} (g : SealGood t) (c : Nat) (hc : c < 64) :
    crec (asForce t) c 1 = if c = 0 then 0x00010000 else 0 := by
  rw [crec, g.slw_eq _ (by omega) (by omega)]
  split
  · subst_vars
    decide +kernel
  · rw [sealBase_zero _ (by omega) (by omega)]

theorem SealGood.axis_ok {t : Tab Word} (g : SealGood t) (a : Nat) (h : a < 64) : badAxisRec (asForce t) a = false := by
  have h0 := g.srec_ok a 0 h (by omega)
  have h11 := g.srec_ok a 11 h (by omega)
  have h12 := g.srec_ok a 12 h (by omega)
  have hc := g.crec_ok 0 (by omega)
  have e : ∀ f, safeEn (asForce t) a f = false := by
    intro f
    rw [safeEn, h0]
    simp [bit]
  have z : ∀ lo len, field 0#32 lo len = 0 := by
    intro lo len
    simp [field, fieldN]
  have ha : ∀ f, actAddr (asForce t) a f = 0 := by
    intro f
    simp [actAddr, h11, h12, z]
  simp [badAxisRec, ha, safeSrc, safePair, stopBit, badSafeBit, connLen, h0, h12, e, z, hc]
  decide

theorem SealGood.conn_ok {t : Tab Word} (g : SealGood t) (s : State) (c : Nat) (h : c < 64) : badConnRec s (asForce t) c = false := by
  simp only [badConnRec, g.crec_ok c h]
  split <;> rfl

theorem SealGood.seal_ok {t : Tab Word} (g : SealGood t) (s : State) (h : newerSlot s.sealed = none) : sealCheck s t = 0 := by
  have h1 : (sealHeader t) = true := by
    simp only [sealHeader, g.base _ (show 0 < 19456 by omega) (by omega),
      g.base _ (show 1 < 19456 by omega) (by omega), g.base _ (show 3 < 19456 by omega) (by omega)]
    decide +kernel
  have h2 : ((upTo 9).any fun i => sealWord t (6 + i) != 0) = false := by
    rw [List.any_eq_false]
    intro i hi
    have : i < 9 := by simpa [upTo] using hi
    rw [g.base _ (by omega) (by omega)]
    interval_cases i <;> decide +kernel
  have h3 : sealWord t 15 = sealCrc t := g.crc
  have f1 : (upTo 4224).find? (fenceFails (asForce t)) = none :=
    List.find?_eq_none.2 fun c hc => by simp [g.fence_ok c (by simpa [upTo] using hc)]
  have f2 : (upTo 64).find? (badAxisRec (asForce t)) = none :=
    List.find?_eq_none.2 fun c hc => by simp [g.axis_ok c (by simpa [upTo] using hc)]
  have f3 : (upTo 64).find? (badConnRec s (asForce t)) = none :=
    List.find?_eq_none.2 fun c hc => by simp [g.conn_ok s c (by simpa [upTo] using hc)]
  simp only [sealCheck, h1, h2, h3, f1, f2, f3, h, g.base 4 (by omega) (by omega),
    g.base 2 (by omega) (by omega)]
  have b4 : sealBase 4 = 5 := by decide
  have b2 : sealBase 2 = 1 := by decide
  simp [b4, b2]
  decide

/-- What runs now does not look at the image. -/
theorem runsNow_image (op : Nat) (c : Sub) (ws : List Word) (s : State) :
    runsNow op { c with image := ws } s = runsNow op c s := rfl

theorem begun_image (op : Nat) (c : Sub) (ws : List Word) (s : State) :
    begun op { c with image := ws } s = begun op c s := rfl

/-- SEAL_STAGE of the good image. -/
theorem witness_sealStage : ∃ (c : Sub) (s : State), runsNow 0x84 c s = true ∧
    (fun (c : Sub) (t : State) => (par c 2).toNat = sealBytes ∧ inWindow t false (addrAt c 0) sealBytes = true
      ∧ t.sealed.openAsserted = true ∧ t.dev = .ready ∧ lockOpen t = true ∧ sealCheck t (sealTab c.image) = 0)
      c (begun 0x84 c s) := by
  obtain ⟨ws, g⟩ := exists_sealGood
  refine ⟨{ ({ params := [4096, 0, 0x13000] } : Sub) with image := ws },
    { testState .ready with sealed := { read := true, openAsserted := true } }, ?_, ?_⟩
  · rw [runsNow_image]
    decide +kernel
  · rw [begun_image]
    have a : ∀ (c : Sub) (i : Nat), addrAt { c with image := ws } i = addrAt c i := fun _ _ => rfl
    exact ⟨rfl, by rw [a]; decide +kernel, by decide +kernel, by decide +kernel, by decide +kernel,
      g.seal_ok _ (by decide +kernel)⟩

/-- LOCK with the response that the lock unit computes. -/
theorem witness_lock : ∃ (n : DWord × DWord) (c : Sub) (s : State), runsNow 0xEF c s = true ∧
    (fun (c : Sub) (t : State) => par c 0 = 0 ∧ t.lock.nonce = some n ∧ responseOk t n c = true) c (begun 0xEF c s) := by
  obtain ⟨h, hh⟩ : ∃ h, h = lockMac [5, 0, 0, 0, 0, 0, 0, 0] (1, 2) Config.serial := ⟨_, rfl⟩
  have m : ∀ w : Word, w.toNat &&& fullWord = w.toNat := fun w => by
    rw [show fullWord = 2 ^ 32 - 1 from rfl, Nat.and_two_pow_sub_one_eq_mod, Nat.mod_eq_of_lt w.isLt]
  let c : Sub := { params := [0, loWord h.1, hiWord h.1, loWord h.2, hiWord h.2] }
  let s : State := { testState .run with lock := { nonce := some (1, 2) }, sealed := { regs := [(0x12800 / 4, 5)] } }
  have hf : checkForm 0xEF c = none := by simp [checkForm, opInfo, formOk, masksHold, hasTimed, m, c, bit]
  have hk : lockKey (begun 0xEF {} s) = [5, 0, 0, 0, 0, 0, 0, 0] := by decide +kernel
  have hr : runsNow 0xEF c s = runsNow 0xEF {} s := by
    have : checkForm 0xEF {} = none := by decide +kernel
    simp only [runsNow, hf, this]
    rfl
  refine ⟨(1, 2), c, s, ?_, rfl, rfl, ?_⟩
  · rw [hr]
    decide +kernel
  · show responseOk (begun 0xEF {} s) (1, 2) c = true
    rw [responseOk, hk, ← hh]
    simp [c, par, wordAt, dword_halves]

/-- States and operands for the clauses of FrontEndCommandsComplete. -/
theorem witness_FrontEndCommandsComplete :
    (let c := ({} : Sub)
    let s := testState .run
    runsNow 0x00 c s = true ∧ (fun _ _ => True) c (begun 0x00 c s))
    ∧ (let c := ({} : Sub)
    let s := testState .run
    runsNow 0x01 c s = true ∧ (fun c _ => par c 0 = 0) c (begun 0x01 c s))
    ∧ (let c := ({ params := [1] } : Sub)
    let s := testState .run
    runsNow 0x01 c s = true ∧ (fun c _ => par c 0 = 1) c (begun 0x01 c s))
    ∧ (let c := ({ tag := 9, params := [3] } : Sub)
    let s := { testState .run with hif := { (testState .run).hif with cmds := [testCmd] } }
    runsNow 0x03 c s = true ∧ (fun x => (fun c t => ¬ (c.target = c.qp ∧ (par c 0).toNat % 65536 = c.tag.toNat) ∧ abortCmd c t = some x ∧ x.op ≠ 0x03
        ∧ x.committed = none)) (testCmd) c (begun 0x03 c s))
    ∧ (let c := ({ tag := 9, params := [3] } : Sub)
    let s := { testState .run with hif := { (testState .run).hif with cmds := [{ testCmd with committed := some 99 }] } }
    runsNow 0x03 c s = true ∧ (fun x n => (fun c t => ¬ (c.target = c.qp ∧ (par c 0).toNat % 65536 = c.tag.toNat) ∧ abortCmd c t = some x ∧ x.op ≠ 0x03
        ∧ x.committed = some n)) ({ testCmd with committed := some 99 }) (99) c (begun 0x03 c s))
    ∧ (let c := ({ tag := 9, params := [3] } : Sub)
    let s := testState .run
    runsNow 0x03 c s = true ∧ (fun c t => ¬ (c.target = c.qp ∧ (par c 0).toNat % 65536 = c.tag.toNat) ∧ abortCmd c t = none ∧ abortPost c t = none) c (begun 0x03 c s))
    ∧ (let c := ({ tag := 9, params := [3] } : Sub)
    let s := { testState .run with hif := { (testState .run).hif with posts := [{ qp := 0, tag := 3, status := 0, result := 0, suppress := false, op := 0x06 }] } }
    runsNow 0x03 c s = true ∧ (fun e => (fun c t => ¬ (c.target = c.qp ∧ (par c 0).toNat % 65536 = c.tag.toNat) ∧ abortCmd c t = none ∧ abortPost c t = some e
        ∧ e.op ≠ 0x03)) ({ qp := 0, tag := 3, status := 0, result := 0, suppress := false, op := 0x06 }) c (begun 0x03 c s)) := by
  dsimp only
  refine ⟨?_, ?_, ?_, ?_, ?_, ?_, ?_⟩ <;> decide +kernel

/-- States and operands for the clauses of ClockAndPowerCommandsComplete. -/
theorem witness_ClockAndPowerCommandsComplete :
    (let c := ({ params := [1] } : Sub)
    let s := testState .run
    runsNow 0x04 c s = true ∧ (fun c t => isPlane (par c 0).toNat = true ∧ mgtPowered t (par c 0).toNat = true) c (begun 0x04 c s))
    ∧ (let c := ({ params := [0x102, 0x1000000] } : Sub)
    let s := testState .run
    runsNow 0x05 c s = true ∧ (fun c t => field (par c 0) 0 6 < 0x14 ∧ field (par c 0) 8 6 < 0x14 ∧ 1 ≤ (par c 1).toNat ∧ (par c 1).toNat ≤ 16777216
        ∧ (tget {} t.clock.counters c.target : FCount).busy = false) c (begun 0x05 c s))
    ∧ (let c := ({ target := 3 } : Sub)
    let s := testState .run
    runsNow 0x06 c s = true ∧ (fun c _ => par c 0 = 0) c (begun 0x06 c s))
    ∧ (let c := ({ target := 2, params := [1] } : Sub)
    let s := testState .run
    runsNow 0x06 c s = true ∧ (fun c t => par c 0 ≠ 0 ∧ ∀ g ∈ gateSubtree c.target, gateInUse t g = false) c (begun 0x06 c s))
    ∧ (let c := ({} : Sub)
    let s := testState .run
    runsNow 0x07 c s = true ∧ (fun _ _ => True) c (begun 0x07 c s))
    ∧ (let c := ({ params := [0x1402] } : Sub)
    let s := testState .run
    runsNow 0x08 c s = true ∧ (fun c _ => field (par c 0) 0 2 ≠ 3 ∧ field (par c 0) 8 8 ≤ 20) c (begun 0x08 c s))
    ∧ (let c := ({ target := 1, params := [0x10002] } : Sub)
    let s := testState .run
    runsNow 0x09 c s = true ∧ (fun c _ => field (par c 0) 0 3 ≤ 3 ∧ ¬ (field (par c 0) 0 3 = 2 ∧ field (par c 0) 16 16 = 0)) c (begun 0x09 c s)) := by
  dsimp only
  refine ⟨?_, ?_, ?_, ?_, ?_, ?_, ?_⟩ <;> decide +kernel

/-- States and operands for the clauses of LoopCommandsComplete. -/
theorem witness_LoopCommandsComplete :
    (let c := ({ target := 1023, params := [5] } : Sub)
    let s := testState .run
    runsNow 0x10 c s = true ∧ (fun c t => hasTimed c = false ∧ windowOwns t c.target = false) c (begun 0x10 c s))
    ∧ (let c := ({ flags := 2, target := 1023, params := [5], atSn := 100100 } : Sub)
    let s := testState .run
    runsNow 0x10 c s = true ∧ (fun c t => hasTimed c = true ∧ snDiff c.atSn t.sn ≤ 100000 ∧ snLater c.atSn (t.sn + 1) = true ∧ windowOwns t c.target = false) c (begun 0x10 c s))
    ∧ (let c := ({ params := [5] } : Sub)
    let s := { testState .run with planeA := (setLf 0 wCtrl 0 4 2 {}) }
    runsNow 0x11 c s = true ∧ (fun c t => hasTimed c = false ∧ loopMode (actPlane t) c.target = 2 ∧ windowOwns t c.target = false
        ∧ ((loopChan (actPlane t) c.target).all fun ch => !outsideFence t.sealed ch (par c 0)) = true) c (begun 0x11 c s))
    ∧ (let c := ({ flags := 2, params := [5], atSn := 102 } : Sub)
    let s := { testState .run with planeA := (setLf 0 wCtrl 0 4 2 {}) }
    runsNow 0x11 c s = true ∧ (fun c t => hasTimed c = true ∧ snDiff c.atSn t.sn ≤ 100000 ∧ snLater c.atSn (t.sn + 1) = true
        ∧ loopMode (actPlane t) c.target = 2 ∧ windowOwns t c.target = false
        ∧ ((loopChan (actPlane t) c.target).all fun ch => !outsideFence t.sealed ch (par c 0)) = true) c (begun 0x11 c s))
    ∧ (let c := ({ params := [0xFC, 1, 2] } : Sub)
    let s := testState .run
    runsNow 0x12 c s = true ∧ (fun c t => (par c 0).toNat % 4 = 0 ∧ (par c 0).toNat ≤ 252 ∧ par c 1 = 1
        ∧ planeNamed (par c 2) t = true ∧ (par c 2 = 0 → t.ump.sw = none)) c (begun 0x12 c s))
    ∧ (let c := ({ params := [0xF8, 2, 1] } : Sub)
    let s := testState .run
    runsNow 0x12 c s = true ∧ (fun c t => (par c 0).toNat % 4 = 0 ∧ (par c 0).toNat ≤ 248 ∧ par c 1 = 2
        ∧ planeNamed (par c 2) t = true ∧ (par c 2 = 0 → t.ump.sw = none)) c (begun 0x12 c s))
    ∧ (let c := ({ params := [0xF8, 1, 0] } : Sub)
    let s := { testState .run with ump := { (testState .run).ump with sw := some ⟨1, 2, 99, 100, 0⟩ } }
    runsNow 0x12 c s = true ∧ (fun c t => (par c 0).toNat % 4 = 0 ∧ (par c 0).toNat ≤ 248 ∧ 1 ≤ (par c 1).toNat ∧ (par c 1).toNat ≤ 2
        ∧ par c 2 = 0 ∧ t.ump.sw.isSome = true) c (begun 0x12 c s))
    ∧ (let c := ({ params := [3] } : Sub)
    let s := { testState .run with planeA := { (setLf 0 wCtrl 0 4 2 {}) with fab := { (setLf 0 wCtrl 0 4 2 {}).fab with cfg := some { loops := [{}] } } } }
    runsNow 0x13 c s = true ∧ (fun c t => ((par c 0).toNat ≤ 4 ∨ (par c 0).toNat = 6) ∧ windowOwns t c.target = false
        ∧ modeOk (t.dev == .ready) false c.target (par c 0).toNat (actPlane t) = true) c (begun 0x13 c s))
    ∧ (let c := ({ params := [0x38, 2, 3, 4] } : Sub)
    let s := testState .run
    runsNow 0x14 c s = true ∧ (fun c t =>
        let n := (par c 1).toNat
        let w := (par c 0).toNat / 4
        (par c 0).toNat % 4 = 0 ∧ 1 ≤ n ∧ n ≤ 8 ∧ (par c 0).toNat + 4 * n ≤ 256
          ∧ ((upTo 8).all fun i => decide (i < n) || par c (2 + i) == 0) = true
          ∧ ((upTo n).all fun i => rwWord (w + i)) = true
          ∧ (w ≠ 0 ∨ field (par c 2) 4 4 = 0)
          ∧ contextOk (writeContext c.target w ((upTo n).map fun i => par c (2 + i)) [] (actPlane t)) c.target = true
          ∧ (w ≤ wSpTarget → wSpTarget < w + n → windowOwns t c.target = false)) c (begun 0x14 c s)) := by
  dsimp only
  refine ⟨?_, ?_, ?_, ?_, ?_, ?_, ?_, ?_, ?_⟩ <;> decide +kernel

/-- States and operands for the clauses of BoothModelAndTestCommandsComplete. -/
theorem witness_BoothModelAndTestCommandsComplete :
    (let c := ({ target := 15, params := [0] } : Sub)
    let s := testState .run
    runsNow 0x15 c s = true ∧ (fun c t => planeNamed (par c 0) t = true) c (begun 0x15 c s))
    ∧ (let c := ({ target := 3, params := [1] } : Sub)
    let s := testState .run
    runsNow 0x16 c s = true ∧ (fun _ _ => True) c (begun 0x16 c s))
    ∧ (let c := ({ params := [0x80000100, 1, 2, 3, 4, 0x10001, 1] } : Sub)
    let s := { testState .run with planeA := (setLf 0 wCtrl 0 4 3 {}) }
    runsNow 0x20 c s = true ∧ (fun c t => field (par c 0) 9 3 = 0 ∧ field (par c 0) 29 2 ≠ 3 ∧ field (par c 0) 0 9 ≤ 256
        ∧ field (par c 5) 0 16 ≤ field (par c 5) 16 16 ∧ (bit (par c 0) 31 = true → field (par c 5) 16 16 ≠ 0)
        ∧ loopMode (actPlane t) c.target ≠ 5 ∧ loopMode (actPlane t) c.target ≠ 7) c (begun 0x20 c s))
    ∧ (let c := ({} : Sub)
    let s := { testState .run with planeA := (setLf 0 wCtrl 0 4 3 {}) }
    runsNow 0x21 c s = true ∧ (fun c t => loopMode (actPlane t) c.target ≠ 5 ∧ loopMode (actPlane t) c.target ≠ 7) c (begun 0x21 c s))
    ∧ (let c := ({ params := [1, 5, 0, 4, 1, 1, 0] } : Sub)
    let s := { testState .run with planeA := (setLf 0 wCtrl 0 4 3 {}) }
    runsNow 0x22 c s = true ∧ (fun c t => testRangesOk c = true ∧ t.dev = .run ∧ testConditions (testFrom c) c.target (actPlane t) = true) c (begun 0x22 c s))
    ∧ (let c := ({} : Sub)
    let s := { testState .run with planeA := (setLf 0 wCtrl 0 4 5 {}) }
    runsNow 0x23 c s = true ∧ (fun c t => loopMode (actPlane t) c.target = 5) c (begun 0x23 c s))
    ∧ (let c := ({ params := [2] } : Sub)
    let s := testState .run
    runsNow 0x24 c s = true ∧ (fun c t => planeNamed (par c 0) t = true) c (begun 0x24 c s))
    ∧ (let c := ({ params := [0, 0x7FFF, 1, 0x1000, 0] } : Sub)
    let s := testState .run
    runsNow 0x25 c s = true ∧ (fun c t => (par c 1).toNat ≤ 32767 ∧ 1 ≤ (par c 2).toNat ∧ (par c 1).toNat + (par c 2).toNat ≤ 32768
        ∧ inWindow t true (addrAt c 3) (8 * (par c 2).toNat) = true ∧ planeNamed (par c 0) t = true
        ∧ (group (planeOf t (namedPlane (par c 0) t)) (c.target / 4)).powered = true) c (begun 0x25 c s)) := by
  dsimp only
  refine ⟨?_, ?_, ?_, ?_, ?_, ?_, ?_, ?_⟩ <;> decide +kernel

/-- States and operands for the clauses of DispatchCommandsComplete. -/
theorem witness_DispatchCommandsComplete :
    (let c := ({ params := [0x2000, 0, 0x48], image := [0x464C5841, 1, 0, 1, 0, 0, 0, 0, 0, 0, 0, 0, 0, 0, 0, 0xC5C148B7, 0, 0] } : Sub)
    let s := testState .ready
    runsNow 0x30 c s = true ∧ (fun c t => addrAt c 0 % 8 = 0 ∧ inWindow t false (addrAt c 0) (par c 2).toNat = true ∧ t.dev = .ready
        ∧ fabCheck t (c.image.take ((par c 2).toNat / 4)) (par c 2).toNat = none) c (begun 0x30 c s))
    ∧ (let c := ({ params := [7] } : Sub)
    let s := { testState .run with planeA := { fab := { cfg := some { loops := [{}] } } } }
    runsNow 0x31 c s = true ∧ (fun f => (fun c t => (actPlane t).fab.cfg = some f ∧ (recOf f c.target).isSome = true
        ∧ loadBad (withPrio (livePrio (actPlane t) f) c.target (field (par c 0) 0 3)) = none)) ({ loops := [{}] }) c (begun 0x31 c s))
    ∧ (let c := ({ params := [0, 7] } : Sub)
    let s := testState .run
    runsNow 0x32 c s = true ∧ (fun c t => (par c 1).toNat ≤ 7 ∧ planeNamed (par c 0) t = true) c (begun 0x32 c s))
    ∧ (let c := ({ params := [0] } : Sub)
    let s := { testState .run with planeA := { fab := { cfg := some { flows := [{}] } } } }
    runsNow 0x33 c s = true ∧ (fun c t => (flowRec (actPlane t) c.target).isSome = true ∧ planeNamed (par c 0) t = true) c (begun 0x33 c s)) := by
  dsimp only
  refine ⟨?_, ?_, ?_, ?_⟩ <;> decide +kernel

/-- States and operands for the clauses of RecipeCommandsComplete. -/
theorem witness_RecipeCommandsComplete :
    (let c := ({ params := [0xFFFF] } : Sub)
    let s := { testState .run with planeA := { sess := { recs := [(0, 0x20000000)] } } }
    runsNow 0x40 c s = true ∧ (fun c t => hasTimed c = false ∧ ownedByWindow (actPlane t) c.target = false ∧ sessState (actPlane t) c.target = ssRunning) c (begun 0x40 c s))
    ∧ (let c := ({ flags := 2, params := [0xFFFF], atSn := 102 } : Sub)
    let s := { testState .run with planeA := { sess := { recs := [(0, 0x20000000)] } } }
    runsNow 0x40 c s = true ∧ (fun c t => hasTimed c = true ∧ snDiff c.atSn t.sn ≤ 100000 ∧ snLater c.atSn (t.sn + 1) = true
        ∧ ownedByWindow (actPlane t) c.target = false ∧ sessState (actPlane t) c.target = ssRunning) c (begun 0x40 c s))
    ∧ (let c := ({ params := [7] } : Sub)
    let s := { testState .run with planeA := { sess := { recs := [(0, 0x20000000)] } } }
    runsNow 0x41 c s = true ∧ (fun c t => hasTimed c = false ∧ ownedByWindow (actPlane t) c.target = false ∧ sessState (actPlane t) c.target = ssRunning) c (begun 0x41 c s))
    ∧ (let c := ({ flags := 2, params := [7], atSn := 102 } : Sub)
    let s := { testState .run with planeA := { sess := { recs := [(0, 0x20000000)] } } }
    runsNow 0x41 c s = true ∧ (fun c t => hasTimed c = true ∧ snDiff c.atSn t.sn ≤ 100000 ∧ snLater c.atSn (t.sn + 1) = true
        ∧ ownedByWindow (actPlane t) c.target = false ∧ sessState (actPlane t) c.target = ssRunning) c (begun 0x41 c s))
    ∧ (let c := ({ target := 127, params := [0x2000, 0, 0x80], image := [0x50525841, 1, 1, 0, 0, 0xFFFE0000, 0, 7, 0, 0, 0, 0, 0, 0, 0, 0xBA4BF63B, 0, 0, 0xA, 0xFFFFFFFF, 0, 0, 0, 0, 0, 0, 0, 0, 0, 0, 0, 0] } : Sub)
    let s := testState .run
    runsNow 0x42 c s = true ∧ (fun c t =>
        let p := actPlane t
        let img := c.image.take ((par c 2).toNat / 4)
        addrAt c 0 % 8 = 0 ∧ (par c 2).toNat ≤ 1048576 ∧ inWindow t false (addrAt c 0) (par c 2).toNat = true
          ∧ ownedByWindow p c.target = false
          ∧ (sessState p c.target = ssIdle ∨ sessState p c.target = ssDone ∨ (sessState p c.target = ssRestored
            ∧ scopeConflict p c.target (parseSess img (par c 2).toNat).scope = none))
          ∧ sessCheck p c.target img (par c 2).toNat = none) c (begun 0x42 c s))
    ∧ (let c := ({ params := [0] } : Sub)
    let s := { testState .run with planeA := { sess := { recs := [(0, 0x10000000)], imgs := [(0, some { steps := [List.replicate 16 0] })] } } }
    runsNow 0x43 c s = true ∧ (fun _ _ => True) c (begun 0x43 c s))
    ∧ (let c := ({ params := [0xFFFF] } : Sub)
    let s := { testState .run with planeA := { sess := { recs := [(0, 0x30000000)], imgs := [(0, some { steps := [List.replicate 16 0] })] } } }
    runsNow 0x44 c s = true ∧ (fun c t =>
        let p := actPlane t
        ownedByWindow p c.target = false
          ∧ (sessState p c.target = ssHeld ∨ (sessState p c.target = ssRestored ∧ bit (sw p c.target wSstate) 26 = false))
          ∧ (field (par c 0) 0 16 = 0xFFFF ∨ field (par c 0) 0 16 < nStep (sessImg p c.target))) c (begun 0x44 c s))
    ∧ (let c := ({ params := [0, 5] } : Sub)
    let s := { testState .run with planeA := { sess := { recs := [(0, 0x20000000)], imgs := [(0, some { steps := [List.replicate 16 0] })] } } }
    runsNow 0x45 c s = true ∧ (fun _ _ => True) c (begun 0x45 c s))
    ∧ (let c := ({} : Sub)
    let s := { testState .run with planeA := { sess := { recs := [(0, 0x50000000)] } } }
    runsNow 0x46 c s = true ∧ (fun c t => ownedByWindow (actPlane t) c.target = false
        ∧ (sessState (actPlane t) c.target = ssLoaded ∨ sessState (actPlane t) c.target = ssDone)) c (begun 0x46 c s))
    ∧ (let c := ({ target := 127, params := [0, 0x38] } : Sub)
    let s := testState .run
    runsNow 0x47 c s = true ∧ (fun c t => (par c 1).toNat % 4 = 0 ∧ (par c 1).toNat ≤ 56 ∧ planeNamed (par c 0) t = true) c (begun 0x47 c s)) := by
  dsimp only
  refine ⟨?_, ?_, ?_, ?_, ?_, ?_, ?_, ?_, ?_, ?_⟩ <;> decide +kernel

/-- States and operands for the clauses of ScanCommandsComplete. -/
theorem witness_ScanCommandsComplete :
    (let c := ({ params := [0x2000, 0, 0x48, 0], image := [0x4C525841, 1, 1, 0, 0x64, 0, 9, 0, 0, 0, 0, 0, 0, 0, 0, 0xE10DF6CE, 0, 0xFC000000] } : Sub)
    let s := testState .run
    runsNow 0x60 c s = true ∧ (fun c t => addrAt c 0 % 8 = 0 ∧ inWindow t false (addrAt c 0) (par c 2).toNat = true ∧ (actPlane t).scan.mode = 0
        ∧ progCheck t (actPlane t) (c.image.take ((par c 2).toNat / 4)) (par c 2).toNat (bit (par c 3) 0) = none) c (begun 0x60 c s))
    ∧ (let c := ({ params := [0] } : Sub)
    let s := testState .run
    runsNow 0x61 c s = true ∧ (fun c t => (par c 0).toNat ≠ 3 ∧ (actPlane t).scan.mode = (par c 0).toNat) c (begun 0x61 c s))
    ∧ (let c := ({ params := [1] } : Sub)
    let s := { testState .run with planeA := { scan := { prog := some {} } } }
    runsNow 0x61 c s = true ∧ (fun c t => (actPlane t).scan.mode ≠ (par c 0).toNat
        ∧ (par c 0 = 0 ∨ (par c 0 = 1 ∧ (actPlane t).scan.prog.isSome = true)
          ∨ (par c 0 = 2 ∧ (actPlane t).scan.mode ≠ 0 ∧ lockOpen t = true))) c (begun 0x61 c s))
    ∧ (let c := ({ params := [0x6FFF, 5] } : Sub)
    let s := { testState .run with planeA := { scan := { prog := some {} } } }
    runsNow 0x62 c s = true ∧ (fun c t => onlineWord (par c 0).toNat = true ∧ (actPlane t).scan.prog.isSome = true ∧ (actPlane t).scan.mode ≠ 1) c (begun 0x62 c s))
    ∧ (let c := ({ params := [0x9001, 5] } : Sub)
    let s := { testState .run with planeA := { scan := { prog := some {}, mode := 1 } } }
    runsNow 0x62 c s = true ∧ (fun c t => onlineWord (par c 0).toNat = true ∧ (actPlane t).scan.prog.isSome = true ∧ (actPlane t).scan.mode = 1) c (begun 0x62 c s))
    ∧ (let c := ({ params := [0x6FFE, 2, 0] } : Sub)
    let s := testState .run
    runsNow 0x63 c s = true ∧ (fun r => (fun c t => areaOf (par c 0).toNat = some r ∧ 1 ≤ (par c 1).toNat ∧ (par c 1).toNat ≤ 2
        ∧ (par c 0).toNat + (par c 1).toNat - 1 ≤ r.2 ∧ bit (par c 2) 0 = false
        ∧ planeNamed (word (field (par c 2) 1 2)) t = true)) ((0x6000, 0x6FFF)) c (begun 0x63 c s))
    ∧ (let c := ({ params := [5, 1, 1] } : Sub)
    let s := { testState .run with planeA := { scan := { shadow := some [(5, 6)] } } }
    runsNow 0x63 c s = true ∧ (fun r x => (fun c t => areaOf (par c 0).toNat = some r ∧ 1 ≤ (par c 1).toNat ∧ (par c 1).toNat ≤ 2
        ∧ (par c 0).toNat + (par c 1).toNat - 1 ≤ r.2 ∧ bit (par c 2) 0 = true ∧ isInput (par c 0).toNat = true
        ∧ planeNamed (word (field (par c 2) 1 2)) t = true
        ∧ (planeOf t (namedPlane (word (field (par c 2) 1 2)) t)).scan.shadow = some x)) ((0, 0xFFF)) ([(5, 6)]) c (begun 0x63 c s))
    ∧ (let c := ({ params := [2] } : Sub)
    let s := testState .run
    runsNow 0x64 c s = true ∧ (fun c t => planeNamed (par c 0) t = true) c (begun 0x64 c s)) := by
  dsimp only
  refine ⟨?_, ?_, ?_, ?_, ?_, ?_, ?_, ?_⟩ <;> decide +kernel

/-- States and operands for the clauses of AxisCommandsComplete. -/
theorem witness_AxisCommandsComplete :
    (let c := ({ params := [1] } : Sub)
    let s := { testState .run with planeA := { axes := { ctx := [(2, 0)] } } }
    runsNow 0x72 c s = true ∧ (fun c t => t.dev = .run ∧ par c 0 = 1 ∧ axState (actPlane t) c.target = 0) c (begun 0x72 c s))
    ∧ (let c := ({} : Sub)
    let s := { testState .run with planeA := { axes := { ctx := [(2, 6)] } } }
    runsNow 0x72 c s = true ∧ (fun c t => t.dev = .run ∧ par c 0 = 0 ∧ (axState (actPlane t) c.target = 1 ∨ axState (actPlane t) c.target = 6)) c (begun 0x72 c s))
    ∧ (let c := ({ params := [1, 0x80000000, 0, 2, 2, 2, 2] } : Sub)
    let s := { testState .run with planeA := { axes := { ctx := [(2, 1), (14, 1), (15, 1), (16, 1), (17, 1)] } } }
    runsNow 0x73 c s = true ∧ (fun c t =>
          let q := axLimits (par c) c.target (actPlane t)
          t.dev = .run ∧ axState (actPlane t) c.target = 1 ∧ pulseOk q c.target = true ∧ limitsSet q c.target = true) c (begun 0x73 c s))
    ∧ (let c := ({ params := [1] } : Sub)
    let s := { testState .run with planeA := { axes := { ctx := [(2, 2)] } } }
    runsNow 0x74 c s = true ∧ (fun c t => t.dev = .run ∧ (axState (actPlane t) c.target = 2 ∨ axState (actPlane t) c.target = 4
          ∨ axState (actPlane t) c.target = 5 ∨ (axState (actPlane t) c.target = 3 ∧ bit (par c 0) 0 = true
            ∧ bit (xw (actPlane t) c.target xAstat) 19 = false))) c (begun 0x74 c s))
    ∧ (let c := ({ params := [0, 0, 0, 1, 1, 1, 1] } : Sub)
    let s := { testState .run with planeA := { axes := { ctx := [(2, 3)] } } }
    runsNow 0x75 c s = true ∧ (fun c t =>
          let p := actPlane t
          let q := axLimits (par c) c.target p
          pulseOk q c.target = true ∧ axState p c.target ≠ 4 ∧ axState p c.target ≠ 7
            ∧ (axState p c.target = 2 →
              (xw q c.target xDmax = xw p c.target xDmax ∧ xw q c.target xJmax = xw p c.target xJmax)
              ∨ brake (limitsOf q c.target).d (limitsOf q c.target).j (axDir p c.target * x64 p c.target xCvel * 2 ^ 56)
                  (axDir p c.target * x64 p c.target xCacc * 2 ^ 48)
                ≤ axDir p c.target * (x64 p c.target xTarget - x64 p c.target xCpos) * 2 ^ 64)) c (begun 0x75 c s))
    ∧ (let c := ({} : Sub)
    let s := { testState .run with planeA := { axes := { ctx := [(2, 1), (14, 1), (15, 1), (16, 1), (17, 1), (20, 1), (28, 1), (33, 1)] } } }
    runsNow 0x76 c s = true ∧ (fun c t =>
          let p := actPlane t
          let v := (xw p c.target xHomeVel).toInt
          t.dev = .run ∧ axState p c.target = 1 ∧ v ≠ 0 ∧ xw p c.target xHomeSpan ≠ 0 ∧ limitsSet p c.target = true
            ∧ (xw p c.target xFeLim ≠ 0 ∨ (emfSrc p c.target ≠ 0 ∧ (xw p c.target xLaVmin).toNat ≤ v.natAbs))) c (begun 0x76 c s))
    ∧ (let c := ({ params := [0x1000000F, 5, 1] } : Sub)
    let s := { testState .run with planeA := { axes := { ctx := [(2, 1)] } } }
    runsNow 0x77 c s = true ∧ (fun c t =>
          let p := actPlane t
          t.dev = .run ∧ axState p c.target = 1
            ∧ ((field (par c 0) 28 4 = 1 ∧ field (par c 0) 0 6 ≤ 15)
              ∨ (field (par c 0) 28 4 = 2 ∧ gearedTo p c.target 65 (field (par c 0) 0 6) = false))
            ∧ par c 2 ≠ 0
            ∧ (masterStep t p (par c 0)).natAbs * (par c 1).toInt.natAbs
                ≤ (xw p c.target xEngVmax).toNat * 2 ^ 16 * (par c 2).toNat) c (begun 0x77 c s))
    ∧ (let c := ({ params := [0, 1, 2, 3, 4] } : Sub)
    let s := { testState .run with planeA := { axes := { ctx := [(2, 5)] } } }
    runsNow 0x78 c s = true ∧ (fun c t => t.dev = .run ∧ axState (actPlane t) c.target = 5 ∧ par c 4 ≠ 0) c (begun 0x78 c s))
    ∧ (let c := ({} : Sub)
    let s := { testState .run with planeA := { axes := { ctx := [(2, 6)] } } }
    runsNow 0x79 c s = true ∧ (fun c t => t.dev = .run ∧ axState (actPlane t) c.target = 6) c (begun 0x79 c s))
    ∧ (let c := ({ target := 63 } : Sub)
    let s := testState .run
    runsNow 0x70 c s = true ∧ (fun c t =>
        let p := actPlane t
        let q := setXw c.target xAcfg2 (par c 1) (setXw c.target xAcfg (par c 0) p)
        let own := match p.scan.prog with | some g => g.ownSt | none => []
        field (par c 0) 28 4 ≤ 2 ∧ field (par c 0) 10 2 ≤ 2 ∧ field (par c 0) 4 2 ≤ 2 ∧ field (par c 1) 12 2 ≤ 2
          ∧ field (par c 1) 0 7 = 0 ∧ field (par c 1) 14 1 = 0 ∧ cmdEntry q c.target ≤ 4093 ∧ fbEntry q c.target ≤ 4093
          ∧ pulseOk q c.target = true ∧ sharesSafeEnc t.sealed c.target (par c 0) = false ∧ axClash p q c.target = false
          ∧ ((axEntries q c.target).any fun e => chanBound p (128 + e) || own.contains e) = false
          ∧ ((axAo q c.target).any (chanBound p)) = false ∧ axState p c.target = 0) c (begun 0x70 c s))
    ∧ (let c := ({ params := [0x38, 1, 2] } : Sub)
    let s := { testState .run with planeA := { axes := { ctx := [(2, 1), (14, 1), (15, 1), (16, 1), (17, 1), (18, 1), (19, 1)] } } }
    runsNow 0x71 c s = true ∧ (fun c t =>
        let p := actPlane t
        let n := (par c 1).toNat
        let w := (par c 0).toNat / 4
        let q := forEach (upTo n) (fun i r => setXw c.target (w + i) (par c (2 + i)) r) p
        let has := fun k : Nat => w ≤ k ∧ k < w + n
        (par c 0).toNat % 4 = 0 ∧ 1 ≤ n ∧ n ≤ 8 ∧ ((upTo n).all fun i => axRw (w + i)) = true
          ∧ ((upTo 8).all fun i => decide (i < n) || par c (2 + i) == 0) = true
          ∧ field (xw q c.target xEmin) 16 16 = 0 ∧ field (xw q c.target xLaCfg) 0 4 = 0 ∧ pulseOk q c.target = true
          ∧ (∀ k ∈ [xVmax, xAmax, xDmax, xJmax, xHomeSpan], has k → xw q c.target k ≠ 0)
          ∧ (has xDmax ∨ has xQdmax → (xw q c.target xDmax).toNat ≤ (xw q c.target xQdmax).toNat)
          ∧ (has xJmax ∨ has xQjmax → (xw q c.target xJmax).toNat ≤ (xw q c.target xQjmax).toNat)
          ∧ axState p c.target ≤ 1) c (begun 0x71 c s))
    ∧ (let c := ({ target := 63, params := [0xF8, 0] } : Sub)
    let s := testState .run
    runsNow 0x7A c s = true ∧ (fun c t => (par c 0).toNat % 4 = 0 ∧ (par c 0).toNat ≤ 248 ∧ planeNamed (par c 1) t = true) c (begun 0x7A c s)) := by
  dsimp only
  refine ⟨?_, ?_, ?_, ?_, ?_, ?_, ?_, ?_, ?_, ?_, ?_, ?_⟩ <;> decide +kernel

/-- States and operands for the clauses of SafetyAndSealCommandsComplete. -/
theorem witness_SafetyAndSealCommandsComplete :
    (let c := ({ target := 63, params := [0] } : Sub)
    let s := { testState .run with planeA := { safe := { ax := [(63, { validRun := 1 })] } }, sealed := { regs := [(17152 + 16 * 63, 0x40000000)] } }
    runsNow 0x80 c s = true ∧ (fun c t =>
        let p := planeOf t (namedPlane (par c 0) t)
        planeNamed (par c 0) t = true ∧ c.target ≠ 64 ∧ safeSrc t.sealed c.target ≠ 0
          ∧ sposValid t.sealed c.target (safeAx p c.target) = true) c (begun 0x80 c s))
    ∧ (let c := ({ target := 63, params := [0] } : Sub)
    let s := testState .run
    runsNow 0x80 c s = true ∧ (fun c t =>
        let p := planeOf t (namedPlane (par c 0) t)
        planeNamed (par c 0) t = true ∧ c.target ≠ 64
          ∧ (safeSrc t.sealed c.target = 0 ∨ sposValid t.sealed c.target (safeAx p c.target) = false)) c (begun 0x80 c s))
    ∧ (let c := ({ target := 64 } : Sub)
    let s := { testState .run with sealed := { slot0 := some [(2, 5)] } }
    runsNow 0x80 c s = true ∧ (fun x => (fun c t => planeNamed (par c 0) t = true ∧ c.target = 64
        ∧ (if t.sealed.slot = 0 then t.sealed.slot0 else t.sealed.slot1) = some x)) ([(2, 5)]) c (begun 0x80 c s))
    ∧ (let c := ({ params := [0xF] } : Sub)
    let s := { testState .run with sealed := { regs := [(17152, 0x380)] } }
    runsNow 0x81 c s = true ∧ (fun c t => ((upTo 3).all fun f => !hasFunc (par c 0).toNat f || safeEn t.sealed c.target f) = true) c (begun 0x81 c s))
    ∧ (let c := ({ target := 7 } : Sub)
    let s := { testState .run with sealed := { regs := [(17152, 0x1C00), (17164, 0xFFFF)] } }
    runsNow 0x82 c s = true ∧ (fun c t => ((pairAxes t.sealed c.target).all fun a => releaseOk t a (actPlane t)) = true ∧ t.dev = .run
        ∧ monitorsAgree t = true) c (begun 0x82 c s))
    ∧ (let c := ({ target := 63, params := [0] } : Sub)
    let s := testState .run
    runsNow 0x83 c s = true ∧ (fun c t => planeNamed (par c 0) t = true) c (begun 0x83 c s))
    ∧ (let c := ({} : Sub)
    let s := { testState .ready with sealed := { read := true, openAsserted := true, staged := some [] } }
    runsNow 0x85 c s = true ∧ (fun _ t => t.sealed.staged.isSome = true ∧ t.sealed.openAsserted = true ∧ t.dev = .ready ∧ lockOpen t = true) c (begun 0x85 c s))
    ∧ (let c := ({ params := [0x12FF8, 1] } : Sub)
    let s := { testState .run with sealed := { slot1 := some [(0, 5)] } }
    runsNow 0x86 c s = true ∧ (fun x => (fun c t =>
        let o := (par c 0).toNat
        o % 8 = 0 ∧ o < sealBytes ∧ ¬ (0x12800 ≤ o ∧ o < 0x12820)
          ∧ sealCopy t.sealed (if par c 1 = 0 then t.sealed.slot else 1 - t.sealed.slot) = some x)) ([(0, 5)]) c (begun 0x86 c s))
    ∧ (let c := ({ params := [0x12818] } : Sub)
    let s := testState .run
    runsNow 0x86 c s = true ∧ (fun c _ => (par c 0).toNat % 8 = 0 ∧ 0x12800 ≤ (par c 0).toNat ∧ (par c 0).toNat < 0x12820) c (begun 0x86 c s))
    ∧ (let c := ({ params := [0x12FF8] } : Sub)
    let s := testState .run
    runsNow 0x86 c s = true ∧ (fun c t =>
        let o := (par c 0).toNat
        o % 8 = 0 ∧ o < sealBytes ∧ ¬ (0x12800 ≤ o ∧ o < 0x12820)
          ∧ sealCopy t.sealed (if par c 1 = 0 then t.sealed.slot else 1 - t.sealed.slot) = none) c (begun 0x86 c s)) := by
  dsimp only
  refine ⟨?_, ?_, ?_, ?_, ?_, ?_, ?_, ?_, ?_, ?_⟩ <;> decide +kernel

/-- States and operands for the clauses of RecordingCommandsComplete. -/
theorem witness_RecordingCommandsComplete :
    (let c := ({ target := 16, params := [1] } : Sub)
    let s := testState .run
    runsNow 0x90 c s = true ∧ (fun c t => t.recHeld = [] ∧ c.target = 16 ∧ (par c 0).toNat ≤ 1) c (begun 0x90 c s))
    ∧ (let c := ({ target := 15, params := [0x186A0] } : Sub)
    let s := testState .run
    runsNow 0x90 c s = true ∧ (fun c t => t.recHeld = [] ∧ c.target ≠ 16 ∧ (par c 0).toNat ≤ 100000) c (begun 0x90 c s))
    ∧ (let c := ({ target := 15, params := [5] } : Sub)
    let s := { testState .run with recHeld := [default] }
    runsNow 0x90 c s = true ∧ (fun c t => t.recHeld ≠ [] ∧ (par c 0).toNat ≤ 100000 ∧ (c.target = 16 → (par c 0).toNat ≤ 1)) c (begun 0x90 c s))
    ∧ (let c := ({ params := [0, 0, 0, 0, 0, 0, 0, 6, 0] } : Sub)
    let s := testState .run
    runsNow 0x91 c s = true ∧ (fun c t => bit (par c 7) 0 = false ∧ t.mem.dram ≠ 2) c (begun 0x91 c s))
    ∧ (let c := ({ params := [0x1000, 0, 0x10000, 4, 0, 0x2000, 0, 1, 5] } : Sub)
    let s := { testState .run with recorder := { ring := [{ seq := 5 }] } }
    runsNow 0x91 c s = true ∧ (fun c t => bit (par c 7) 0 = true ∧ addrAt c 0 % 8 = 0 ∧ 65536 ≤ (par c 2).toNat
        ∧ (par c 2).toNat ≤ 1073741824 ∧ (par c 2).toNat % 4096 = 0
        ∧ inWindow t true (addrAt c 0) (par c 2).toNat = true ∧ inWindow t false (addrAt c 3) 4 = true
        ∧ inWindow t true (addrAt c 5) 16 = true ∧ t.mem.dram ≠ 2
        ∧ (bit (par c 7) 2 = true ∨ inRing t (par c 8) = true)) c (begun 0x91 c s))
    ∧ (let c := ({ params := [0] } : Sub)
    let s := testState .run
    runsNow 0x92 c s = true ∧ (fun c _ => par c 0 = 0) c (begun 0x92 c s))
    ∧ (let c := ({ params := [1] } : Sub)
    let s := testState .run
    runsNow 0x92 c s = true ∧ (fun c _ => par c 0 = 1) c (begun 0x92 c s))
    ∧ (let c := ({ params := [5, 1, 0x1000, 0, 0x40] } : Sub)
    let s := { testState .run with recorder := { ring := [{ seq := 5 }] } }
    runsNow 0x93 c s = true ∧ (fun c t => 1 ≤ (par c 1).toNat ∧ (par c 1).toNat ≤ 65536 ∧ inWindow t true (addrAt c 2) (par c 4).toNat = true
        ∧ t.mem.dram ≠ 2 ∧ inRing t (par c 0) = true) c (begun 0x93 c s))
    ∧ (let c := ({ target := 15, params := [0, 0, 0, 0x40000, 1, 3, 0, 0] } : Sub)
    let s := testState .run
    runsNow 0x94 c s = true ∧ (fun c t => trigRangesOk (trigFrom c) = true ∧ (trigOf (actPlane t) c.target).state = 0
        ∧ trigRangeFree c.target (trigFrom c) (actPlane t) = true) c (begun 0x94 c s))
    ∧ (let c := ({} : Sub)
    let s := { testState .run with planeA := { trigs := [(0, { sigs := [0], len := 4, pre := 1, post := 1 })] } }
    runsNow 0x95 c s = true ∧ (fun c t =>
        let x := trigOf (actPlane t) c.target
        par c 0 = 0 ∧ t.dev = .run ∧ (group (actPlane t) (x.booth / 4)).powered = true ∧ (x.state = 0 ∨ x.state = 4)
          ∧ trigC x ≠ 0 ∧ trigRangeFree c.target x (actPlane t) = true) c (begun 0x95 c s))
    ∧ (let c := ({ params := [1] } : Sub)
    let s := { testState .run with planeA := { trigs := [(0, { state := 2 })] } }
    runsNow 0x95 c s = true ∧ (fun c t =>
        let x := trigOf (actPlane t) c.target
        par c 0 = 1 ∧ t.dev = .run ∧ (group (actPlane t) (x.booth / 4)).powered = true ∧ x.state = 2) c (begun 0x95 c s))
    ∧ (let c := ({ params := [2] } : Sub)
    let s := testState .run
    runsNow 0x95 c s = true ∧ (fun c t => par c 0 = 2 ∧ t.dev = .run ∧ (group (actPlane t) ((trigOf (actPlane t) c.target).booth / 4)).powered = true) c (begun 0x95 c s))
    ∧ (let c := ({ target := 15 } : Sub)
    let s := testState .run
    runsNow 0x96 c s = true ∧ (fun c t => planeNamed (par c 0) t = true) c (begun 0x96 c s))
    ∧ (let c := ({ target := 255, params := [0x2000, 0, 0x40], image := [0x4B4D5841, 1, 2, 0x10000000, 0, 0, 0, 0x52F5F71F, 0, 0, 0, 0, 1, 0, 0, 0] } : Sub)
    let s := testState .run
    runsNow 0x97 c s = true ∧ (fun c t => inWindow t false (addrAt c 0) (par c 2).toNat = true ∧ (maskOf (actPlane t) c.target).state ≠ 2
        ∧ maskCheck (actPlane t) (c.image.take ((par c 2).toNat / 4)) (par c 2).toNat = none) c (begun 0x97 c s))
    ∧ (let c := ({ params := [1] } : Sub)
    let s := { testState .run with planeA := { masks := [(0, { img := some [5], state := 1 })] } }
    runsNow 0x98 c s = true ∧ (fun img => (fun c t => t.dev = .run ∧ maskOwner (actPlane t) c.target = none ∧ (maskOf (actPlane t) c.target).img = some img
        ∧ field (wordAt img 4) 8 2 = 0)) ([5]) c (begun 0x98 c s))
    ∧ (let c := ({ target := 255 } : Sub)
    let s := testState .run
    runsNow 0x99 c s = true ∧ (fun c t => planeNamed (par c 0) t = true) c (begun 0x99 c s)) := by
  dsimp only
  refine ⟨?_, ?_, ?_, ?_, ?_, ?_, ?_, ?_, ?_, ?_, ?_, ?_, ?_, ?_, ?_, ?_⟩ <;> decide +kernel

/-- States and operands for the clauses of PlaneAndLedgerCommandsComplete. -/
theorem witness_PlaneAndLedgerCommandsComplete :
    (let c := ({} : Sub)
    let s := testState .run
    runsNow 0xA0 c s = true ∧ (fun _ _ => True) c (begun 0xA0 c s))
    ∧ (let c := ({ target := 1 } : Sub)
    let s := { testState .run with ump := { (testState .run).ump with b := { code := 2, health := some 5 } } }
    runsNow 0xA1 c s = true ∧ (fun h => (fun c t => (pstat t (c.target + 1)).health = some h)) (5) c (begun 0xA1 c s))
    ∧ (let c := ({ target := 1 } : Sub)
    let s := { testState .run with ump := { (testState .run).ump with b := { code := 5 } } }
    runsNow 0xA2 c s = true ∧ (fun c t => (pstat t (c.target + 1)).code = 5) c (begun 0xA2 c s))
    ∧ (let c := ({ target := 1 } : Sub)
    let s := testState .run
    runsNow 0xA3 c s = true ∧ (fun c t => (pstat t (c.target + 1)).code = 2 ∨ (pstat t (c.target + 1)).code = 3 ∨ (pstat t (c.target + 1)).code = 4) c (begun 0xA3 c s))
    ∧ (let c := ({} : Sub)
    let s := { testState .run with ump := { (testState .run).ump with agreeRun := 1000 } }
    runsNow 0xA4 c s = true ∧ (fun _ t => fit t (otherPlane (activeNo t)) = true ∧ swapCut t = true) c (begun 0xA4 c s))
    ∧ (let c := ({} : Sub)
    let s := testState .run
    runsNow 0xA4 c s = true ∧ (fun _ t => fit t (otherPlane (activeNo t)) = true ∧ swapCut t = false) c (begun 0xA4 c s))
    ∧ (let c := ({ params := [0xF] } : Sub)
    let s := testState .run
    runsNow 0xA5 c s = true ∧ (fun c _ => par c 0 ≠ 0) c (begun 0xA5 c s))
    ∧ (let c := ({ params := [0] } : Sub)
    let s := { testState .run with led := { journal := [{ jseq := 5 }] } }
    runsNow 0xA6 c s = true ∧ (fun e => (fun c t => par c 0 = 0 ∧ t.led.journal.getLast? = some e)) ({ jseq := 5 }) c (begun 0xA6 c s))
    ∧ (let c := ({ params := [1] } : Sub)
    let s := { testState .run with led := { journal := [{ jseq := 5 }] } }
    runsNow 0xA6 c s = true ∧ (fun e => (fun c t => par c 0 = 1 ∧ t.led.journal.head? = some e)) ({ jseq := 5 }) c (begun 0xA6 c s))
    ∧ (let c := ({ params := [1] } : Sub)
    let s := testState .run
    runsNow 0xA6 c s = true ∧ (fun c t => (par c 0 = 0 ∨ par c 0 = 1) ∧ t.led.journal = []) c (begun 0xA6 c s))
    ∧ (let c := ({ params := [3] } : Sub)
    let s := testState .run
    runsNow 0xA6 c s = true ∧ (fun c _ => par c 0 = 3) c (begun 0xA6 c s))
    ∧ (let c := ({ params := [2] } : Sub)
    let s := testState .run
    runsNow 0xA6 c s = true ∧ (fun c _ => par c 0 = 2) c (begun 0xA6 c s))
    ∧ (let c := ({ params := [4] } : Sub)
    let s := testState .run
    runsNow 0xA6 c s = true ∧ (fun c _ => par c 0 = 4) c (begun 0xA6 c s))
    ∧ (let c := ({ params := [5] } : Sub)
    let s := testState .run
    runsNow 0xA6 c s = true ∧ (fun c _ => par c 0 = 5) c (begun 0xA6 c s))
    ∧ (let c := ({ params := [5, 1, 0x1000, 0, 0x40] } : Sub)
    let s := { testState .run with led := { journal := [{ jseq := 5 }] } }
    runsNow 0xA7 c s = true ∧ (fun c t => 1 ≤ (par c 1).toNat ∧ (par c 1).toNat ≤ 65536 ∧ inWindow t true (addrAt c 2) (par c 4).toNat = true
        ∧ (t.led.journal.any fun e => e.jseq == par c 0) = true) c (begun 0xA7 c s))
    ∧ (let c := ({ target := 1, params := [0x1000, 0, 1] } : Sub)
    let s := testState .run
    runsNow 0xA8 c s = true ∧ (fun c t => 1 ≤ (par c 2).toNat ∧ (par c 2).toNat ≤ fwMax ∧ inWindow t false (addrAt c 0) (par c 2).toNat = true
        ∧ c.target ≠ t.led.fwSel ∧ lockOpen t = true ∧ t.mem.dram ≠ 2) c (begun 0xA8 c s))
    ∧ (let c := ({ target := 1 } : Sub)
    let s := { testState .run with led := { fw1 := { valid := true } } }
    runsNow 0xA9 c s = true ∧ (fun c t => (fwSlot t c.target).valid = true ∧ lockOpen t = true) c (begun 0xA9 c s)) := by
  dsimp only
  refine ⟨?_, ?_, ?_, ?_, ?_, ?_, ?_, ?_, ?_, ?_, ?_, ?_, ?_, ?_, ?_, ?_, ?_⟩ <;> decide +kernel

/-- States and operands for the clauses of MemoryCommandsComplete. -/
theorem witness_MemoryCommandsComplete :
    (let c := ({ params := [6] } : Sub)
    let s := testState .run
    runsNow 0xB0 c s = true ∧ (fun c _ => (par c 0).toNat < 7) c (begun 0xB0 c s))
    ∧ (let c := ({ params := [7] } : Sub)
    let s := testState .run
    runsNow 0xB0 c s = true ∧ (fun c _ => par c 0 = 7) c (begun 0xB0 c s))
    ∧ (let c := ({ params := [0x44445555, 0x44445555, 0x44445555, 0x44445555, 0x44445555, 0x44445555, 0x44445555, 0x44445555] } : Sub)
    let s := testState .run
    runsNow 0xB1 c s = true ∧ (fun c _ =>
        let ks := (upTo 64).map (turnSlot c)
        (ks.all fun k => decide (k < 6)) = true ∧ (ks.filter (· == 4)).length = (ks.filter (· == 5)).length) c (begun 0xB1 c s))
    ∧ (let c := ({ params := [3] } : Sub)
    let s := testState .run
    runsNow 0xB2 c s = true ∧ (fun c _ => (par c 0).toNat ≤ 3) c (begun 0xB2 c s))
    ∧ (let c := ({ params := [0x15180] } : Sub)
    let s := testState .run
    runsNow 0xB3 c s = true ∧ (fun c _ => (par c 0).toNat = 0 ∨ (60 ≤ (par c 0).toNat ∧ (par c 0).toNat ≤ 86400)) c (begun 0xB3 c s)) := by
  dsimp only
  refine ⟨?_, ?_, ?_, ?_, ?_⟩ <;> decide +kernel

/-- States and operands for the clauses of AnalogCommandsComplete. -/
theorem witness_AnalogCommandsComplete :
    (let c := ({ target := 63, params := [0x40000164, 1, 2] } : Sub)
    let s := testState .run
    runsNow 0xC0 c s = true ∧ (fun c t => aiCfgOk c.target (par c 0) = true ∧ (t.dev = .ready ∨ aiInUse t c.target = false)) c (begun 0xC0 c s))
    ∧ (let c := ({ target := 3, params := [0x3F02, 9, 0xFFFFFF30] } : Sub)
    let s := { testState .ready with analog := { ai := [(48, { cfg := some 0x44000110 })] } }
    runsNow 0xC1 c s = true ∧ (fun c t =>
        let k := field (par c 0) 0 4
        let l := injList (par c 2)
        k ≤ 4 ∧ (k = 1 ∨ k = 2 → field (par c 0) 8 7 ≤ 63) ∧ (l.all fun ch => ch / 16 == c.target && aiInj (aiCfg t ch)) = true
          ∧ l.eraseDups = l ∧ t.dev = .ready) c (begun 0xC1 c s))
    ∧ (let c := ({ target := 31, params := [2] } : Sub)
    let s := testState .ready
    runsNow 0xC2 c s = true ∧ (fun c t => (par c 0).toNat ≤ 2 ∧ t.dev = .ready) c (begun 0xC2 c s))
    ∧ (let c := ({ target := 31, params := [0x101] } : Sub)
    let s := testState .ready
    runsNow 0xC3 c s = true ∧ (fun c t => field (par c 0) 2 2 ≠ 3 ∧ (bit (par c 0) 0 = true → field (par c 0) 8 8 ≠ 0) ∧ t.dev = .ready) c (begun 0xC3 c s))
    ∧ (let c := ({ target := 63, params := [0xC8, 3] } : Sub)
    let s := testState .ready
    runsNow 0xC4 c s = true ∧ (fun c t => 200 ≤ (par c 0).toNat ∧ t.dev = .ready) c (begun 0xC4 c s))
    ∧ (let c := ({ target := 3, params := [0xE10] } : Sub)
    let s := testState .run
    runsNow 0xC5 c s = true ∧ (fun c t => field (par c 0) 0 12 ≤ 3600 ∧ (agroup t c.target).spare.isSome = true) c (begun 0xC5 c s))
    ∧ (let c := ({ target := 63, params := [1] } : Sub)
    let s := testState .run
    runsNow 0xC6 c s = true ∧ (fun c t => (par c 0 = 1 ∨ (par c 0 = 2 ∧ aiMode (aiCfg t c.target) = 2)) ∧ c.target < 64 ∧ aiInUse t c.target = false
        ∧ (aiOf t c.target).test = none) c (begun 0xC6 c s))
    ∧ (let c := ({ target := 67 } : Sub)
    let s := testState .run
    runsNow 0xC6 c s = true ∧ (fun c t => par c 0 = 0 ∧ 64 ≤ c.target ∧ (agroup t (c.target - 64)).rot = 0
        ∧ (agroup t (c.target - 64)).spare.isSome = true) c (begun 0xC6 c s))
    ∧ (let c := ({ target := 63 } : Sub)
    let s := testState .run
    runsNow 0xC7 c s = true ∧ (fun c _ => c.target < 64) c (begun 0xC7 c s))
    ∧ (let c := ({ target := 95 } : Sub)
    let s := testState .run
    runsNow 0xC7 c s = true ∧ (fun c _ => 64 ≤ c.target ∧ c.target < 96) c (begun 0xC7 c s))
    ∧ (let c := ({ target := 127 } : Sub)
    let s := testState .run
    runsNow 0xC7 c s = true ∧ (fun c _ => 96 ≤ c.target ∧ c.target < 128) c (begun 0xC7 c s))
    ∧ (let c := ({ target := 131 } : Sub)
    let s := testState .run
    runsNow 0xC7 c s = true ∧ (fun c _ => 128 ≤ c.target ∧ c.target < 132) c (begun 0xC7 c s))
    ∧ (let c := ({ target := 132 } : Sub)
    let s := testState .run
    runsNow 0xC7 c s = true ∧ (fun c _ => c.target = 132) c (begun 0xC7 c s))
    ∧ (let c := ({ target := 3, params := [1] } : Sub)
    let s := testState .run
    runsNow 0xC8 c s = true ∧ (fun _ _ => True) c (begun 0xC8 c s))
    ∧ (let c := ({ target := 3, params := [5] } : Sub)
    let s := testState .ready
    runsNow 0xC9 c s = true ∧ (fun c t => ¬ (c.target = 3 ∧ t.boot.legacyEn = true) ∧ t.dev = .ready
        ∧ ((upTo 32).all fun b => bit (par c 0) b || !ownsGp (actPlane t) (32 * c.target + b)) = true) c (begun 0xC9 c s)) := by
  dsimp only
  refine ⟨?_, ?_, ?_, ?_, ?_, ?_, ?_, ?_, ?_, ?_, ?_, ?_, ?_, ?_, ?_⟩ <;> decide +kernel

/-- States and operands for the clauses of FieldAndTimeCommandsComplete. -/
theorem witness_FieldAndTimeCommandsComplete :
    (let c := ({ target := 7, params := [0x5020001, 1, 2] } : Sub)
    let s := testState .ready
    runsNow 0xD0 c s = true ∧ (fun c t =>
        let w := par c 0
        let q := fport t c.target
        let d := q.linkUp && (field w 0 2 != q.speed || bit w 2 != q.serdesX)
        let u := setPort c.target { q with
          speed := field w 0 2, serdesX := bit w 2, cycPhase := field w 8 4, lostCnt := field w 16 8, margin := field w 24 8
          mac := (par c 1).toNat + field (par c 2) 0 16 * 2 ^ 32
          linkUp := q.linkUp && !d, clockRec := q.clockRec && !d, linkFell := q.linkFell || d, resend := q.resend && !d } t
        field w 0 2 ≠ 0 ∧ field w 8 4 < fieldCycle (field w 0 2) ∧ 2 ≤ field w 16 8 ∧ 5 ≤ field w 24 8 ∧ field w 24 8 ≤ 100
          ∧ t.dev = .ready ∧ phaseBad t c.target (fieldCycle (field w 0 2)) (field w 8 4) = none
          ∧ portBad u c.target = none) c (begun 0xD0 c s))
    ∧ (let c := ({ target := 255, params := [0x80000000, 1, 0x10000, 1] } : Sub)
    let s := { testState .ready with field := { ports := [(7, { speed := 3 })] } }
    runsNow 0xD1 c s = true ∧ (fun c t => t.dev = .ready ∧ ((stationFrom c).en = true → stationOk t c.target (stationFrom c) = true)
        ∧ portBad (mqFresh c.target (setStation c.target (stationFrom c) t)) (c.target / 32) = none) c (begun 0xD1 c s))
    ∧ (let c := ({ target := 7, params := [0] } : Sub)
    let s := testState .ready
    runsNow 0xD0 c s = true ∧ (fun c t =>
        let w := par c 0
        let q := fport t c.target
        let d := q.linkUp && (field w 0 2 != q.speed || bit w 2 != q.serdesX)
        let u := setPort c.target { q with
          speed := field w 0 2, serdesX := bit w 2, cycPhase := field w 8 4, lostCnt := field w 16 8, margin := field w 24 8
          mac := (par c 1).toNat + field (par c 2) 0 16 * 2 ^ 32
          linkUp := q.linkUp && !d, clockRec := q.clockRec && !d, linkFell := q.linkFell || d, resend := q.resend && !d, rx := [] } t
        field w 0 2 = 0 ∧ t.dev = .ready ∧ portBad u c.target = none) c (begun 0xD0 c s))
    ∧ (let c := ({ target := 255 } : Sub)
    let s := { testState .run with field := { stations := [(255, { en := true })] } }
    runsNow 0xD2 c s = true ∧ (fun c t => (station t c.target).en = true ∧ (station t c.target).armed = false) c (begun 0xD2 c s))
    ∧ (let c := ({ target := 7 } : Sub)
    let s := testState .run
    runsNow 0xD3 c s = true ∧ (fun c _ => c.target < 8) c (begun 0xD3 c s))
    ∧ (let c := ({ target := 511 } : Sub)
    let s := testState .run
    runsNow 0xD3 c s = true ∧ (fun c _ => 256 ≤ c.target) c (begun 0xD3 c s))
    ∧ (let c := ({ target := 1, params := [3] } : Sub)
    let s := testState .run
    runsNow 0xD4 c s = true ∧ (fun c _ => field (par c 0) 0 3 ≤ 3) c (begun 0xD4 c s))
    ∧ (let c := ({ params := [1, 0, 0, 1, 0] } : Sub)
    let s := testState .run
    runsNow 0xD5 c s = true ∧ (fun c _ => 0 < (par c 3).toInt) c (begun 0xD5 c s))
    ∧ (let c := ({} : Sub)
    let s := testState .run
    runsNow 0xD6 c s = true ∧ (fun _ _ => True) c (begun 0xD6 c s))
    ∧ (let c := ({ params := [2] } : Sub)
    let s := testState .run
    runsNow 0xD7 c s = true ∧ (fun c _ => (par c 0).toNat < 3) c (begun 0xD7 c s))
    ∧ (let c := ({ params := [3, 0x63] } : Sub)
    let s := testState .run
    runsNow 0xD7 c s = true ∧ (fun c _ => par c 0 = 3) c (begun 0xD7 c s))
    ∧ (let c := ({ params := [1, 0, 0] } : Sub)
    let s := testState .run
    runsNow 0xD8 c s = true ∧ (fun c t => servoOn t = false ∧ t.field.time.stepUsed = false ∧ 0 ≤ tqNow t + stepDelta c) c (begun 0xD8 c s))
    ∧ (let c := ({ params := [0x80000000] } : Sub)
    let s := testState .run
    runsNow 0xD9 c s = true ∧ (fun _ t => servoOn t = false) c (begun 0xD9 c s))
    ∧ (let c := ({ target := 3, params := [1, 2, 1] } : Sub)
    let s := testState .run
    runsNow 0xDA c s = true ∧ (fun _ _ => True) c (begun 0xDA c s))
    ∧ (let c := ({} : Sub)
    let s := testState .run
    runsNow 0xDB c s = true ∧ (fun _ _ => True) c (begun 0xDB c s)) := by
  dsimp only
  refine ⟨?_, ?_, ?_, ?_, ?_, ?_, ?_, ?_, ?_, ?_, ?_, ?_, ?_, ?_, ?_⟩ <;> decide +kernel

/-- States and operands for the clauses of CanCommandsComplete. -/
theorem witness_CanCommandsComplete :
    (let c := ({ target := 7, params := [0, 0x4AC38E7, 0xA7A99D0, 0xA7A99D0, 0, 0] } : Sub)
    let s := testState .run
    runsNow 0xE0 c s = true ∧ (fun c t => field (par c 0) 30 2 ≠ 3 ∧ nbtOk (par c 1) = true ∧ dbtOk (par c 2) = true ∧ dbtOk (par c 3) = true
        ∧ 20 ≤ dataBit (par c 3) ∧ (bit (par c 4) 0 = true → field (par c 4) 8 6 + field (par c 4) 16 6 = dataBit (par c 3))
        ∧ (bit (par c 0) 22 = true → 10 ≤ (par c 5).toNat) ∧ (canCh t c.target).state = 0) c (begun 0xE0 c s))
    ∧ (let c := ({ target := 511, params := [1, 2, 0x80000000, 3] } : Sub)
    let s := testState .run
    runsNow 0xE1 c s = true ∧ (fun c _ => field (par c 2) 29 3 ≤ 4) c (begun 0xE1 c s))
    ∧ (let c := ({ target := 511, params := [0x80000000, 1, 2, 0xFF] } : Sub)
    let s := testState .run
    runsNow 0xE2 c s = true ∧ (fun c t => field (par c 0) 28 2 ≠ 3 ∧ (bit (par c 0) 31 = true → (par c 3).toNat ≠ 0)
        ∧ (t.dev = .ready ∨ signalInUse t c.target = false)) c (begun 0xE2 c s))
    ∧ (let c := ({ target := 255, params := [0x80000008, 0, 0, 0, 0, 0, 0, 0, 0, 0, 0] } : Sub)
    let s := testState .run
    runsNow 0xE3 c s = true ∧ (fun c _ => ((upTo 8).all fun i => !badWordSrc (par c (3 + i))) = true ∧ (bit (par c 0) 31 = true →
        field (par c 0) 29 2 ≠ 3 ∧ lenAllowed (if field (par c 0) 29 2 = 0 then 0 else 1) (field (par c 0) 0 6) = true
          ∧ field (par c 0) 0 6 ≤ 32)) c (begun 0xE3 c s))
    ∧ (let c := ({ target := 7, params := [0x1000, 0, 9], image := [1, 0x800000, 0, 0, 0, 0, 0, 0] } : Sub)
    let s := { testState .run with can := { chans := [(7, { state := 2 })] } }
    runsNow 0xE4 c s = true ∧ (fun c t =>
        let x := canCh t c.target
        let w0 := wordAt c.image 0
        let w1 := wordAt c.image 1
        inWindow t false (addrAt c 0) (messageBytes (field w1 20 12)) = true ∧ field w0 30 2 ≠ 3 ∧ field w0 30 2 ≤ canMode x
          ∧ ¬ (field w0 30 2 = 2 ∧ bit w0 29 = true) ∧ lenAllowed (field w0 30 2) (field w1 20 12) = true ∧ bit w1 16 = false
          ∧ ((upTo 5).all fun i => wordAt c.image (3 + i) == 0) = true
          ∧ x.state ≠ 0 ∧ x.state ≠ 4 ∧ canListen x = false ∧ t.dev ≠ .safe) c (begun 0xE4 c s))
    ∧ (let c := ({ target := 7 } : Sub)
    let s := testState .run
    runsNow 0xE5 c s = true ∧ (fun c _ => par c 0 = 0) c (begun 0xE5 c s))
    ∧ (let c := ({ target := 7, params := [1] } : Sub)
    let s := testState .run
    runsNow 0xE5 c s = true ∧ (fun c t => par c 0 = 1 ∧ (canCh t c.target).state = 0) c (begun 0xE5 c s))
    ∧ (let c := ({ target := 7, params := [1] } : Sub)
    let s := { testState .run with can := { chans := [(7, { state := 2 })] } }
    runsNow 0xE5 c s = true ∧ (fun c t => par c 0 = 1 ∧ (canCh t c.target).state ≠ 0) c (begun 0xE5 c s))
    ∧ (let c := ({ target := 7, params := [3] } : Sub)
    let s := testState .run
    runsNow 0xE5 c s = true ∧ (fun c _ => par c 0 = 3) c (begun 0xE5 c s))
    ∧ (let c := ({ target := 7, params := [2] } : Sub)
    let s := { testState .run with can := { chans := [(7, { state := 4 })] } }
    runsNow 0xE5 c s = true ∧ (fun c t => par c 0 = 2 ∧ (canCh t c.target).state = 4) c (begun 0xE5 c s))
    ∧ (let c := ({ target := 7, params := [0, 0x40, 0x1000, 0, 0x64] } : Sub)
    let s := testState .run
    runsNow 0xE6 c s = true ∧ (fun c t => 1 ≤ (par c 1).toNat ∧ (par c 1).toNat ≤ 64 ∧ inWindow t true (addrAt c 2) (par c 4).toNat = true
        ∧ bit (par c 0) 0 = false) c (begun 0xE6 c s))
    ∧ (let c := ({ target := 7, params := [3, 1, 0x1000, 0, 0x64] } : Sub)
    let s := { testState .run with can := { chans := [(7, { hp := [(1, some {})] })] } }
    runsNow 0xE6 c s = true ∧ (fun e => (fun c t => 1 ≤ (par c 1).toNat ∧ (par c 1).toNat ≤ 64 ∧ inWindow t true (addrAt c 2) (par c 4).toNat = true
        ∧ bit (par c 0) 0 = true ∧ tget none (canCh t c.target).hp (field (par c 0) 1 2) = some e
        ∧ (rxBytes e (some (field (par c 0) 1 2))).length ≤ (par c 4).toNat)) ({}) c (begun 0xE6 c s))
    ∧ (let c := ({ target := 7, params := [1, 1, 0x1000, 0, 0x64] } : Sub)
    let s := testState .run
    runsNow 0xE6 c s = true ∧ (fun c t => 1 ≤ (par c 1).toNat ∧ (par c 1).toNat ≤ 64 ∧ inWindow t true (addrAt c 2) (par c 4).toNat = true
        ∧ bit (par c 0) 0 = true ∧ tget none (canCh t c.target).hp (field (par c 0) 1 2) = none) c (begun 0xE6 c s))
    ∧ (let c := ({ target := 7, params := [9] } : Sub)
    let s := testState .run
    runsNow 0xE7 c s = true ∧ (fun c t => par c 0 = 9 ∧ (canCh t c.target).tec ≤ 255) c (begun 0xE7 c s))
    ∧ (let c := ({ target := 7, params := [8] } : Sub)
    let s := testState .run
    runsNow 0xE7 c s = true ∧ (fun c t => (par c 0).toNat < 9 ∧ (canCh t c.target).tec ≤ 255) c (begun 0xE7 c s)) := by
  dsimp only
  refine ⟨?_, ?_, ?_, ?_, ?_, ?_, ?_, ?_, ?_, ?_, ?_, ?_, ?_, ?_, ?_⟩ <;> decide +kernel

/-- States and operands for the clauses of EventAndLockCommandsComplete. -/
theorem witness_EventAndLockCommandsComplete :
    (let c := ({ target := 511, params := [1, 0x2000000] } : Sub)
    let s := testState .run
    runsNow 0xE8 c s = true ∧ (fun c _ => (par c 0).toNat ≠ 0 ∧ c.target + (par c 0).toNat ≤ 512) c (begun 0xE8 c s))
    ∧ (let c := ({ target := 511 } : Sub)
    let s := testState .run
    runsNow 0xE9 c s = true ∧ (fun _ _ => True) c (begun 0xE9 c s))
    ∧ (let c := ({ params := [0, 0x10000, 0x1000, 0, 0x40] } : Sub)
    let s := testState .run
    runsNow 0xEA c s = true ∧ (fun c t => 1 ≤ (par c 1).toNat ∧ (par c 1).toNat ≤ 65536 ∧ inWindow t true (addrAt c 2) (par c 4).toNat = true) c (begun 0xEA c s))
    ∧ (let c := ({} : Sub)
    let s := testState .run
    runsNow 0xEB c s = true ∧ (fun _ t => lockOpen t = true) c (begun 0xEB c s))
    ∧ (let c := ({ params := [0x31, 0x10] } : Sub)
    let s := testState .run
    runsNow 0xEC c s = true ∧ (fun c t => field (par c 0) 3 2 ≠ 3 ∧ (par c 1).toNat ≤ 16 ∧ lockOpen t = true ∧ bit (par c 0) 0 = true) c (begun 0xEC c s))
    ∧ (let c := ({ params := [0x30, 0] } : Sub)
    let s := testState .run
    runsNow 0xEC c s = true ∧ (fun c t => field (par c 0) 3 2 ≠ 3 ∧ (par c 1).toNat ≤ 16 ∧ lockOpen t = true ∧ bit (par c 0) 0 = false) c (begun 0xEC c s))
    ∧ (let c := ({ target := 127, params := [2] } : Sub)
    let s := testState .run
    runsNow 0xED c s = true ∧ (fun c t => (0x80 ≤ c.target ∨ isPlane (par c 0).toNat = true) ∧ lockOpen t = true) c (begun 0xED c s))
    ∧ (let c := ({} : Sub)
    let s := testState .run
    runsNow 0xEE c s = true ∧ (fun c t => par c 0 = 0 ∧ barredFor t = 0) c (begun 0xEE c s))
    ∧ (let c := ({ params := [1] } : Sub)
    let s := { testState .run with lock := { nonce := some (1, 2) } }
    runsNow 0xEE c s = true ∧ (fun n => (fun c t => par c 0 = 1 ∧ barredFor t = 0 ∧ t.lock.nonce = some n)) ((1, 2)) c (begun 0xEE c s))
    ∧ (let c := ({ params := [1] } : Sub)
    let s := testState .run
    runsNow 0xEF c s = true ∧ (fun c _ => par c 0 = 1) c (begun 0xEF c s)) := by
  dsimp only
  refine ⟨?_, ?_, ?_, ?_, ?_, ?_, ?_, ?_, ?_, ?_⟩ <;> decide +kernel

/-- States and operands for the clauses of SetStateCompletes. -/
theorem witness_SetStateCompletes :
    (let c : Sub := { params := [3] }
    let s := { testState .ready with planeA := { fab := { cfg := some {} } }, sealed := { valid := true } }
    runsNow 0x02 c s = true ∧ par c 1 = 0 ∧ par c 0 = 3 ∧ s.dev = .ready ∧ (actPlane (begun 0x02 c s)).fab.cfg.isSome = true
      ∧ s.sealed.valid = true)
    ∧ (let c : Sub := { params := [2] }
    let s := testState .run
    runsNow 0x02 c s = true ∧ par c 1 = 0 ∧ par c 0 = 2 ∧ s.dev = .run ∧ noSession (actPlane (begun 0x02 c s)) = true
      ∧ axesIn [0, 1] (actPlane (begun 0x02 c s)) = true)
    ∧ (let c : Sub := { params := [4] }
    let s := testState .run
    runsNow 0x02 c s = true ∧ par c 1 = 0 ∧ par c 0 = 4 ∧ s.dev = .run ∧ noSession (actPlane (begun 0x02 c s)) = true
      ∧ axesIn [0] (actPlane (begun 0x02 c s)) = true ∧ ((upTo 1024).all (loopIdle (actPlane (begun 0x02 c s)))) = true)
    ∧ (let c : Sub := { params := [5] }
    let s := testState .ready
    runsNow 0x02 c s = true ∧ par c 0 = 5 ∧ s.dev = .ready)
    ∧ (let c : Sub := { params := [7] }
    let s := testState .idle
    runsNow 0x02 c s = true ∧ par c 1 = 0 ∧ par c 0 = 7 ∧ mayEnterSafe s = true)
    ∧ (let c : Sub := { params := [3] }
    let s := testState .idle
    runsNow 0x02 c s = true ∧ par c 1 = 0 ∧ par c 0 = 3 ∧ s.dev = .idle ∧ s.clock.idleWake = none) := by
  try dsimp only
  refine ⟨?_, ?_, ?_, ?_, ?_, ?_⟩ <;> decide +kernel

/-- States and operands for the clauses of RecipeCommandsAtTheirCut. -/
theorem witness_RecipeCommandsAtTheirCut :
    (let x : Cmd := { sub := { target := 5, params := [0xFFFF] }, op := 0x43 }
    let t := { testState .run with planeA := { sess := { recs := [(80, 0x10000000)], imgs := [(5, some { steps := [List.replicate 16 0] })] } } }
    let p := actPlane t
    let i := sessImg p 5
    x.op = 0x43 ∧ afterF 0x43 t = false ∧ overtaken 0x43 t = false ∧ ownedByWindow p 5 = false ∧ t.dev = .run ∧ sessState p 5 = ssLoaded
      ∧ nStep i ≠ 0 ∧ field (par x.sub 0) 0 16 = 0xFFFF ∧ scopeConflict p 5 i.scope = none ∧ boundAction p i = none
      ∧ fencedAction t.sealed p i = none)
    ∧ (let x : Cmd := { sub := { target := 5, params := [0xFFFE] }, op := 0x45 }
    let s := { testState .run with planeA := { sess := { recs := [(80, 0x20000000)] } } }
    let t := onPlanes (abortTakes x.sub.target) { s with hif := { s.hif with cmds := s.hif.cmds.erase x } }
    afterF x.op s = false ∧ overtaken x.op s = false ∧ x.op = 0x45 ∧ ownedByWindow (actPlane t) x.sub.target = false
      ∧ sessState (actPlane t) x.sub.target = ssRunning ∧ field (par x.sub 0) 0 16 = 0xFFFE ∧ bit (sw (actPlane t) 5 wSstate) 26 = false) := by
  try dsimp only
  refine ⟨?_, ?_⟩ <;> decide +kernel

/-- States and operands for the clauses of AxisCommandWrites. -/
theorem witness_AxisCommandWrites :
    (let p : Plane := { axes := { ctx := [(64 * 63 + 2, 1), (64 * 63 + 14, 1), (64 * 63 + 15, 1), (64 * 63 + 16, 1), (64 * 63 + 17, 1)] } }
    let f : Nat → Word := fun _ => 0
    axState p 63 = 1 ∧ pulseOk (axLimits f 63 p) 63 = true ∧ limitsSet (axLimits f 63 p) 63 = true)
    ∧ (axState { axes := { ctx := [(64 * 63 + 2, 6)] } } 63 = 6) := by
  try dsimp only
  refine ⟨?_, ?_⟩ <;> decide +kernel

/-- States and operands for the clauses of RegisterRowsTakeEffect. -/
theorem witness_RegisterRowsTakeEffect :
    (let s := testState .run
    bar0Ok s = true ∧ bit (qpOf s 63).ctrl 0 = false ∧ sizesOk (setBit 0xC400 0 true) = true)
    ∧ (let s := testState .run
    bit (qpOf s 0).ctrl 0 = true ∧ (qpOf s 0).err = false ∧ (15 : Word).toNat < sqLen (qpOf s 0))
    ∧ (let s := { testState .run with hif := { (testState .run).hif with qps := [(0, { ctrl := 0x4401, cqTail := 5, cqHead := 14 })] } }
    let v : Word := 5
    bit (qpOf s 0).ctrl 0 = true ∧ (qpOf s 0).err = false ∧ v.toNat < cqLen (qpOf s 0)
      ∧ (v.toNat + cqLen (qpOf s 0) - (qpOf s 0).cqHead) % cqLen (qpOf s 0)
        ≤ ((qpOf s 0).cqTail + cqLen (qpOf s 0) - (qpOf s 0).cqHead) % cqLen (qpOf s 0))
    ∧ (qpOf { testState .run with hif := { (testState .run).hif with qps := [(0, { ctrl := 0x4401, retry := true })] } } 0).retry = true
    ∧ (bit (0x40000000 : Word) 31 = true ∨ bit (0x40000000 : Word) 30 = true)
    ∧ (0xFFFFC < 0x100000 ∧ 0xFFFFC % 4 = 0 ∧ 0xFFFF8 % 8 = 0)
    ∧ (let s := { testState .run with mem := { chans := [(15, { state := 2 })] } }
    bar0Ok s = true ∧ (dmaCh s 15).state = 2 ∧ s.mem.xlatEn = false) := by
  try dsimp only
  refine ⟨?_, ?_, ?_, ?_, ?_, ?_, ?_⟩ <;> decide +kernel

/-- States and operands for the clauses of LinkRowsTakeEffect. -/
theorem witness_LinkRowsTakeEffect :
    (let s := testState .run
    s.hif.linkUp = true ∧ s.hif.d3hot = false)
    ∧ (let s := { testState .run with hif := { linkUp := true, d3hot := true } }
    s.hif.linkUp = true ∧ s.hif.d3hot = true)
    ∧ (let s := { testState .run with hif := {} }
    isLink 5 1 = true ∧ s.hif.linkUp = false ∧ tget false s.clock.powered 0x04 = true ∧ tget false s.clock.tripped 0x04 = false) := by
  try dsimp only
  refine ⟨?_, ?_, ?_⟩ <;> decide +kernel

/-- States and operands for the clauses of FrontEndRowsTakeEffect. -/
theorem witness_FrontEndRowsTakeEffect :
    (let s := { testState .run with hif := { (testState .run).hif with qps := [(0, { ctrl := 0x4401, sqTail := 1 })] } }
    (qpOf s 0).sqHead ≠ (qpOf s 0).sqTail ∧ entryCrcOk [0x70006, 0, 0, 0, 0, 0, 0, 0, 0, 0, 0, 0, 0, 0, 0, 0x660329C5] = true
      ∧ entryCrcOk [0x70006, 0, 0, 0, 0, 0, 0, 0, 0, 0, 0, 0, 0, 0, 0, 0] = false ∧ fetchable s { entryOfWords 0 [0x70006, 0, 0, 0, 0, 0, 0, 0, 0, 0, 0, 0, 0, 0, 0, 0] [] with flags := 0 } = true)
    ∧ (let x : Cmd := { sub := { flags := 2, atSn := 101 }, op := 0x10, wait := .timed }
    let s := { testState .run with hif := { cmds := [x] } }
    x.sub.qp < 64 ∧ placeable s x = true ∧ afterF x.op s = false
      ∧ (s.hif.cmds.find? fun y => placeable s y && y.sub.qp == x.sub.qp && y.sub.tag == x.sub.tag) = some x)
    ∧ (let x : Cmd := { sub := { target := 3 }, op := 0x06 }
    let s := { testState .run with hif := { cmds := [x] } }
    let u := { s with hif := { s.hif with cmds := s.hif.cmds.erase x } }
    x.sub.qp < 64 ∧ forwardable x = true
      ∧ (s.hif.cmds.find? fun y => forwardable y && y.sub.qp == x.sub.qp && y.sub.tag == x.sub.tag) = some x
      ∧ faultable x = true
      ∧ (s.hif.cmds.find? fun y => faultable y && y.sub.qp == x.sub.qp && y.sub.tag == x.sub.tag) = some x
      ∧ afterF x.op s = false ∧ overtaken x.op s = false
      ∧ (match coreOf x.op x.sub u with | .done _ _ _ => true | _ => false) = true)
    ∧ (let s := { testState .run with hif := { (testState .run).hif with qps := [(0, { ctrl := 0x4403, coalCtrl := 0x05004403, coalCount := 1, coalAge := 5 })] } }
    bit (qpOf s 0).coalCtrl 1 = true ∧ field (qpOf s 0).coalCtrl 24 8 ≠ 0 ∧ 0 < (qpOf s 0).coalCount
      ∧ field (qpOf s 0).coalCtrl 24 8 ≤ (qpOf s 0).coalAge)
    ∧ (let s := { testState .run with hif := { fwHigh := true } }
    s.hif.fwHigh = true ∧ backlog s ≤ 192 ∧ s.hif.timedHigh = false)
    ∧ (let s := { testState .run with hif := { timedHigh := true } }
    s.hif.fwHigh = false ∧ s.hif.timedHigh = true ∧ timedCount s ≤ 768) := by
  try dsimp only
  refine ⟨?_, ?_, ?_, ?_, ?_, ?_⟩ <;> decide +kernel

/-- States and operands for the clauses of DispatchRowsTakeEffect. -/
theorem witness_DispatchRowsTakeEffect :
    (halted (testState .run) = false ∧ (testState .run).ump.relDone = false ∧ (testState .run).boot.preTick = false
      ∧ (testState .run).ump.roll = none)
    ∧ (1023 < 1024 ∧ 3 < 4 ∧ 99 < 100 ∧ 9 < 10 ∧ 3 / 4 % 2 = 0 ∧ 7 / 4 % 2 = 1 ∧ 10 ≤ 12 ∧ 12 < 13)
    ∧ (let s := { testState .run with planeA := { fab := { ctx := [(0, 7), (1, 1), (55, 0x20000000), (63, 16)], inflight := [{ loop := 0, sn := 100, at_ := 0, ops := List.replicate 4 (0, true) }] } } }
    let t := onPlanes (fun p => completeTask (portFree s) 0 (settleCut p)) s
    halted s = false ∧ loopMode (actPlane s) 0 = 7 ∧ loopMode (actPlane t) 0 = 6)
    ∧ (let s := { testState .run with planeA := { fab := { ctx := [(0, 3), (1, 1), (54, 1)], inflight := [{ loop := 0, sn := 100, at_ := 0, ops := List.replicate 4 (0, true) }] } } }
    let t := onPlanes (fun p => completeTask (portFree s) 0 (settleCut p)) s
    loopMode (actPlane s) 0 = 3 ∧ loopMode (actPlane t) 0 = 6 ∧ field (lw (actPlane t) 0 wStale) 0 16 ≠ 0
      ∧ field (lw (actPlane t) 0 wStale) 0 16 ≤ field (lw (actPlane t) 0 wStale) 16 16)
    ∧ (let s := { testState .run with planeA := { fab := { groups := [(3, { quiet := 100 })] } } }
    100 ≤ (group (actPlane s) 3).quiet ∧ groupQuiet (actPlane s) 3 = true) := by
  try dsimp only
  refine ⟨?_, ?_, ?_, ?_, ?_⟩ <;> decide +kernel

/-- States and operands for the clauses of InputCutAdvancesTheSample. -/
theorem witness_InputCutAdvancesTheSample :
    (cutRuns (testState .run) = true ∧ cutRuns (testState .standby) = false ∧ (testState .run).boot.preTick = false
      ∧ computes (testState .run).ump.a = true ∧ computes (testState .run).ump.b = true) := by
  try dsimp only
  decide +kernel

/-- States and operands for the clauses of CommitAndPostingRowsTakeEffect. -/
theorem witness_CommitAndPostingRowsTakeEffect :
    (let s := testState .run
    (([4351] : List Nat).all fun c => decide (c < 4352)) = true ∧ s.dev ≠ .off ∧ s.dev ≠ .standby ∧ s.boot.preTick = false
      ∧ s.boot.firstCommit = true ∧ coveredFrom (scanProgress 5200 s) = none)
    ∧ (let s := { testState .ready with boot := { preTick := false } }
    s.dev ≠ .off ∧ s.dev ≠ .standby ∧ s.boot.preTick = false ∧ s.boot.firstCommit = false)
    ∧ (coveredFrom (scanProgress 5200 { testState .run with ump := { (testState .run).ump with roll := some ⟨99, [], 0⟩ } }) = some 99) := by
  try dsimp only
  refine ⟨?_, ?_, ?_⟩ <;> decide +kernel

/-- States and operands for the clauses of UmpireRowsTakeEffect. -/
theorem witness_UmpireRowsTakeEffect :
    (isPlane 2 = true ∧ 1 ≤ 5 ∧ 5 ≤ 5)
    ∧ (let s := { testState .run with ump := { a := { code := 1 }, b := { code := 2, ticks := 300 } } }
    halted s = false ∧ (pstat s 2).code = 2 ∧ (pstat s 2).ticks % 100 = 0 ∧ (pstat s 2).repTick = false)
    ∧ (let s := { testState .run with ump := { a := { code := 1 }, b := { code := 3, ticks := 99999 } } }
    halted s = false ∧ (pstat s 2).code = 3 ∧ (pstat s 2).ticks < 100000 ∧ causeStands s 2 = false)
    ∧ (let s := { testState .run with ump := { a := { code := 1 }, b := { code := 3, ticks := 100000 } } }
    (pstat s 2).code = 3 ∧ 100000 ≤ (pstat s 2).ticks)
    ∧ (let s := { { testState .run with ump := { a := { code := 1 }, b := { code := 4, ticks := 99999, copied := true } } } with clock := { b := { aligned := true } } }
    halted s = false ∧ (pstat s 2).code = 4 ∧ (pstat s 2).finalCut = false ∧ s.ump.sw = none ∧ quietTick s = true
      ∧ (pclk s 2).aligned = true ∧ (pstat s 2).copied = true ∧ (pstat s 2).ticks < 100000)
    ∧ (let s := { testState .run with ump := { a := { code := 1 }, b := { code := 4, ticks := 100000, resyncAgree := 1000 } } }
    (pstat s 2).code = 4 ∧ (pstat s 2).finalCut = false ∧ 1000 ≤ (pstat s 2).resyncAgree ∧ 100000 ≤ (pstat s 2).ticks)
    ∧ (let s := testState .run
    let b : Heartbeat := { sn := 100 }
    let h : Heartbeat := { b with crc := heartbeatCrc b }
    halted s = false ∧ s.boot.preTick = false ∧ s.ump.a.code = 1 ∧ s.ump.b.code = 2 ∧ heartbeatCounts s (some h) = true
      ∧ ({ h with sn := 99 } : Heartbeat).sn ≠ s.sn)
    ∧ (let s := { testState .run with ump := { a := { code := 1 }, b := { code := 3 }, roll := some ⟨100, [5], 0⟩ } }
    halted s = false ∧ s.ump.roll = some ⟨100, [5], 0⟩ ∧ s.ump.a.code = 1 ∧ s.ump.b.code ≠ 2)
    ∧ (let s := { testState .run with ump := { a := { code := 1 }, b := { code := 2 }, sw := some ⟨1, 2, 99, 100, 0⟩, relDone := true } }
    s.ump.sw = some ⟨1, 2, 99, 100, 0⟩ ∧ snLater 100 s.sn = false ∧ s.ump.relDone = true) := by
  try dsimp only
  refine ⟨?_, ?_, ?_, ?_, ?_, ?_, ?_, ?_, ?_⟩ <;> decide +kernel

/-- States and operands for the clauses of LedgerRowsTakeEffect. -/
theorem witness_LedgerRowsTakeEffect :
    (let s := { testState .run with led := { jqueue := [{ sn := 90 }] }, evts := { recQueue := [{ sn := 90 }] } }
    ledgerOn s = true ∧ tget false s.clock.tripped 0x02 = false ∧ (nextEntry s).isSome = true ∧ (nextRecord s).isSome = true
      ∧ s.evts.full = false
      ∧ s.led.tries < 3 ∧ 3 ≤ (setLed { s.led with tries := 3 } s).led.tries)
    ∧ (({ testState .run with hif := { cmds := [{ sub := {}, op := 0xEB, wait := .device }] } }).hif.cmds.find? ledgerCmd
      = some { sub := {}, op := 0xEB, wait := .device }) := by
  try dsimp only
  refine ⟨?_, ?_⟩ <;> decide +kernel

/-- States and operands for the clauses of AxisAndSafetyRowsTakeEffect. -/
theorem witness_AxisAndSafetyRowsTakeEffect :
    (let s := { testState .run with planeA := { axes := { ctx := [(64 * 63, 0x10000000 + 0x400), (64 * 63 + 2, 1), (64 * 63 + 20, 1), (64 * 63 + 5, 5)] } } }
    halted s = false ∧ (axHid (actPlane s) 63).ticked = false
      ∧ stallCause s (axDrive s 63 (axFeedback s 63 (actPlane s))) (axEmf s 63 (axDrive s 63 (axFeedback s 63 (actPlane s)))) 63 ≠ 0)
    ∧ (let s := { testState .run with planeA := { safe := { ax := [(0, { ss1 := some {}, demand := true })] } } }
    let t := onPlanes (safeEval s) s
    (safeAx (actPlane s) 0).ss1.isSome = true ∧ (safeAx (actPlane t) 0).ss1 = none)
    ∧ (let s := { testState .run with planeA := { axes := { ctx := [(2, 1), (5, 5)], hid := [(0, { prevCpos := 5 * 2 ^ 32 })] }, safe := { ax := [(0, { wasDisabled := false })] } }, sealed := { regs := [(17152, 0x40000000), (17162, 1), (17164, 0xFFFF)] } }
    let t := onPlanes (safeEval s) s
    (safeAx (actPlane t) 0).demand = true ∧ (safeAx (actPlane t) 0).cause = 6 ∧ (safeAx (actPlane s) 0).demand = false)
    ∧ (let s := { testState .run with ump := { (testState .run).ump with ticks := 570 }, planeB := { safe := { lines := [(7, true)] } } }
    pulseLine s 7 = some 1 ∧ tget false (planeOf s 2).safe.lines 7 = true)
    ∧ (canConn (testState .run).sealed 63 = none) := by
  try dsimp only
  refine ⟨?_, ?_, ?_, ?_, ?_⟩ <;> decide +kernel

/-- States and operands for the clauses of ScanCycleRowsTakeEffect. -/
theorem witness_ScanCycleRowsTakeEffect :
    (let s := { testState .run with planeA := { scan := { mode := 1, gridStart := true } } }
    scanOn s = true ∧ (actPlane s).scan.mode = 1 ∧ (actPlane s).scan.gridStart = true ∧ scanBusy (actPlane s) = false) := by
  try dsimp only
  decide +kernel

/-- States and operands for the clauses of RecordingAndMemoryRowsTakeEffect. -/
theorem witness_RecordingAndMemoryRowsTakeEffect :
    (let t := recDue { testState .run with recorder := { running := true, taken := true } }
    t.recorder.running = true ∧ t.recorder.taken = true ∧ t.recHeld = [])
    ∧ (let s := { testState .run with recorder := { stream := { run := true, drop := some (1, 1, 1, 1, false) } } }
    nextChannel s false = some 1)
    ∧ (let s := { testState .run with mem := { (testState .run).mem with slot := 63, turn := turnTab fun _ => 5 } }
    let own := turnOwner (burstEnd s) (burstEnd s).mem.slot
    dramServes s = true ∧ dramServes (burstEnd s) = true ∧ own ≠ 0 ∧ requests (burstEnd s) 0x20 own = true)
    ∧ (let s := { testState .run with mem := { (testState .run).mem with turn := turnTab fun _ => 0, lastBg := 1 } }
    dramServes s = true ∧ turnOwner s s.mem.slot = 0 ∧ background s 0x10 = some 4 ∧ (testState .start).dev = .start)
    ∧ (let s := { testState .run with mem := { (testState .run).mem with granted := 6 } }
    s.mem.granted ≠ 0 ∧ s.mem.interrupted = false ∧ s.mem.granted = 6 ∧ dramServes s = true ∧ eccAt 0 (256 * s.mem.scrubPos) 256 s = 0)
    ∧ (({ testState .run with mem := { (testState .run).mem with granted := 1 } }).mem.granted = 1)
    ∧ (let s := { testState .run with mem := { (testState .run).mem with chans := [(5, { state := 1, host := 4096, length := 300, data := List.replicate 300 0 })] } }
    nextChannel s false = some 5 ∧ nextChannel s true = none ∧ inWindow s (!(dmaCh s 5).dir) ((dmaCh s 5).host + (dmaCh s 5).done) (burstBytes (dmaCh s 5)) = true
      ∧ s.mem.xlatEn = false ∧ (dmaCh s 5).state = 1)
    ∧ (let s := { testState .run with mem := { (testState .run).mem with chans := [(5, { state := 1, dir := true, host := 4096, length := 300 })] } }
    nextChannel s false = none ∧ nextChannel s true = some 5 ∧ inWindow s (!(dmaCh s 5).dir) ((dmaCh s 5).host + (dmaCh s 5).done) (burstBytes (dmaCh s 5)) = true
      ∧ s.mem.xlatEn = false)
    ∧ (let s := { testState .run with mem := { (testState .run).mem with chans := [(5, { state := 1, host := 4096, length := 300, data := List.replicate 300 0 }), (6, { state := 1, dir := true, host := 4096, length := 300 })] } }
    nextChannel s false = some 5 ∧ nextChannel s true = some 6 ∧ inWindow s (!(dmaCh s 5).dir) ((dmaCh s 5).host + (dmaCh s 5).done) (burstBytes (dmaCh s 5)) = true
      ∧ s.mem.xlatEn = false)
    ∧ (let s := { testState .run with mem := { (testState .run).mem with xlatEn := true, xlatRoot := 0x1000, chans := [(5, { state := 1, host := 4096, walk := true })] } }
    s.mem.xlatEn = true ∧ (dmaCh s 5).walk = true
      ∧ walkPage s 5 (walkAddr s 5 63) (walkWrites s 5 63) [0x2001, 0x3001, 0x4001, 0x5007] = .leaf 12 0x5000 7 0x4000)
    ∧ (let s := { { testState .run with mem := { (testState .run).mem with chans := [(15, { state := 2, suspTicks := 100000, tag := 9 })] } } with hif := { cmds := [{ sub := { tag := 9 }, op := 0x42, wait := .device }] } }
    (dmaCh s 15).state = 2 ∧ 100000 ≤ (dmaCh s 15).suspTicks
      ∧ (s.hif.cmds.any fun c => servedBy (dmaCh s 15) c && dmaTimed c.op) = true) := by
  try dsimp only
  refine ⟨?_, ?_, ?_, ?_, ?_, ?_, ?_, ?_, ?_, ?_, ?_⟩ <;> decide +kernel

/-- States and operands for the clauses of AnalogRowsTakeEffect. -/
theorem witness_AnalogRowsTakeEffect :
    (let s := testState .run
    ((schedule s (agroup s 3).low 3 1).find? fun e => e.1 == 62) = some (62, some true)
      ∧ (agroup s 3).roleA = some 9 ∧ afeUp s 1 = true ∧ (aiOf s 62).nxt = none ∧ (aiOf s 62).test = none
      ∧ (droppedChans s 3).contains 62 = false ∧ [(5 : Int)].length = aiOvs (aiCfg s 62))
    ∧ (let s := { testState .run with analog := { ai := [(63, { nfail := true, nrun := 10 })] } }
    (aiOf s 63).nfail = true ∧ 10 ≤ (aiOf s 63).nrun)
    ∧ ((aiOf { testState .run with analog := { ai := [(63, { test := some 2 })] } } 63).test = some 2)
    ∧ ((agroup { testState .run with analog := { groups := [(3, { test0 := true })] } } 3).test0 = true)
    ∧ (let s := { testState .run with analog := { groups := [(3, { trig := 4, inj := [48], roleA := some 9 })] } }
    trigLive s 3 = true ∧ (agroup s 3).inj ≠ [] ∧ afeUp s 1 = true
      ∧ ([[5]] : List (List Int)).length = (agroup s 3).inj.length
      ∧ ((agroup s 3).inj.zip ([[5]] : List (List Int))).all (fun y => y.2.isEmpty || y.2.length == aiOvs (aiCfg s y.1)) = true
      ∧ ((agroup s 3).runs.any fun r => decide (r.1 ≤ (1999 : Int) ∧ (1999 : Int) < r.2)) = false ∧ (agroup s 3).roleA = some 9)
    ∧ (let s := { testState .run with analog := { groups := [(3, { trig := 4, inj := [48], runs := [(0, 2000)], missTick := true })] } }
    trigLive s 3 = true ∧ (agroup s 3).inj ≠ [] ∧ afeUp s 1 = true
      ∧ ([[5]] : List (List Int)).length = (agroup s 3).inj.length
      ∧ ((agroup s 3).inj.zip ([[5]] : List (List Int))).all (fun y => y.2.isEmpty || y.2.length == aiOvs (aiCfg s y.1)) = true
      ∧ ((agroup s 3).runs.any fun r => decide (r.1 ≤ (1999 : Int) ∧ (1999 : Int) < r.2)) = true ∧ (agroup s 3).missTick = true)
    ∧ (let s := { testState .run with analog := { groups := [(3, { spare := some 11, calTicks := 6000000 })] } }
    (agroup s 3).rot = 0 ∧ (agroup s 3).spare.isSome = true ∧ (agroup s 3).calPeriod * 100000 ≤ (agroup s 3).calTicks)
    ∧ (let s := { testState .run with analog := { groups := [(3, { spare := some 11, rot := 1, dupTicks := 64 })] } }
    (agroup s 3).spare = some 11 ∧ (agroup s 3).rot = 1 ∧ 64 ≤ (agroup s 3).dupTicks ∧ 8 ≤ (agroup s 3).calTol
      ∧ (agroup s 3).rotB = false)
    ∧ (let s := { testState .run with analog := { groups := [(3, { spare := some 11, rot := 2 })] } }
    (agroup s 3).spare = some 11 ∧ (agroup s 3).rot = 2)
    ∧ (let s := testState .run
    1000 * ((clBefore s 31 - (0 : Word).toInt).natAbs : Int) ≤ 5 * fsOne ∧ (clOf s 31).open_ = false)
    ∧ (let s := { testState .run with analog := { cl := [(31, { shortCnt := 3, openRun := 3 })] } }
    3 ≤ (clOf s 31).shortCnt ∧ (clOf s 31).lost = false ∧ (clOf s 31).open_ = false ∧ 3 ≤ (clOf s 31).openRun)
    ∧ (let s := { testState .run with analog := { cl := [(31, { lost := true, goodRun := 10 })] } }
    (clOf s 31).lost = true ∧ 10 ≤ (clOf s 31).goodRun)
    ∧ (let s := { testState .run with analog := { cl := [(31, { use := true })] } }
    alarmDue s 31 = true ∧ (clOf s 31).alarm = false ∧ tget false s.analog.ovld 31 = false)
    ∧ (1000 ≤ 3000 ∧ 3000 ≤ 3000 ∧ (testState .run).analog.loopvState = 0)
    ∧ ((tget {} (testState .run).analog.pw 63 : Pwm).next < 2000) := by
  try dsimp only
  refine ⟨?_, ?_, ?_, ?_, ?_, ?_, ?_, ?_, ?_, ?_, ?_, ?_, ?_, ?_, ?_⟩ <;> decide +kernel

/-- States and operands for the clauses of FieldAndTimeRowsTakeEffect. -/
theorem witness_FieldAndTimeRowsTakeEffect :
    (let s := { testState .run with field := { ports := [(7, { speed := 3, linkUp := true })], stations := [(224, { en := true, mac := 5 })] } }
    let f : KFrame := { ok := true, mac := 5, c := 1 }
    (fport s 7).speed ≠ 0 ∧ (fport s 7).linkUp = true ∧ frameCause s 7 f = 0 ∧ (station s (32 * 7 + f.src)).mac ≠ 0)
    ∧ (let s := { testState .run with field := { ports := [(7, { speed := 3, linkUp := true, discTick := true, resend := true, txBusy := 5000 })] } }
    (fport s 7).speed ≠ 0 ∧ (fport s 7).linkUp = true ∧ frameCause s 7 {} ≠ 0 ∧ (fport s 7).discTick = true
      ∧ (fport s 7).txBusy ≤ 5000 ∧ deciding s = false ∧ s.boot.firstCommit = true ∧ (fport s 7).resend = true)
    ∧ (let s := { testState .run with field := { ports := [(7, { speed := 3, rx := [{ sn := 102 }, { sn := 101 }] })] } }
    (fport s 7).speed ≠ 0 ∧ (fport s 7).linkUp = false ∧ ((fport s 7).rx.find? fun y => !snLater y.sn (s.sn + 1)) = some { sn := 101 }
      ∧ heldBack (actPlane s) 8 = false)
    ∧ (let s := { testState .run with field := { stations := [(255, { en := true, missed := 3 })] } }
    (station s 255).en = true ∧ (fport s (255 / 32)).lostCnt ≤ (station s 255).missed)
    ∧ (let s := { testState .run with field := { mgt := [(1, { mode := 1, linkUp := true })], ptp := { cfg := 5, port := 1 } } }
    (mgt s 1).mode ≠ 0 ∧ (mgt s 1).linkUp = true ∧ ptpEn s = true ∧ s.field.ptp.port = 1 ∧ ptpPort s = some 1 ∧ activeNo s ≠ 0)
    ∧ (let s := { testState .run with field := { mgt := [(1, { mode := 1 })] } }
    (mgt s 1).mode ≠ 0 ∧ (mgt s 1).linkUp = false)
    ∧ (let s := { testState .run with field := { mgt := [(1, { mode := 1, linkUp := true })], ptp := { cfg := 0x15, port := 1, portState := 6 } } }
    isPtpKind 3 = true ∧ ptpRole s 3 = true ∧ isPtpKind 0 = true ∧ ptpRole s 0 = true ∧ ptpPort s = some 1 ∧ ptpEn s = true ∧ activeNo s ≠ 0)
    ∧ (let s := { testState .run with field := { time := { cmps := [(3, { target := 9997, en := true })] } } }
    cmpReached s 3999 3 = true) := by
  try dsimp only
  refine ⟨?_, ?_, ?_, ?_, ?_, ?_, ?_, ?_⟩ <;> decide +kernel

/-- States and operands for the clauses of CanRowsTakeEffect. -/
theorem witness_CanRowsTakeEffect :
    (let s := { testState .run with can := { chans := [(7, { state := 2 })] } }
    let f : CanFrame := { data := [1, 2, 3] }
    canOnline (canCh s 7) = true ∧ f.fmt ≤ canMode (canCh s 7) ∧ lenAllowed f.fmt f.data.length = true ∧ canRefEn (canCh s 7) = false ∧ ¬ (f.fmt = 2 ∧ f.ide = true))
    ∧ (let s := { testState .run with can := { chans := [(7, { state := 2, slots := [(31, { p0 := 0x80000000, p2 := 1 })] })] } }
    slotDue (canSlot (canCh s 7) 31) = true ∧ canReleases s = true ∧ s.boot.firstCommit = true
      ∧ field (canSlot (canCh s 7) 31).p0 29 2 = 0)
    ∧ (let s := { testState .run with can := { chans := [(7, { state := 3, cfg := 0, tx := [{}] })] } }
    (canCh s 7).tx = [{}] ∧ canSends (canCh s 7) = true)
    ∧ (let s := { testState .run with can := { chans := [(7, { state := 2, cfg := 0x00400000, refCyc := 10, refAge := 20, refPend := true })] } }
    canRefEn (canCh s 7) = true ∧ canReleases s = true ∧ (canCh s 7).state ≠ 0 ∧ (canCh s 7).refAge % (canCh s 7).refCyc = 0
      ∧ (canCh s 7).refPend = true ∧ canSends (canCh s 7) = true ∧ ((canCh s 7).tx.any fun e => e.onBus) = false)
    ∧ ((canCh { testState .run with can := { chans := [(7, { state := 5 })] } } 7).state = 5 ∧ (canCh { testState .run with can := { chans := [(7, { state := 1 })] } } 7).state = 1) := by
  try dsimp only
  refine ⟨?_, ?_, ?_, ?_, ?_⟩ <;> decide +kernel

/-- States and operands for the clauses of ResetRowsTakeEffect. -/
theorem witness_ResetRowsTakeEffect :
    (let s := State.reset
    s.boot.porst = true ∧ s.boot.warm = false)
    ∧ (let s := { testState .run with boot := { porst := false, warm := true } }
    s.boot.warm = true ∧ s.boot.porst = false ∧ s.boot.warmPending = false)
    ∧ (let s := testState .ready
    s.boot.warm = false ∧ s.boot.ckptOpen = false ∧ s.dev = .ready)
    ∧ (let s := testState .idle
    s.boot.warm = false ∧ s.boot.ckptOpen = false ∧ takesCkpt s = true ∧ s.boot.pwrfail = none)
    ∧ (({ testState .run with boot := { warmPending := true } }).boot.warmPending = true)
    ∧ (let s := { testState .run with boot := { ckptOpen := true, ckptF := 100 } }
    s.boot.ckptOpen = true ∧ s.boot.ckptShadow = [] ∧ s.sn = s.boot.ckptF)
    ∧ (let s := { testState .run with boot := { ckptOpen := true, ckptShadow := [(1, {})] } }
    s.boot.ckptOpen = true ∧ s.boot.ckptShadow ≠ [])
    ∧ (({ testState .run with boot := { pwrfail := some 5 } }).boot.pwrfail.isSome = true)
    ∧ (tget false (testState .run).clock.powered (feedOf 19) = true ∧ tget false (testState .run).clock.tripped 19 = false)
    ∧ (tget false ({ testState .run with clock := { tripped := [(19, true)] } }).clock.tripped 19 = true)
    ∧ (let s := { testState .standby with clock := { wake := some 0 } }
    s.dev = .standby ∧ s.clock.wake.isSome = true)
    ∧ (let s := { testState .idle with clock := { idleWake := some 90, a := { level := 0 }, b := { level := 0 } } }
    s.dev = .idle ∧ s.clock.idleWake.isSome = true ∧ levelReached s = true) := by
  try dsimp only
  refine ⟨?_, ?_, ?_, ?_, ?_, ?_, ?_, ?_, ?_, ?_, ?_, ?_⟩ <;> decide +kernel

/-- States and operands for the clauses of StartupRowsTakeEffect. -/
theorem witness_StartupRowsTakeEffect :
    (let s := { testState .start with clock := { srcs := [(3, { running := true })] }, ump := {}, boot := { porst := false } }
    (clkSrc s 3).running = true ∧ (clkSrc s 3).stable = false ∧ s.dev = .start)
    ∧ (let s := { testState .run with clock := { srcs := [(2, { running := true, stable := true }), (4, { running := true })] }, ump := {}, boot := { porst := false } }
    (clkSrc s 4).running = true ∧ (clkSrc s 4).stable = false ∧ srcSound s 2 = true)
    ∧ (let s := { testState .start with clock := { srcs := [(1, { running := true }), (3, { stable := true })] }, ump := {}, boot := { porst := false } }
    (clkSrc s 1).running = true ∧ (clkSrc s 1).stable = false ∧ (clkSrc s 1).lost = false ∧ xmArmed s = true)
    ∧ (let s := { testState .start with clock := { srcs := [(2, { running := true }), (4, { stable := true })] }, ump := {}, boot := { porst := false } }
    (clkSrc s 2).running = true ∧ (clkSrc s 2).stable = false ∧ (clkSrc s 2).lost = false ∧ srcSound s 4 = true)
    ∧ (let s := { testState .start with clock := { srcs := [(1, { stable := true })] }, ump := {}, boot := { porst := false } }
    starting s 2 = true ∧ srcSound s 1 = true ∧ (pclk s 2).locked = false ∧ electable s 2 = false)
    ∧ (let s := { testState .start with clock := {}, ump := { b := { pllLocked := true, fwOk := true } }, boot := { porst := false } }
    starting s 2 = true ∧ srcSound s 1 = false ∧ (pstat s 2).pllLocked = true ∧ (pstat s 2).fwOk = true ∧ (pstat s 2).testDone = false)
    ∧ (let s := { testState .start with clock := {}, ump := { b := { testDone := true } }, boot := { porst := false } }
    starting s 2 = true ∧ (pstat s 2).testDone = true ∧ (pstat s 2).ready = false)
    ∧ (let s := { testState .start with clock := { b := { aligned := true } }, ump := { a := { ready := true }, b := { ready := true } }, boot := { porst := false } }
    activeNo s = 0 ∧ s.dev = .start ∧ electable s 1 = true ∧ electable s 2 = true) := by
  try dsimp only
  refine ⟨?_, ?_, ?_, ?_, ?_, ?_, ?_, ?_⟩ <;> decide +kernel

/-- States and operands for the clauses of ClockRowsTakeEffect. -/
theorem witness_ClockRowsTakeEffect :
    (let s := { testState .run with clock := { srcs := [(1, { running := true }), (3, { stable := true })] } }
    isPlane 2 = true ∧ (clkSrc s 1).running = true ∧ xmArmed s = true ∧ (pstat s 2).code ≠ 0)
    ∧ (let s := { testState .run with clock := { srcs := [(3, { running := true }), (4, { stable := true })] } }
    watched s 3 4 = true ∧ (clkSrc s 3).stable = false)
    ∧ (let s := { testState .run with clock := { srcs := [(2, { running := true, stable := true }), (4, { stable := true })], umpSlow := false } }
    watched s 2 4 = true ∧ s.clock.umpSlow = false)
    ∧ (let s := { testState .run with clock := { srcs := [(2, { lost := true }), (4, { stable := true })] } }
    (clkSrc s 2).lost = true ∧ srcSound s 4 = true)
    ∧ (computes (testState .run).ump.a = true ∧ computes (testState .run).ump.b = true ∧ (-80 : Int).natAbs ≤ 80)
    ∧ (let s := { testState .run with clock := { b := { alignRun := 100, limitRun := 100 } } }
    100 ≤ (pclk s 2).alignRun ∧ (pclk s 2).aligned = false ∧ 100 ≤ (pclk s 2).limitRun)
    ∧ (let s := { testState .run with clock := { powered := [(0x0E, true)], b := { level := 1 } } }
    mgtPowered s 2 = true ∧ (pclk s 2).level < 2)
    ∧ ((pclk { testState .run with clock := { b := { settle := some (1, 0, 3) } } } 2).settle = some (1, 0, 3))
    ∧ (let s := { testState .run with ump := { (testState .run).ump with ticks := 1000 } }
    halted s = false ∧ s.ump.ticks ≠ 0 ∧ s.ump.ticks % 1000 = 0 ∧ s.ump.a.code = 1 ∧ s.ump.b.code = 2)
    ∧ (({ testState .run with clock := { fallback := some 1 } }).clock.fallback.isSome = true)
    ∧ (let s := { testState .run with clock := { counters := [(7, { busy := true, meas := 7 })] } }
    (tget {} s.clock.counters 7 : FCount).busy = true ∧ clkStopped s (tget {} s.clock.counters 7 : FCount).meas = false) := by
  try dsimp only
  refine ⟨?_, ?_, ?_, ?_, ?_, ?_, ?_, ?_, ?_, ?_, ?_⟩ <;> decide +kernel

/-- States and operands for the clauses of LockAndTapRowsTakeEffect. -/
theorem witness_LockAndTapRowsTakeEffect :
    (let s := { testState .run with lock := { openTicks := 2880000000, nonceAge := 60 }, clock := { opsecDue := 60 } }
    2880000000 ≤ s.lock.openTicks ∧ 60 ≤ s.lock.nonceAge ∧ s.dev ≠ .off ∧ s.dev ≠ .standby ∧ 60 ≤ s.clock.opsecDue)
    ∧ (let s := { testState .run with sealed := { read := true, valid := true } }
    tapOn s = true ∧ lockOpen s = false)
    ∧ (let s := { testState .run with tap := { obsSel := 0x200 } }
    tapOn s = true ∧ lockOpen s = true ∧ bit s.tap.obsSel 9 = true)
    ∧ (let s := testState .run
    tapOn s = true ∧ lockOpen s = true ∧ bit s.tap.obsSel 9 = false) := by
  try dsimp only
  refine ⟨?_, ?_, ?_, ?_⟩ <;> decide +kernel

/-- States and operands for the clauses of WindowRowsTakeEffect. -/
theorem witness_WindowRowsTakeEffect :
    (let s := { testState .run with window := { legacy := true } }
    windowOn s = true ∧ s.window.request = none ∧ windowWrites s = true ∧ windowReads s = true ∧ s.window.blank = false
      ∧ isStatusAddr 0x3F8 = true ∧ isStatusAddr 0x404 = true ∧ isStatusAddr 0xFFF = false)
    ∧ (({ testState .run with window := { legacy := true, request := some (true, 4) } }).window.request = some (true, 4)) := by
  try dsimp only
  refine ⟨?_, ?_⟩ <;> decide +kernel

/-- Queues for the rule of the step. -/
theorem witness_StepRunsTheFrontCommand :
    { State.reset with pending := [.porstAssert, .tapIdcode] }.pending = .porstAssert :: [.tapIdcode] ∧ State.reset.pending = [] := by
  decide +kernel

/-- A state in form whose step answers. -/
theorem witness_EveryStepKeepsHostMemoryForm :
    (let s := { testState .run with pending := [.nop {}] }
    s.memWf ∧ answers (step s) (fun t => t.hif.hostMem.length == 16) = true) := by
  dsimp only
  decide +kernel

/-- A state with one active plane whose step elects the other. -/
theorem witness_EveryStepKeepsOneActivePlane :
    ¬ ((testState .run).ump.a.code = 1 ∧ (testState .run).ump.b.code = 1)
    ∧ answers (exec (.planeSwap {}) { testState .run with ump := { (testState .run).ump with agreeRun := 1000 } })
        (fun t => t.ump.b.code == 1 && t.ump.a.code == 2) = true := by
  decide +kernel

/-- Commands for the rule of the answers: well-formed, and one that is not. -/
theorem witness_WellFormedCommandsAnswer :
    (Instr.winSpLo 63 0).wf = true ∧ (Instr.winSpLo 64 0).wf = false
    ∧ answers (exec (.winSpLo 63 0) (testState .run)) (fun _ => true) = true := by
  decide +kernel

/-- A command that answers with commands waiting behind it. -/
theorem witness_CommandsKeepTheQueue :
    answers (exec (.nop {}) { testState .run with pending := [.linkDown] }) (fun t => t.pending == [.linkDown]) = true := by
  decide +kernel

/-- PORST# leaves SAFE. -/
theorem witness_OnlyResetsLeaveSafe :
    (testState .safe).dev = .safe ∧ answers (exec .porstAssert (testState .safe)) (fun t => t.dev != .safe) = true := by
  decide +kernel

/-- A reset changes the SL registers. -/
theorem witness_SealedRegistersChangeOnlyAtReset :
    answers (exec .porstAssert { testState .run with sealed := { regs := [(16, 5)], valid := true } })
      (fun t => t.sealed.regs != [(16, 5)] && t.sealed.valid != true) = true := by
  decide +kernel

/-- An input cut changes SN. -/
theorem witness_SampleNumberAdvancesAtTheInputCut :
    answers (exec (.inputCut [0, 0, 0, 0] [] 0) (testState .run)) (fun t => t.sn != 100) = true := by
  decide +kernel

/-- A voltage output whose fence is in force. -/
theorem witness_AnalogueOutputsAreFenced :
    (let s := { testState .run with
        sealed := { valid := true, regs := [(16 + 4 * 31, 1), (16 + 4 * 31 + 1, 9), (16 + 4 * 31 + 2, 2)] }
        outs := { have_ := [(31, true)] } }
    31 < 32 ∧ ([4351] : List Nat).contains 31 = false ∧ s.dev = .run ∧ s.boot.preTick = false ∧ s.boot.firstCommit = true
      ∧ activeNo s ≠ 0 ∧ s.ump.sw = none ∧ s.ump.roll = none ∧ chanOff s 31 = false ∧ tget false s.outs.have_ 31 = true
      ∧ forcedSafe s (actPlane s) 31 = false ∧ lateHold s (actPlane s) 31 = false) := by
  dsimp only
  decide +kernel

/-- A plane about to execute one instruction with a level of RLO and an entry state of timer or counter 1023. -/
def testScan (w : DWord) (rlo : Bool) (f : Plane → Plane) : State :=
  { testState .run with planeA := f { scan := { executing := true, prog := some { instrs := [w] }, rlo := rlo, delta := 7 } } }

/-- Timers in each of the cases of R231. -/
theorem witness_TimersFollowR231 :
    ([(0x10, false, false, false), (0x10, true, false, false), (0x10, true, true, true), (0x10, true, true, false),
      (0x11, true, false, false), (0x11, false, true, true), (0x11, false, false, true), (0x11, false, false, false),
      (0x12, true, false, false), (0x12, false, false, true), (0x12, false, false, false)].all fun (op, rlo, inp, tt) =>
        let s := testScan (wordX op 1023) rlo (setTimer 1023 { pre := 20, act := 20, acc := 15, q := false, inp := inp, tt := tt })
        computes (pstat s 1) && scanOn s && nextInstr (planeOf s 1) == some (wordX op 1023) && rloOf (planeOf s 1) == rlo
          && (timerOf (planeOf s 1) 1023).inp == inp && (timerOf (planeOf s 1) 1023).tt == tt
          && !(planeOf s 1).scan.priming) = true := by
  decide +kernel

/-- Counters about to count. -/
theorem witness_CountersFollowR232 :
    (let s := testScan (wordX 0x14 1023) true id
    let t := testScan (wordX 0x15 1023) true id
    computes (pstat s 1) = true ∧ scanOn s = true ∧ scanOn t = true ∧ (planeOf s 1).scan.priming = false ∧ nextInstr (planeOf s 1) = some (wordX 0x14 1023)
      ∧ nextInstr (planeOf t 1) = some (wordX 0x15 1023)) := by
  dsimp only
  decide +kernel

/-- A change of rate. -/
theorem witness_RateChangesKeepTimeContinuous :
    (let c : Sub := { params := [0x80000000] }
    let s := { testState .run with planeA := { clk := { r := 1000000 } }, field := { time := { rate := 5 } } }
    runsNow 0xD9 c s = true ∧ servoOn (begun 0xD9 c s) = false ∧ -2 ^ 95 ≤ tqNow s ∧ tqNow s < 2 ^ 95) := by
  dsimp only
  decide +kernel

/-- The window open for reading. -/
theorem witness_StatusReadsClearWhatTheyReturn :
    (let s := { testState .run with window := { legacy := true, wstat := 3 } }
    let t := { testState .run with window := { legacy := true, blank := true } }
    isStatus 0x3F8 = true ∧ isStatus 0x404 = true ∧ isStatus 8 = true ∧ (0x404 : Nat) / 16 ≠ 0x3F8 / 16 ∧ windowOn s = true
      ∧ windowReads s = true ∧ s.window.request = none ∧ s.window.blank = false ∧ computes (pstat s (readNo s)) = true
      ∧ statusValue s 0x404 ≠ 0 ∧ windowOn t = true ∧ windowReads t = true ∧ t.window.request = none ∧ t.window.blank = true) := by
  dsimp only
  decide +kernel

/-- Entries that each check of Table 2-10 stops, and one that finds the backlog full. -/
theorem witness_EntryChecksDecideTheCommand :
    (let s := testState .run
    let full := { testState .run with hif := { (testState .run).hif with
        qps := [(0, { ctrl := 0xC401 })], cmds := List.replicate 256 { sub := { tag := 9 }, op := 0x06 } } }
    bit (qpOf s 63).ctrl 0 = false
      ∧ fetchable (refreshOrders s) {} = true ∧ tagHeld (refreshOrders s) {} = false
      ∧ checkForm 0x06 { params := [2] } = some stBadParam ∧ checkForm 0x06 { target := 0x19 } = none
      ∧ (openTags (refreshOrders s) 0) = [] ∧ checkState 0x06 { target := 0x19 } s.dev = some stBadTarget
      ∧ tagHeld (refreshOrders full) { tag := 9 } = true
      ∧ fetchable (refreshOrders full) {} = true ∧ tagHeld (refreshOrders full) {} = false ∧ checkForm 0x06 {} = none
      ∧ checkState 0x06 {} full.dev = none ∧ wouldBusy 0x06 {} (refreshOrders full) = true) := by
  dsimp only
  decide +kernel

/-- A NOP whose completion entry lies away from the message addresses. -/
theorem witness_CompletionEntryIsWritten :
    (let s := { testState .run with hif := { (testState .run).hif with qps := [(0, { ctrl := 0x4401, cqBase := 0x1000, cqTail := 15, cqHead := 8 })] } }
    let p := qpOf s 0
    let a := p.cqBase.toNat + 16 * p.cqTail
    runsNow 0x00 {} s = true ∧ p.cqTail + 1 = cqLen p
      ∧ waitingPosts s 0 = [] ∧ translate (begun 0x00 {} s) true a = .ready
      ∧ ((upTo 64).all fun v => let m := (msixWord s v 0).toNat + (msixWord s v 1).toNat * 2 ^ 32
          decide (m + 4 ≤ a ∨ a + 16 ≤ m)) = true) := by
  dsimp only
  decide +kernel

/-- Commands of the three frames that answer. -/
theorem witness_StatusCommandsChangeNothingElse :
    (0x07, Instr.pwrStatus) ∈ hostRows ∧ 0x07 ∈ statusOps
    ∧ answers (exec (.pwrStatus {}) (testState .run)) (fun t => t.hif.hostMem.length != 0) = true := by
  refine ⟨by simp [hostRows, hostRowsFront], by decide +kernel, by decide +kernel⟩

theorem witness_PlaneCommandsKeepTheSharedBlocks :
    (0x10, Instr.loopSetSp) ∈ hostRows ∧ 0x10 ∈ planeOps
    ∧ answers (exec (.loopSetSp { params := [5] }) (testState .run)) (fun t => !t.planeA.fab.ctxWrites.isEmpty) = true := by
  refine ⟨by simp [hostRows, hostRowsFront], by decide +kernel, by decide +kernel⟩

theorem witness_SharedCommandsKeepThePlanes :
    (0xDA, Instr.timeCmp) ∈ hostRows ∧ 0xDA ∈ sharedOps
    ∧ answers (exec (.timeCmp { target := 3, params := [5, 0, 0] }) (testState .run)) (fun t => (cmpOf t 3).target == 5) = true
    ∧ answers (exec (.timeRate { params := [5] }) (testState .run)) (fun t => t.field.time.rate == 5) = true
    ∧ answers (exec (.clConfig { params := [0] }) (testState .ready)) (fun t => !(clOf t 0).use) = true := by
  refine ⟨by simp [hostRows, hostRowsField], by decide +kernel, by decide +kernel, by decide +kernel, by decide +kernel⟩

/-- Two events of one source and none of another. -/
theorem witness_PostingSetsPendAndOvr :
    (let es : List Ev := [{ src := 511, data := 1 }, { src := 511, data := 2 }]
    (es.filter fun e => e.src == 510) = [] ∧ (es.filter fun e => e.src == 511).getLast? = some { src := 511, data := 2 }) := by
  dsimp only
  decide +kernel

/-- A configured loop, its divisor at 0 and above. -/
theorem witness_DivisorsCountTicks :
    (let p : Plane := { fab := { cfg := some { loops := [{ loop := 1023 }] } } }
    ([5] : List Nat).contains 1023 = false ∧ ((loopRecs p).filter fun r => r.loop == 1023).length = 1
      ∧ field (lw p 1023 wTiming) 0 10 = 0 ∧ field (lw (setLw 1023 wTiming 1023 p) 1023 wTiming) 0 10 ≠ 0) := by
  dsimp only
  decide +kernel


end Sys2Proof.Machine.Tests
end

/-! What an ordinary command keeps: SN, the queue of waiting commands, the first SN of a restart and the sealed registers.
Only the input cut, a reset or power-down, a restoration and the sealed read change them, so every other operation of the
model gets one lemma here, and the dispatch one case. -/

section
namespace Sys2Proof.Machine

/-- The device with nothing but the values that only the input cut, a reset or power-down, a restoration and the sealed read
change: SN, the queue of waiting commands, whether a first cut is still to come and at which SN, and the sealed registers. -/
def State.spine (s : State) : State :=
  { sn := s.sn, pending := s.pending
    boot := { preTick := s.boot.preTick, firstSn := s.boot.firstSn }
    sealed := { regs := s.sealed.regs, valid := s.sealed.valid } }

/-- An update of other fields keeps the spine. Stated over the constructor, so that `simp` sees through any record update. -/
@[simp] theorem spine_mk (s : State)
    {dev a b hif ev tr tap lock tally ump led boot sealed rec held mem an outs field can clk win pins ctr}
    (hp : boot.preTick = s.boot.preTick) (hf : boot.firstSn = s.boot.firstSn)
    (hr : sealed.regs = s.sealed.regs) (hv : sealed.valid = s.sealed.valid) :
    (State.mk dev s.sn a b hif ev tr tap lock tally ump led boot sealed rec held mem an outs field can clk win pins ctr
      s.pending).spine = s.spine := by
  simp only [State.spine, hp, hf, hr, hv]

@[simp] theorem spine_ite (c : Prop) [Decidable c] (s t : State) :
    (if c then s else t).spine = if c then s.spine else t.spine := apply_ite State.spine c s t

/-- Whatever keeps the bare device keeps the spine. -/
theorem spine_of_bare {s t : State} (h : t.bare = s.bare) : t.spine = s.spine := by
  have e : t.bare.spine = s.bare.spine := by rw [h]
  exact e

theorem sn_of_spine {s t : State} (h : t.spine = s.spine) : t.sn = s.sn := congrArg (fun u => u.sn) h
theorem pending_of_spine {s t : State} (h : t.spine = s.spine) : t.pending = s.pending := congrArg (fun u => u.pending) h
theorem preTick_of_spine {s t : State} (h : t.spine = s.spine) : t.boot.preTick = s.boot.preTick :=
  congrArg (fun u => u.boot.preTick) h
theorem firstSn_of_spine {s t : State} (h : t.spine = s.spine) : t.boot.firstSn = s.boot.firstSn :=
  congrArg (fun u => u.boot.firstSn) h
theorem sealed_of_spine {s t : State} (h : t.spine = s.spine) :
    t.sealed.regs = s.sealed.regs ∧ t.sealed.valid = s.sealed.valid :=
  ⟨congrArg (fun u => u.sealed.regs) h, congrArg (fun u => u.sealed.valid) h⟩

@[simp] theorem forEach_spine (l : List α) (f : α → State → State) (s : State) (h : ∀ a u, (f a u).spine = u.spine) :
    (forEach l f s).spine = s.spine := forEach_keeps State.spine l f h s

@[simp] theorem state_done (st : Nat) (r : DWord) (s : State) : (OpOut.done st r s).state = s := rfl
@[simp] theorem state_wait (w : Wait) (x : List Word) (s : State) : (OpOut.wait w x s).state = s := rfl
@[simp] theorem state_write (a : Nat) (bs : List Byte) (r : DWord) (s : State) : (OpOut.write a bs r s).state = s := rfl
@[simp] theorem state_ite (c : Prop) [Decidable c] (x y : OpOut) :
    (if c then x else y).state = if c then x.state else y.state := apply_ite OpOut.state c x y

/-! Shared operations -/

@[simp] theorem setPstat_spine (p : Nat) (v : PStat) (s : State) : (setPstat p v s).spine = s.spine := by simp [setPstat]
@[simp] theorem setPlane_spine (p : Nat) (v : Plane) (s : State) : (setPlane p v s).spine = s.spine := by simp [setPlane]
@[simp] theorem whenRuns_spine (s t : State) (h : t.spine = s.spine) : (whenRuns s t).spine = s.spine := by
  simp [whenRuns, h]

@[simp] theorem onPlanes_spine (f : Plane → Plane) (s : State) : (onPlanes f s).spine = s.spine := by simp [onPlanes]
@[simp] theorem onExec_spine (f : Plane → Plane) (s : State) : (onExec f s).spine = s.spine := by simp [onExec]
@[simp] theorem stally_spine (k n : Nat) (s : State) : (stally k n s).spine = s.spine := by simp [stally]
@[simp] theorem takeFree_spine (s : State) : (takeFree s).2.spine = s.spine := rfl
@[simp] theorem hostWrite_spine (a : Nat) (bs : List Byte) (s : State) : (hostWrite a bs s).spine = s.spine := by
  simp [hostWrite]

@[simp] theorem msixSend_spine (v : Nat) (s : State) : (msixSend v s).spine = s.spine := by simp [msixSend]
@[simp] theorem setEvtCfg_spine (src : Nat) (v : Word) (s : State) : (setEvtCfg src v s).spine = s.spine := by simp [setEvtCfg]
@[simp] theorem evTime_spine (e : Ev) (s : State) : (evTime e s).2.spine = s.spine := spine_of_bare (evTime_bare s e)
@[simp] theorem queueRecord_spine (e : Ev) (s : State) : (queueRecord e s).spine = s.spine := by simp [queueRecord]
@[simp] theorem postFlags_spine (e : Ev) (s : State) : (postFlags e s).spine = s.spine := by simp [postFlags]
@[simp] theorem traceEvent_spine (e : Ev) (s : State) : (traceEvent e s).spine = s.spine := by simp [traceEvent]
@[simp] theorem postOne_spine (e : Ev) (s : State) : (postOne e s).spine = s.spine := by simp [postOne]
@[simp] theorem postList_spine (es : List Ev) (s : State) : (postList es s).spine = s.spine := by simp [postList]
@[simp] theorem postAll_spine (p : Nat) (s : State) : (postAll p s).spine = s.spine := by simp [postAll]
@[simp] theorem raiseExt_spine (src : Nat) (data : Word) (ext : List Word) (s : State) :
    (raiseExt src data ext s).spine = s.spine := by
  simp [raiseExt]

@[simp] theorem raise_spine (src : Nat) (data : Nat) (s : State) : (raise src data s).spine = s.spine := by simp [raise]
@[simp] theorem raiseAt_spine (sn : Word) (src data : Nat) (s : State) : (raiseAt sn src data s).spine = s.spine := by
  simp [raiseAt]

@[simp] theorem sharedParity_spine (data : Nat) (s : State) : (sharedParity data s).spine = s.spine := by simp [sharedParity]
@[simp] theorem logF6_spine (code path obj : Nat) (e0 : Word) (op : Nat) (v : Word) (s : State) :
    (logF6 code path obj e0 op v s).spine = s.spine := by
  simp [logF6]

@[simp] theorem setMem_spine (m : Mem) (s : State) : (setMem m s).spine = s.spine := by simp [setMem]
@[simp] theorem countMem_spine (k : Nat) (s : State) : (countMem k s).spine = s.spine := by simp [countMem]
@[simp] theorem tlbTouch_spine (a : Nat) (s : State) : (tlbTouch a s).spine = s.spine := by
  unfold tlbTouch
  split <;> simp

@[simp] theorem setQp_spine (q : Nat) (v : QPair) (s : State) : (setQp q v s).spine = s.spine := by simp [setQp]
@[simp] theorem stopQp_spine (q cause : Nat) (s : State) : (stopQp q cause s).spine = s.spine := by simp [stopQp]
@[simp] theorem signalQp_spine (q : Nat) (s : State) : (signalQp q s).spine = s.spine := by simp [signalQp]
@[simp] theorem countIrq_spine (q : Nat) (counted : Bool) (s : State) : (countIrq q counted s).spine = s.spine := by
  simp [countIrq]

@[simp] theorem setCh0_spine (x : Ch0) (s : State) : (setCh0 x s).spine = s.spine := by simp [setCh0]
@[simp] theorem postNow_spine (q : Nat) (tag : BitVec 16) (status : Nat) (res : DWord) (suppress : Bool) (s : State) :
    (postNow q tag status res suppress s).spine = s.spine := by
  simp [postNow]

@[simp] theorem qpFault_spine (q cause : Nat) (s : State) : (qpFault q cause s).spine = s.spine := by simp [qpFault]
@[simp] theorem post_spine (q : Nat) (tag : BitVec 16) (status : Nat) (res : DWord) (suppress : Bool) (s : State) :
    (post q tag status res suppress s).spine = s.spine := by
  unfold post
  split
  · simp
  · split <;> simp

@[simp] theorem drainPosts_spine (q : Nat) (s : State) : (drainPosts q s).spine = s.spine := by simp [drainPosts]
@[simp] theorem stampPost_spine (op : Nat) (sn : Option Word) (c : Sub) (s : State) :
    (stampPost op sn c s).spine = s.spine := by
  simp [stampPost]

@[simp] theorem complete_spine (c : Sub) (st : Nat) (r : DWord) (s : State) : (complete c st r s).spine = s.spine :=
  spine_of_bare (complete_bare s c st r)
@[simp] theorem finish_spine (op : Nat) (c : Sub) (o : OpOut) : (finish op c o).spine = o.state.spine :=
  spine_of_bare (finish_bare op c o)

@[simp] theorem okSn_spine (s : State) : (okSn s).state.spine = s.spine := by simp [okSn]
@[simp] theorem okRes_spine (r : DWord) (s : State) : (okRes r s).state.spine = s.spine := by simp [okRes]
@[simp] theorem failSt_spine (st : Nat) (s : State) : (failSt st s).state.spine = s.spine := by simp [failSt]
@[simp] theorem failRes_spine (st : Nat) (r : Nat) (s : State) : (failRes st r s).state.spine = s.spine := by simp [failRes]
@[simp] theorem badWindow_spine (op : Nat) (c : Sub) (a : Nat) (s : State) : (badWindow op c a s).state.spine = s.spine := by
  simp [badWindow]

@[simp] theorem withPlane_spine (sel : Word) (s : State) (k : Nat → OpOut) (h : ∀ p, (k p).state.spine = s.spine) :
    (withPlane sel s k).state.spine = s.spine := by
  simp [withPlane, h]

@[simp] theorem addCmd_spine (x : Cmd) (s : State) : (addCmd x s).spine = s.spine := by simp [addCmd]
@[simp] theorem notFetched_spine (q : Nat) (s : State) : (notFetched q s).spine = s.spine := by
  unfold notFetched
  split <;> simp

@[simp] theorem consume_spine (q : Nat) (s : State) : (consume q s).spine = s.spine := by simp [consume]
@[simp] theorem fetched_spine (c : Sub) (s : State) : (fetched c s).spine = s.spine := by simp [fetched]
@[simp] theorem refuseBusy_spine (c : Sub) (timedStore : Bool) (s : State) : (refuseBusy c timedStore s).spine = s.spine := by
  simp [refuseBusy]

@[simp] theorem refreshOrders_spine (s : State) : (refreshOrders s).spine = s.spine := by simp [refreshOrders]
@[simp] theorem holdOrder_spine (op : Nat) (c : Sub) (s : State) : (holdOrder op c s).spine = s.spine := by simp [holdOrder]
@[simp] theorem execEntry_spine (op : Nat) (core : Sub → State → OpOut) (c : Sub) (s : State)
    (h : ∀ u, (core c u).state.spine = u.spine) : (execEntry op core c s).spine = s.spine := by
  simp [execEntry, h]

@[simp] theorem consumed_spine (c : Sub) (s : State) : (consumed c s).spine = s.spine := by simp [consumed]
@[simp] theorem submit_spine (op : Nat) (core : Sub → State → OpOut) (c : Sub) (s : State)
    (h : ∀ u, (core c u).state.spine = u.spine) : (submit op core c s).spine = s.spine := by
  unfold submit
  dsimp only
  repeat' split
  all_goals simp [h]

theorem takeCmd_spine {p : Cmd → Bool} {s s1 : State} {c : Cmd} (h : takeCmd p s = some (c, s1)) : s1.spine = s.spine := by
  unfold takeCmd at h
  split at h
  · cases h
  · cases h
    simp

@[simp] theorem completeWaiting_spine (p : Cmd → Bool) (st : Nat) (r : DWord) (s : State) :
    (completeWaiting p st r s).spine = s.spine := by
  unfold completeWaiting
  split
  · rfl
  · simp [takeCmd_spine ‹_›]

/-! Every plane with the sealed block -/

@[simp] theorem onPlanesSl_spine (f : Seal → Plane → Plane) (s : State) : (onPlanesSl f s).spine = s.spine := by
  simp [onPlanesSl]

@[simp] theorem onExecSl_spine (f : Seal → Plane → Plane) (s : State) : (onExecSl f s).spine = s.spine := by simp [onExecSl]

/-! Loops, booths and the dispatcher -/

@[simp] theorem replaceWin_spine (port l : Nat) (s : State) : (replaceWin port l s).spine = s.spine := by simp [replaceWin]
@[simp] theorem placeWrite_spine (port l : Nat) (v sn : Word) (s : State) : (placeWrite port l v sn s).spine = s.spine := by
  simp [placeWrite]

@[simp] theorem opPlaceWrite_spine (port : Nat) (c : Sub) (s : State) : (opPlaceWrite port c s).state.spine = s.spine := by
  simp [opPlaceWrite]

@[simp] theorem opLoopSetSp_spine (c : Sub) (s : State) : (opLoopSetSp c s).state.spine = s.spine := by simp [opLoopSetSp]
@[simp] theorem opLoopSetOut_spine (c : Sub) (s : State) : (opLoopSetOut c s).state.spine = s.spine := by
  unfold opLoopSetOut
  split
  · split <;> simp
  · simp

@[simp] theorem opLoopRead_spine (c : Sub) (s : State) : (opLoopRead c s).state.spine = s.spine := by simp [opLoopRead]
@[simp] theorem readOne_spine (x : Cmd) (s : State) : (readOne x s).spine = s.spine := by
  simp [readOne]

@[simp] theorem readsDone_spine (s : State) : (readsDone s).spine = s.spine := by simp [readsDone]
@[simp] theorem outOfRestore_spine (l m : Nat) (s : State) : (outOfRestore l m s).spine = s.spine := by simp [outOfRestore]
@[simp] theorem opLoopSetMode_spine (c : Sub) (s : State) : (opLoopSetMode c s).state.spine = s.spine := by simp [opLoopSetMode]
@[simp] theorem opLoopWrite_spine (c : Sub) (s : State) : (opLoopWrite c s).state.spine = s.spine := by simp [opLoopWrite]
@[simp] theorem opBoothStatus_spine (c : Sub) (s : State) : (opBoothStatus c s).state.spine = s.spine := by simp [opBoothStatus]
@[simp] theorem opBoothKeepAwake_spine (c : Sub) (s : State) : (opBoothKeepAwake c s).state.spine = s.spine := by
  simp [opBoothKeepAwake]

@[simp] theorem opModelLoad_spine (c : Sub) (s : State) : (opModelLoad c s).state.spine = s.spine := by simp [opModelLoad]
@[simp] theorem opModelReinit_spine (c : Sub) (s : State) : (opModelReinit c s).state.spine = s.spine := by simp [opModelReinit]
@[simp] theorem opTestStart_spine (c : Sub) (s : State) : (opTestStart c s).state.spine = s.spine := by simp [opTestStart]
@[simp] theorem opTestStop_spine (c : Sub) (s : State) : (opTestStop c s).state.spine = s.spine := by simp [opTestStop]
@[simp] theorem opTestStatus_spine (c : Sub) (s : State) : (opTestStatus c s).state.spine = s.spine := by simp [opTestStatus]
@[simp] theorem opCaptRead_spine (c : Sub) (s : State) : (opCaptRead c s).state.spine = s.spine := by simp [opCaptRead]
@[simp] theorem gridOrigin_spine (k : Nat) (s : State) : (gridOrigin k s).spine = s.spine := by simp [gridOrigin]
@[simp] theorem opDispLoad_spine (c : Sub) (s : State) : (opDispLoad c s).state.spine = s.spine := by
  unfold opDispLoad
  dsimp only
  split
  · simp
  · split
    · simp
    · split
      · simp
      · split <;> simp

@[simp] theorem opDispSetPrio_spine (c : Sub) (s : State) : (opDispSetPrio c s).state.spine = s.spine := by
  unfold opDispSetPrio
  dsimp only
  split
  · simp
  · split
    · simp
    · split <;> simp

@[simp] theorem opDispStatus_spine (c : Sub) (s : State) : (opDispStatus c s).state.spine = s.spine := by simp [opDispStatus]
@[simp] theorem opDispFlowStatus_spine (c : Sub) (s : State) : (opDispFlowStatus c s).state.spine = s.spine := by
  simp [opDispFlowStatus]

@[simp] theorem reportParity_spine (p : Nat) (s : State) : (reportParity p s).spine = s.spine := by simp [reportParity]
@[simp] theorem eachCopy_spine (t : Token) (bad : Nat) (f g : Token → Plane → Plane) (s : State) :
    (eachCopy t bad f g s).spine = s.spine := by
  simp [eachCopy]

@[simp] theorem broadcast_spine (t : Token) (slot src bad : Nat) (s : State) :
    (broadcast t slot src bad s).spine = s.spine := by
  simp [broadcast]

@[simp] theorem broadcastFrom_spine (kind src : Nat) (v : Word) (q : Bool) (sn : Word) (slot late : Nat) (s : State) :
    (broadcastFrom kind src v q sn slot late s).spine = s.spine := by
  simp [broadcastFrom]

@[simp] theorem runLoop_spine (loop : Nat) (s : State) : (runLoop loop s).spine = s.spine := by simp [runLoop]
@[simp] theorem groupsDown_spine (g : Nat) (s : State) : (groupsDown g s).spine = s.spine := by simp [groupsDown]
@[simp] theorem wakeGroup_spine (n g : Nat) (s : State) : (wakeGroup n g s).spine = s.spine := by simp [wakeGroup]

/-! Axes -/

@[simp] theorem opAx_spine (run cmd : Bool) (a : Nat) (f : State → Plane → Nat × Plane) (s : State) :
    (opAx run cmd a f s).state.spine = s.spine := by
  simp [opAx]

@[simp] theorem opAxConfig_spine (c : Sub) (s : State) : (opAxConfig c s).state.spine = s.spine := by simp [opAxConfig]
@[simp] theorem opAxWrite_spine (c : Sub) (s : State) : (opAxWrite c s).state.spine = s.spine := by simp [opAxWrite]
@[simp] theorem opAxEnable_spine (c : Sub) (s : State) : (opAxEnable c s).state.spine = s.spine := by simp [opAxEnable]
@[simp] theorem opAxMove_spine (c : Sub) (s : State) : (opAxMove c s).state.spine = s.spine := by simp [opAxMove]
@[simp] theorem opAxStop_spine (c : Sub) (s : State) : (opAxStop c s).state.spine = s.spine := by simp [opAxStop]
@[simp] theorem opAxSetLimits_spine (c : Sub) (s : State) : (opAxSetLimits c s).state.spine = s.spine := by simp [opAxSetLimits]
@[simp] theorem opAxHome_spine (c : Sub) (s : State) : (opAxHome c s).state.spine = s.spine := by simp [opAxHome]
@[simp] theorem opAxGear_spine (c : Sub) (s : State) : (opAxGear c s).state.spine = s.spine := by simp [opAxGear]
@[simp] theorem opAxGearSched_spine (c : Sub) (s : State) : (opAxGearSched c s).state.spine = s.spine := by simp [opAxGearSched]
@[simp] theorem opAxClear_spine (c : Sub) (s : State) : (opAxClear c s).state.spine = s.spine := by simp [opAxClear]
@[simp] theorem opAxRead_spine (c : Sub) (s : State) : (opAxRead c s).state.spine = s.spine := by simp [opAxRead]

/-! Safety functions -/

@[simp] theorem opSafeStatus_spine (c : Sub) (s : State) : (opSafeStatus c s).state.spine = s.spine := by simp [opSafeStatus]
@[simp] theorem opSafeRequest_spine (c : Sub) (s : State) : (opSafeRequest c s).state.spine = s.spine := by simp [opSafeRequest]
@[simp] theorem opSafeReset_spine (c : Sub) (s : State) : (opSafeReset c s).state.spine = s.spine := by
  unfold opSafeReset
  dsimp only
  split <;> simp

@[simp] theorem opSconnStatus_spine (c : Sub) (s : State) : (opSconnStatus c s).state.spine = s.spine := by simp [opSconnStatus]

/-! The sealed block -/

@[simp] theorem opSealStage_spine (c : Sub) (s : State) : (opSealStage c s).state.spine = s.spine := by simp [opSealStage]
@[simp] theorem setCopy_regs (k : Nat) (c : Option (Tab Word)) (sl : Seal) : (setCopy k c sl).regs = sl.regs := by
  unfold setCopy
  split <;> rfl
@[simp] theorem setCopy_valid (k : Nat) (c : Option (Tab Word)) (sl : Seal) : (setCopy k c sl).valid = sl.valid := by
  unfold setCopy
  split <;> rfl
@[simp] theorem opSealCommit_spine (c : Sub) (s : State) : (opSealCommit c s).state.spine = s.spine := by simp [opSealCommit]

@[simp] theorem sealCommitted_spine (k : Nat) (s : State) : (sealCommitted k s).state.spine = s.spine := by
  unfold sealCommitted
  split <;> simp

@[simp] theorem opSealRead_spine (c : Sub) (s : State) : (opSealRead c s).state.spine = s.spine := by
  unfold opSealRead
  dsimp only
  split
  · simp
  · split
    · simp
    · split <;> simp

@[simp] theorem sealOpenCut_spine (s : State) : (sealOpenCut s).spine = s.spine := by simp [sealOpenCut]
@[simp] theorem postPre_spine (s : State) : (postPre s).spine = s.spine := by simp [postPre]
@[simp] theorem resetDemand_spine (cause : Nat) (which : Nat → Bool) (s : State) :
    (resetDemand cause which s).spine = s.spine := by
  simp [resetDemand]

/-! Address translation -/

@[simp] theorem setDmaCh_spine (k : Nat) (v : DmaCh) (s : State) : (setDmaCh k v s).spine = s.spine := by simp [setDmaCh]
@[simp] theorem idleCh_spine (k : Nat) (s : State) : (idleCh k s).spine = s.spine := by simp [idleCh]
@[simp] theorem countMiss_spine (s : State) : (countMiss s).spine = s.spine := by simp [countMiss]
@[simp] theorem tlbMiss_spine (ch : Nat) (s : State) : (tlbMiss ch s).spine = s.spine := by simp [tlbMiss]
@[simp] theorem suspend_spine (ch cause va : Nat) (s : State) : (suspend ch cause va s).spine = s.spine := by simp [suspend]
@[simp] theorem settleAbort_spine (x : Cmd) (s : State) : (settleAbort x s).spine = s.spine := by simp [settleAbort]
@[simp] theorem settleAborts_spine (s : State) : (settleAborts s).spine = s.spine := by simp [settleAborts]
@[simp] theorem drainAll_spine (s : State) : (drainAll s).spine = s.spine := by simp [drainAll]
@[simp] theorem tlbFill_spine (ch a sh page perm table : Nat) (s : State) :
    (tlbFill ch a sh page perm table s).spine = s.spine := by
  simp [tlbFill]

@[simp] theorem setPlaneBuf_spine (p : Nat) (l : List Word) (s : State) : (setPlaneBuf p l s).spine = s.spine := by
  simp [setPlaneBuf]

@[simp] theorem stageWords_spine (n : Nat) (l : List Word) (s : State) : (stageWords n l s).spine = s.spine := by
  simp [stageWords]

/-! Recorders -/

@[simp] theorem onRec_spine (f : Recorder → Recorder) (s : State) : (onRec f s).spine = s.spine := by simp [onRec]
@[simp] theorem loseStaged_spine (cause : Nat) (a b : Word) (sw_ : Bool) (s : State) :
    (loseStaged cause a b sw_ s).spine = s.spine := by
  simp [loseStaged]

@[simp] theorem loseRec_spine (cause : Nat) (a b : Word) (sw_ : Bool) (s : State) :
    (loseRec cause a b sw_ s).spine = s.spine := by
  simp [loseRec]

@[simp] theorem pushRec_spine (x : Rec) (s : State) : (pushRec x s).spine = s.spine := by simp [pushRec]
@[simp] theorem stageGap_spine (s : State) : (stageGap s).spine = s.spine := by
  unfold stageGap
  split <;> simp

@[simp] theorem stageRec_spine (type flags : Nat) (a b : Word) (body : List Word) (k : Nat) (s : State) :
    (stageRec type flags a b body k s).spine = s.spine := by
  unfold stageRec
  dsimp only
  split <;> simp

@[simp] theorem edgeTick_spine (sw_ : Bool) (n : Word) (cur : Tab (Word × Bool)) (s : State) :
    (edgeTick sw_ n cur s).spine = s.spine := by
  simp [edgeTick]

@[simp] theorem setBoothRec_spine (b : Nat) (v : BoothRec) (s : State) : (setBoothRec b v s).spine = s.spine := by
  simp [setBoothRec]

@[simp] theorem boothTick_spine (sw_ : Bool) (n : Word) (k : Nat) (p : Plane) (b : Nat) (s : State) :
    (boothTick sw_ n k p b s).spine = s.spine := by
  simp [boothTick]

@[simp] theorem closeInterval_spine (partial_ : Bool) (b : Nat) (s : State) : (closeInterval partial_ b s).spine = s.spine := by
  simp [closeInterval]

@[simp] theorem closeDue_spine (n : Nat) (s : State) : (closeDue n s).spine = s.spine := by simp [closeDue]
@[simp] theorem setRecording_spine (b n : Nat) (s : State) : (setRecording b n s).spine = s.spine := by simp [setRecording]
@[simp] theorem cfgBefore_spine (n : Word) (s : State) : (cfgBefore n s).spine = s.spine := by simp [cfgBefore]
@[simp] theorem timeRecordOf_spine (k : Nat) (sw_ : Bool) (s : State) : (timeRecordOf k sw_ s).spine = s.spine := by
  unfold timeRecordOf
  split <;> simp

@[simp] theorem timeRecord_spine (s : State) : (timeRecord s).spine = s.spine := by simp [timeRecord]
@[simp] theorem recSample_spine (sw_ : Bool) (k : Nat) (h : HeldTick) (s : State) : (recSample sw_ k h s).spine = s.spine := by
  simp [recSample]

@[simp] theorem recTick_spine (s : State) : (recTick s).spine = s.spine := by simp [recTick]
@[simp] theorem recHalt_spine (s : State) : (recHalt s).spine = s.spine := by simp [recHalt]
@[simp] theorem recHeldTick_spine (switched : Bool) (k : Nat) (h : HeldTick) (s : State) :
    (recHeldTick switched k h s).spine = s.spine := by
  unfold recHeldTick
  dsimp only
  split
  · split <;> simp
  · simp

@[simp] theorem recDecide_spine (switched : Bool) (k : Nat) (s : State) : (recDecide switched k s).spine = s.spine := by
  simp [recDecide]

@[simp] theorem recFlush_spine (s : State) : (recFlush s).spine = s.spine := by simp [recFlush]
@[simp] theorem recStart_spine (s : State) : (recStart s).spine = s.spine := by simp [recStart]
@[simp] theorem recBegin_spine (s : State) : (recBegin s).spine = s.spine := by simp [recBegin]
@[simp] theorem recCut_spine (s : State) : (recCut s).spine = s.spine := by simp [recCut]
@[simp] theorem recStop_spine (s : State) : (recStop s).spine = s.spine := by simp [recStop]
@[simp] theorem ringLevel_spine (s : State) : (ringLevel s).spine = s.spine := by simp [ringLevel]
@[simp] theorem stopStaged_spine (n : Nat) (s : State) : (stopStaged n s).spine = s.spine := by
  induction n generalizing s with
  | zero => rfl
  | succ n ih =>
    unfold stopStaged
    split
    · rfl
    · simp [ih]

@[simp] theorem mendDram_spine (a n : Nat) (s : State) : (mendDram a n s).spine = s.spine := by simp [mendDram]
@[simp] theorem ringBurst_spine (s0 : State) : (ringBurst s0).spine = s0.spine := by simp [ringBurst]
@[simp] theorem onStream_spine (f : Stream → Stream) (s : State) : (onStream f s).spine = s.spine := by simp [onStream]
@[simp] theorem streamHalt_spine (cause a : Nat) (s : State) : (streamHalt cause a s).spine = s.spine := by simp [streamHalt]
@[simp] theorem streamOutside_spine (a : Nat) (s : State) : (streamOutside a s).spine = s.spine := by simp [streamOutside]
@[simp] theorem streamMiss_spine (a : Nat) (wr : Bool) (s : State) : (streamMiss a wr s).spine = s.spine := by simp [streamMiss]
@[simp] theorem streamFault_spine (cause a : Nat) (wr : Bool) (s : State) : (streamFault cause a wr s).spine = s.spine := by
  simp [streamFault]

@[simp] theorem streamStatus_spine (s0 : State) : (streamStatus s0).spine = s0.spine := by
  unfold streamStatus
  dsimp only
  split
  · simp
  · split <;> simp

@[simp] theorem streamFail_spine (cause a : Nat) (s : State) : (streamFail cause a s).spine = s.spine := by simp [streamFail]
@[simp] theorem streamSuspend_spine (cause a : Nat) (wr : Bool) (s : State) : (streamSuspend cause a wr s).spine = s.spine := by
  simp [streamSuspend]

@[simp] theorem streamGuard_spine (wr : Bool) (a n : Nat) (s : State) (k : State → State) (h : ∀ u, (k u).spine = u.spine) :
    (streamGuard wr a n s k).spine = s.spine := by
  unfold streamGuard
  repeat' split
  all_goals simp [h]

@[simp] theorem streamCopy_spine (x : Rec) (s0 : State) (head : Nat) : (streamCopy x s0 head).spine = s0.spine := by
  simp [streamCopy]

@[simp] theorem streamStep_spine (head : Nat) (s : State) : (streamStep head s).spine = s.spine := by
  unfold streamStep
  refine streamGuard_spine _ _ _ _ _ fun u => ?_
  dsimp only
  split
  · rfl
  · simp

@[simp] theorem recLost_spine (s : State) : (recLost s).spine = s.spine := by simp [recLost]
@[simp] theorem opRecConfig_spine (c : Sub) (s : State) : (opRecConfig c s).state.spine = s.spine := by simp [opRecConfig]
@[simp] theorem oldestFail_spine (s : State) : (oldestFail s).state.spine = s.spine := by
  unfold oldestFail
  split <;> simp

@[simp] theorem stopStream_spine (s : State) : (stopStream s).spine = s.spine := by simp [stopStream]
@[simp] theorem opRecStream_spine (c : Sub) (s : State) : (opRecStream c s).state.spine = s.spine := by simp [opRecStream]
@[simp] theorem opRecStatus_spine (c : Sub) (s : State) : (opRecStatus c s).state.spine = s.spine := by
  unfold opRecStatus
  dsimp only
  repeat' split
  all_goals simp

@[simp] theorem opRecFetch_spine (c : Sub) (s : State) : (opRecFetch c s).state.spine = s.spine := by simp [opRecFetch]
@[simp] theorem opTrigConfig_spine (c : Sub) (s : State) : (opTrigConfig c s).state.spine = s.spine := by simp [opTrigConfig]
@[simp] theorem opTrigCtrl_spine (c : Sub) (s : State) : (opTrigCtrl c s).state.spine = s.spine := by simp [opTrigCtrl]
@[simp] theorem opTrigStatus_spine (c : Sub) (s : State) : (opTrigStatus c s).state.spine = s.spine := by simp [opTrigStatus]
@[simp] theorem opMaskLoad_spine (c : Sub) (s : State) : (opMaskLoad c s).state.spine = s.spine := by
  unfold opMaskLoad
  dsimp only
  split
  · simp
  · split
    · simp
    · split <;> simp

@[simp] theorem opMaskArm_spine (c : Sub) (s : State) : (opMaskArm c s).state.spine = s.spine := by
  unfold opMaskArm
  dsimp only
  split
  · simp
  · split <;> simp

@[simp] theorem opMaskStatus_spine (c : Sub) (s : State) : (opMaskStatus c s).state.spine = s.spine := by simp [opMaskStatus]

/-! Sessions -/

@[simp] theorem placeReq_spine (n : Nat) (hold : Bool) (arg : Nat) (sn : Word) (s : State) :
    (placeReq n hold arg sn s).spine = s.spine := by
  simp [placeReq]

@[simp] theorem opPlaceReq_spine (hold : Bool) (c : Sub) (s : State) : (opPlaceReq hold c s).state.spine = s.spine := by
  simp [opPlaceReq]

@[simp] theorem opSessReq_spine (hold : Bool) (c : Sub) (s : State) : (opSessReq hold c s).state.spine = s.spine := by
  simp [opSessReq]

@[simp] theorem opSessAdvance_spine (c : Sub) (s : State) : (opSessAdvance c s).state.spine = s.spine := by simp [opSessAdvance]
@[simp] theorem opSessHold_spine (c : Sub) (s : State) : (opSessHold c s).state.spine = s.spine := by simp [opSessHold]
@[simp] theorem opSessLoad_spine (c : Sub) (s : State) : (opSessLoad c s).state.spine = s.spine := by
  unfold opSessLoad
  dsimp only
  repeat' split
  all_goals simp

@[simp] theorem opSessStart_spine (c : Sub) (s : State) : (opSessStart c s).state.spine = s.spine := by
  unfold opSessStart
  dsimp only
  repeat' split
  all_goals simp

@[simp] theorem opSessResume_spine (c : Sub) (s : State) : (opSessResume c s).state.spine = s.spine := by simp [opSessResume]
@[simp] theorem opSessAbort_spine (c : Sub) (s : State) : (opSessAbort c s).state.spine = s.spine := by simp [opSessAbort]
@[simp] theorem stageSess_spine (c : Sub) (s : State) : (stageSess c s).state.spine = s.spine := by simp [stageSess]
@[simp] theorem opSessUnload_spine (c : Sub) (s : State) : (opSessUnload c s).state.spine = s.spine := by simp [opSessUnload]
@[simp] theorem opSessStatus_spine (c : Sub) (s : State) : (opSessStatus c s).state.spine = s.spine := by simp [opSessStatus]

/-! The analogue front end -/

@[simp] theorem setAnalog_spine (a : Analog) (s : State) : (setAnalog a s).spine = s.spine := by simp [setAnalog]
@[simp] theorem setAgroup_spine (g : Nat) (x : AGroup) (s : State) : (setAgroup g x s).spine = s.spine := by simp [setAgroup]
@[simp] theorem setAi_spine (ch : Nat) (x : AChan) (s : State) : (setAi ch x s).spine = s.spine := by simp [setAi]
@[simp] theorem groupEvent_spine (g code d1 d2 : Nat) (s : State) : (groupEvent g code d1 d2 s).spine = s.spine := by
  simp [groupEvent]

@[simp] theorem convEvents_spine (ch : Nat) (old new : AChan) (s : State) : (convEvents ch old new s).spine = s.spine := by
  simp [convEvents]

@[simp] theorem convFailed_spine (g conv cause : Nat) (s : State) : (convFailed g conv cause s).spine = s.spine := by
  simp [convFailed]

@[simp] theorem endCal_spine (g st : Nat) (r : DWord) (s : State) : (endCal g st r s).spine = s.spine := by simp [endCal]
@[simp] theorem injectOne_spine (g : Nat) (e : Int) (ch : Nat) (codes : List Int) (s : State) :
    (injectOne g e ch codes s).spine = s.spine := by
  unfold injectOne
  dsimp only
  split <;> simp

@[simp] theorem injectDue_spine (g : Nat) (s : State) : (injectDue g s).spine = s.spine := by simp [injectDue]
@[simp] theorem startRotation_spine (g : Nat) (s : State) : (startRotation g s).spine = s.spine := by simp [startRotation]
@[simp] theorem replaceRole_spine (b : Bool) (g : Nat) (s : State) : (replaceRole b g s).spine = s.spine := by
  simp [replaceRole]

@[simp] theorem settleAi_spine (ch : Nat) (x : AChan) (v : Word) (q : Bool) (fresh : Bool) (s : State) :
    (settleAi ch x v q fresh s).spine = s.spine := by
  simp [settleAi]

@[simp] theorem lastToken_spine (ch : Nat) (q : Bool) (x : AChan) (s : State) : (lastToken ch q x s).spine = s.spine := by
  simp [lastToken]

@[simp] theorem cutAi_spine (drops : List Nat) (roleLost : List Nat) (dueNow : List Nat) (ch : Nat) (s : State) :
    (cutAi drops roleLost dueNow ch s).spine = s.spine := by
  unfold cutAi
  dsimp only
  repeat' split
  all_goals simp

@[simp] theorem cutAgroup_spine (g : Nat) (s : State) : (cutAgroup g s).spine = s.spine := by simp [cutAgroup]
@[simp] theorem pwmCut_spine (s : State) : (pwmCut s).spine = s.spine := by simp [pwmCut]
@[simp] theorem analogCut_spine (s : State) : (analogCut s).spine = s.spine := by simp [analogCut]
@[simp] theorem ifScheduled_spine (low : Bool) (g : Nat) (s0 s : State) (h : s.spine = s0.spine) :
    (ifScheduled low g s0 s).state.spine = s0.spine := by
  unfold ifScheduled
  split <;> simp [h]

@[simp] theorem opAiConfig_spine (c : Sub) (s : State) : (opAiConfig c s).state.spine = s.spine := by simp [opAiConfig]
@[simp] theorem opAfeSeq_spine (c : Sub) (s : State) : (opAfeSeq c s).state.spine = s.spine := by simp [opAfeSeq]
@[simp] theorem opAoConfig_spine (c : Sub) (s : State) : (opAoConfig c s).state.spine = s.spine := by simp [opAoConfig]
@[simp] theorem setCl_spine (k : Nat) (x : CLoop) (s : State) : (setCl k x s).spine = s.spine := by simp [setCl]
@[simp] theorem alarmEnds_spine (k : Nat) (s : State) : (alarmEnds k s).spine = s.spine := by simp [alarmEnds]
@[simp] theorem clFresh_spine (k : Nat) (s : State) : (clFresh k s).spine = s.spine := by simp [clFresh]
@[simp] theorem opClConfig_spine (c : Sub) (s : State) : (opClConfig c s).state.spine = s.spine := by simp [opClConfig]
@[simp] theorem opPwConfig_spine (c : Sub) (s : State) : (opPwConfig c s).state.spine = s.spine := by simp [opPwConfig]
@[simp] theorem opAfeCal_spine (c : Sub) (s : State) : (opAfeCal c s).state.spine = s.spine := by simp [opAfeCal]
@[simp] theorem opAfeTest_spine (c : Sub) (s : State) : (opAfeTest c s).state.spine = s.spine := by simp [opAfeTest]
@[simp] theorem opAfeStatus_spine (c : Sub) (s : State) : (opAfeStatus c s).state.spine = s.spine := by simp [opAfeStatus]
@[simp] theorem opAfeMode_spine (c : Sub) (s : State) : (opAfeMode c s).state.spine = s.spine := by simp [opAfeMode]
@[simp] theorem setGpDir_spine (n : Nat) (out : Bool) (s : State) : (setGpDir n out s).spine = s.spine := by simp [setGpDir]
@[simp] theorem opGpConfig_spine (c : Sub) (s : State) : (opGpConfig c s).state.spine = s.spine := by simp [opGpConfig]

/-! Clocks and power domains -/

@[simp] theorem setPclk_spine (p : Nat) (v : PClk) (s : State) : (setPclk p v s).spine = s.spine := by simp [setPclk]
@[simp] theorem setClkSrc_spine (k : Nat) (v : ClkSrc) (s : State) : (setClkSrc k v s).spine = s.spine := by simp [setClkSrc]
@[simp] theorem setCounter_spine (k : Nat) (v : FCount) (s : State) : (setCounter k v s).spine = s.spine := by simp [setCounter]
@[simp] theorem setPower_spine (d : Nat) (on : Bool) (s : State) : (setPower d on s).spine = s.spine := by simp [setPower]
@[simp] theorem setGate_spine (g : Nat) (on : Bool) (s : State) : (setGate g on s).spine = s.spine := by simp [setGate]
@[simp] theorem useGate_spine (g : Nat) (s : State) : (useGate g s).spine = s.spine := by simp [useGate]
@[simp] theorem levelPlane_spine (target cause p : Nat) (s : State) : (levelPlane target cause p s).spine = s.spine := by
  simp [levelPlane]

@[simp] theorem levelEvent_spine (old new cause : Nat) (s : State) : (levelEvent old new cause s).spine = s.spine := by
  simp [levelEvent]

@[simp] theorem applyLevel_spine (cause : Nat) (s : State) : (applyLevel cause s).spine = s.spine := by simp [applyLevel]
@[simp] theorem settleTick_spine (s : State) : (settleTick s).spine = s.spine := by
  unfold settleTick
  refine forEach_spine _ _ _ fun p t => ?_
  split <;> simp

@[simp] theorem completeDvfs_spine (s : State) : (completeDvfs s).spine = s.spine := by simp [completeDvfs]
@[simp] theorem levelCut_spine (s : State) : (levelCut s).spine = s.spine := by simp [levelCut]
@[simp] theorem opClkStatus_spine (c : Sub) (s : State) : (opClkStatus c s).state.spine = s.spine := by simp [opClkStatus]
@[simp] theorem opClkMeasure_spine (c : Sub) (s : State) : (opClkMeasure c s).state.spine = s.spine := by simp [opClkMeasure]
@[simp] theorem opClkGate_spine (c : Sub) (s : State) : (opClkGate c s).state.spine = s.spine := by
  unfold opClkGate
  split
  · simp
  · split <;> simp

@[simp] theorem opPwrStatus_spine (c : Sub) (s : State) : (opPwrStatus c s).state.spine = s.spine := by simp [opPwrStatus]
@[simp] theorem opDvfsSet_spine (c : Sub) (s : State) : (opDvfsSet c s).state.spine = s.spine := by simp [opDvfsSet]
@[simp] theorem opClkoutCfg_spine (c : Sub) (s : State) : (opClkoutCfg c s).state.spine = s.spine := by simp [opClkoutCfg]

/-! CAN channels -/

@[simp] theorem setCan_spine (ch : Nat) (v : CanChan) (s : State) : (setCan ch v s).spine = s.spine := by simp [setCan]
@[simp] theorem setSignal_spine (k : Nat) (v : CanSignal) (s : State) : (setSignal k v s).spine = s.spine := by simp [setSignal]
@[simp] theorem setShadow_spine (ch : Nat) (v : List TxEnt) (s : State) : (setShadow ch v s).spine = s.spine := by
  simp [setShadow]

@[simp] theorem canEv_spine (ch k data : Nat) (s : State) : (canEv ch k data s).spine = s.spine := by simp [canEv]
@[simp] theorem canCount_spine (ch k : Nat) (s : State) : (canCount ch k s).spine = s.spine := by simp [canCount]
@[simp] theorem canState_spine (ch st : Nat) (s : State) : (canState ch st s).spine = s.spine := by simp [canState]
@[simp] theorem confine_spine (ch : Nat) (s : State) : (confine ch s).spine = s.spine := by simp [confine]
@[simp] theorem txErrorCount_spine (ch : Nat) (s : State) : (txErrorCount ch s).spine = s.spine := by simp [txErrorCount]
@[simp] theorem recDown_spine (ch : Nat) (s : State) : (recDown ch s).spine = s.spine := by simp [recDown]
@[simp] theorem canRelease_spine (ch : Nat) (e : Plane → TxEnt) (s : State) : (canRelease ch e s).spine = s.spine := by
  unfold canRelease
  split <;> simp

@[simp] theorem canDrop_spine (ch : Nat) (s : State) : (canDrop ch s).spine = s.spine := by simp [canDrop]
@[simp] theorem canPlace_spine (ch : Nat) (e : Plane → TxEnt) (s : State) : (canPlace ch e s).spine = s.spine := by
  simp [canPlace]

@[simp] theorem startHead_spine (ch : Nat) (s : State) : (startHead ch s).spine = s.spine := by
  unfold startHead
  dsimp only
  split <;> simp

@[simp] theorem popHead_spine (ch : Nat) (s : State) : (popHead ch s).spine = s.spine := by
  unfold popHead
  dsimp only
  split <;> simp

@[simp] theorem sendOne_spine (c : Nat) (s : State) : (sendOne c s).spine = s.spine := by
  unfold sendOne
  split <;> simp

@[simp] theorem releaseSlot_spine (ch k : Nat) (s : State) : (releaseSlot ch k s).spine = s.spine := by simp [releaseSlot]
@[simp] theorem sendWaiting_spine (x : Cmd) (s : State) : (sendWaiting x s).spine = s.spine := by simp [sendWaiting]
@[simp] theorem canSendAll_spine (s : State) : (canSendAll s).spine = s.spine := by simp [canSendAll]
@[simp] theorem opCanSend_spine (c : Sub) (s : State) : (opCanSend c s).state.spine = s.spine := by simp [opCanSend]
@[simp] theorem opCanConfig_spine (c : Sub) (s : State) : (opCanConfig c s).state.spine = s.spine := by simp [opCanConfig]
@[simp] theorem opCanFilter_spine (c : Sub) (s : State) : (opCanFilter c s).state.spine = s.spine := by simp [opCanFilter]
@[simp] theorem opCanSignal_spine (c : Sub) (s : State) : (opCanSignal c s).state.spine = s.spine := by simp [opCanSignal]
@[simp] theorem opCanSched_spine (c : Sub) (s : State) : (opCanSched c s).state.spine = s.spine := by simp [opCanSched]
@[simp] theorem opCanCtrl_spine (c : Sub) (s : State) : (opCanCtrl c s).state.spine = s.spine := by simp [opCanCtrl]
@[simp] theorem rxWritten_spine (x : DmaCh) (m n : Nat) (s : State) : (rxWritten x m n s).spine = s.spine := by simp [rxWritten]
@[simp] theorem opCanRxRead_spine (c : Sub) (s : State) : (opCanRxRead c s).state.spine = s.spine := by
  unfold opCanRxRead
  dsimp only
  split
  · simp
  · split
    · simp
    · split
      · split <;> simp
      · simp

@[simp] theorem opCanStatus_spine (c : Sub) (s : State) : (opCanStatus c s).state.spine = s.spine := by simp [opCanStatus]
@[simp] theorem toBuffer_spine (ch k : Nat) (e : RxEnt) (s : State) : (toBuffer ch k e s).spine = s.spine := by simp [toBuffer]
@[simp] theorem toFifo_spine (ch : Nat) (e : RxEnt) (s : State) : (toFifo ch e s).spine = s.spine := by simp [toFifo]
@[simp] theorem extract_spine (ch f k : Nat) (d : List Byte) (s : State) : (extract ch f k d s).spine = s.spine := by
  simp [extract]

@[simp] theorem filterFrame_spine (ch : Nat) (fr : CanFrame) (t : DWord) (s : State) :
    (filterFrame ch fr t s).spine = s.spine := by
  unfold filterFrame
  dsimp only
  split <;> simp

@[simp] theorem receiveFrame_spine (ch : Nat) (fr : CanFrame) (t : DWord) (s : State) :
    (receiveFrame ch fr t s).spine = s.spine := by
  unfold receiveFrame
  dsimp only
  split <;> simp

@[simp] theorem retryHead_spine (ch : Nat) (e : TxEnt) (r : List TxEnt) (s : State) : (retryHead ch e r s).spine = s.spine := by
  simp [retryHead]

@[simp] theorem presentRef_spine (ch : Nat) (s : State) : (presentRef ch s).spine = s.spine := by simp [presentRef]
@[simp] theorem sentRef_spine (ch : Nat) (s : State) : (sentRef ch s).spine = s.spine := by simp [sentRef]
@[simp] theorem signalTokens_spine (s : State) : (signalTokens s).spine = s.spine := by simp [signalTokens]
@[simp] theorem canCut_spine (s : State) : (canCut s).spine = s.spine := by simp [canCut]
@[simp] theorem destroyHead_spine (ch : Nat) (s : State) : (destroyHead ch s).spine = s.spine := by simp [destroyHead]
@[simp] theorem canPass_spine (t : Word) (ch : Nat) (hurts : Bool) (s : State) : (canPass t ch hurts s).spine = s.spine := by
  simp [canPass]

@[simp] theorem canSwitch_spine (t : Word) (ch : Nat) (s : State) : (canSwitch t ch s).spine = s.spine := by simp [canSwitch]
@[simp] theorem canResume_spine (ch : Nat) (s : State) : (canResume ch s).spine = s.spine := by simp [canResume]
@[simp] theorem canSafe_spine (ch : Nat) (s : State) : (canSafe ch s).spine = s.spine := by simp [canSafe]
@[simp] theorem canSupply_spine (ch : Nat) (s : State) : (canSupply ch s).spine = s.spine := by simp [canSupply]

/-! The scan engine -/

@[simp] theorem commitWrites_spine (f : Nat → Word → Plane → Plane) (s : State) : (commitWrites f s).spine = s.spine := by
  simp [commitWrites]

@[simp] theorem scanStart_spine (s : State) : (scanStart s).spine = s.spine := by simp [scanStart]
@[simp] theorem takeArms_spine (s : State) : (takeArms s).spine = s.spine := by simp [takeArms]
@[simp] theorem scanDeadlineAll_spine (s : State) : (scanDeadlineAll s).spine = s.spine := by simp [scanDeadlineAll]
@[simp] theorem commitMode_spine (s : State) : (commitMode s).spine = s.spine := by
  unfold commitMode
  split <;> simp

@[simp] theorem scanFlush_spine (s : State) : (scanFlush s).spine = s.spine := by simp [scanFlush]
@[simp] theorem scanProgress_spine (x : Nat) (s : State) : (scanProgress x s).spine = s.spine := by simp [scanProgress]
@[simp] theorem scanCut_spine (s : State) : (scanCut s).spine = s.spine := by simp [scanCut]
@[simp] theorem opScanLoad_spine (c : Sub) (s : State) : (opScanLoad c s).state.spine = s.spine := by
  unfold opScanLoad
  dsimp only
  split
  · simp
  · split
    · simp
    · split
      · simp
      · split <;> simp

@[simp] theorem opScanMode_spine (c : Sub) (s : State) : (opScanMode c s).state.spine = s.spine := by simp [opScanMode]
@[simp] theorem opScanWrite_spine (c : Sub) (s : State) : (opScanWrite c s).state.spine = s.spine := by simp [opScanWrite]
@[simp] theorem opScanRead_spine (c : Sub) (s : State) : (opScanRead c s).state.spine = s.spine := by
  unfold opScanRead
  simp only [state_ite, spine_ite, failSt_spine]
  rw [withPlane_spine, ite_self]
  intro k
  split
  · split <;> simp
  · simp

@[simp] theorem opScanStatus_spine (c : Sub) (s : State) : (opScanStatus c s).state.spine = s.spine := by simp [opScanStatus]
@[simp] theorem takeInstr_spine (w : DWord) (f : Plane → Plane) (s : State) : (takeInstr w f s).spine = s.spine := by
  simp [takeInstr]

/-! The output commit -/

@[simp] theorem setOuts_spine (o : Outs) (s : State) : (setOuts o s).spine = s.spine := by simp [setOuts]
@[simp] theorem driveChan_spine (c : Nat) (u : Word) (s : State) : (driveChan c u s).spine = s.spine := by simp [driveChan]
@[simp] theorem commitChan_spine (bad : List Nat) (p : Plane) (c : Nat) (s : State) :
    (commitChan bad p c s).spine = s.spine := by
  simp [commitChan]

@[simp] theorem commitGp_spine (bad : List Nat) (p : Plane) (s : State) : (commitGp bad p s).spine = s.spine := by
  simp [commitGp]

@[simp] theorem countRetransmit_spine (p : Plane) (s : State) : (countRetransmit p s).spine = s.spine := by
  simp [countRetransmit]

@[simp] theorem commitLines_spine (k : Nat) (s : State) : (commitLines k s).spine = s.spine := by simp [commitLines]
@[simp] theorem countHeld_spine (s : State) : (countHeld s).spine = s.spine := by simp [countHeld]
@[simp] theorem driveSteps_spine (p : Plane) (s : State) : (driveSteps p s).spine = s.spine := by simp [driveSteps]
@[simp] theorem commitAll_spine (bad : List Nat) (s0 : State) : (commitAll bad s0).spine = s0.spine := by simp [commitAll]
@[simp] theorem firstCommit_spine (s : State) : (firstCommit s).spine = s.spine := by simp [firstCommit]

/-! Field ports -/

@[simp] theorem setPort_spine (k : Nat) (p : FPort) (s : State) : (setPort k p s).spine = s.spine := by simp [setPort]
@[simp] theorem setStation_spine (k : Nat) (x : Station) (s : State) : (setStation k x s).spine = s.spine := by
  simp [setStation]

@[simp] theorem portEvent_spine (p code d : Nat) (s : State) : (portEvent p code d s).spine = s.spine := by simp [portEvent]
@[simp] theorem mqAll_spine (k : Nat) (v : Bool) (s : State) : (mqAll k v s).spine = s.spine := by simp [mqAll]
@[simp] theorem stationLost_spine (k : Nat) (s : State) : (stationLost k s).spine = s.spine := by simp [stationLost]
@[simp] theorem enterWords_spine (k : Nat) (ws : List Word) (ms : BitVec 16) (s : State) :
    (enterWords k ws ms s).spine = s.spine := by
  simp [enterWords]

@[simp] theorem framePdus_spine (k : Nat) (ws : List Word) (s : State) : (framePdus k ws s).spine = s.spine := by
  simp [framePdus]

@[simp] theorem frameTokens_spine (p k : Nat) (ws : List Word) (ms : BitVec 16) (sn : Word) (s : State) :
    (frameTokens p k ws ms sn s).spine = s.spine := by
  simp [frameTokens]

@[simp] theorem deliverFrame_spine (p : Nat) (f : KFrame) (s : State) : (deliverFrame p f s).spine = s.spine := by
  simp [deliverFrame]

@[simp] theorem cycleStation_spine (k : Nat) (s : State) : (cycleStation k s).spine = s.spine := by
  unfold cycleStation
  dsimp only
  split <;> simp

@[simp] theorem returnStation_spine (k : Nat) (s : State) : (returnStation k s).spine = s.spine := by simp [returnStation]
@[simp] theorem portCut_spine (p : Nat) (s : State) : (portCut p s).spine = s.spine := by simp [portCut]
@[simp] theorem fieldCut_spine (s : State) : (fieldCut s).spine = s.spine := by simp [fieldCut]
@[simp] theorem armSent_spine (k : Nat) (s : State) : (armSent k s).spine = s.spine := by simp [armSent]
@[simp] theorem sendFrame_spine (p : Nat) (s : State) : (sendFrame p s).spine = s.spine := by simp [sendFrame]
@[simp] theorem portSwitch_spine (t : Word) (left p : Nat) (s : State) : (portSwitch t left p s).spine = s.spine := by
  simp [portSwitch]

@[simp] theorem opFpConfig_spine (c : Sub) (s : State) : (opFpConfig c s).state.spine = s.spine := by
  unfold opFpConfig
  dsimp only
  split
  · simp
  · split
    · simp
    · split
      · simp
      · split <;> simp

@[simp] theorem mqFresh_spine (k : Nat) (s : State) : (mqFresh k s).spine = s.spine := by simp [mqFresh]
@[simp] theorem opFpStation_spine (c : Sub) (s : State) : (opFpStation c s).state.spine = s.spine := by
  unfold opFpStation
  dsimp only
  split
  · simp
  · split
    · simp
    · split <;> simp

@[simp] theorem opFpArm_spine (c : Sub) (s : State) : (opFpArm c s).state.spine = s.spine := by simp [opFpArm]
@[simp] theorem opFpStatus_spine (c : Sub) (s : State) : (opFpStatus c s).state.spine = s.spine := by simp [opFpStatus]

/-! Events and the event recorder -/

@[simp] theorem postUpTo_spine (n : Word) (p : Nat) (s : State) : (postUpTo n p s).spine = s.spine := by simp [postUpTo]
@[simp] theorem postBefore_spine (t : Word) (s : State) : (postBefore t s).spine = s.spine := by simp [postBefore]
@[simp] theorem postDecided_spine (t : Word) (old new : Nat) (s : State) : (postDecided t old new s).spine = s.spine := by
  unfold postDecided
  dsimp only
  split <;> simp

@[simp] theorem routeWrite_spine (src : Nat) (v : Word) (w1c : Bool) (path : Nat) (e0 : Word) (op : Nat) (s : State) :
    (routeWrite src v w1c path e0 op s).spine = s.spine := by
  simp [routeWrite]

@[simp] theorem opEvtRoute_spine (c : Sub) (s : State) : (opEvtRoute c s).state.spine = s.spine := by simp [opEvtRoute]
@[simp] theorem opEvtStatus_spine (c : Sub) (s : State) : (opEvtStatus c s).state.spine = s.spine := by simp [opEvtStatus]
@[simp] theorem ledgerFails_spine (s : State) : (ledgerFails s).spine = s.spine := by simp [ledgerFails]
@[simp] theorem writeRecSlot_spine (ws : List Word) (s : State) : (writeRecSlot ws s).spine = s.spine := by simp [writeRecSlot]
@[simp] theorem ownEvent_spine (data : Nat) (ext : List Word) (s : State) : (ownEvent data ext s).2.spine = s.spine := by
  simp [ownEvent]

@[simp] theorem raiseOwn_spine (e : Ev) (s : State) : (raiseOwn e s).spine = s.spine := by simp [raiseOwn]
@[simp] theorem fillLast_spine (s : State) : (fillLast s).spine = s.spine := by simp [fillLast]
@[simp] theorem afterSlot_spine (s : State) : (afterSlot s).spine = s.spine := by simp [afterSlot]
@[simp] theorem dropRecord_spine (s : State) : (dropRecord s).spine = s.spine := by simp [dropRecord]
@[simp] theorem putRecord_spine (e : Ev) (s : State) : (putRecord e s).spine = s.spine := by simp [putRecord]
@[simp] theorem queueLost_spine (s : State) : (queueLost s).spine = s.spine := by simp [queueLost]
theorem nextRecord_spine {s s1 : State} {e : Ev} (h : nextRecord s = some (e, s1)) : s1.spine = s.spine := by
  unfold nextRecord at h
  split at h
  · cases h
  · cases h
    simp

@[simp] theorem recordWrite_spine (ok : Bool) (s : State) : (recordWrite ok s).spine = s.spine := by
  unfold recordWrite
  split
  · rfl
  · split
    · rfl
    · simp [nextRecord_spine ‹_›]

@[simp] theorem opEvrRead_spine (c : Sub) (s : State) : (opEvrRead c s).state.spine = s.spine := by simp [opEvrRead]
@[simp] theorem opEvrClear_spine (c : Sub) (s : State) : (opEvrClear c s).state.spine = s.spine := by simp [opEvrClear]
@[simp] theorem evrCleared_spine (cut : Word) (s : State) : (evrCleared cut s).spine = s.spine := by simp [evrCleared]
@[simp] theorem writeOpsec_spine (ok : Bool) (s : State) : (writeOpsec ok s).spine = s.spine := by simp [writeOpsec]
@[simp] theorem stopTrace_spine (cause : Nat) (s : State) : (stopTrace cause s).spine = s.spine := by simp [stopTrace]
@[simp] theorem traceCut_spine (s : State) : (traceCut s).spine = s.spine := by simp [traceCut]
@[simp] theorem opObsCtrl_spine (c : Sub) (s : State) : (opObsCtrl c s).state.spine = s.spine := by simp [opObsCtrl]
@[simp] theorem opObsRead_spine (c : Sub) (s : State) : (opObsRead c s).state.spine = s.spine := by simp [opObsRead]
@[simp] theorem opLockChallenge_spine (c : Sub) (s : State) : (opLockChallenge c s).state.spine = s.spine := by
  unfold opLockChallenge
  split
  · simp
  · split <;> simp

@[simp] theorem closeLock_spine (cause : Nat) (s : State) : (closeLock cause s).spine = s.spine := by simp [closeLock]
@[simp] theorem opLock_spine (c : Sub) (s : State) : (opLock c s).state.spine = s.spine := by
  unfold opLock
  split <;> simp

@[simp] theorem lockCut_spine (s : State) : (lockCut s).spine = s.spine := by simp [lockCut]
@[simp] theorem setTap_spine (ir : BitVec 8) (tdo : Nat) (s : State) : (setTap ir tdo s).spine = s.spine := by simp [setTap]
@[simp] theorem takeBits_spine (n : Nat) (s : State) : (takeBits n s).2.spine = s.spine := by
  induction n generalizing s with
  | zero => rfl
  | succ n ih => simp [takeBits, ih]

/-! The journal -/

@[simp] theorem setLed_spine (l : Ledger) (s : State) : (setLed l s).spine = s.spine := by simp [setLed]
@[simp] theorem setFwSlot_spine (k : Nat) (v : FwSlot) (s : State) : (setFwSlot k v s).spine = s.spine := by simp [setFwSlot]
@[simp] theorem handEntry_spine (e : JEntry) (s : State) : (handEntry e s).spine = s.spine := by simp [handEntry]
@[simp] theorem handOver_spine (s : State) : (handOver s).spine = s.spine := by simp [handOver]
@[simp] theorem dropEntries_spine (t : Word) (loser : Nat) (s : State) : (dropEntries t loser s).spine = s.spine := by
  simp [dropEntries]

@[simp] theorem appendEntry_spine (e : JEntry) (s : State) : (appendEntry e s).spine = s.spine := by simp [appendEntry]
@[simp] theorem makeRoom_spine (n k : Nat) (s : State) : (makeRoom n k s).spine = s.spine := by
  induction k generalizing s with
  | zero => rfl
  | succ k ih =>
    unfold makeRoom
    split
    · rfl
    · simp [ih]

@[simp] theorem writeEntry_spine (e : JEntry) (s : State) : (writeEntry e s).spine = s.spine := by simp [writeEntry]
theorem nextEntry_spine {s s1 : State} {e : JEntry} (h : nextEntry s = some (e, s1)) : s1.spine = s.spine := by
  unfold nextEntry at h
  split at h
  · cases h
  · cases h
    simp

@[simp] theorem entryBad_spine (s gone : State) (h : gone.spine = s.spine) : (entryBad s gone).spine = s.spine := by
  simp [entryBad, h]

@[simp] theorem journalWrite_spine (ok : Bool) (s : State) : (journalWrite ok s).spine = s.spine := by
  unfold journalWrite
  split
  · rfl
  · split
    · rfl
    · simp [nextEntry_spine ‹_›]

@[simp] theorem flushEntries_spine (s : State) : (flushEntries s).spine = s.spine := by simp [flushEntries]
@[simp] theorem opLedgerStatus_spine (c : Sub) (s : State) : (opLedgerStatus c s).state.spine = s.spine := by
  unfold opLedgerStatus
  dsimp only
  repeat' split
  all_goals simp

@[simp] theorem opJournalRead_spine (c : Sub) (s : State) : (opJournalRead c s).state.spine = s.spine := by simp [opJournalRead]

/-! The umpire -/

@[simp] theorem setUmp_spine (u : Umpire) (s : State) : (setUmp u s).spine = s.spine := by simp [setUmp]
@[simp] theorem setSusp_spine (p : Nat) (l : List Nat) (s : State) : (setSusp p l s).spine = s.spine := by simp [setSusp]
@[simp] theorem resetPlane_spine (p : Nat) (s : State) : (resetPlane p s).spine = s.spine := by simp [resetPlane]
@[simp] theorem toState_spine (p new cls : Nat) (s : State) : (toState p new cls s).spine = s.spine := by simp [toState]
@[simp] theorem nameUnits_spine (p : Nat) (us : List Nat) (s : State) : (nameUnits p us s).spine = s.spine := by
  simp [nameUnits]

@[simp] theorem toSuspect_spine (p cls unit : Nat) (s : State) : (toSuspect p cls unit s).spine = s.spine := by simp [toSuspect]
@[simp] theorem leaveRole_spine (p cls unit : Nat) (hb : Bool) (s : State) : (leaveRole p cls unit hb s).spine = s.spine := by
  simp [leaveRole]

@[simp] theorem axesSafe_spine (s : State) : (axesSafe s).spine = s.spine := by simp [axesSafe]
@[simp] theorem endWake_spine (p : Cmd → Bool) (s : State) : (endWake p s).spine = s.spine := by simp [endWake]
@[simp] theorem endCmds_spine (p : Cmd → Bool) (st : Nat) (s : State) : (endCmds p st s).spine = s.spine := by simp [endCmds]
@[simp] theorem dropChannels_spine (p : Cmd → Bool) (s : State) : (dropChannels p s).spine = s.spine := by simp [dropChannels]
@[simp] theorem wakeDram_spine (s : State) : (wakeDram s).spine = s.spine := by simp [wakeDram]
@[simp] theorem commitSafe_spine (s : State) : (commitSafe s).spine = s.spine := by simp [commitSafe]
@[simp] theorem enterSafe_spine (s : State) : (enterSafe s).spine = s.spine := by simp [enterSafe]
@[simp] theorem failStart_spine (p cause : Nat) (s : State) : (failStart p cause s).spine = s.spine := by simp [failStart]
@[simp] theorem fwTake_spine (k : Nat) (s : State) : (fwTake k s).spine = s.spine := by simp [fwTake]
@[simp] theorem fwStart_spine (k p : Nat) (s : State) : (fwStart k p s).spine = s.spine := by simp [fwStart]
@[simp] theorem fwSettle_spine (s : State) : (fwSettle s).spine = s.spine := by
  unfold fwSettle
  dsimp only
  split
  · split <;> simp
  · split <;> simp

@[simp] theorem switchCmds_spine (s : State) : (switchCmds s).spine = s.spine := by simp [switchCmds]
@[simp] theorem beginSwitch_spine (p cls : Nat) (t e : Word) (held : Nat) (s : State) :
    (beginSwitch p cls t e held s).spine = s.spine := by
  simp [beginSwitch]

@[simp] theorem elect_spine (hb : Bool) (s : State) : (elect hb s).spine = s.spine := by
  unfold elect
  split <;> simp

@[simp] theorem noneFit_spine (s : State) : (noneFit s).spine = s.spine := by simp [noneFit]
@[simp] theorem failAlone_spine (p cls : Nat) (s : State) : (failAlone p cls s).spine = s.spine := by simp [failAlone]
@[simp] theorem loseAt_spine (p cls unit : Nat) (hb : Bool) (s : State) : (loseAt p cls unit hb s).spine = s.spine := by
  unfold loseAt
  split
  · simp
  · split <;> simp

@[simp] theorem lose_spine (p cls unit : Nat) (hb : Bool) (s : State) : (lose p cls unit hb s).spine = s.spine := by simp [lose]
@[simp] theorem resignsTold_spine (s : State) : (resignsTold s).spine = s.spine := by simp [resignsTold]
@[simp] theorem reports_spine (s : State) : (reports s).spine = s.spine := by simp [reports]
@[simp] theorem compareResync_spine (p : Nat) (agree : Bool) (s : State) : (compareResync p agree s).spine = s.spine := by
  simp [compareResync]

@[simp] theorem beginRoll_spine (units : List Nat) (s : State) : (beginRoll units s).spine = s.spine := by
  unfold beginRoll
  split <;> simp

@[simp] theorem compareStandby_spine (a o : Nat) (units : List Nat) (ra ro : Bool) (s : State) :
    (compareStandby a o units ra ro s).spine = s.spine := by
  simp [compareStandby]

@[simp] theorem signatureExchange_spine (s : State) : (signatureExchange s).spine = s.spine := by simp [signatureExchange]
@[simp] theorem rollStays_spine (r : Roll) (a : Nat) (s : State) : (rollStays r a s).spine = s.spine := by simp [rollStays]
@[simp] theorem rollSwitch_spine (r : Roll) (a : Nat) (s : State) : (rollSwitch r a s).spine = s.spine := by simp [rollSwitch]
@[simp] theorem checkRollVerdict_spine (okA okB : Bool) (s : State) : (checkRollVerdict okA okB s).spine = s.spine := by
  unfold checkRollVerdict
  split <;> simp

@[simp] theorem rollDeadline_spine (s : State) : (rollDeadline s).spine = s.spine := by
  unfold rollDeadline
  split <;> simp

@[simp] theorem healthReport_spine (p : Nat) (arrived : Bool) (s : State) : (healthReport p arrived s).spine = s.spine := by
  simp [healthReport]

@[simp] theorem selfTestSlice_spine (p : Nat) (pass : Bool) (s : State) : (selfTestSlice p pass s).spine = s.spine := by
  simp [selfTestSlice]

@[simp] theorem supplyTick_spine (s : State) : (supplyTick s).spine = s.spine := by simp [supplyTick]
@[simp] theorem copyTo_spine (p : Nat) (s : State) : (copyTo p s).spine = s.spine := by simp [copyTo]
@[simp] theorem takeTime_spine (p : Nat) (s : State) : (takeTime p s).spine = s.spine := by simp [takeTime]
@[simp] theorem opPlaneStatus_spine (c : Sub) (s : State) : (opPlaneStatus c s).state.spine = s.spine := by simp [opPlaneStatus]
@[simp] theorem opPlaneHealth_spine (c : Sub) (s : State) : (opPlaneHealth c s).state.spine = s.spine := by
  unfold opPlaneHealth
  split <;> simp

@[simp] theorem opPlaneRestore_spine (c : Sub) (s : State) : (opPlaneRestore c s).state.spine = s.spine := by
  simp [opPlaneRestore]

@[simp] theorem restoreTested_spine (p : Nat) (pass : Bool) (s : State) : (restoreTested p pass s).spine = s.spine := by
  simp [restoreTested]

@[simp] theorem opPlaneOffline_spine (c : Sub) (s : State) : (opPlaneOffline c s).state.spine = s.spine := by
  simp [opPlaneOffline]

@[simp] theorem swapPlanes_spine (s : State) : (swapPlanes s).spine = s.spine := by simp [swapPlanes]
@[simp] theorem opPlaneSwap_spine (c : Sub) (s : State) : (opPlaneSwap c s).state.spine = s.spine := by simp [opPlaneSwap]
@[simp] theorem opPlaneConfig_spine (c : Sub) (s : State) : (opPlaneConfig c s).state.spine = s.spine := by simp [opPlaneConfig]
@[simp] theorem planeCut_spine (s : State) : (planeCut s).spine = s.spine := by
  unfold planeCut
  dsimp only
  split <;> simp

/-! Memory and DMA -/

@[simp] theorem nextSlot_spine (s : State) : (nextSlot s).spine = s.spine := by
  unfold nextSlot
  dsimp only
  split <;> simp

@[simp] theorem endTransfer_spine (k st : Nat) (r : DWord) (s : State) : (endTransfer k st r s).spine = s.spine := by
  simp [endTransfer]

@[simp] theorem stopChannel_spine (k cause st : Nat) (s : State) : (stopChannel k cause st s).spine = s.spine := by
  simp [stopChannel]

@[simp] theorem startChannel_spine (k : Nat) (x : Cmd) (dir : Bool) (host len : Nat) (data : List Byte) (r : DWord) (s : State) :
    (startChannel k x dir host len data r s).spine = s.spine := by
  simp [startChannel]

@[simp] theorem startFetch_spine (k : Nat) (x : Cmd) (host : Nat) (l : List Rec) (r : DWord) (s : State) :
    (startFetch k x host l r s).spine = s.spine := by
  simp [startFetch]

@[simp] theorem updateCmd_spine (x y : Cmd) (s : State) : (updateCmd x y s).spine = s.spine := by simp [updateCmd]
@[simp] theorem startRead_spine (x : Cmd) (s : State) : (startRead x s).spine = s.spine := by
  unfold startRead
  split
  · rfl
  · split
    · rfl
    · split
      · simp
      · split <;> simp

@[simp] theorem startReads_spine (s : State) : (startReads s).spine = s.spine := by simp [startReads]
@[simp] theorem transferDone_spine (k : Nat) (s : State) : (transferDone k s).spine = s.spine := by
  unfold transferDone
  dsimp only
  split
  · split <;> simp
  · simp

@[simp] theorem loseTransfer_spine (k : Nat) (s : State) : (loseTransfer k s).spine = s.spine := by simp [loseTransfer]
@[simp] theorem dramLost_spine (s : State) : (dramLost s).spine = s.spine := by simp [dramLost]
@[simp] theorem spoilDram_spine (a n : Nat) (s : State) : (spoilDram a n s).spine = s.spine := by simp [spoilDram]
@[simp] theorem eccError_spine (ecc off : Nat) (s : State) : (eccError ecc off s).spine = s.spine := by simp [eccError]
@[simp] theorem eccRead_spine (ecc a n : Nat) (s : State) : (eccRead ecc a n s).spine = s.spine := by simp [eccRead]
@[simp] theorem streamRead_spine (x : Rec) (ecc : Nat) (s : State) : (streamRead x ecc s).spine = s.spine := by
  simp [streamRead]

@[simp] theorem fetchRead_spine (k ecc : Nat) (s : State) : (fetchRead k ecc s).spine = s.spine := by
  unfold fetchRead
  dsimp only
  split <;> simp

@[simp] theorem stageWrite_spine (k : Nat) (s : State) : (stageWrite k s).spine = s.spine := by simp [stageWrite]
@[simp] theorem bufError_spine (ecc p : Nat) (s : State) : (bufError ecc p s).spine = s.spine := by simp [bufError]
@[simp] theorem mgtRead_spine (p ecc : Nat) (s : State) : (mgtRead p ecc s).spine = s.spine := by simp [mgtRead]
@[simp] theorem burstOf_spine (k ecc : Nat) (s : State) : (burstOf k ecc s).spine = s.spine := by
  unfold burstOf
  split
  · simp
  · split
    · simp
    · split <;> simp
  · simp
  · simp
  · simp
  · rfl

@[simp] theorem burstEnd_spine (s : State) : (burstEnd s).spine = s.spine := by simp [burstEnd]
@[simp] theorem grantTo_spine (k ecc : Nat) (s : State) : (grantTo k ecc s).spine = s.spine := by simp [grantTo]
@[simp] theorem dramGrant_spine (req ecc : Nat) (s0 : State) : (dramGrant req ecc s0).spine = s0.spine := by
  unfold dramGrant
  dsimp only
  split
  · simp
  · split
    · simp
    · split
      · simp
      · split <;> simp

@[simp] theorem nextBlock_spine (s : State) : (nextBlock s).spine = s.spine := by simp [nextBlock]
@[simp] theorem scrubBlock_spine (ecc : Nat) (s : State) : (scrubBlock ecc s).spine = s.spine := by
  unfold scrubBlock
  dsimp only
  split <;> simp

@[simp] theorem tookTurn_spine (dir : Bool) (k : Nat) (s : State) : (tookTurn dir k s).spine = s.spine := by simp [tookTurn]
@[simp] theorem moveBurst_spine (k : Nat) (s : State) : (moveBurst k s).spine = s.spine := by simp [moveBurst]
@[simp] theorem dmaStep_spine (k : Nat) (err : Bool) (s : State) : (dmaStep k err s).spine = s.spine := by
  unfold dmaStep
  dsimp only
  repeat' split
  all_goals simp

@[simp] theorem captDamage_spine (k : Nat) (s : State) : (captDamage k s).spine = s.spine := by
  unfold captDamage
  split <;> simp

@[simp] theorem streamParity_spine (s : State) : (streamParity s).spine = s.spine := by simp [streamParity]
@[simp] theorem frontParity_spine (q : Nat) (s : State) : (frontParity q s).spine = s.spine := by simp [frontParity]
@[simp] theorem issueBurst_spine (k : Nat) (err : Bool) (s : State) : (issueBurst k err s).spine = s.spine := by
  simp [issueBurst]

@[simp] theorem burstPair_spine (err : Bool) (s : State) : (burstPair err s).spine = s.spine := by
  unfold burstPair
  dsimp only
  split
  · split <;> simp
  · split <;> simp

@[simp] theorem streamBurst_spine (head : Nat) (s : State) : (streamBurst head s).spine = s.spine := by simp [streamBurst]
@[simp] theorem walkFails_spine (ch qp cause : Nat) (s : State) : (walkFails ch qp cause s).spine = s.spine := by
  simp [walkFails]

@[simp] theorem aheadFails_spine (ch a cause : Nat) (s : State) : (aheadFails ch a cause s).spine = s.spine := by
  unfold aheadFails
  split <;> simp

@[simp] theorem pageHere_spine (ch : Nat) (s : State) : (pageHere ch s).spine = s.spine := by simp [pageHere]
@[simp] theorem walkWaited_spine (ch qp : Nat) (pte : List DWord) (s : State) : (walkWaited ch qp pte s).spine = s.spine := by
  unfold walkWaited
  dsimp only
  split <;> simp

@[simp] theorem walkAhead_spine (ch : Nat) (pte : List DWord) (s : State) : (walkAhead ch pte s).spine = s.spine := by
  unfold walkAhead
  dsimp only
  split
  · simp
  · split <;> simp

@[simp] theorem translationWalk_spine (ch qp : Nat) (pte : List DWord) (s : State) :
    (translationWalk ch qp pte s).spine = s.spine := by
  simp [translationWalk]

@[simp] theorem resumed_spine (ch : Nat) (s : State) : (resumed ch s).spine = s.spine := by simp [resumed]
@[simp] theorem resumeChannel_spine (ch : Nat) (pte : List DWord) (s : State) : (resumeChannel ch pte s).spine = s.spine := by
  simp [resumeChannel]

@[simp] theorem resumeWalk_spine (ch : Nat) (s : State) : (resumeWalk ch s).spine = s.spine := by simp [resumeWalk]
@[simp] theorem stopSuspended_spine (ch : Nat) (s : State) : (stopSuspended ch s).spine = s.spine := by simp [stopSuspended]
@[simp] theorem suspendTimeout_spine (ch : Nat) (s : State) : (suspendTimeout ch s).spine = s.spine := by simp [suspendTimeout]
@[simp] theorem completionTimeout_spine (ch qp : Nat) (s : State) : (completionTimeout ch qp s).spine = s.spine := by
  simp [completionTimeout]

@[simp] theorem suspendCut_spine (s : State) : (suspendCut s).spine = s.spine := by simp [suspendCut]
@[simp] theorem biteChannel_spine (k : Nat) (s : State) : (biteChannel k s).spine = s.spine := by simp [biteChannel]
@[simp] theorem biteStream_spine (s : State) : (biteStream s).spine = s.spine := by simp [biteStream]
@[simp] theorem poisonBlock_spine (a : Nat) (s : State) : (poisonBlock a s).spine = s.spine := by simp [poisonBlock]
@[simp] theorem biteOf_spine (k : Nat) (s : State) : (biteOf k s).spine = s.spine := by
  unfold biteOf
  split <;> simp

@[simp] theorem watchdogBite_spine (s : State) : (watchdogBite s).spine = s.spine := by simp [watchdogBite]
@[simp] theorem invalidate_spine (f : Mem → Mem) (s : State) : (invalidate f s).spine = s.spine := by simp [invalidate]
@[simp] theorem opMemStatus_spine (c : Sub) (s : State) : (opMemStatus c s).state.spine = s.spine := by simp [opMemStatus]
@[simp] theorem opTurnSet_spine (c : Sub) (s : State) : (opTurnSet c s).state.spine = s.spine := by simp [opTurnSet]
@[simp] theorem opTurnRead_spine (c : Sub) (s : State) : (opTurnRead c s).state.spine = s.spine := by simp [opTurnRead]
@[simp] theorem opMemScrub_spine (c : Sub) (s : State) : (opMemScrub c s).state.spine = s.spine := by simp [opMemScrub]

/-! Firmware slots and ledger writes -/

@[simp] theorem opFwStage_spine (c : Sub) (s : State) : (opFwStage c s).state.spine = s.spine := by simp [opFwStage]
@[simp] theorem opFwSelect_spine (c : Sub) (s : State) : (opFwSelect c s).state.spine = s.spine := by simp [opFwSelect]
@[simp] theorem readBackOk_spine (x : Cmd) (s : State) : (readBackOk x s).state.spine = s.spine := by
  unfold readBackOk
  split <;> simp

@[simp] theorem readBackBad_spine (x : Cmd) (s : State) : (readBackBad x s).spine = s.spine := by simp [readBackBad]
@[simp] theorem ledgerReadBack_spine (ok : Bool) (s : State) : (ledgerReadBack ok s).spine = s.spine := by
  unfold ledgerReadBack
  split
  · rfl
  · split
    · rfl
    · split
      · split
        · rfl
        · simp [takeCmd_spine ‹_›]
      · simp

/-! The PCIe function -/

@[simp] theorem discardCmds_spine (s : State) : (discardCmds s).spine = s.spine := by simp [discardCmds]
@[simp] theorem disableQps_spine (s : State) : (disableQps s).spine = s.spine := by simp [disableQps]
@[simp] theorem loseWork_spine (s : State) : (loseWork s).spine = s.spine := by simp [loseWork]
@[simp] theorem linkFall_spine (s : State) : (linkFall s).spine = s.spine := by simp [linkFall]
@[simp] theorem sendPending_spine (s : State) : (sendPending s).spine = s.spine := by simp [sendPending]
@[simp] theorem linkRise_spine (rate width : Nat) (s : State) : (linkRise rate width s).spine = s.spine := by
  unfold linkRise
  dsimp only
  split
  · simp
  · split <;> simp

/-! Clock sources and supplies -/

@[simp] theorem startFail_spine (p cause : Nat) (s : State) : (startFail p cause s).spine = s.spine := by simp [startFail]
@[simp] theorem holdsImage_spine (k : Nat) (found : Bool) (s : State) : (holdsImage k found s).spine = s.spine := by
  simp [holdsImage]

@[simp] theorem takeXtal32_spine (s : State) : (takeXtal32 s).spine = s.spine := by simp [takeXtal32]
@[simp] theorem crystalStable_spine (k : Nat) (s : State) : (crystalStable k s).spine = s.spine := by simp [crystalStable]
@[simp] theorem bootLevel_spine (p : Nat) (s : State) : (bootLevel p s).spine = s.spine := by simp [bootLevel]
@[simp] theorem pllLock_spine (p : Nat) (s : State) : (pllLock p s).spine = s.spine := by simp [pllLock]
@[simp] theorem sourceLost_spine (k cause : Nat) (s : State) : (sourceLost k cause s).spine = s.spine := by simp [sourceLost]
@[simp] theorem coast_spine (p : Nat) (s : State) : (coast p s).spine = s.spine := by simp [coast]
@[simp] theorem clockMonitorTrip_spine (p : Nat) (pll : Bool) (cause : Nat) (s : State) :
    (clockMonitorTrip p pll cause s).spine = s.spine := by
  simp [clockMonitorTrip]

@[simp] theorem umpireLost_spine (s : State) : (umpireLost s).spine = s.spine := by simp [umpireLost]
@[simp] theorem fastRcLost_spine (s : State) : (fastRcLost s).spine = s.spine := by simp [fastRcLost]
@[simp] theorem sharedClockTrip_spine (k cause : Nat) (s : State) : (sharedClockTrip k cause s).spine = s.spine := by
  simp [sharedClockTrip]

@[simp] theorem sourceRecovered_spine (k : Nat) (s : State) : (sourceRecovered k s).spine = s.spine := by simp [sourceRecovered]
@[simp] theorem tickPeriodCheck_spine (okA okB : Bool) (s : State) : (tickPeriodCheck okA okB s).spine = s.spine := by
  simp [tickPeriodCheck]

@[simp] theorem portDark_spine (k : Nat) (s : State) : (portDark k s).spine = s.spine := by simp [portDark]
@[simp] theorem supplyLost_spine (d : Nat) (s : State) : (supplyLost d s).spine = s.spine := by simp [supplyLost]
@[simp] theorem afeCut_spine (s : State) : (afeCut s).spine = s.spine := by simp [afeCut]

/-! Start-up, power loss and restoration -/

@[simp] theorem flushEvents_spine (s : State) : (flushEvents s).spine = s.spine := by simp [flushEvents]
@[simp] theorem startClocks_spine (again : Bool) (s : State) : (startClocks again s).spine = s.spine := by simp [startClocks]
@[simp] theorem enterStart_spine (again : Bool) (s : State) : (enterStart again s).spine = s.spine := by
  simp [enterStart]

@[simp] theorem sampleStraps_spine (x : Straps) (s : State) : (sampleStraps x s).spine = s.spine := by simp [sampleStraps]
@[simp] theorem porstRelease_spine (x : Straps) (s : State) : (porstRelease x s).spine = s.spine := by simp [porstRelease]
@[simp] theorem beginCkpt_spine (cause : Nat) (s : State) : (beginCkpt cause s).spine = s.spine := by simp [beginCkpt]
@[simp] theorem warmRstRelease_spine (x : Straps) (s : State) : (warmRstRelease x s).spine = s.spine := by simp [warmRstRelease]
@[simp] theorem setHalf_spine (h : Nat) (c : Option Ckpt) (s : State) : (setHalf h c s).spine = s.spine := by simp [setHalf]
@[simp] theorem startHalf_spine (s : State) : (startHalf s).spine = s.spine := by simp [startHalf]
@[simp] theorem shadowLatch_spine (s : State) : (shadowLatch s).spine = s.spine := by simp [shadowLatch]
@[simp] theorem clearMark_spine (h : Nat) (s : State) : (clearMark h s).spine = s.spine := by
  unfold clearMark
  split <;> simp

@[simp] theorem validMark_spine (ok : Bool) (s : State) : (validMark ok s).spine = s.spine := by simp [validMark]
@[simp] theorem handLive_spine (s : State) : (handLive s).spine = s.spine := by simp [handLive]
@[simp] theorem pwrfailRelease_spine (s : State) : (pwrfailRelease s).spine = s.spine := by
  unfold pwrfailRelease
  split
  · simp
  · split <;> simp

@[simp] theorem afterRestart_spine (s : State) : (afterRestart s).spine = s.spine := by simp [afterRestart]
@[simp] theorem postLoaded_spine (k : Nat) (s : State) : (postLoaded k s).spine = s.spine := by simp [postLoaded]
@[simp] theorem startupElection_spine (s : State) : (startupElection s).spine = s.spine := by
  unfold startupElection
  split
  · rfl
  · split <;> simp

@[simp] theorem enterReady_spine (s : State) : (enterReady s).spine = s.spine := by simp [enterReady]
@[simp] theorem takeUp_spine (s : State) : (takeUp s).spine = s.spine := by simp [takeUp]

/-! Front-end and device commands, queue pair registers -/

@[simp] theorem opNop_spine (c : Sub) (s : State) : (opNop c s).state.spine = s.spine := by simp [opNop]
@[simp] theorem opIdentify_spine (c : Sub) (s : State) : (opIdentify c s).state.spine = s.spine := by simp [opIdentify]
@[simp] theorem abortNow_spine (x : Cmd) (s : State) : (abortNow x s).spine = s.spine := by simp [abortNow]
@[simp] theorem opAbort_spine (c : Sub) (s : State) : (opAbort c s).state.spine = s.spine := by
  unfold opAbort
  repeat' split
  all_goals simp

@[simp] theorem toRun_spine (s : State) : (toRun s).spine = s.spine := by simp [toRun]
@[simp] theorem toReady_spine (s : State) : (toReady s).spine = s.spine := by simp [toReady]
@[simp] theorem restDram_spine (s0 : State) : (restDram s0).spine = s0.spine := by simp [restDram]
@[simp] theorem toIdle_spine (s : State) : (toIdle s).spine = s.spine := by simp [toIdle]
@[simp] theorem beginRun_spine (s : State) : (beginRun s).spine = s.spine := by simp [beginRun]
@[simp] theorem opSetState_spine (c : Sub) (s : State) : (opSetState c s).state.spine = s.spine := by simp [opSetState]
@[simp] theorem drainStaging_spine (s : State) : (drainStaging s).spine = s.spine := by simp [drainStaging]
@[simp] theorem qpRaise_spine (q kind : Nat) (changed : Bool) (s : State) : (qpRaise q kind changed s).spine = s.spine := by
  simp [qpRaise]

@[simp] theorem writeQpCtrl_spine (q : Nat) (v : Word) (s : State) : (writeQpCtrl q v s).spine = s.spine := by
  simp [writeQpCtrl]

@[simp] theorem writeSqTail_spine (q : Nat) (v : Word) (s : State) : (writeSqTail q v s).spine = s.spine := by
  simp [writeSqTail]

@[simp] theorem writeCqHead_spine (q : Nat) (v : Word) (s : State) : (writeCqHead q v s).spine = s.spine := by
  simp [writeCqHead]

@[simp] theorem clearRetry_spine (q : Nat) (s : State) : (clearRetry q s).spine = s.spine := by simp [clearRetry]
@[simp] theorem coalesceTimeout_spine (q : Nat) (s : State) : (coalesceTimeout q s).spine = s.spine := by simp [coalesceTimeout]
@[simp] theorem coalCut_spine (s : State) : (coalCut s).spine = s.spine := by simp [coalCut]
@[simp] theorem easePairs_spine (timed : Bool) (s : State) : (easePairs timed s).spine = s.spine := by simp [easePairs]
@[simp] theorem writeQpReg_spine (q o : Nat) (v : Word) (s : State) : (writeQpReg q o v s).spine = s.spine := by
  simp [writeQpReg]

@[simp] theorem writeMsix_spine (k : Nat) (v : Word) (s : State) : (writeMsix k v s).spine = s.spine := by simp [writeMsix]
@[simp] theorem writeWin_spine (w o : Nat) (v : Word) (s : State) : (writeWin w o v s).spine = s.spine := by simp [writeWin]
@[simp] theorem writeInv_spine (d : DWord) (s : State) : (writeInv d s).spine = s.spine := by simp [writeInv]
@[simp] theorem writeXlat_spine (o : Nat) (v : Word) (s : State) : (writeXlat o v s).spine = s.spine := by simp [writeXlat]
@[simp] theorem writeChCtrl_spine (k : Nat) (v : Word) (s : State) : (writeChCtrl k v s).spine = s.spine := by
  simp [writeChCtrl]

@[simp] theorem writeReg_spine (off : Nat) (v : Word) (s : State) : (writeReg off v s).spine = s.spine := by simp [writeReg]
@[simp] theorem writeWide_spine (off : Nat) (v : DWord) (s : State) : (writeWide off v s).spine = s.spine := by simp [writeWide]

/-! Device time -/

@[simp] theorem setTime_spine (t : DevTime) (s : State) : (setTime t s).spine = s.spine := by simp [setTime]
@[simp] theorem setPtp_spine (p : Ptp) (s : State) : (setPtp p s).spine = s.spine := by simp [setPtp]
@[simp] theorem setMgt_spine (k : Nat) (m : MgtPort) (s : State) : (setMgt k m s).spine = s.spine := by simp [setMgt]
@[simp] theorem onClks_spine (f : PlaneTime → PlaneTime) (s : State) : (onClks f s).spine = s.spine := by simp [onClks]
@[simp] theorem setCmp_spine (u : Nat) (x : Cmp) (s : State) : (setCmp u x s).spine = s.spine := by simp [setCmp]
@[simp] theorem cmpFire_spine (u : Nat) (s : State) : (cmpFire u s).spine = s.spine := by simp [cmpFire]
@[simp] theorem cmpsAtCut_spine (s : State) : (cmpsAtCut s).spine = s.spine := by simp [cmpsAtCut]
@[simp] theorem stepTime_spine (d : Int) (s : State) : (stepTime d s).spine = s.spine := by simp [stepTime]
@[simp] theorem rateTime_spine (r : Word) (s : State) : (rateTime r s).spine = s.spine := by simp [rateTime]
@[simp] theorem timeCut_spine (s : State) : (timeCut s).spine = s.spine := by
  unfold timeCut
  dsimp only
  split
  · split <;> simp
  · split <;> simp

@[simp] theorem opTimeStep_spine (c : Sub) (s : State) : (opTimeStep c s).state.spine = s.spine := by simp [opTimeStep]
@[simp] theorem opTimeRate_spine (c : Sub) (s : State) : (opTimeRate c s).state.spine = s.spine := by simp [opTimeRate]
@[simp] theorem opTimeCmp_spine (c : Sub) (s : State) : (opTimeCmp c s).state.spine = s.spine := by simp [opTimeCmp]
@[simp] theorem opTimeRead_spine (c : Sub) (s : State) : (opTimeRead c s).state.spine = s.spine := by simp [opTimeRead]
@[simp] theorem opTimeStatus_spine (c : Sub) (s : State) : (opTimeStatus c s).state.spine = s.spine := by simp [opTimeStatus]
@[simp] theorem choosePort_spine (s : State) : (choosePort s).spine = s.spine := by
  unfold choosePort
  split <;> simp

@[simp] theorem opMgtConfig_spine (c : Sub) (s : State) : (opMgtConfig c s).state.spine = s.spine := by simp [opMgtConfig]
@[simp] theorem opPtpConfig_spine (c : Sub) (s : State) : (opPtpConfig c s).state.spine = s.spine := by simp [opPtpConfig]
@[simp] theorem opPtpStatus_spine (c : Sub) (s : State) : (opPtpStatus c s).state.spine = s.spine := by simp [opPtpStatus]
@[simp] theorem servoStep_spine (o : Int) (s : State) : (servoStep o s).spine = s.spine := by simp [servoStep]

/-! The MS-240 window -/

@[simp] theorem setWin_spine (w : WindowBus) (s : State) : (setWin w s).spine = s.spine := by simp [setWin]
@[simp] theorem setWstat_spine (b : Nat) (s : State) : (setWstat b s).spine = s.spine := by simp [setWstat]
@[simp] theorem setLstat_spine (l b : Nat) (s : State) : (setLstat l b s).spine = s.spine := by simp [setLstat]
@[simp] theorem queueWrite_spine (l kind : Nat) (v : Word) (s : State) : (queueWrite l kind v s).spine = s.spine := by
  simp [queueWrite]

@[simp] theorem winToken_spine (l port : Nat) (v : Word) (s : State) : (winToken l port v s).spine = s.spine := by
  simp [winToken]

@[simp] theorem winOut_spine (replaced : Bool) (l : Nat) (v : Word) (s : State) : (winOut replaced l v s).spine = s.spine := by
  unfold winOut
  dsimp only
  split
  · simp
  · split <;> simp

@[simp] theorem winSetMode_spine (l m : Nat) (s : State) : (winSetMode l m s).spine = s.spine := by simp [winSetMode]
@[simp] theorem winApply_spine (x : Nat × Nat × Word) (s : State) : (winApply x s).spine = s.spine := by simp [winApply]
@[simp] theorem winWritesCut_spine (s : State) : (winWritesCut s).spine = s.spine := by simp [winWritesCut]
@[simp] theorem winAsk_spine (cmd : Bool) (data : Nat) (s : State) : (winAsk cmd data s).spine = s.spine := by simp [winAsk]
@[simp] theorem setOwner_spine (n : Nat) (on : Bool) (s : State) : (setOwner n on s).spine = s.spine := by simp [setOwner]
@[simp] theorem keepFlags_spine (n : Nat) (s : State) : (keepFlags n s).spine = s.spine := by simp [keepFlags]
@[simp] theorem winClaimAt_spine (d : Nat) (s : State) : (winClaimAt d s).spine = s.spine := by simp [winClaimAt]
@[simp] theorem winOp_spine (code n : Nat) (s : State) : (winOp code n s).state.spine = s.spine := by simp [winOp]
@[simp] theorem winFenced_spine (n : Nat) (s : State) : (winFenced n s).spine = s.spine := by
  unfold winFenced
  dsimp only
  split <;> simp

@[simp] theorem winCmdAt_spine (code : Nat) (s : State) : (winCmdAt code s).spine = s.spine := by
  have h := winOp_spine code s.window.session (setOwner s.window.session false s)
  unfold winCmdAt
  dsimp only
  split
  · simp
  · split
    · simp_all
    · simp

@[simp] theorem winDone_spine (s : State) : (winDone s).spine = s.spine := by simp [winDone]
@[simp] theorem winRequests_spine (early : Bool) (s : State) : (winRequests early s).spine = s.spine := by
  unfold winRequests
  split <;> simp

@[simp] theorem statusClear_spine (a : Nat) (s : State) : (statusClear a s).spine = s.spine := by simp [statusClear]
@[simp] theorem winRead_spine (a : Nat) (s : State) : (winRead a s).spine = s.spine := by simp [winRead]
@[simp] theorem winCut_spine (s : State) : (winCut s).spine = s.spine := by
  unfold winCut
  dsimp only
  split <;> simp

/-! The front end -/

@[simp] theorem coreOf_spine (op : Nat) (c : Sub) (s : State) : (coreOf op c s).state.spine = s.spine := by
  unfold coreOf
  split <;> simp

@[simp] theorem forward_spine (op : Nat) (c : Sub) (s : State) : (forward op c s).state.spine = s.spine := by
  have h := coreOf_spine op c s
  unfold forward
  split
  · simp_all
  · rfl

@[simp] theorem crcFail_spine (c : Sub) (s : State) : (crcFail c s).spine = s.spine := by simp [crcFail]
@[simp] theorem fetchEntry_spine (qp : Nat) (ws image : List Word) (s : State) :
    (fetchEntry qp ws image s).spine = s.spine := by
  unfold fetchEntry
  dsimp only
  split
  · simp
  · split
    · simp
    · split <;> simp

@[simp] theorem releaseOrder_spine (x : Cmd) (s : State) : (releaseOrder x s).spine = s.spine := by
  unfold releaseOrder
  dsimp only
  split
  · simp
  · split <;> simp

@[simp] theorem releaseOrders_spine (n : Nat) (s : State) : (releaseOrders n s).spine = s.spine := by
  induction n generalizing s with
  | zero => rfl
  | succ n ih =>
    unfold releaseOrders
    split
    · rfl
    · simp [ih]

@[simp] theorem orderCut_spine (s : State) : (orderCut s).spine = s.spine := by simp [orderCut]
@[simp] theorem placement_spine (x : Cmd) (s : State) : (placement x s).state.spine = s.spine := by simp [placement]
@[simp] theorem placeTimed_spine (x : Cmd) (s : State) : (placeTimed x s).spine = s.spine := by simp [placeTimed]
@[simp] theorem placeDue_spine (s : State) : (placeDue s).spine = s.spine := by simp [placeDue]
@[simp] theorem commitForwarded_spine (x : Cmd) (s : State) : (commitForwarded x s).spine = s.spine := by
  have h := coreOf_spine x.op x.sub { s with hif := { s.hif with cmds := s.hif.cmds.erase x } }
  unfold commitForwarded
  dsimp only
  split
  · simp
  · split
    · simp
    · split
      · split
        · simp_all
        · split
          · rfl
          · simp_all
      · simp_all

@[simp] theorem firmwareFault_spine (x : Cmd) (s : State) : (firmwareFault x s).spine = s.spine := by simp [firmwareFault]

/-! Registers -/

@[simp] theorem clearRc_spine (off : Nat) (s : State) : (clearRc off s).spine = s.spine := by simp [clearRc]
@[simp] theorem readClear_spine (off : Nat) (s : State) : (readClear off s).spine = s.spine := by simp [readClear]

/-! The tick -/

@[simp] theorem sampleDeadline_spine (s00 : State) : (sampleDeadline s00).spine = s00.spine := by simp [sampleDeadline]
@[simp] theorem refuseLate_spine (s : State) : (refuseLate s).spine = s.spine := by
  unfold refuseLate
  split <;> simp

@[simp] theorem owedByPlanes_spine (s : State) : (owedByPlanes s).spine = s.spine := by simp [owedByPlanes]
@[simp] theorem recDue_spine (s : State) : (recDue s).spine = s.spine := by simp [recDue]
@[simp] theorem endSample_spine (s : State) : (endSample s).spine = s.spine := by simp [endSample]
@[simp] theorem sampleGp_spine (gp : List Word) (s : State) : (sampleGp gp s).spine = s.spine := by simp [sampleGp]
@[simp] theorem sampleEnc_spine (enc : List Word) (bad : BitVec 16) (k : Nat) (s : State) :
    (sampleEnc enc bad k s).spine = s.spine := by
  simp [sampleEnc]

@[simp] theorem samplePins_spine (gp enc : List Word) (bad : BitVec 16) (s : State) :
    (samplePins gp enc bad s).spine = s.spine := by
  simp [samplePins]

@[simp] theorem abortAt_spine (x : Cmd) (s : State) : (abortAt x s).spine = s.spine := by
  have h := opSessAbort_spine x.sub
    (onPlanes (abortTakes x.sub.target) { s with hif := { s.hif with cmds := s.hif.cmds.erase x } })
  unfold abortAt
  dsimp only
  split
  · simp
  · split
    · simp
    · split
      · simp_all
      · simp

@[simp] theorem winAbortAt_spine (s : State) : (winAbortAt s).spine = s.spine := by
  have h := winOp_spine 5 s.window.session (setOwner s.window.session false (onPlanes (abortTakes s.window.session) s))
  unfold winAbortAt
  dsimp only
  split
  · rfl
  · split
    · simp_all
    · simp

@[simp] theorem startAt_spine (x : Cmd) (s : State) : (startAt x s).spine = s.spine := by simp [startAt]
@[simp] theorem sessionCut_spine (n : Nat) (s : State) : (sessionCut n s).spine = s.spine := by simp [sessionCut]
@[simp] theorem recipeCut_spine (s : State) : (recipeCut s).spine = s.spine := by simp [recipeCut]
@[simp] theorem planesCut_spine (s : State) : (planesCut s).spine = s.spine := by simp [planesCut]
@[simp] theorem loadCut_spine (s : State) : (loadCut s).spine = s.spine := by simp [loadCut]
@[simp] theorem sharedCut_spine (s : State) : (sharedCut s).spine = s.spine := by simp [sharedCut]

end Sys2Proof.Machine
end

/-! The dispatch: every row but those of `movesSpine` keeps the spine. -/

section
namespace Sys2Proof.Machine

/-- The rows that may change what `State.spine` holds: the input cut, the resets, what may end in STANDBY, a plane's
restoration and the sealed read. -/
def movesSpine : Instr → Bool
  | .inputCut _ _ _ | .setState _ | .forwardedCommit _ _ | .planeReady _ | .rcStable _ => true
  | .porstAssert | .warmRstFall | .warmResetApply => true
  | _ => false

/-- The next state that an outcome gives, if any, keeps the spine of s. -/
def Keeps (s : State) (o : Outcome) : Prop := ∀ t, o = .next t → t.spine = s.spine

@[simp] theorem keeps_next (s t : State) : Keeps s (.next t) ↔ t.spine = s.spine :=
  ⟨fun h => h t rfl, fun h _ e => by cases e; exact h⟩
@[simp] theorem keeps_fault (s : State) (r : Fault) : Keeps s (.fault r) := fun _ e => nomatch e
@[simp] theorem keeps_ite (c : Prop) [Decidable c] (s : State) (x y : Outcome) (hx : Keeps s x) (hy : Keeps s y) :
    Keeps s (if c then x else y) := by
  split
  · exact hx
  · exact hy
@[simp] theorem keeps_guarded (s t : State) (b : Bool) (h : t.spine = s.spine) : Keeps s (guarded b t) := by
  simp [guarded, h]
@[simp] theorem keeps_hostCmd (op : Nat) (core : Sub → State → OpOut) (c : Sub) (s : State)
    (h : ∀ u, (core c u).state.spine = u.spine) : Keeps s (hostCmd op core c s) := by
  simp [hostCmd, h]
@[simp] theorem keeps_instrRow (w : DWord) (f : Plane → Plane) (s : State) : Keeps s (instrRow w f s) := by simp [instrRow]
@[simp] theorem keeps_instrX (op lim x : Nat) (f : Nat → Plane → Plane) (s : State) : Keeps s (instrX op lim x f s) := by
  simp [instrX]
@[simp] theorem keeps_instrW2 (op a b : Nat) (f : Nat → Nat → Plane → Plane) (s : State) : Keeps s (instrW2 op a b f s) := by
  simp [instrW2]
@[simp] theorem keeps_qpRow (q : Nat) (f : State → State) (s : State) (h : ∀ u, (f u).spine = u.spine) :
    Keeps s (qpRow q f s) := by
  simp [qpRow, h]
@[simp] theorem keeps_winWrite (ok : Bool) (f : State → State) (s : State) (h : ∀ u, (f u).spine = u.spine) :
    Keeps s (winWrite ok f s) := by
  simp [winWrite, h]

theorem execTimedPlacement_keeps (qp : Nat) (tag : BitVec 16) (s : State) : Keeps s (execTimedPlacement qp tag s) := by
  unfold execTimedPlacement
  split <;> simp

theorem execSwitchoverElection_keeps (s : State) : Keeps s (execSwitchoverElection s) := by
  unfold execSwitchoverElection
  split <;> simp

theorem execEventPosting_keeps (s : State) : Keeps s (execEventPosting s) := by
  unfold execEventPosting
  dsimp only
  split <;> simp

theorem execStoTestPulse_keeps (pair : Nat) (ok : Bool) (s : State) : Keeps s (execStoTestPulse pair ok s) := by
  unfold execStoTestPulse
  split <;> simp

theorem execAiConversion_keeps (ch : Nat) (codes : List Int) (parityBad : Bool) (s : State) :
    Keeps s (execAiConversion ch codes parityBad s) := by
  unfold execAiConversion
  dsimp only
  split <;> simp

theorem execCalHandover_keeps (g diff : Nat) (s : State) : Keeps s (execCalHandover g diff s) := by
  unfold execCalHandover
  dsimp only
  split <;> simp

theorem execCalCoeffLoaded_keeps (g : Nat) (coef : List (Int × Int)) (ok : Bool) (s : State) :
    Keeps s (execCalCoeffLoaded g coef ok s) := by
  unfold execCalCoeffLoaded
  dsimp only
  split <;> simp

theorem execAfeTestDone_keeps (ch : Nat) (res : Word) (s : State) : Keeps s (execAfeTestDone ch res s) := by
  unfold execAfeTestDone
  split <;> simp

theorem execFrameDelivery_keeps (p : Nat) (s : State) : Keeps s (execFrameDelivery p s) := by
  unfold execFrameDelivery
  dsimp only
  split <;> simp

theorem execPtpMessageReceive_keeps (port : Nat) (m : PtpMsg) (s : State) : Keeps s (execPtpMessageReceive port m s) := by
  unfold execPtpMessageReceive
  dsimp only
  split
  · simp
  · split
    · simp
    · split
      · simp
      · split <;> simp

theorem execPtpMessageSend_keeps (kind : Nat) (s : State) : Keeps s (execPtpMessageSend kind s) := by
  unfold execPtpMessageSend
  split <;> simp

theorem execCanTxComplete_keeps (ch : Nat) (s : State) : Keeps s (execCanTxComplete ch s) := by
  unfold execCanTxComplete
  dsimp only
  split <;> simp

theorem execCanTxError_keeps (ch : Nat) (s : State) : Keeps s (execCanTxError ch s) := by
  unfold execCanTxError
  dsimp only
  split <;> simp

theorem execCanArbitrationLost_keeps (ch : Nat) (s : State) : Keeps s (execCanArbitrationLost ch s) := by
  unfold execCanArbitrationLost
  dsimp only
  split <;> simp

theorem execDroopFallback_keeps (plane : Nat) (s : State) : Keeps s (execDroopFallback plane s) := by
  unfold execDroopFallback
  split <;> simp

theorem execLevelSettleExpiry_keeps (plane : Nat) (s : State) : Keeps s (execLevelSettleExpiry plane s) := by
  unfold execLevelSettleExpiry
  dsimp only
  split
  · simp
  · split <;> simp

theorem execWindowRequestTimeout_keeps (s : State) : Keeps s (execWindowRequestTimeout s) := by
  unfold execWindowRequestTimeout
  split <;> simp

/-- A row outside `movesSpine` keeps SN, the queue, the first SN of a restart and the sealed registers. -/
theorem exec_keeps (i : Instr) (s : State) (h : movesSpine i = false) : Keeps s (exec i s) := by
  cases i with
  | nop c => exact keeps_hostCmd _ _ c s (opNop_spine c)
  | identify c => exact keeps_hostCmd _ _ c s (opIdentify_spine c)
  | setState _ => cases h
  | abort c => exact keeps_hostCmd _ _ c s (opAbort_spine c)
  | clkStatus c => exact keeps_hostCmd _ _ c s (opClkStatus_spine c)
  | clkMeasure c => exact keeps_hostCmd _ _ c s (opClkMeasure_spine c)
  | clkGate c => exact keeps_hostCmd _ _ c s (opClkGate_spine c)
  | pwrStatus c => exact keeps_hostCmd _ _ c s (opPwrStatus_spine c)
  | dvfsSet c => exact keeps_hostCmd _ _ c s (opDvfsSet_spine c)
  | clkoutCfg c => exact keeps_hostCmd _ _ c s (opClkoutCfg_spine c)
  | loopSetSp c => exact keeps_hostCmd _ _ c s (opLoopSetSp_spine c)
  | loopSetOut c => exact keeps_hostCmd _ _ c s (opLoopSetOut_spine c)
  | loopRead c => exact keeps_hostCmd _ _ c s (opLoopRead_spine c)
  | loopSetMode c => exact keeps_hostCmd _ _ c s (opLoopSetMode_spine c)
  | loopWrite c => exact keeps_hostCmd _ _ c s (opLoopWrite_spine c)
  | boothStatus c => exact keeps_hostCmd _ _ c s (opBoothStatus_spine c)
  | boothKeepAwake c => exact keeps_hostCmd _ _ c s (opBoothKeepAwake_spine c)
  | modelLoad c => exact keeps_hostCmd _ _ c s (opModelLoad_spine c)
  | modelReinit c => exact keeps_hostCmd _ _ c s (opModelReinit_spine c)
  | testStart c => exact keeps_hostCmd _ _ c s (opTestStart_spine c)
  | testStop c => exact keeps_hostCmd _ _ c s (opTestStop_spine c)
  | testStatus c => exact keeps_hostCmd _ _ c s (opTestStatus_spine c)
  | captRead c => exact keeps_hostCmd _ _ c s (opCaptRead_spine c)
  | dispLoad c => exact keeps_hostCmd _ _ c s (opDispLoad_spine c)
  | dispSetPrio c => exact keeps_hostCmd _ _ c s (opDispSetPrio_spine c)
  | dispStatus c => exact keeps_hostCmd _ _ c s (opDispStatus_spine c)
  | dispFlowStatus c => exact keeps_hostCmd _ _ c s (opDispFlowStatus_spine c)
  | sessAdvance c => exact keeps_hostCmd _ _ c s (opSessAdvance_spine c)
  | sessHold c => exact keeps_hostCmd _ _ c s (opSessHold_spine c)
  | sessLoad c => exact keeps_hostCmd _ _ c s (opSessLoad_spine c)
  | sessStart c => simp [execSessStart]
  | sessResume c => exact keeps_hostCmd _ _ c s (opSessResume_spine c)
  | sessAbort c => simp [execSessAbort]
  | sessUnload c => exact keeps_hostCmd _ _ c s (opSessUnload_spine c)
  | sessStatus c => exact keeps_hostCmd _ _ c s (opSessStatus_spine c)
  | scanLoad c => exact keeps_hostCmd _ _ c s (opScanLoad_spine c)
  | scanMode c => exact keeps_hostCmd _ _ c s (opScanMode_spine c)
  | scanWrite c => exact keeps_hostCmd _ _ c s (opScanWrite_spine c)
  | scanRead c => exact keeps_hostCmd _ _ c s (opScanRead_spine c)
  | scanStatus c => exact keeps_hostCmd _ _ c s (opScanStatus_spine c)
  | axConfig c => exact keeps_hostCmd _ _ c s (opAxConfig_spine c)
  | axWrite c => exact keeps_hostCmd _ _ c s (opAxWrite_spine c)
  | axEnable c => exact keeps_hostCmd _ _ c s (opAxEnable_spine c)
  | axMove c => exact keeps_hostCmd _ _ c s (opAxMove_spine c)
  | axStop c => exact keeps_hostCmd _ _ c s (opAxStop_spine c)
  | axSetLimits c => exact keeps_hostCmd _ _ c s (opAxSetLimits_spine c)
  | axHome c => exact keeps_hostCmd _ _ c s (opAxHome_spine c)
  | axGear c => exact keeps_hostCmd _ _ c s (opAxGear_spine c)
  | axGearSched c => exact keeps_hostCmd _ _ c s (opAxGearSched_spine c)
  | axClear c => exact keeps_hostCmd _ _ c s (opAxClear_spine c)
  | axRead c => exact keeps_hostCmd _ _ c s (opAxRead_spine c)
  | safeStatus c => exact keeps_hostCmd _ _ c s (opSafeStatus_spine c)
  | safeRequest c => exact keeps_hostCmd _ _ c s (opSafeRequest_spine c)
  | safeReset c => exact keeps_hostCmd _ _ c s (opSafeReset_spine c)
  | sconnStatus c => exact keeps_hostCmd _ _ c s (opSconnStatus_spine c)
  | sealStage c => exact keeps_hostCmd _ _ c s (opSealStage_spine c)
  | sealCommit c => exact keeps_hostCmd _ _ c s (opSealCommit_spine c)
  | sealRead c => exact keeps_hostCmd _ _ c s (opSealRead_spine c)
  | recConfig c => exact keeps_hostCmd _ _ c s (opRecConfig_spine c)
  | recStream c => exact keeps_hostCmd _ _ c s (opRecStream_spine c)
  | recStatus c => exact keeps_hostCmd _ _ c s (opRecStatus_spine c)
  | recFetch c => exact keeps_hostCmd _ _ c s (opRecFetch_spine c)
  | trigConfig c => exact keeps_hostCmd _ _ c s (opTrigConfig_spine c)
  | trigCtrl c => exact keeps_hostCmd _ _ c s (opTrigCtrl_spine c)
  | trigStatus c => exact keeps_hostCmd _ _ c s (opTrigStatus_spine c)
  | maskLoad c => exact keeps_hostCmd _ _ c s (opMaskLoad_spine c)
  | maskArm c => exact keeps_hostCmd _ _ c s (opMaskArm_spine c)
  | maskStatus c => exact keeps_hostCmd _ _ c s (opMaskStatus_spine c)
  | planeStatus c => exact keeps_hostCmd _ _ c s (opPlaneStatus_spine c)
  | planeHealth c => exact keeps_hostCmd _ _ c s (opPlaneHealth_spine c)
  | planeRestore c => exact keeps_hostCmd _ _ c s (opPlaneRestore_spine c)
  | planeOffline c => exact keeps_hostCmd _ _ c s (opPlaneOffline_spine c)
  | planeSwap c => exact keeps_hostCmd _ _ c s (opPlaneSwap_spine c)
  | planeConfig c => exact keeps_hostCmd _ _ c s (opPlaneConfig_spine c)
  | ledgerStatus c => exact keeps_hostCmd _ _ c s (opLedgerStatus_spine c)
  | journalRead c => exact keeps_hostCmd _ _ c s (opJournalRead_spine c)
  | fwStage c => exact keeps_hostCmd _ _ c s (opFwStage_spine c)
  | fwSelect c => exact keeps_hostCmd _ _ c s (opFwSelect_spine c)
  | memStatus c => exact keeps_hostCmd _ _ c s (opMemStatus_spine c)
  | turnSet c => exact keeps_hostCmd _ _ c s (opTurnSet_spine c)
  | turnRead c => exact keeps_hostCmd _ _ c s (opTurnRead_spine c)
  | memScrub c => exact keeps_hostCmd _ _ c s (opMemScrub_spine c)
  | aiConfig c => exact keeps_hostCmd _ _ c s (opAiConfig_spine c)
  | afeSeq c => exact keeps_hostCmd _ _ c s (opAfeSeq_spine c)
  | aoConfig c => exact keeps_hostCmd _ _ c s (opAoConfig_spine c)
  | clConfig c => exact keeps_hostCmd _ _ c s (opClConfig_spine c)
  | pwConfig c => exact keeps_hostCmd _ _ c s (opPwConfig_spine c)
  | afeCal c => exact keeps_hostCmd _ _ c s (opAfeCal_spine c)
  | afeTest c => exact keeps_hostCmd _ _ c s (opAfeTest_spine c)
  | afeStatus c => exact keeps_hostCmd _ _ c s (opAfeStatus_spine c)
  | afeMode c => exact keeps_hostCmd _ _ c s (opAfeMode_spine c)
  | gpConfig c => exact keeps_hostCmd _ _ c s (opGpConfig_spine c)
  | fpConfig c => exact keeps_hostCmd _ _ c s (opFpConfig_spine c)
  | fpStation c => exact keeps_hostCmd _ _ c s (opFpStation_spine c)
  | fpArm c => exact keeps_hostCmd _ _ c s (opFpArm_spine c)
  | fpStatus c => exact keeps_hostCmd _ _ c s (opFpStatus_spine c)
  | mgtConfig c => exact keeps_hostCmd _ _ c s (opMgtConfig_spine c)
  | ptpConfig c => exact keeps_hostCmd _ _ c s (opPtpConfig_spine c)
  | ptpStatus c => exact keeps_hostCmd _ _ c s (opPtpStatus_spine c)
  | timeRead c => exact keeps_hostCmd _ _ c s (opTimeRead_spine c)
  | timeStep c => exact keeps_hostCmd _ _ c s (opTimeStep_spine c)
  | timeRate c => exact keeps_hostCmd _ _ c s (opTimeRate_spine c)
  | timeCmp c => exact keeps_hostCmd _ _ c s (opTimeCmp_spine c)
  | timeStatus c => exact keeps_hostCmd _ _ c s (opTimeStatus_spine c)
  | canConfig c => exact keeps_hostCmd _ _ c s (opCanConfig_spine c)
  | canFilter c => exact keeps_hostCmd _ _ c s (opCanFilter_spine c)
  | canSignal c => exact keeps_hostCmd _ _ c s (opCanSignal_spine c)
  | canSched c => exact keeps_hostCmd _ _ c s (opCanSched_spine c)
  | canSend c => exact keeps_hostCmd _ _ c s (opCanSend_spine c)
  | canCtrl c => exact keeps_hostCmd _ _ c s (opCanCtrl_spine c)
  | canRxRead c => exact keeps_hostCmd _ _ c s (opCanRxRead_spine c)
  | canStatus c => exact keeps_hostCmd _ _ c s (opCanStatus_spine c)
  | evtRoute c => exact keeps_hostCmd _ _ c s (opEvtRoute_spine c)
  | evtStatus c => exact keeps_hostCmd _ _ c s (opEvtStatus_spine c)
  | evrRead c => exact keeps_hostCmd _ _ c s (opEvrRead_spine c)
  | evrClear c => exact keeps_hostCmd _ _ c s (opEvrClear_spine c)
  | obsCtrl c => exact keeps_hostCmd _ _ c s (opObsCtrl_spine c)
  | obsRead c => exact keeps_hostCmd _ _ c s (opObsRead_spine c)
  | lockChallenge c => exact keeps_hostCmd _ _ c s (opLockChallenge_spine c)
  | lock c => exact keeps_hostCmd _ _ c s (opLock_spine c)
  | qpEnable qp v => simp [execQpEnable]
  | qpDisable qp v => simp [execQpDisable]
  | qpSqTail qp v => simp [execQpSqTail]
  | qpCqHead qp v => simp [execQpCqHead]
  | qpRetryClear qp => simp [execQpRetryClear]
  | readClearCounter off => simp [execReadClearCounter]
  | evtCfgWrite src v => simp [execEvtCfgWrite]
  | evtAck src v => simp [execEvtAck]
  | dmaChResume ch pte => simp [execDmaChResume]
  | dmaChStop ch => simp [execDmaChStop]
  | xlatInvAll => simp [execXlatInvAll]
  | xlatInvPage page => simp [execXlatInvPage]
  | xlatInvDone => simp [execXlatInvDone]
  | registerWrite off wide v => simp [execRegisterWrite]
  | functionLevelReset => simp [execFunctionLevelReset]
  | linkDown => simp [execLinkDown]
  | linkUp rate width => simp [execLinkUp]
  | d3hotEntry => simp [execD3hotEntry]
  | d0Entry => simp [execD0Entry]
  | entryFetch qp words image => simp [execEntryFetch]
  | coalesceTimeout qp => simp [execCoalesceTimeout]
  | timedPlacement qp tag => exact execTimedPlacement_keeps qp tag s
  | backlogEased => simp [execBacklogEased]
  | forwardedCommit _ _ => cases h
  | inputCut _ _ _ => cases h
  | tokenDelivery loop port v q sn slot src bad => simp [execTokenDelivery]
  | taskFire booth => simp [execTaskFire]
  | loopExecution loop => simp [execLoopExecution]
  | coastLimitReached loop => simp [execCoastLimitReached]
  | staleLimitReached loop => simp [execStaleLimitReached]
  | sampleDeadline => simp [execSampleDeadline]
  | stepDurationDue sess => simp [execStepDurationDue]
  | triggerArmed eng => simp [execTriggerArmed]
  | triggerWindowComplete eng => simp [execTriggerWindowComplete]
  | outputCommit bad => simp [execOutputCommit]
  | signatureExchange => simp [execSignatureExchange]
  | checkRollVerdict okA okB => simp [execCheckRollVerdict]
  | heartbeatDeadline hbA hbB => simp [execHeartbeatDeadline]
  | planeResignation plane cls unit => simp [execPlaneResignation]
  | switchoverElection => exact execSwitchoverElection_keeps  s
  | healthReport plane arrived => simp [execHealthReport]
  | selfTestSlice plane pass => simp [execSelfTestSlice]
  | diagnosisPassed plane => simp [execDiagnosisPassed]
  | suspectTimeout plane => simp [execSuspectTimeout]
  | resyncCopyRound plane => simp [execResyncCopyRound]
  | resyncFinalCut plane => simp [execResyncFinalCut]
  | resyncComplete plane => simp [execResyncComplete]
  | resyncTimeout plane => simp [execResyncTimeout]
  | journalWrite ok => simp [execJournalWrite]
  | eventPosting => exact execEventPosting_keeps  s
  | eventRecordWrite ok => simp [execEventRecordWrite]
  | axisTick ax => simp [execAxisTick]
  | stallDeclared ax => simp [execStallDeclared]
  | safetyEvaluation => simp [execSafetyEvaluation]
  | discrepancyDemand ax => simp [execDiscrepancyDemand]
  | ss1TorqueOff ax => simp [execSs1TorqueOff]
  | stoTestPulse pair ok => exact execStoTestPulse_keeps pair ok s
  | safetyPduReceive conn pdu => simp [execSafetyPduReceive]
  | safetyWatchdogExpiry conn => simp [execSafetyWatchdogExpiry]
  | safetyPduSend conn => simp [execSafetyPduSend]
  | scanCycleStart => simp [execScanCycleStart]
  | scanDeadline => simp [execScanDeadline]
  | scanShadowRead => simp [execScanShadowRead]
  | instrNop => simp [execInstrNop]
  | rung n => simp [execRung]
  | andBit a => simp [execAndBit]
  | andnBit a => simp [execAndnBit]
  | orBit a => simp [execOrBit]
  | ornBit a => simp [execOrnBit]
  | push => simp [execPush]
  | popand => simp [execPopand]
  | popor => simp [execPopor]
  | notRlo => simp [execNotRlo]
  | outBit a => simp [execOutBit]
  | setBit a => simp [execSetBit]
  | rstBit a => simp [execRstBit]
  | rEdge x => simp [execREdge]
  | fEdge x => simp [execFEdge]
  | ton x => simp [execTon]
  | tof x => simp [execTof]
  | tp x => simp [execTp]
  | tres x => simp [execTres]
  | ctu x => simp [execCtu]
  | ctd x => simp [execCtd]
  | cres x => simp [execCres]
  | cgt a b => simp [execCgt]
  | cge a b => simp [execCge]
  | clt a b => simp [execClt]
  | cle a b => simp [execCle]
  | ceq a b => simp [execCeq]
  | cne a b => simp [execCne]
  | lim lo x hi => simp [execLim]
  | mov a b => simp [execMov]
  | movi a imm => simp [execMovi]
  | holds x => simp [execHolds]
  | park x => simp [execPark]
  | force x => simp [execForce]
  | evt e code => simp [execEvt]
  | endProg => simp [execEndProg]
  | boothPowerDown group => simp [execBoothPowerDown]
  | boothWakeDone group => simp [execBoothWakeDone]
  | intervalClose booth => simp [execIntervalClose]
  | timeRecord => simp [execTimeRecord]
  | streamBurst head => simp [execStreamBurst]
  | dramGrant req ecc => simp [execDramGrant]
  | dramRefresh => simp [execDramRefresh]
  | memoryWatchdogBite => simp [execMemoryWatchdogBite]
  | scrubBlock ecc => simp [execScrubBlock]
  | dmaBurst err => simp [execDmaBurst]
  | translationWalk ch qp pte => simp [execTranslationWalk]
  | dmaSuspendTimeout ch => simp [execDmaSuspendTimeout]
  | aiConversion ch codes parityBad => exact execAiConversion_keeps ch codes parityBad s
  | ne43Recovery ch => simp [execNe43Recovery]
  | injectedTrigger group at5ns codes => simp [execInjectedTrigger]
  | calRotationStart group => simp [execCalRotationStart]
  | calHandover group diff => exact execCalHandover_keeps group diff s
  | calCoeffLoaded group coef ok => exact execCalCoeffLoaded_keeps group coef ok s
  | afeTestDone ch res => exact execAfeTestDone_keeps ch res s
  | clMeasure ch im lim => simp [execClMeasure]
  | complianceLost ch => simp [execComplianceLost]
  | complianceRestored ch => simp [execComplianceRestored]
  | clOpen ch => simp [execClOpen]
  | retransmitAlarm ch => simp [execRetransmitAlarm]
  | loopvMeasure v => simp [execLoopvMeasure]
  | aoOverload ch acting => simp [execAoOverload]
  | pwmPeriodStart ch => simp [execPwmPeriodStart]
  | frameReceive port f => simp [execFrameReceive]
  | frameDelivery port => exact execFrameDelivery_keeps port s
  | outputFrameSend port => simp [execOutputFrameSend]
  | stationLost station => simp [execStationLost]
  | fieldLinkDown port => simp [execFieldLinkDown]
  | fieldLinkUp port => simp [execFieldLinkUp]
  | ptpMessageReceive port m => exact execPtpMessageReceive_keeps port m s
  | ptpMessageSend kind => exact execPtpMessageSend_keeps kind s
  | mgtLinkChange port up => simp [execMgtLinkChange]
  | timeCompareFire unit => simp [execTimeCompareFire]
  | canFrameReceive ch f tstamp => simp [execCanFrameReceive]
  | canSchedRelease ch slot => simp [execCanSchedRelease]
  | canTxComplete ch => exact execCanTxComplete_keeps ch s
  | canTxError ch => exact execCanTxError_keeps ch s
  | canArbitrationLost ch => exact execCanArbitrationLost_keeps ch s
  | referenceMessage ch sent => simp [execReferenceMessage]
  | busOffRecovery ch => simp [execBusOffRecovery]
  | porstAssert => cases h
  | porstRelease x => simp [execPorstRelease]
  | warmRstFall => cases h
  | warmResetApply => cases h
  | warmRstRelease x => simp [execWarmRstRelease]
  | pwrfailAssert => simp [execPwrfailAssert]
  | checkpointShadowLatch => simp [execCheckpointShadowLatch]
  | checkpointValidMark ok => simp [execCheckpointValidMark]
  | pwrfailRelease => simp [execPwrfailRelease]
  | supplyTrip dom => simp [execSupplyTrip]
  | supplyRestored dom => simp [execSupplyRestored]
  | sealOpenAssert => simp [execSealOpenAssert]
  | sealOpenDeassert => simp [execSealOpenDeassert]
  | wakeTimerExpiry => simp [execWakeTimerExpiry]
  | idleWakeCommit => simp [execIdleWakeCommit]
  | crystalStable xtal => simp [execCrystalStable]
  | pllLock plane => simp [execPllLock]
  | firmwareChecked plane found0 found1 => simp [execFirmwareChecked]
  | selfTestDone plane pass => simp [execSelfTestDone]
  | planeReady _ => cases h
  | startupElection => simp [execStartupElection]
  | startupTimeout plane => simp [execStartupTimeout]
  | crystalStartTimeout plane => simp [execCrystalStartTimeout]
  | clockMonitorTrip plane pll cause => simp [execClockMonitorTrip]
  | sharedClockTrip src cause => simp [execSharedClockTrip]
  | clockSourceRecovered src => simp [execClockSourceRecovered]
  | tickAlignment delta trim => simp [execTickAlignment]
  | planeAligned plane => simp [execPlaneAligned]
  | tickPeriodCheck okA okB => simp [execTickPeriodCheck]
  | trimLimit plane => simp [execTrimLimit]
  | droopFallback plane => exact execDroopFallback_keeps plane s
  | droopRelease => simp [execDroopRelease]
  | levelSettleExpiry plane => exact execLevelSettleExpiry_keeps plane s
  | measurementDone ctr count timeout => simp [execMeasurementDone]
  | fieldLockExpiry => simp [execFieldLockExpiry]
  | nonceExpiry => simp [execNonceExpiry]
  | opsecWrite ok => simp [execOpsecWrite]
  | tapBypass bits n => simp [execTapBypass]
  | tapIdcode => simp [execTapIdcode]
  | tapSample => simp [execTapSample]
  | tapObsSel sel => simp [execTapObsSel]
  | tapObsData => simp [execTapObsData]
  | tapReset => simp [execTapReset]
  | winSpHi loop d => simp [execWinSpHi]
  | winSpLo loop d => simp [execWinSpLo]
  | winMoHi loop d => simp [execWinMoHi]
  | winMoLo loop d => simp [execWinMoLo]
  | winMode loop d => simp [execWinMode]
  | winClaim d => simp [execWinClaim]
  | winStart => simp [execWinStart]
  | winHold => simp [execWinHold]
  | winResume => simp [execWinResume]
  | winAdvance => simp [execWinAdvance]
  | winAbort => simp [execWinAbort]
  | windowStatusRead addr => simp [execWindowStatusRead]
  | windowRead addr => simp [execWindowRead]
  | windowRequestTimeout => exact execWindowRequestTimeout_keeps  s
  | rcStable _ => cases h
  | pllLockTimeout plane => simp [execPllLockTimeout]
  | canIntegrationDone ch => simp [execCanIntegrationDone]
  | canReceiveError ch => simp [execCanReceiveError]
  | completionTimeout ch qp => simp [execCompletionTimeout]
  | ledgerReadBack ok => simp [execLedgerReadBack]
  | operatingSecond => simp [execOperatingSecond]

end Sys2Proof.Machine
end

/-! The input cut: what the advance of SN sets, and what the rest of the cut keeps. -/

section
namespace Sys2Proof.Machine

/-! The SN of each plane -/

/-- SN of Plane A and of Plane B. -/
def planeSns (s : State) : Word × Word := (s.planeA.sn, s.planeB.sn)

theorem planeSns_of_bare {s t : State} (h : t.bare = s.bare) : planeSns t = planeSns s := by
  have e : planeSns t.bare = planeSns s.bare := by rw [h]
  exact e

@[simp] theorem raise_planeSns (k d : Nat) (s : State) : planeSns (raise k d s) = planeSns s :=
  planeSns_of_bare (raise_bare s k d)
@[simp] theorem setTime_planeSns (t : DevTime) (s : State) : planeSns (setTime t s) = planeSns s := rfl
@[simp] theorem setPtp_planeSns (p : Ptp) (s : State) : planeSns (setPtp p s) = planeSns s := rfl
@[simp] theorem onClks_planeSns (f : PlaneTime → PlaneTime) (s : State) : planeSns (onClks f s) = planeSns s := rfl
@[simp] theorem setCmp_planeSns (u : Nat) (x : Cmp) (s : State) : planeSns (setCmp u x s) = planeSns s := rfl

@[simp] theorem cmpFire_planeSns (u : Nat) (s : State) : planeSns (cmpFire u s) = planeSns s := by
  unfold cmpFire
  exact raise_planeSns _ _ _

@[simp] theorem cmpsAtCut_planeSns (s : State) : planeSns (cmpsAtCut s) = planeSns s :=
  forEach_keeps planeSns _ _ (fun u t => by split <;> simp) s

@[simp] theorem stepTime_planeSns (d : Int) (s : State) : planeSns (stepTime d s) = planeSns s := by simp [stepTime]
@[simp] theorem rateTime_planeSns (r : Word) (s : State) : planeSns (rateTime r s) = planeSns s := by simp [rateTime]

@[simp] theorem timeCut_planeSns (s : State) : planeSns (timeCut s) = planeSns s := by
  unfold timeCut
  dsimp only
  split <;> split <;> simp [apply_ite planeSns]

/-! What the end of the advance keeps -/

@[simp] theorem supplyTick_planeSns (s : State) : planeSns (supplyTick s) = planeSns s :=
  forEach_keeps planeSns _ _ (fun p t => by unfold setPstat; split <;> rfl) s

@[simp] theorem supplyTick_done (s : State) :
    (supplyTick s).ump.relDone = s.ump.relDone ∧ (supplyTick s).ump.sigDone = s.ump.sigDone := by
  have h := forEach_keeps (fun u : State => (u.ump.relDone, u.ump.sigDone)) [1, 2] (fun p t =>
    setPstat p { pstat t p with goodTicks := if planeTripped t p then 0 else min 1000 ((pstat t p).goodTicks + 1) } t)
    (fun p t => by unfold setPstat; split <;> rfl) s
  exact Prod.mk.inj h

@[simp] theorem enterReady_planeSns (s : State) : planeSns (enterReady s) = planeSns s := by
  unfold enterReady
  split
  · rfl
  · exact raise_planeSns _ _ _

@[simp] theorem raise_ump (k d : Nat) (s : State) : (raise k d s).ump = s.ump := congrArg (fun u => u.ump) (raise_bare s k d)

@[simp] theorem enterReady_ump (s : State) : (enterReady s).ump = s.ump := by
  unfold enterReady
  split
  · rfl
  · exact raise_ump _ _ _

/-! The advance (12 Table 12-3) -/

theorem nextSn_of_preTick {s : State} (h : s.boot.preTick = false) : nextSn s = s.sn + 1 := by simp [nextSn, h]

theorem nextSn_of_spine {s t : State} (h : t.spine = s.spine) : nextSn t = nextSn s := by
  simp [nextSn, sn_of_spine h, preTick_of_spine h, firstSn_of_spine h]

/-- The cut's SN is that after the present sample, or the first after start-up. -/
theorem advanceSn_sn (s : State) : (advanceSn s).sn = nextSn s := by
  unfold advanceSn
  dsimp only
  rw [sn_of_spine (enterReady_spine _), sn_of_spine (supplyTick_spine _)]
  exact sn_of_spine (timeCut_spine _)

/-- The flow release and the signature exchange of the new sample are still to come. -/
theorem advanceSn_done (s : State) : (advanceSn s).ump.relDone = false ∧ (advanceSn s).ump.sigDone = false := by
  unfold advanceSn
  dsimp only
  rw [enterReady_ump]
  exact supplyTick_done _

/-- Every computing plane takes the cut's SN. -/
theorem advanceSn_planeSns (s : State) : planeSns (advanceSn s)
    = (if computes s.ump.a then nextSn s else s.planeA.sn, if computes s.ump.b then nextSn s else s.planeB.sn) := by
  unfold advanceSn
  dsimp only
  rw [enterReady_planeSns, supplyTick_planeSns]
  refine (timeCut_planeSns _).trans ?_
  simp only [planeSns, onPlanes, apply_ite Plane.sn]

/-! The cut (01 R34) -/

theorem inputCut_of_runs (gp enc : List Word) (bad : BitVec 16) {s : State} (h : cutRuns s = true) :
    inputCut gp enc bad s =
      (let u := fieldCut (samplePins gp enc bad (advanceSn (endSample (orderCut s))))
      orderCut (readsDone (refuseLate (sharedCut (if halted u then winWritesCut u else planesCut u))))) := by
  simp only [inputCut, h, Bool.not_true, Bool.false_eq_true, if_false]

theorem inputCut_of_not_runs (gp enc : List Word) (bad : BitVec 16) {s : State} (h : cutRuns s = false) :
    inputCut gp enc bad s = orderCut s := by
  simp only [inputCut, h, Bool.not_false, if_true]

/-- After the advance, nothing in the cut moves the spine. -/
theorem inputCut_spine_of_runs (gp enc : List Word) (bad : BitVec 16) {s : State} (h : cutRuns s = true) :
    (inputCut gp enc bad s).spine = (advanceSn (endSample (orderCut s))).spine := by
  simp [inputCut_of_runs gp enc bad h]

theorem inputCut_sn_of_runs (gp enc : List Word) (bad : BitVec 16) {s : State} (h : cutRuns s = true) :
    (inputCut gp enc bad s).sn = nextSn s := by
  have e : (endSample (orderCut s)).spine = s.spine := by simp
  rw [sn_of_spine (inputCut_spine_of_runs gp enc bad h), advanceSn_sn, nextSn_of_spine e]

/-- Settles O22: the cut is the composition of its parts, in the order of log entries 9, 22, 25 and 26, and the advance sets SN
in the device and in every computing plane. -/
theorem inputCutAdvancesTheSample : Obligations.InputCutAdvancesTheSample := by
  refine ⟨fun s gp enc bad => ⟨fun h => ?_, fun h => ?_⟩, fun s h => ?_⟩
  · rw [exec_inputCut, execInputCut, inputCut_of_runs gp enc bad h]
  · rw [exec_inputCut, execInputCut, inputCut_of_not_runs gp enc bad h]
  · have hn := nextSn_of_preTick h
    have hp := advanceSn_planeSns s
    obtain ⟨hrel, hsig⟩ := advanceSn_done s
    refine ⟨(advanceSn_sn s).trans hn, hrel, hsig, fun ha => ?_, fun hb => ?_⟩
    · have h1 := congrArg Prod.fst hp
      rwa [if_pos ha, hn] at h1
    · have h2 := congrArg Prod.snd hp
      rwa [if_pos hb, hn] at h2

end Sys2Proof.Machine
end

/-! Resets, power-down, restoration and the sealed read: what they do to SN. -/

section
namespace Sys2Proof.Machine

theorem raise_dev (k d : Nat) (s : State) : (raise k d s).dev = s.dev := congrArg (fun u => u.dev) (raise_bare s k d)

theorem setPower_dev (d : Nat) (on : Bool) (s : State) : (setPower d on s).dev = s.dev := by
  unfold setPower
  split
  · rfl
  · exact raise_dev _ _ _

/-- Start-up begins in START. -/
theorem enterStart_dev (again : Bool) (s : State) : (enterStart again s).dev = .start := by
  have h : ∀ u : State, u.dev = .start → (setPower 0x01 true (setPower 0x00 true u)).dev = .start := fun u hu => by
    rw [setPower_dev, setPower_dev, hu]
  unfold enterStart
  dsimp only
  split
  · rw [raise_dev]
    exact h _ rfl
  · exact h _ rfl

/-- A warm reset clears SN and leaves the device in START (12 R382). -/
theorem warmReset_sn (s : State) : (warmReset s).sn = 0 := by
  unfold warmReset
  dsimp only
  split
  · rfl
  · exact sn_of_spine (enterStart_spine _ _)

theorem warmReset_dev (s : State) : (warmReset s).dev = .start := by
  unfold warmReset
  dsimp only
  split
  · rfl
  · exact enterStart_dev _ _

/-- A power-down clears SN (18 R564); otherwise the state stays that of the command. -/
theorem afterState_cases (s t : State) : afterState s t = t ∨ (afterState s t).sn = 0 ∧ (afterState s t).dev = .standby := by
  unfold afterState
  split
  · exact .inr ⟨rfl, rfl⟩
  · exact .inl rfl

/-- SN stays, or it is cleared in a state where no tick runs. -/
def SnKeptOrCleared (s t : State) : Prop := t.sn = s.sn ∨ t.sn = 0 ∧ (t.dev = .off ∨ t.dev = .start ∨ t.dev = .standby)

theorem snKeptOrCleared_of_spine {s t : State} (h : t.spine = s.spine) : SnKeptOrCleared s t := .inl (sn_of_spine h)

theorem warmReset_clears (s u : State) : SnKeptOrCleared s (warmReset u) :=
  .inr ⟨warmReset_sn u, .inr (.inl (warmReset_dev u))⟩

theorem afterState_snKeptOrCleared {s t : State} (h : t.spine = s.spine) : SnKeptOrCleared s (afterState s t) := by
  rcases afterState_cases s t with e | ⟨hsn, hdev⟩
  · rw [e]
    exact snKeptOrCleared_of_spine h
  · exact .inr ⟨hsn, .inr (.inr hdev)⟩

theorem raise_sn (k d : Nat) (s : State) : (raise k d s).sn = s.sn := sn_of_spine (raise_spine k d s)

theorem next_inj {s t : State} (h : (.next s : Outcome) = .next t) : t = s := by cases h; rfl

theorem guarded_next {b : Bool} {s t : State} (h : guarded b s = .next t) : b = true ∧ t = s := by
  cases b
  · cases h
  · exact ⟨rfl, next_inj h⟩

/-- A restoration sets the first SN of the restart, not SN. -/
theorem restoreOnce_sn (k : Nat) (s : State) : (restoreOnce k s).sn = s.sn := by
  unfold restoreOnce
  split
  · rfl
  · dsimp only
    split
    · exact raise_sn _ _ _
    · split
      · exact (raise_sn _ _ _).trans (forEach_keeps State.sn _ _ (fun _ _ => raise_sn _ _ _) _)
      · exact (raise_sn _ _ _).trans (forEach_keeps State.sn _ _ (fun _ _ => raise_sn _ _ _) _)

theorem loadRestore_sn (k : Nat) (s : State) : (loadRestore k s).sn = s.sn := by
  unfold loadRestore
  dsimp only
  rw [sn_of_spine (afterRestart_spine _), restoreOnce_sn, setPlane_sn]

theorem loadSeal_sn (s : State) : (loadSeal s).sn = s.sn := by
  unfold loadSeal
  split
  · exact raise_sn _ _ _
  · dsimp only
    split
    · rfl
    · exact raise_sn _ _ _

/-- The sealed read loads the sealed registers; SN stays. -/
theorem sealedRead_sn (s : State) : (sealedRead s).sn = s.sn := by
  have h : (sealedRead s).spine = (loadSeal s).spine := by simp [sealedRead]
  rw [sn_of_spine h, loadSeal_sn]

theorem rcStable_sn (k : Nat) (s : State) : (rcStable k s).sn = s.sn := by
  unfold rcStable
  dsimp only
  split
  · rfl
  · split
    · rfl
    · split
      · refine (sealedRead_sn _).trans (sn_of_spine ?_)
        simp
      · rfl

/-! SN over a row -/

theorem execPlaneReady_sn {plane : Nat} {s t : State} (h : execPlaneReady plane s = .next t) : t.sn = s.sn := by
  obtain ⟨-, rfl⟩ := guarded_next h
  split
  · rfl
  · exact (sn_of_spine (postLoaded_spine _ _)).trans ((sn_of_spine (setPstat_spine _ _ _)).trans (loadRestore_sn _ _))

theorem execRcStable_sn {src : Nat} {s t : State} (h : execRcStable src s = .next t) : t.sn = s.sn := by
  obtain ⟨-, rfl⟩ := guarded_next h
  exact rcStable_sn src s

theorem execForwardedCommit_snKeptOrCleared {qp : Nat} {fwd : Forwarded} {s t : State}
    (h : execForwardedCommit qp fwd s = .next t) : SnKeptOrCleared s t := by
  obtain ⟨-, rfl⟩ := guarded_next h
  split
  · exact .inl rfl
  · exact afterState_snKeptOrCleared (by simp)

theorem execWarmRstFall_snKeptOrCleared {s t : State} (h : execWarmRstFall s = .next t) : SnKeptOrCleared s t := by
  obtain rfl := next_inj h
  split
  · exact .inl rfl
  · dsimp only
    split
    · exact .inl rfl
    · split
      · exact .inl rfl
      · split
        · exact snKeptOrCleared_of_spine (by simp)
        · exact warmReset_clears s _

/-- A row other than the input cut keeps SN, or clears it in a state where no tick runs. -/
theorem exec_snKeptOrCleared {c : Instr} {s t : State} (h : exec c s = .next t) (hc : ∀ gp enc bad, c ≠ .inputCut gp enc bad) :
    SnKeptOrCleared s t := by
  cases hm : movesSpine c with
  | false => exact snKeptOrCleared_of_spine (exec_keeps c s hm t h)
  | true =>
    cases c
    case inputCut gp enc bad => exact absurd rfl (hc gp enc bad)
    case setState c =>
      obtain rfl := next_inj h
      exact afterState_snKeptOrCleared (by simp)
    case forwardedCommit qp fwd => exact execForwardedCommit_snKeptOrCleared h
    case planeReady p => exact .inl (execPlaneReady_sn h)
    case rcStable k => exact .inl (execRcStable_sn h)
    case porstAssert =>
      obtain rfl := next_inj h
      exact .inr ⟨rfl, .inl rfl⟩
    case warmRstFall => exact execWarmRstFall_snKeptOrCleared h
    case warmResetApply =>
      obtain rfl := next_inj h
      split
      · exact warmReset_clears s s
      · exact .inl rfl
    all_goals cases hm

/-- Settles O48: over the rows, with the spine for those that cannot move SN and the SN of the cut for the input cut. -/
theorem sampleNumberAdvancesAtTheInputCut : Obligations.SampleNumberAdvancesAtTheInputCut := by
  intro c s t h hne
  by_cases hc : ∃ gp enc bad, c = .inputCut gp enc bad
  · obtain ⟨gp, enc, bad, rfl⟩ := hc
    obtain rfl := next_inj h
    refine .inl ⟨gp, enc, bad, rfl, ?_⟩
    cases hr : cutRuns s with
    | true => exact inputCut_sn_of_runs gp enc bad hr
    | false =>
      rw [inputCut_of_not_runs gp enc bad hr] at hne
      exact absurd (sn_of_spine (orderCut_spine s)) hne
  · have hk := exec_snKeptOrCleared h fun gp enc bad e => hc ⟨gp, enc, bad, e⟩
    exact .inr (hk.resolve_left hne)

end Sys2Proof.Machine
end

/-! Writes and reads of the registers of BAR0 on a reachable function. -/

section
namespace Sys2Proof.Machine

/-- Bit 0 of a word reads as it was last set. -/
theorem bit_setBit_zero (v : Word) (b : Bool) : bit (setBit v 0 b) 0 = b := by
  have hv := v.isLt
  have e : (setBit v 0 b).toNat % 2 = b.toNat := by
    cases b <;> simp [setBit, setField, fieldN] <;> omega
  rw [bit, BitVec.getLsbD, Nat.testBit_zero, e]
  cases b <;> rfl

variable {s : State} {q : Nat}

theorem qpRow_of_reachable (f : State → State) (hb : bar0Ok s = true) (hq : q < 64) : qpRow q f s = .next (f s) := by
  simp [qpRow, guarded, hb, hq]

/-- EN 0 to 1 with allowed ring sizes (02 R53). -/
theorem writeQpCtrl_of_enable {v : Word} (h : bit (qpOf s q).ctrl 0 = false) (hv : bit v 0 = true) (hs : sizesOk v = true) :
    writeQpCtrl q v s = qpRaise q 2 (qpOf s q).retry (setQp q { qpOf s q with
      ctrl := v, sqHead := 0, sqTail := 0, cqHead := 0, cqTail := 0, phase := true, seq := 0
      paused := false, retry := false, coalCount := 0, coalAge := 0 } s) := by
  simp [writeQpCtrl, h, hv, hs]

/-- EN 1 to 0: the ring sizes stay (02 R52, R53). -/
theorem writeQpCtrl_of_disable {v : Word} (h : bit (qpOf s q).ctrl 0 = true) (hv : bit v 0 = false) :
    writeQpCtrl q v s = qpRaise q 1 (qpOf s q).err (setQp q { qpOf s q with
      ctrl := setField v 8 8 (field (qpOf s q).ctrl 8 8), err := false, errCause := 0 } s) := by
  simp [writeQpCtrl, h, hv]

theorem writeSqTail_of_valid {v : Word} (h : bit (qpOf s q).ctrl 0 = true) (he : (qpOf s q).err = false)
    (hv : v.toNat < sqLen (qpOf s q)) :
    writeSqTail q v s = setQp q { qpOf s q with tailReg := v, sqTail := v.toNat, paused := false } s := by
  unfold sqLen at hv
  simp [writeSqTail, sqLen, h, he, Nat.not_le.2 hv]

theorem writeCqHead_of_valid {v : Word} (h : bit (qpOf s q).ctrl 0 = true) (he : (qpOf s q).err = false)
    (hv : v.toNat < cqLen (qpOf s q))
    (hr : (v.toNat + cqLen (qpOf s q) - (qpOf s q).cqHead) % cqLen (qpOf s q)
      ≤ ((qpOf s q).cqTail + cqLen (qpOf s q) - (qpOf s q).cqHead) % cqLen (qpOf s q)) :
    writeCqHead q v s = setQp q { qpOf s q with headReg := v, cqHead := v.toNat } s := by
  unfold cqLen at hv hr
  simp [writeCqHead, cqLen, h, he, Nat.not_le.2 hv, Nat.not_lt.2 hr]

theorem isRcCounter_crcErrs (hq : q < 64) : isRcCounter (0x1018 + 64 * q) = true := by
  have h1 : 0x1000 ≤ 0x1018 + 64 * q ∧ 0x1018 + 64 * q < 0x2000 := by omega
  have h2 : (0x1018 + 64 * q) % 64 = 0x18 := by omega
  simp [isRcCounter, h1, h2]

theorem readReg_crcErrs (hq : q < 64) : readReg s (0x1018 + 64 * q) = word (qpOf s q).crcErrs.toNat := by
  have h1 : ¬ 0x1018 + 64 * q < 0x1000 := by omega
  have h2 : 0x1018 + 64 * q < 0x2000 := by omega
  have h3 : (0x1018 + 64 * q - 0x1000) / 64 = q := by omega
  have h4 : (0x1018 + 64 * q) % 64 = 0x18 := by omega
  simp [readReg, h1, h2, h3, h4, readQp]

theorem clearRc_crcErrs (hq : q < 64) : clearRc (0x1018 + 64 * q) s = setQp q { qpOf s q with crcErrs := 0 } s := by
  have h1 : 0x1018 + 64 * q ≠ 0x6018 := by omega
  have h3 : (0x1018 + 64 * q - 0x1000) / 64 = q := by omega
  rw [clearRc, if_neg h1, h3]

theorem execReadClearCounter_of_rc {off : Nat} (hb : bar0Ok s = true) (h : isRcCounter off = true) :
    execReadClearCounter off s = .next (readClear off s) := by
  simp [execReadClearCounter, guarded, hb, h]

theorem readClear_crcErrs (hq : q < 64) : readClear (0x1018 + 64 * q) s =
    (let t := setQp q { qpOf s q with crcErrs := 0 } s
    { t with hif := { t.hif with rdata := dw (qpOf s q).crcErrs.toNat } }) := by
  have e : (word (qpOf s q).crcErrs.toNat).toNat = (qpOf s q).crcErrs.toNat := by
    have := (qpOf s q).crcErrs.isLt
    rw [word, BitVec.toNat_ofNat]
    omega
  rw [readClear, clearRc_crcErrs hq, readReg_crcErrs hq, e]

/-- RESUME of a SUSPENDED channel other than the stream's, with translation off (13 R423). -/
theorem resumeChannel_of_direct {ch : Nat} (pte : List DWord) (h : (dmaCh s ch).state = 2) (h1 : ch ≠ 1)
    (hx : s.mem.xlatEn = false) :
    resumeChannel ch pte s = drainAll (raise 0x1E5 (2 + ch * 2 ^ 8 + (dmaCh s ch).cause * 2 ^ 16)
      (setDmaCh ch { dmaCh s ch with state := 1, cause := 0, walk := false, failed := none, suspTicks := 0 } s)) := by
  simp [resumeChannel, pageHere, resumed, h, h1, hx]

theorem stopSuspended_of_transfer {ch : Nat} (h : (dmaCh s ch).state = 2) (h1 : ch ≠ 1) :
    stopSuspended ch s = startReads (endTransfer ch stAborted 0 s) := by
  simp [stopSuspended, h, h1]

end Sys2Proof.Machine
end

section
namespace Sys2Proof.Machine

/-- Settles O18: each register write is the write of its register on a reachable function, for an object in range. -/
theorem registerRowsTakeEffect : Obligations.RegisterRowsTakeEffect := by
  refine ⟨fun s q v hb hq => ⟨fun h hs => ?_, fun h => ?_, fun h he hv => ?_, fun h he hv hr => ?_, fun h => ?_, ?_, ?_⟩,
    fun s src v hb hs => ⟨?_, fun hv => ?_⟩, fun s off v hb ho => ⟨fun h => ?_, fun h => ?_⟩,
    fun s ch pte hb hc h2 h1 => ⟨fun hx => ?_, ?_⟩, fun s => ⟨rfl, rfl⟩, fun s page hp => ?_⟩
  · rw [exec_qpEnable, execQpEnable, qpRow_of_reachable _ hb hq, writeQpCtrl_of_enable h (bit_setBit_zero v true) hs]
  · rw [exec_qpDisable, execQpDisable, qpRow_of_reachable _ hb hq, writeQpCtrl_of_disable h (bit_setBit_zero v false)]
  · rw [exec_qpSqTail, execQpSqTail, qpRow_of_reachable _ hb hq, writeSqTail_of_valid h he hv]
  · rw [exec_qpCqHead, execQpCqHead, qpRow_of_reachable _ hb hq, writeCqHead_of_valid h he hv hr]
  · rw [exec_qpRetryClear, execQpRetryClear, qpRow_of_reachable _ hb hq, clearRetry, h]
  · rw [exec_readClearCounter, execReadClearCounter_of_rc hb (isRcCounter_crcErrs hq), readClear_crcErrs hq]
  · rw [exec_readClearCounter, execReadClearCounter_of_rc hb rfl]
    rfl
  · simp [execEvtCfgWrite, guarded, hb, hs]
  · simp [execEvtAck, guarded, hb, hs, hv]
  · simp [execRegisterWrite, guarded, hb, ho, h]
  · simp [execRegisterWrite, guarded, writeWide, hb, ho, h]
  · rw [exec_dmaChResume, execDmaChResume, resumeChannel_of_direct pte h2 h1 hx]
    simp [guarded, hb, hc]
  · rw [exec_dmaChStop, execDmaChStop, stopSuspended_of_transfer h2 h1]
    simp [guarded, hb, hc]
  · rw [exec_xlatInvPage, execXlatInvPage, decide_eq_true hp]
    rfl

end Sys2Proof.Machine
end

/-! The step, and the values after reset. -/

section
namespace Sys2Proof.Machine

/-- Settles O40: by the two cases of the queue (the empty one is log entry 1). -/
theorem stepRunsTheFrontCommand : Obligations.StepRunsTheFrontCommand := by
  refine ⟨fun c r s h => ?_, fun s h => ?_⟩
  · simp only [step, h]
  · simp only [step, h]

theorem evtCfg_reset (src : Nat) : evtCfg State.reset src = evtCfgReset src := rfl

/-- RECORD is 1 at reset but for the queue pairs (17 R520). -/
theorem evtCfgReset_record (src : Nat) : bit (evtCfgReset src) 27 = decide (0x40 ≤ src) := by
  unfold evtCfgReset
  by_cases h : src < 0x40
  · rw [if_pos h, decide_eq_false (Nat.not_le.2 h)]
    rfl
  · rw [if_neg h, decide_eq_true (Nat.not_lt.1 h)]
    rfl

/-- PEND and OVR are 0 at reset. -/
theorem evtCfgReset_pend_ovr (src : Nat) : bit (evtCfgReset src) 31 = false ∧ bit (evtCfgReset src) 30 = false := by
  unfold evtCfgReset
  split <;> exact ⟨rfl, rfl⟩

theorem reset_oneActive : State.reset.oneActive := fun ⟨ha, _⟩ => absurd ha (by decide)

/-- Settles O41: field by field (phase and sequence: log entry 14; the empty queue: log entry 18). -/
theorem resetHoldsTheStatedValues : Obligations.ResetHoldsTheStatedValues := by
  refine ⟨rfl, rfl, rfl, rfl, rfl, rfl, fun _ => ⟨rfl, rfl, rfl⟩, fun src _ => ?_, rfl, rfl, rfl, reset_memWf,
    reset_oneActive⟩
  rw [evtCfg_reset]
  exact ⟨evtCfgReset_record src, evtCfgReset_pend_ovr src⟩

end Sys2Proof.Machine
end

/-! The SL registers in force, over a row (01 R20, 09 R313, R316). -/

section
namespace Sys2Proof.Machine

/-- The SL registers in force and the validity of the seal. -/
def State.seal (s : State) : Tab Word × Bool := (s.sealed.regs, s.sealed.valid)

theorem seal_of_spine {s t : State} (h : t.spine = s.spine) : t.seal = s.seal := by
  obtain ⟨hr, hv⟩ := sealed_of_spine h
  exact Prod.ext hr hv

theorem raise_seal (k d : Nat) (s : State) : (raise k d s).seal = s.seal := seal_of_spine (raise_spine k d s)

/-- A restoration brings back sessions and loops, never the seal. -/
theorem restoreOnce_seal (k : Nat) (s : State) : (restoreOnce k s).seal = s.seal := by
  unfold restoreOnce
  split
  · rfl
  · dsimp only
    split
    · exact raise_seal _ _ _
    · split
      · exact (raise_seal _ _ _).trans (forEach_keeps State.seal _ _ (fun _ _ => raise_seal _ _ _) _)
      · exact (raise_seal _ _ _).trans (forEach_keeps State.seal _ _ (fun _ _ => raise_seal _ _ _) _)

theorem loadRestore_seal (k : Nat) (s : State) : (loadRestore k s).seal = s.seal := by
  unfold loadRestore
  dsimp only
  rw [seal_of_spine (afterRestart_spine _), restoreOnce_seal, seal_of_spine (setPlane_spine _ _ _)]

theorem advanceSn_seal (s : State) : (advanceSn s).seal = s.seal := by
  unfold advanceSn
  dsimp only
  rw [seal_of_spine (enterReady_spine _), seal_of_spine (supplyTick_spine _)]
  refine (seal_of_spine (timeCut_spine _)).trans ?_
  rfl

theorem inputCut_seal (gp enc : List Word) (bad : BitVec 16) (s : State) : (inputCut gp enc bad s).seal = s.seal := by
  cases hr : cutRuns s with
  | false => rw [inputCut_of_not_runs gp enc bad hr, seal_of_spine (orderCut_spine s)]
  | true =>
    have e : (endSample (orderCut s)).spine = s.spine := by simp
    rw [seal_of_spine (inputCut_spine_of_runs gp enc bad hr), advanceSn_seal, seal_of_spine e]

/-- A command that may power the device down keeps the seal, or the power-down clears it with the rest. -/
theorem afterState_seal {s t : State} (h : t.spine = s.spine) :
    (afterState s t).seal = s.seal ∨ (afterState s t).dev = .standby := by
  rcases afterState_cases s t with e | ⟨-, hdev⟩
  · exact .inl (by rw [e, seal_of_spine h])
  · exact .inr hdev

theorem execPlaneReady_seal {plane : Nat} {s t : State} (h : execPlaneReady plane s = .next t) : t.seal = s.seal := by
  obtain ⟨-, rfl⟩ := guarded_next h
  split
  · rfl
  · exact (seal_of_spine (postLoaded_spine _ _)).trans ((seal_of_spine (setPstat_spine _ _ _)).trans (loadRestore_seal _ _))

theorem execForwardedCommit_seal {qp : Nat} {fwd : Forwarded} {s t : State} (h : execForwardedCommit qp fwd s = .next t) :
    t.seal = s.seal ∨ t.dev = .standby := by
  obtain ⟨-, rfl⟩ := guarded_next h
  split
  · exact .inl rfl
  · exact afterState_seal (by simp)

/-- The rows that read the sealed block or reset the device. -/
def loadsSeal : Instr → Bool
  | .rcStable _ | .porstAssert | .warmRstFall | .warmResetApply => true
  | _ => false

/-- A row that neither reads the sealed block nor resets the device keeps the seal, but for a power-down. -/
theorem exec_seal {c : Instr} {s t : State} (h : exec c s = .next t) (hc : loadsSeal c = false) :
    t.seal = s.seal ∨ t.dev = .standby := by
  cases hm : movesSpine c with
  | false => exact .inl (seal_of_spine (exec_keeps c s hm t h))
  | true =>
    cases c
    case inputCut gp enc bad =>
      obtain rfl := next_inj h
      exact .inl (inputCut_seal gp enc bad s)
    case setState c =>
      obtain rfl := next_inj h
      exact afterState_seal (by simp)
    case forwardedCommit qp fwd => exact execForwardedCommit_seal h
    case planeReady p => exact .inl (execPlaneReady_seal h)
    case rcStable k => cases hc
    case porstAssert => cases hc
    case warmRstFall => cases hc
    case warmResetApply => cases hc
    all_goals cases hm

/-- Settles O47: over the rows, with the spine for those that cannot move it; the power-down is log entry 65. -/
theorem sealedRegistersChangeOnlyAtReset : Obligations.SealedRegistersChangeOnlyAtReset := by
  intro c s t h hne
  cases hc : loadsSeal c with
  | true =>
    cases c
    case rcStable k => exact .inl ⟨k, rfl⟩
    case porstAssert => exact .inr (.inl rfl)
    case warmRstFall => exact .inr (.inr (.inl rfl))
    case warmResetApply => exact .inr (.inr (.inr (.inl rfl)))
    all_goals cases hc
  | false =>
    rcases exec_seal h hc with hk | hdev
    · obtain ⟨hr, hv⟩ := Prod.mk.inj hk
      exact absurd hne (by simp [hr, hv])
    · exact .inr (.inr (.inr (.inr hdev)))

end Sys2Proof.Machine
end

/-! What an ordinary operation keeps of the planes, the device state and the roles. An operation on shared blocks keeps
`State.base`; one that also acts in the planes keeps `State.roles`. Only a few operations move those, and they follow in the
next part; every other operation of the model gets one lemma here. -/

section
namespace Sys2Proof.Machine

/-- The planes, the device state and the roles of the planes, and nothing else. -/
def State.planesPart (s : State) : State :=
  { dev := s.dev, planeA := s.planeA, planeB := s.planeB
    ump := { a := { code := s.ump.a.code }, b := { code := s.ump.b.code } } }

/-- The device state and the roles of the planes, and nothing else. -/
def State.rolesPart (s : State) : State :=
  { dev := s.dev, ump := { a := { code := s.ump.a.code }, b := { code := s.ump.b.code } } }

/-- What an operation on shared blocks alone keeps, as far as the planes go. It is read off the bare device, so that what is
proved to keep that needs no second lemma. -/
@[simp] abbrev State.base (s : State) : State := s.bare.planesPart

/-- What every operation keeps but those that change the device state or a plane's role. -/
@[simp] abbrev State.roles (s : State) : State := s.base.rolesPart

/-! Stated over the constructor, so that `simp` sees through any record update. -/

@[simp] theorem base_mk (s : State)
    {sn hif ev tr tap lock tally ump led boot sealed rec held mem an outs field can clk win pins ctr q}
    (ha : ump.a.code = s.ump.a.code) (hb : ump.b.code = s.ump.b.code) :
    (State.mk s.dev sn s.planeA s.planeB hif ev tr tap lock tally ump led boot sealed rec held mem an outs field can clk win
      pins ctr q).base = s.base := by
  simp only [State.base, State.planesPart, State.bare, ha, hb]

@[simp] theorem roles_mk (s : State)
    {sn a b hif ev tr tap lock tally ump led boot sealed rec held mem an outs field can clk win pins ctr q}
    (ha : ump.a.code = s.ump.a.code) (hb : ump.b.code = s.ump.b.code) :
    (State.mk s.dev sn a b hif ev tr tap lock tally ump led boot sealed rec held mem an outs field can clk win pins ctr
      q).roles = s.roles := by
  simp only [State.roles, State.rolesPart, State.base, State.planesPart, State.bare, ha, hb]

@[simp] theorem bare_ite (c : Prop) [Decidable c] (s t : State) :
    (if c then s else t).bare = if c then s.bare else t.bare := apply_ite State.bare c s t
@[simp] theorem planesPart_ite (c : Prop) [Decidable c] (s t : State) :
    (if c then s else t).planesPart = if c then s.planesPart else t.planesPart := apply_ite State.planesPart c s t
@[simp] theorem rolesPart_ite (c : Prop) [Decidable c] (s t : State) :
    (if c then s else t).rolesPart = if c then s.rolesPart else t.rolesPart := apply_ite State.rolesPart c s t

@[simp] theorem forEach_base (l : List α) (f : α → State → State) (s : State) (h : ∀ a u, (f a u).base = u.base) :
    (forEach l f s).base = s.base := forEach_keeps State.base l f h s
@[simp] theorem forEach_roles (l : List α) (f : α → State → State) (s : State) (h : ∀ a u, (f a u).roles = u.roles) :
    (forEach l f s).roles = s.roles := forEach_keeps State.roles l f h s

theorem state_ite_base {c : Prop} [Decidable c] {s : State} {x y : OpOut} (hx : x.state.base = s.base)
    (hy : y.state.base = s.base) : (if c then x else y).state.base = s.base := by
  split
  · exact hx
  · exact hy

/-! Shared operations -/

@[simp] theorem setPstat_base (p : Nat) (v : PStat) (s : State) (h : v.code = (pstat s p).code) :
    (setPstat p v s).base = s.base := by
  unfold setPstat
  unfold pstat at h
  split <;> simp_all

@[simp] theorem setPlane_roles (p : Nat) (v : Plane) (s : State) : (setPlane p v s).roles = s.roles := by simp [setPlane]
@[simp] theorem whenRuns_base (s t : State) (h : t.base = s.base) : (whenRuns s t).base = s.base := by
  simp_all [whenRuns]
@[simp] theorem whenRuns_roles (s t : State) (h : t.roles = s.roles) : (whenRuns s t).roles = s.roles := by
  simp_all [whenRuns]

@[simp] theorem onPlanes_roles (f : Plane → Plane) (s : State) : (onPlanes f s).roles = s.roles := by simp [onPlanes]
@[simp] theorem onExec_roles (f : Plane → Plane) (s : State) : (onExec f s).roles = s.roles := by simp [onExec]
@[simp] theorem postAll_roles (p : Nat) (s : State) : (postAll p s).roles = s.roles := by simp [postAll]
@[simp] theorem raiseAt_base (sn : Word) (src data : Nat) (s : State) : (raiseAt sn src data s).base = s.base := by
  simp [raiseAt]

@[simp] theorem sharedParity_base (data : Nat) (s : State) : (sharedParity data s).base = s.base := by simp [sharedParity]
@[simp] theorem setMem_base (m : Mem) (s : State) : (setMem m s).base = s.base := by simp [setMem]
@[simp] theorem drainPosts_base (q : Nat) (s : State) : (drainPosts q s).base = s.base := by simp [drainPosts]
@[simp] theorem okSn_base (s : State) : (okSn s).state.base = s.base := by simp [okSn]
@[simp] theorem okRes_base (r : DWord) (s : State) : (okRes r s).state.base = s.base := by simp [okRes]
@[simp] theorem failSt_base (st : Nat) (s : State) : (failSt st s).state.base = s.base := by simp [failSt]
@[simp] theorem failRes_base (st : Nat) (r : Nat) (s : State) : (failRes st r s).state.base = s.base := by simp [failRes]
@[simp] theorem badWindow_base (op : Nat) (c : Sub) (a : Nat) (s : State) : (badWindow op c a s).state.base = s.base := by
  simp [badWindow]

@[simp] theorem withPlane_base (sel : Word) (s : State) (k : Nat → OpOut) (h : ∀ p, (k p).state.base = s.base) :
    (withPlane sel s k).state.base = s.base := by
  simp [withPlane, h]

@[simp] theorem fetched_base (c : Sub) (s : State) : (fetched c s).base = s.base := by simp [fetched]
@[simp] theorem execEntry_base (op : Nat) (core : Sub → State → OpOut) (c : Sub) (s : State)
    (h : ∀ u, (core c u).state.base = u.base) : (execEntry op core c s).base = s.base := by
  simp [execEntry, h]

theorem takeCmd_base {p : Cmd → Bool} {s s1 : State} {c : Cmd} (h : takeCmd p s = some (c, s1)) : s1.base = s.base := by
  unfold takeCmd at h
  split at h
  · cases h
  · cases h
    simp

@[simp] theorem completeWaiting_base (p : Cmd → Bool) (st : Nat) (r : DWord) (s : State) :
    (completeWaiting p st r s).base = s.base := by
  unfold completeWaiting
  split
  · rfl
  · have h := takeCmd_base ‹_›
    simp_all

/-! Every plane with the sealed block -/

@[simp] theorem onPlanesSl_roles (f : Seal → Plane → Plane) (s : State) : (onPlanesSl f s).roles = s.roles := by
  simp [onPlanesSl]

@[simp] theorem onExecSl_roles (f : Seal → Plane → Plane) (s : State) : (onExecSl f s).roles = s.roles := by simp [onExecSl]

/-! Loops, booths and the dispatcher -/

@[simp] theorem replaceWin_base (port l : Nat) (s : State) : (replaceWin port l s).base = s.base := by simp [replaceWin]
@[simp] theorem placeWrite_roles (port l : Nat) (v sn : Word) (s : State) : (placeWrite port l v sn s).roles = s.roles := by
  simp [placeWrite]

@[simp] theorem opPlaceWrite_roles (port : Nat) (c : Sub) (s : State) : (opPlaceWrite port c s).state.roles = s.roles := by
  simp [opPlaceWrite]

@[simp] theorem opLoopSetSp_roles (c : Sub) (s : State) : (opLoopSetSp c s).state.roles = s.roles := by simp [opLoopSetSp]
@[simp] theorem opLoopSetOut_roles (c : Sub) (s : State) : (opLoopSetOut c s).state.roles = s.roles := by
  unfold opLoopSetOut
  split
  · split <;> simp
  · simp

@[simp] theorem opLoopRead_base (c : Sub) (s : State) : (opLoopRead c s).state.base = s.base := by simp [opLoopRead]
@[simp] theorem readOne_base (x : Cmd) (s : State) : (readOne x s).base = s.base := by simp [readOne]
@[simp] theorem readsDone_base (s : State) : (readsDone s).base = s.base := by simp [readsDone]
@[simp] theorem outOfRestore_base (l m : Nat) (s : State) : (outOfRestore l m s).base = s.base := by simp [outOfRestore]
@[simp] theorem opLoopSetMode_roles (c : Sub) (s : State) : (opLoopSetMode c s).state.roles = s.roles := by
  simp [opLoopSetMode]

@[simp] theorem opLoopWrite_roles (c : Sub) (s : State) : (opLoopWrite c s).state.roles = s.roles := by simp [opLoopWrite]
@[simp] theorem opBoothStatus_base (c : Sub) (s : State) : (opBoothStatus c s).state.base = s.base := by simp [opBoothStatus]
@[simp] theorem opBoothKeepAwake_roles (c : Sub) (s : State) : (opBoothKeepAwake c s).state.roles = s.roles := by
  simp [opBoothKeepAwake]

@[simp] theorem opModelLoad_roles (c : Sub) (s : State) : (opModelLoad c s).state.roles = s.roles := by simp [opModelLoad]
@[simp] theorem opModelReinit_roles (c : Sub) (s : State) : (opModelReinit c s).state.roles = s.roles := by
  simp [opModelReinit]

@[simp] theorem opTestStart_roles (c : Sub) (s : State) : (opTestStart c s).state.roles = s.roles := by simp [opTestStart]
@[simp] theorem opTestStop_roles (c : Sub) (s : State) : (opTestStop c s).state.roles = s.roles := by simp [opTestStop]
@[simp] theorem opTestStatus_base (c : Sub) (s : State) : (opTestStatus c s).state.base = s.base := by simp [opTestStatus]
@[simp] theorem opCaptRead_base (c : Sub) (s : State) : (opCaptRead c s).state.base = s.base := by simp [opCaptRead]
@[simp] theorem gridOrigin_base (k : Nat) (s : State) : (gridOrigin k s).base = s.base := by simp [gridOrigin]
@[simp] theorem opDispLoad_roles (c : Sub) (s : State) : (opDispLoad c s).state.roles = s.roles := by
  unfold opDispLoad
  dsimp only
  split
  · simp
  · split
    · simp
    · split
      · simp
      · split <;> simp

@[simp] theorem opDispSetPrio_roles (c : Sub) (s : State) : (opDispSetPrio c s).state.roles = s.roles := by
  unfold opDispSetPrio
  dsimp only
  split
  · simp
  · split
    · simp
    · split <;> simp

@[simp] theorem opDispStatus_base (c : Sub) (s : State) : (opDispStatus c s).state.base = s.base := by simp [opDispStatus]
@[simp] theorem opDispFlowStatus_base (c : Sub) (s : State) : (opDispFlowStatus c s).state.base = s.base := by
  simp [opDispFlowStatus]

@[simp] theorem reportParity_base (p : Nat) (s : State) : (reportParity p s).base = s.base := by simp [reportParity]
@[simp] theorem eachCopy_roles (t : Token) (bad : Nat) (f g : Token → Plane → Plane) (s : State) :
    (eachCopy t bad f g s).roles = s.roles := by
  simp [eachCopy]

@[simp] theorem broadcast_roles (t : Token) (slot src bad : Nat) (s : State) :
    (broadcast t slot src bad s).roles = s.roles := by
  simp [broadcast]

@[simp] theorem broadcastFrom_roles (kind src : Nat) (v : Word) (q : Bool) (sn : Word) (slot late : Nat) (s : State) :
    (broadcastFrom kind src v q sn slot late s).roles = s.roles := by
  simp [broadcastFrom]

@[simp] theorem runLoop_roles (loop : Nat) (s : State) : (runLoop loop s).roles = s.roles := by simp [runLoop]
@[simp] theorem groupsDown_roles (g : Nat) (s : State) : (groupsDown g s).roles = s.roles := by simp [groupsDown]
@[simp] theorem wakeGroup_roles (n g : Nat) (s : State) : (wakeGroup n g s).roles = s.roles := by simp [wakeGroup]

/-! Axes -/

@[simp] theorem opAx_roles (run cmd : Bool) (a : Nat) (f : State → Plane → Nat × Plane) (s : State) :
    (opAx run cmd a f s).state.roles = s.roles := by
  simp [opAx]

@[simp] theorem opAxConfig_roles (c : Sub) (s : State) : (opAxConfig c s).state.roles = s.roles := by simp [opAxConfig]
@[simp] theorem opAxWrite_roles (c : Sub) (s : State) : (opAxWrite c s).state.roles = s.roles := by simp [opAxWrite]
@[simp] theorem opAxEnable_roles (c : Sub) (s : State) : (opAxEnable c s).state.roles = s.roles := by simp [opAxEnable]
@[simp] theorem opAxMove_roles (c : Sub) (s : State) : (opAxMove c s).state.roles = s.roles := by simp [opAxMove]
@[simp] theorem opAxStop_roles (c : Sub) (s : State) : (opAxStop c s).state.roles = s.roles := by simp [opAxStop]
@[simp] theorem opAxSetLimits_roles (c : Sub) (s : State) : (opAxSetLimits c s).state.roles = s.roles := by
  simp [opAxSetLimits]

@[simp] theorem opAxHome_roles (c : Sub) (s : State) : (opAxHome c s).state.roles = s.roles := by simp [opAxHome]
@[simp] theorem opAxGear_roles (c : Sub) (s : State) : (opAxGear c s).state.roles = s.roles := by simp [opAxGear]
@[simp] theorem opAxGearSched_roles (c : Sub) (s : State) : (opAxGearSched c s).state.roles = s.roles := by
  simp [opAxGearSched]

@[simp] theorem opAxClear_roles (c : Sub) (s : State) : (opAxClear c s).state.roles = s.roles := by simp [opAxClear]
@[simp] theorem opAxRead_base (c : Sub) (s : State) : (opAxRead c s).state.base = s.base := by simp [opAxRead]

/-! Safety functions -/

@[simp] theorem opSafeStatus_base (c : Sub) (s : State) : (opSafeStatus c s).state.base = s.base := by simp [opSafeStatus]
@[simp] theorem opSafeRequest_roles (c : Sub) (s : State) : (opSafeRequest c s).state.roles = s.roles := by
  simp [opSafeRequest]

@[simp] theorem opSafeReset_roles (c : Sub) (s : State) : (opSafeReset c s).state.roles = s.roles := by
  unfold opSafeReset
  dsimp only
  split <;> simp

@[simp] theorem opSconnStatus_base (c : Sub) (s : State) : (opSconnStatus c s).state.base = s.base := by simp [opSconnStatus]

/-! The sealed block -/

@[simp] theorem opSealStage_base (c : Sub) (s : State) : (opSealStage c s).state.base = s.base := by simp [opSealStage]
@[simp] theorem opSealCommit_base (c : Sub) (s : State) : (opSealCommit c s).state.base = s.base := by simp [opSealCommit]
@[simp] theorem sealCommitted_base (k : Nat) (s : State) : (sealCommitted k s).state.base = s.base := by
  unfold sealCommitted
  split <;> simp

@[simp] theorem opSealRead_base (c : Sub) (s : State) : (opSealRead c s).state.base = s.base := by
  unfold opSealRead
  dsimp only
  split
  · simp
  · split
    · simp
    · split <;> simp

@[simp] theorem sealOpenCut_base (s : State) : (sealOpenCut s).base = s.base := by simp [sealOpenCut]
@[simp] theorem postPre_roles (s : State) : (postPre s).roles = s.roles := by simp [postPre]
@[simp] theorem resetDemand_roles (cause : Nat) (which : Nat → Bool) (s : State) :
    (resetDemand cause which s).roles = s.roles := by
  simp [resetDemand]

/-! Address translation -/

@[simp] theorem setDmaCh_base (k : Nat) (v : DmaCh) (s : State) : (setDmaCh k v s).base = s.base := by simp [setDmaCh]
@[simp] theorem idleCh_base (k : Nat) (s : State) : (idleCh k s).base = s.base := by simp [idleCh]
@[simp] theorem countMiss_base (s : State) : (countMiss s).base = s.base := by simp [countMiss]
@[simp] theorem tlbMiss_base (ch : Nat) (s : State) : (tlbMiss ch s).base = s.base := by simp [tlbMiss]
@[simp] theorem suspend_base (ch cause va : Nat) (s : State) : (suspend ch cause va s).base = s.base := by simp [suspend]
@[simp] theorem settleAbort_base (x : Cmd) (s : State) : (settleAbort x s).base = s.base := by simp [settleAbort]
@[simp] theorem settleAborts_base (s : State) : (settleAborts s).base = s.base := by simp [settleAborts]
@[simp] theorem drainAll_base (s : State) : (drainAll s).base = s.base := by simp [drainAll]
@[simp] theorem tlbFill_base (ch a sh page perm table : Nat) (s : State) :
    (tlbFill ch a sh page perm table s).base = s.base := by
  simp [tlbFill]

@[simp] theorem setPlaneBuf_base (p : Nat) (l : List Word) (s : State) : (setPlaneBuf p l s).base = s.base := by
  simp [setPlaneBuf]

@[simp] theorem stageWords_base (n : Nat) (l : List Word) (s : State) : (stageWords n l s).base = s.base := by
  simp [stageWords]

/-! Recorders -/

@[simp] theorem onRec_base (f : Recorder → Recorder) (s : State) : (onRec f s).base = s.base := by simp [onRec]
@[simp] theorem loseStaged_base (cause : Nat) (a b : Word) (sw_ : Bool) (s : State) :
    (loseStaged cause a b sw_ s).base = s.base := by
  simp [loseStaged]

@[simp] theorem loseRec_base (cause : Nat) (a b : Word) (sw_ : Bool) (s : State) :
    (loseRec cause a b sw_ s).base = s.base := by
  simp [loseRec]

@[simp] theorem pushRec_base (x : Rec) (s : State) : (pushRec x s).base = s.base := by simp [pushRec]
@[simp] theorem stageGap_base (s : State) : (stageGap s).base = s.base := by
  unfold stageGap
  split <;> simp

@[simp] theorem stageRec_base (type flags : Nat) (a b : Word) (body : List Word) (k : Nat) (s : State) :
    (stageRec type flags a b body k s).base = s.base := by
  unfold stageRec
  dsimp only
  split <;> simp

@[simp] theorem edgeTick_base (sw_ : Bool) (n : Word) (cur : Tab (Word × Bool)) (s : State) :
    (edgeTick sw_ n cur s).base = s.base := by
  simp [edgeTick]

@[simp] theorem setBoothRec_base (b : Nat) (v : BoothRec) (s : State) : (setBoothRec b v s).base = s.base := by
  simp [setBoothRec]

@[simp] theorem boothTick_base (sw_ : Bool) (n : Word) (k : Nat) (p : Plane) (b : Nat) (s : State) :
    (boothTick sw_ n k p b s).base = s.base := by
  simp [boothTick]

@[simp] theorem closeInterval_base (partial_ : Bool) (b : Nat) (s : State) : (closeInterval partial_ b s).base = s.base := by
  simp [closeInterval]

@[simp] theorem closeDue_base (n : Nat) (s : State) : (closeDue n s).base = s.base := by simp [closeDue]
@[simp] theorem setRecording_base (b n : Nat) (s : State) : (setRecording b n s).base = s.base := by simp [setRecording]
@[simp] theorem cfgBefore_base (n : Word) (s : State) : (cfgBefore n s).base = s.base := by simp [cfgBefore]
@[simp] theorem timeRecordOf_base (k : Nat) (sw_ : Bool) (s : State) : (timeRecordOf k sw_ s).base = s.base := by
  unfold timeRecordOf
  split <;> simp

@[simp] theorem timeRecord_base (s : State) : (timeRecord s).base = s.base := by simp [timeRecord]
@[simp] theorem recSample_base (sw_ : Bool) (k : Nat) (h : HeldTick) (s : State) : (recSample sw_ k h s).base = s.base := by
  simp [recSample]

@[simp] theorem recTick_base (s : State) : (recTick s).base = s.base := by simp [recTick]
@[simp] theorem recHalt_base (s : State) : (recHalt s).base = s.base := by simp [recHalt]
@[simp] theorem recHeldTick_base (switched : Bool) (k : Nat) (h : HeldTick) (s : State) :
    (recHeldTick switched k h s).base = s.base := by
  unfold recHeldTick
  dsimp only
  split
  · split <;> simp
  · simp

@[simp] theorem recDecide_base (switched : Bool) (k : Nat) (s : State) : (recDecide switched k s).base = s.base := by
  simp [recDecide]

@[simp] theorem recFlush_base (s : State) : (recFlush s).base = s.base := by simp [recFlush]
@[simp] theorem recStart_base (s : State) : (recStart s).base = s.base := by simp [recStart]
@[simp] theorem recBegin_base (s : State) : (recBegin s).base = s.base := by simp [recBegin]
@[simp] theorem recCut_base (s : State) : (recCut s).base = s.base := by simp [recCut]
@[simp] theorem recStop_base (s : State) : (recStop s).base = s.base := by simp [recStop]
@[simp] theorem ringLevel_base (s : State) : (ringLevel s).base = s.base := by simp [ringLevel]
@[simp] theorem stopStaged_base (n : Nat) (s : State) : (stopStaged n s).base = s.base := by
  induction n generalizing s with
  | zero => rfl
  | succ n ih =>
    unfold stopStaged
    split
    · rfl
    · simp [ih]

@[simp] theorem mendDram_base (a n : Nat) (s : State) : (mendDram a n s).base = s.base := by simp [mendDram]
@[simp] theorem ringBurst_base (s0 : State) : (ringBurst s0).base = s0.base := by simp [ringBurst]
@[simp] theorem onStream_base (f : Stream → Stream) (s : State) : (onStream f s).base = s.base := by simp [onStream]
@[simp] theorem streamHalt_base (cause a : Nat) (s : State) : (streamHalt cause a s).base = s.base := by simp [streamHalt]
@[simp] theorem streamOutside_base (a : Nat) (s : State) : (streamOutside a s).base = s.base := by simp [streamOutside]
@[simp] theorem streamMiss_base (a : Nat) (wr : Bool) (s : State) : (streamMiss a wr s).base = s.base := by simp [streamMiss]
@[simp] theorem streamFault_base (cause a : Nat) (wr : Bool) (s : State) : (streamFault cause a wr s).base = s.base := by
  simp [streamFault]

@[simp] theorem streamStatus_base (s0 : State) : (streamStatus s0).base = s0.base := by
  unfold streamStatus
  dsimp only
  split
  · simp
  · split <;> simp

@[simp] theorem streamFail_base (cause a : Nat) (s : State) : (streamFail cause a s).base = s.base := by simp [streamFail]
@[simp] theorem streamSuspend_base (cause a : Nat) (wr : Bool) (s : State) : (streamSuspend cause a wr s).base = s.base := by
  simp [streamSuspend]

@[simp] theorem streamGuard_base (wr : Bool) (a n : Nat) (s : State) (k : State → State) (h : ∀ u, (k u).base = u.base) :
    (streamGuard wr a n s k).base = s.base := by
  unfold streamGuard
  repeat' split
  all_goals simp [h]

@[simp] theorem streamCopy_base (x : Rec) (s0 : State) (head : Nat) : (streamCopy x s0 head).base = s0.base := by
  simp [streamCopy]

@[simp] theorem streamStep_base (head : Nat) (s : State) : (streamStep head s).base = s.base := by
  unfold streamStep
  refine streamGuard_base _ _ _ _ _ fun u => ?_
  dsimp only
  split
  · rfl
  · simp

@[simp] theorem recLost_base (s : State) : (recLost s).base = s.base := by simp [recLost]
@[simp] theorem opRecConfig_base (c : Sub) (s : State) : (opRecConfig c s).state.base = s.base := by simp [opRecConfig]
@[simp] theorem oldestFail_base (s : State) : (oldestFail s).state.base = s.base := by
  unfold oldestFail
  split <;> simp

@[simp] theorem stopStream_base (s : State) : (stopStream s).base = s.base := by simp [stopStream]
@[simp] theorem opRecStream_base (c : Sub) (s : State) : (opRecStream c s).state.base = s.base := by simp [opRecStream]
@[simp] theorem opRecStatus_base (c : Sub) (s : State) : (opRecStatus c s).state.base = s.base := by
  unfold opRecStatus
  dsimp only
  repeat' split
  all_goals simp

@[simp] theorem opRecFetch_base (c : Sub) (s : State) : (opRecFetch c s).state.base = s.base := by simp [opRecFetch]
@[simp] theorem opTrigConfig_roles (c : Sub) (s : State) : (opTrigConfig c s).state.roles = s.roles := by simp [opTrigConfig]
@[simp] theorem opTrigCtrl_roles (c : Sub) (s : State) : (opTrigCtrl c s).state.roles = s.roles := by simp [opTrigCtrl]
@[simp] theorem opTrigStatus_base (c : Sub) (s : State) : (opTrigStatus c s).state.base = s.base := by simp [opTrigStatus]
@[simp] theorem opMaskLoad_roles (c : Sub) (s : State) : (opMaskLoad c s).state.roles = s.roles := by
  unfold opMaskLoad
  dsimp only
  split
  · simp
  · split
    · simp
    · split <;> simp

@[simp] theorem opMaskArm_roles (c : Sub) (s : State) : (opMaskArm c s).state.roles = s.roles := by
  unfold opMaskArm
  dsimp only
  split
  · simp
  · split <;> simp

@[simp] theorem opMaskStatus_base (c : Sub) (s : State) : (opMaskStatus c s).state.base = s.base := by simp [opMaskStatus]

/-! Sessions -/

@[simp] theorem placeReq_roles (n : Nat) (hold : Bool) (arg : Nat) (sn : Word) (s : State) :
    (placeReq n hold arg sn s).roles = s.roles := by
  simp [placeReq]

@[simp] theorem opPlaceReq_roles (hold : Bool) (c : Sub) (s : State) : (opPlaceReq hold c s).state.roles = s.roles := by
  simp [opPlaceReq]

@[simp] theorem opSessReq_roles (hold : Bool) (c : Sub) (s : State) : (opSessReq hold c s).state.roles = s.roles := by
  simp [opSessReq]

@[simp] theorem opSessAdvance_roles (c : Sub) (s : State) : (opSessAdvance c s).state.roles = s.roles := by
  simp [opSessAdvance]

@[simp] theorem opSessHold_roles (c : Sub) (s : State) : (opSessHold c s).state.roles = s.roles := by simp [opSessHold]
@[simp] theorem opSessLoad_roles (c : Sub) (s : State) : (opSessLoad c s).state.roles = s.roles := by
  unfold opSessLoad
  dsimp only
  repeat' split
  all_goals simp

@[simp] theorem opSessStart_roles (c : Sub) (s : State) : (opSessStart c s).state.roles = s.roles := by
  unfold opSessStart
  dsimp only
  repeat' split
  all_goals simp

@[simp] theorem opSessResume_roles (c : Sub) (s : State) : (opSessResume c s).state.roles = s.roles := by simp [opSessResume]
@[simp] theorem opSessAbort_roles (c : Sub) (s : State) : (opSessAbort c s).state.roles = s.roles := by simp [opSessAbort]
@[simp] theorem stageSess_base (c : Sub) (s : State) : (stageSess c s).state.base = s.base := by simp [stageSess]
@[simp] theorem opSessUnload_roles (c : Sub) (s : State) : (opSessUnload c s).state.roles = s.roles := by simp [opSessUnload]
@[simp] theorem opSessStatus_base (c : Sub) (s : State) : (opSessStatus c s).state.base = s.base := by simp [opSessStatus]

/-! The analogue front end -/

@[simp] theorem setAnalog_base (a : Analog) (s : State) : (setAnalog a s).base = s.base := by simp [setAnalog]
@[simp] theorem setAgroup_base (g : Nat) (x : AGroup) (s : State) : (setAgroup g x s).base = s.base := by simp [setAgroup]
@[simp] theorem setAi_base (ch : Nat) (x : AChan) (s : State) : (setAi ch x s).base = s.base := by simp [setAi]
@[simp] theorem groupEvent_base (g code d1 d2 : Nat) (s : State) : (groupEvent g code d1 d2 s).base = s.base := by
  simp [groupEvent]

@[simp] theorem convEvents_base (ch : Nat) (old new : AChan) (s : State) : (convEvents ch old new s).base = s.base := by
  simp [convEvents]

@[simp] theorem convFailed_base (g conv cause : Nat) (s : State) : (convFailed g conv cause s).base = s.base := by
  simp [convFailed]

@[simp] theorem endCal_base (g st : Nat) (r : DWord) (s : State) : (endCal g st r s).base = s.base := by simp [endCal]
@[simp] theorem injectOne_base (g : Nat) (e : Int) (ch : Nat) (codes : List Int) (s : State) :
    (injectOne g e ch codes s).base = s.base := by
  unfold injectOne
  dsimp only
  split <;> simp

@[simp] theorem injectDue_base (g : Nat) (s : State) : (injectDue g s).base = s.base := by simp [injectDue]
@[simp] theorem startRotation_base (g : Nat) (s : State) : (startRotation g s).base = s.base := by simp [startRotation]
@[simp] theorem replaceRole_base (b : Bool) (g : Nat) (s : State) : (replaceRole b g s).base = s.base := by
  simp [replaceRole]

@[simp] theorem settleAi_base (ch : Nat) (x : AChan) (v : Word) (q : Bool) (fresh : Bool) (s : State) :
    (settleAi ch x v q fresh s).base = s.base := by
  simp [settleAi]

@[simp] theorem lastToken_roles (ch : Nat) (q : Bool) (x : AChan) (s : State) : (lastToken ch q x s).roles = s.roles := by
  simp [lastToken]

@[simp] theorem cutAi_roles (drops : List Nat) (roleLost : List Nat) (dueNow : List Nat) (ch : Nat) (s : State) :
    (cutAi drops roleLost dueNow ch s).roles = s.roles := by
  unfold cutAi
  dsimp only
  repeat' split
  all_goals simp

@[simp] theorem cutAgroup_roles (g : Nat) (s : State) : (cutAgroup g s).roles = s.roles := by simp [cutAgroup]
@[simp] theorem pwmCut_base (s : State) : (pwmCut s).base = s.base := by simp [pwmCut]
@[simp] theorem analogCut_roles (s : State) : (analogCut s).roles = s.roles := by simp [analogCut]
@[simp] theorem ifScheduled_base (low : Bool) (g : Nat) (s0 s : State) (h : s.base = s0.base) :
    (ifScheduled low g s0 s).state.base = s0.base := by
  unfold ifScheduled
  split <;> simp [h]

@[simp] theorem opAiConfig_base (c : Sub) (s : State) : (opAiConfig c s).state.base = s.base := by simp [opAiConfig]
@[simp] theorem opAfeSeq_base (c : Sub) (s : State) : (opAfeSeq c s).state.base = s.base := by simp [opAfeSeq]
@[simp] theorem opAoConfig_base (c : Sub) (s : State) : (opAoConfig c s).state.base = s.base := by simp [opAoConfig]
@[simp] theorem setCl_base (k : Nat) (x : CLoop) (s : State) : (setCl k x s).base = s.base := by simp [setCl]
@[simp] theorem alarmEnds_base (k : Nat) (s : State) : (alarmEnds k s).base = s.base := by simp [alarmEnds]
@[simp] theorem clFresh_roles (k : Nat) (s : State) : (clFresh k s).roles = s.roles := by simp [clFresh]
@[simp] theorem opClConfig_roles (c : Sub) (s : State) : (opClConfig c s).state.roles = s.roles := by simp [opClConfig]
@[simp] theorem opPwConfig_base (c : Sub) (s : State) : (opPwConfig c s).state.base = s.base := by simp [opPwConfig]
@[simp] theorem opAfeCal_base (c : Sub) (s : State) : (opAfeCal c s).state.base = s.base := by simp [opAfeCal]
@[simp] theorem opAfeTest_base (c : Sub) (s : State) : (opAfeTest c s).state.base = s.base := by simp [opAfeTest]
@[simp] theorem opAfeStatus_base (c : Sub) (s : State) : (opAfeStatus c s).state.base = s.base := by simp [opAfeStatus]
@[simp] theorem opAfeMode_base (c : Sub) (s : State) : (opAfeMode c s).state.base = s.base := by simp [opAfeMode]
@[simp] theorem setGpDir_roles (n : Nat) (out : Bool) (s : State) : (setGpDir n out s).roles = s.roles := by simp [setGpDir]
@[simp] theorem opGpConfig_roles (c : Sub) (s : State) : (opGpConfig c s).state.roles = s.roles := by simp [opGpConfig]

/-! Clocks and power domains -/

@[simp] theorem setPclk_base (p : Nat) (v : PClk) (s : State) : (setPclk p v s).base = s.base := by simp [setPclk]
@[simp] theorem setClkSrc_base (k : Nat) (v : ClkSrc) (s : State) : (setClkSrc k v s).base = s.base := by simp [setClkSrc]
@[simp] theorem setCounter_base (k : Nat) (v : FCount) (s : State) : (setCounter k v s).base = s.base := by simp [setCounter]
@[simp] theorem setPower_base (d : Nat) (on : Bool) (s : State) : (setPower d on s).base = s.base := by simp [setPower]
@[simp] theorem setGate_base (g : Nat) (on : Bool) (s : State) : (setGate g on s).base = s.base := by simp [setGate]
@[simp] theorem useGate_base (g : Nat) (s : State) : (useGate g s).base = s.base := by simp [useGate]
@[simp] theorem levelPlane_base (target cause p : Nat) (s : State) : (levelPlane target cause p s).base = s.base := by
  simp [levelPlane]

@[simp] theorem levelEvent_base (old new cause : Nat) (s : State) : (levelEvent old new cause s).base = s.base := by
  simp [levelEvent]

@[simp] theorem applyLevel_base (cause : Nat) (s : State) : (applyLevel cause s).base = s.base := by simp [applyLevel]
@[simp] theorem settleTick_base (s : State) : (settleTick s).base = s.base := by
  unfold settleTick
  refine forEach_base _ _ _ fun p t => ?_
  split <;> simp

@[simp] theorem completeDvfs_base (s : State) : (completeDvfs s).base = s.base := by simp [completeDvfs]
@[simp] theorem levelCut_base (s : State) : (levelCut s).base = s.base := by simp [levelCut]
@[simp] theorem opClkStatus_base (c : Sub) (s : State) : (opClkStatus c s).state.base = s.base := by simp [opClkStatus]
@[simp] theorem opClkMeasure_base (c : Sub) (s : State) : (opClkMeasure c s).state.base = s.base := by simp [opClkMeasure]
@[simp] theorem opClkGate_base (c : Sub) (s : State) : (opClkGate c s).state.base = s.base := by
  unfold opClkGate
  split
  · simp
  · split <;> simp

@[simp] theorem opPwrStatus_base (c : Sub) (s : State) : (opPwrStatus c s).state.base = s.base := by simp [opPwrStatus]
@[simp] theorem opDvfsSet_base (c : Sub) (s : State) : (opDvfsSet c s).state.base = s.base := by simp [opDvfsSet]
@[simp] theorem opClkoutCfg_base (c : Sub) (s : State) : (opClkoutCfg c s).state.base = s.base := by simp [opClkoutCfg]

/-! CAN channels -/

@[simp] theorem setCan_base (ch : Nat) (v : CanChan) (s : State) : (setCan ch v s).base = s.base := by simp [setCan]
@[simp] theorem setSignal_base (k : Nat) (v : CanSignal) (s : State) : (setSignal k v s).base = s.base := by simp [setSignal]
@[simp] theorem setShadow_base (ch : Nat) (v : List TxEnt) (s : State) : (setShadow ch v s).base = s.base := by
  simp [setShadow]

@[simp] theorem canEv_base (ch k data : Nat) (s : State) : (canEv ch k data s).base = s.base := by simp [canEv]
@[simp] theorem canCount_base (ch k : Nat) (s : State) : (canCount ch k s).base = s.base := by simp [canCount]
@[simp] theorem canState_base (ch st : Nat) (s : State) : (canState ch st s).base = s.base := by simp [canState]
@[simp] theorem confine_base (ch : Nat) (s : State) : (confine ch s).base = s.base := by simp [confine]
@[simp] theorem txErrorCount_base (ch : Nat) (s : State) : (txErrorCount ch s).base = s.base := by simp [txErrorCount]
@[simp] theorem recDown_base (ch : Nat) (s : State) : (recDown ch s).base = s.base := by simp [recDown]
@[simp] theorem canRelease_base (ch : Nat) (e : Plane → TxEnt) (s : State) : (canRelease ch e s).base = s.base := by
  unfold canRelease
  split <;> simp

@[simp] theorem canDrop_base (ch : Nat) (s : State) : (canDrop ch s).base = s.base := by simp [canDrop]
@[simp] theorem canPlace_base (ch : Nat) (e : Plane → TxEnt) (s : State) : (canPlace ch e s).base = s.base := by
  simp [canPlace]

@[simp] theorem startHead_base (ch : Nat) (s : State) : (startHead ch s).base = s.base := by
  unfold startHead
  dsimp only
  split <;> simp

@[simp] theorem popHead_base (ch : Nat) (s : State) : (popHead ch s).base = s.base := by
  unfold popHead
  dsimp only
  split <;> simp

@[simp] theorem sendOne_roles (c : Nat) (s : State) : (sendOne c s).roles = s.roles := by
  unfold sendOne
  split <;> simp

@[simp] theorem releaseSlot_base (ch k : Nat) (s : State) : (releaseSlot ch k s).base = s.base := by simp [releaseSlot]
@[simp] theorem sendWaiting_base (x : Cmd) (s : State) : (sendWaiting x s).base = s.base := by simp [sendWaiting]
@[simp] theorem canSendAll_base (s : State) : (canSendAll s).base = s.base := by simp [canSendAll]
@[simp] theorem opCanSend_base (c : Sub) (s : State) : (opCanSend c s).state.base = s.base := by simp [opCanSend]
@[simp] theorem opCanConfig_base (c : Sub) (s : State) : (opCanConfig c s).state.base = s.base := by simp [opCanConfig]
@[simp] theorem opCanFilter_base (c : Sub) (s : State) : (opCanFilter c s).state.base = s.base := by simp [opCanFilter]
@[simp] theorem opCanSignal_base (c : Sub) (s : State) : (opCanSignal c s).state.base = s.base := by simp [opCanSignal]
@[simp] theorem opCanSched_base (c : Sub) (s : State) : (opCanSched c s).state.base = s.base := by simp [opCanSched]
@[simp] theorem opCanCtrl_base (c : Sub) (s : State) : (opCanCtrl c s).state.base = s.base := by simp [opCanCtrl]
@[simp] theorem rxWritten_base (x : DmaCh) (m n : Nat) (s : State) : (rxWritten x m n s).base = s.base := by simp [rxWritten]
@[simp] theorem opCanRxRead_base (c : Sub) (s : State) : (opCanRxRead c s).state.base = s.base := by
  unfold opCanRxRead
  dsimp only
  split
  · simp
  · split
    · simp
    · split
      · split <;> simp
      · simp

@[simp] theorem opCanStatus_base (c : Sub) (s : State) : (opCanStatus c s).state.base = s.base := by simp [opCanStatus]
@[simp] theorem toBuffer_base (ch k : Nat) (e : RxEnt) (s : State) : (toBuffer ch k e s).base = s.base := by simp [toBuffer]
@[simp] theorem toFifo_base (ch : Nat) (e : RxEnt) (s : State) : (toFifo ch e s).base = s.base := by simp [toFifo]
@[simp] theorem extract_base (ch f k : Nat) (d : List Byte) (s : State) : (extract ch f k d s).base = s.base := by
  simp [extract]

@[simp] theorem filterFrame_base (ch : Nat) (fr : CanFrame) (t : DWord) (s : State) :
    (filterFrame ch fr t s).base = s.base := by
  unfold filterFrame
  dsimp only
  split <;> simp

@[simp] theorem receiveFrame_roles (ch : Nat) (fr : CanFrame) (t : DWord) (s : State) :
    (receiveFrame ch fr t s).roles = s.roles := by
  unfold receiveFrame
  dsimp only
  split <;> simp

@[simp] theorem retryHead_base (ch : Nat) (e : TxEnt) (r : List TxEnt) (s : State) : (retryHead ch e r s).base = s.base := by
  simp [retryHead]

@[simp] theorem presentRef_base (ch : Nat) (s : State) : (presentRef ch s).base = s.base := by simp [presentRef]
@[simp] theorem sentRef_base (ch : Nat) (s : State) : (sentRef ch s).base = s.base := by simp [sentRef]
@[simp] theorem signalTokens_roles (s : State) : (signalTokens s).roles = s.roles := by simp [signalTokens]
@[simp] theorem canCut_roles (s : State) : (canCut s).roles = s.roles := by simp [canCut]
@[simp] theorem destroyHead_base (ch : Nat) (s : State) : (destroyHead ch s).base = s.base := by simp [destroyHead]
@[simp] theorem canPass_base (t : Word) (ch : Nat) (hurts : Bool) (s : State) : (canPass t ch hurts s).base = s.base := by
  simp [canPass]

@[simp] theorem canSwitch_base (t : Word) (ch : Nat) (s : State) : (canSwitch t ch s).base = s.base := by simp [canSwitch]
@[simp] theorem canResume_base (ch : Nat) (s : State) : (canResume ch s).base = s.base := by simp [canResume]
@[simp] theorem canSafe_base (ch : Nat) (s : State) : (canSafe ch s).base = s.base := by simp [canSafe]
@[simp] theorem canSupply_base (ch : Nat) (s : State) : (canSupply ch s).base = s.base := by simp [canSupply]

/-! The scan engine -/

@[simp] theorem commitWrites_roles (f : Nat → Word → Plane → Plane) (s : State) : (commitWrites f s).roles = s.roles := by
  simp [commitWrites]

@[simp] theorem scanStart_roles (s : State) : (scanStart s).roles = s.roles := by simp [scanStart]
@[simp] theorem takeArms_roles (s : State) : (takeArms s).roles = s.roles := by simp [takeArms]
@[simp] theorem scanDeadlineAll_roles (s : State) : (scanDeadlineAll s).roles = s.roles := by simp [scanDeadlineAll]
@[simp] theorem commitMode_roles (s : State) : (commitMode s).roles = s.roles := by
  unfold commitMode
  split <;> simp

@[simp] theorem scanFlush_roles (s : State) : (scanFlush s).roles = s.roles := by simp [scanFlush]
@[simp] theorem scanProgress_roles (x : Nat) (s : State) : (scanProgress x s).roles = s.roles := by simp [scanProgress]
@[simp] theorem scanCut_roles (s : State) : (scanCut s).roles = s.roles := by simp [scanCut]
@[simp] theorem opScanLoad_roles (c : Sub) (s : State) : (opScanLoad c s).state.roles = s.roles := by
  unfold opScanLoad
  dsimp only
  split
  · simp
  · split
    · simp
    · split
      · simp
      · split <;> simp

@[simp] theorem opScanMode_roles (c : Sub) (s : State) : (opScanMode c s).state.roles = s.roles := by simp [opScanMode]
@[simp] theorem opScanWrite_roles (c : Sub) (s : State) : (opScanWrite c s).state.roles = s.roles := by simp [opScanWrite]
@[simp] theorem opScanRead_base (c : Sub) (s : State) : (opScanRead c s).state.base = s.base := by
  refine state_ite_base (failSt_base _ _) (withPlane_base _ _ _ fun k => ?_)
  dsimp only
  split
  · split <;> simp
  · simp

@[simp] theorem opScanStatus_base (c : Sub) (s : State) : (opScanStatus c s).state.base = s.base := by simp [opScanStatus]
@[simp] theorem takeInstr_roles (w : DWord) (f : Plane → Plane) (s : State) : (takeInstr w f s).roles = s.roles := by
  simp [takeInstr]

/-! The output commit -/

@[simp] theorem setOuts_base (o : Outs) (s : State) : (setOuts o s).base = s.base := by simp [setOuts]
@[simp] theorem driveChan_base (c : Nat) (u : Word) (s : State) : (driveChan c u s).base = s.base := by simp [driveChan]
@[simp] theorem commitChan_base (bad : List Nat) (p : Plane) (c : Nat) (s : State) :
    (commitChan bad p c s).base = s.base := by
  simp [commitChan]

@[simp] theorem commitGp_base (bad : List Nat) (p : Plane) (s : State) : (commitGp bad p s).base = s.base := by
  simp [commitGp]

@[simp] theorem countRetransmit_base (p : Plane) (s : State) : (countRetransmit p s).base = s.base := by
  simp [countRetransmit]

@[simp] theorem commitLines_roles (k : Nat) (s : State) : (commitLines k s).roles = s.roles := by simp [commitLines]
@[simp] theorem countHeld_base (s : State) : (countHeld s).base = s.base := by simp [countHeld]
@[simp] theorem driveSteps_base (p : Plane) (s : State) : (driveSteps p s).base = s.base := by simp [driveSteps]
@[simp] theorem commitAll_roles (bad : List Nat) (s0 : State) : (commitAll bad s0).roles = s0.roles := by simp [commitAll]
@[simp] theorem firstCommit_roles (s : State) : (firstCommit s).roles = s.roles := by simp [firstCommit]

/-! Field ports -/

@[simp] theorem setPort_base (k : Nat) (p : FPort) (s : State) : (setPort k p s).base = s.base := by simp [setPort]
@[simp] theorem setStation_base (k : Nat) (x : Station) (s : State) : (setStation k x s).base = s.base := by
  simp [setStation]

@[simp] theorem portEvent_base (p code d : Nat) (s : State) : (portEvent p code d s).base = s.base := by simp [portEvent]
@[simp] theorem mqAll_base (k : Nat) (v : Bool) (s : State) : (mqAll k v s).base = s.base := by simp [mqAll]
@[simp] theorem stationLost_base (k : Nat) (s : State) : (stationLost k s).base = s.base := by simp [stationLost]
@[simp] theorem enterWords_base (k : Nat) (ws : List Word) (ms : BitVec 16) (s : State) :
    (enterWords k ws ms s).base = s.base := by
  simp [enterWords]

@[simp] theorem framePdus_roles (k : Nat) (ws : List Word) (s : State) : (framePdus k ws s).roles = s.roles := by
  simp [framePdus]

@[simp] theorem frameTokens_roles (p k : Nat) (ws : List Word) (ms : BitVec 16) (sn : Word) (s : State) :
    (frameTokens p k ws ms sn s).roles = s.roles := by
  simp [frameTokens]

@[simp] theorem deliverFrame_roles (p : Nat) (f : KFrame) (s : State) : (deliverFrame p f s).roles = s.roles := by
  simp [deliverFrame]

@[simp] theorem cycleStation_base (k : Nat) (s : State) : (cycleStation k s).base = s.base := by
  unfold cycleStation
  dsimp only
  split <;> simp

@[simp] theorem returnStation_base (k : Nat) (s : State) : (returnStation k s).base = s.base := by simp [returnStation]
@[simp] theorem portCut_base (p : Nat) (s : State) : (portCut p s).base = s.base := by simp [portCut]
@[simp] theorem fieldCut_base (s : State) : (fieldCut s).base = s.base := by simp [fieldCut]
@[simp] theorem armSent_base (k : Nat) (s : State) : (armSent k s).base = s.base := by simp [armSent]
@[simp] theorem sendFrame_base (p : Nat) (s : State) : (sendFrame p s).base = s.base := by simp [sendFrame]
@[simp] theorem portSwitch_base (t : Word) (left p : Nat) (s : State) : (portSwitch t left p s).base = s.base := by
  simp [portSwitch]

@[simp] theorem opFpConfig_base (c : Sub) (s : State) : (opFpConfig c s).state.base = s.base := by
  unfold opFpConfig
  dsimp only
  split
  · simp
  · split
    · simp
    · split
      · simp
      · split <;> simp

@[simp] theorem mqFresh_base (k : Nat) (s : State) : (mqFresh k s).base = s.base := by simp [mqFresh]
@[simp] theorem opFpStation_base (c : Sub) (s : State) : (opFpStation c s).state.base = s.base := by
  unfold opFpStation
  dsimp only
  split
  · simp
  · split
    · simp
    · split <;> simp

@[simp] theorem opFpArm_base (c : Sub) (s : State) : (opFpArm c s).state.base = s.base := by simp [opFpArm]
@[simp] theorem opFpStatus_base (c : Sub) (s : State) : (opFpStatus c s).state.base = s.base := by simp [opFpStatus]

/-! Events and the event recorder -/

@[simp] theorem postUpTo_roles (n : Word) (p : Nat) (s : State) : (postUpTo n p s).roles = s.roles := by simp [postUpTo]
@[simp] theorem postBefore_roles (t : Word) (s : State) : (postBefore t s).roles = s.roles := by simp [postBefore]
@[simp] theorem postDecided_roles (t : Word) (old new : Nat) (s : State) : (postDecided t old new s).roles = s.roles := by
  unfold postDecided
  dsimp only
  split <;> simp

@[simp] theorem routeWrite_base (src : Nat) (v : Word) (w1c : Bool) (path : Nat) (e0 : Word) (op : Nat) (s : State) :
    (routeWrite src v w1c path e0 op s).base = s.base := by
  simp [routeWrite]

@[simp] theorem opEvtRoute_base (c : Sub) (s : State) : (opEvtRoute c s).state.base = s.base := by simp [opEvtRoute]
@[simp] theorem opEvtStatus_base (c : Sub) (s : State) : (opEvtStatus c s).state.base = s.base := by simp [opEvtStatus]
@[simp] theorem ledgerFails_base (s : State) : (ledgerFails s).base = s.base := by simp [ledgerFails]
@[simp] theorem writeRecSlot_base (ws : List Word) (s : State) : (writeRecSlot ws s).base = s.base := by simp [writeRecSlot]
@[simp] theorem ownEvent_base (data : Nat) (ext : List Word) (s : State) : (ownEvent data ext s).2.base = s.base := by
  simp [ownEvent]

@[simp] theorem raiseOwn_base (e : Ev) (s : State) : (raiseOwn e s).base = s.base := by simp [raiseOwn]
@[simp] theorem fillLast_base (s : State) : (fillLast s).base = s.base := by simp [fillLast]
@[simp] theorem afterSlot_base (s : State) : (afterSlot s).base = s.base := by simp [afterSlot]
@[simp] theorem dropRecord_base (s : State) : (dropRecord s).base = s.base := by simp [dropRecord]
@[simp] theorem putRecord_base (e : Ev) (s : State) : (putRecord e s).base = s.base := by simp [putRecord]
@[simp] theorem queueLost_base (s : State) : (queueLost s).base = s.base := by simp [queueLost]
theorem nextRecord_base {s s1 : State} {e : Ev} (h : nextRecord s = some (e, s1)) : s1.base = s.base := by
  unfold nextRecord at h
  split at h
  · cases h
  · cases h
    simp

@[simp] theorem recordWrite_base (ok : Bool) (s : State) : (recordWrite ok s).base = s.base := by
  unfold recordWrite
  split
  · rfl
  · split
    · rfl
    · simp [nextRecord_base ‹_›]

@[simp] theorem opEvrRead_base (c : Sub) (s : State) : (opEvrRead c s).state.base = s.base := by simp [opEvrRead]
@[simp] theorem opEvrClear_base (c : Sub) (s : State) : (opEvrClear c s).state.base = s.base := by simp [opEvrClear]
@[simp] theorem evrCleared_base (cut : Word) (s : State) : (evrCleared cut s).base = s.base := by simp [evrCleared]
@[simp] theorem writeOpsec_base (ok : Bool) (s : State) : (writeOpsec ok s).base = s.base := by simp [writeOpsec]
@[simp] theorem stopTrace_base (cause : Nat) (s : State) : (stopTrace cause s).base = s.base := by simp [stopTrace]
@[simp] theorem traceCut_base (s : State) : (traceCut s).base = s.base := by simp [traceCut]
@[simp] theorem opObsCtrl_base (c : Sub) (s : State) : (opObsCtrl c s).state.base = s.base := by simp [opObsCtrl]
@[simp] theorem opObsRead_base (c : Sub) (s : State) : (opObsRead c s).state.base = s.base := by simp [opObsRead]
@[simp] theorem opLockChallenge_base (c : Sub) (s : State) : (opLockChallenge c s).state.base = s.base := by
  unfold opLockChallenge
  split
  · simp
  · split <;> simp

@[simp] theorem closeLock_roles (cause : Nat) (s : State) : (closeLock cause s).roles = s.roles := by simp [closeLock]
@[simp] theorem opLock_roles (c : Sub) (s : State) : (opLock c s).state.roles = s.roles := by
  unfold opLock
  split <;> simp

@[simp] theorem lockCut_base (s : State) : (lockCut s).base = s.base := by simp [lockCut]
@[simp] theorem setTap_base (ir : BitVec 8) (tdo : Nat) (s : State) : (setTap ir tdo s).base = s.base := by simp [setTap]
@[simp] theorem takeBits_base (n : Nat) (s : State) : (takeBits n s).2.base = s.base := by
  induction n generalizing s with
  | zero => rfl
  | succ n ih => simp [takeBits, ih]

/-! The journal -/

@[simp] theorem setLed_base (l : Ledger) (s : State) : (setLed l s).base = s.base := by simp [setLed]
@[simp] theorem setFwSlot_base (k : Nat) (v : FwSlot) (s : State) : (setFwSlot k v s).base = s.base := by simp [setFwSlot]
@[simp] theorem handEntry_base (e : JEntry) (s : State) : (handEntry e s).base = s.base := by simp [handEntry]
@[simp] theorem handOver_roles (s : State) : (handOver s).roles = s.roles := by simp [handOver]
@[simp] theorem dropEntries_base (t : Word) (loser : Nat) (s : State) : (dropEntries t loser s).base = s.base := by
  simp [dropEntries]

@[simp] theorem appendEntry_base (e : JEntry) (s : State) : (appendEntry e s).base = s.base := by simp [appendEntry]
@[simp] theorem makeRoom_base (n k : Nat) (s : State) : (makeRoom n k s).base = s.base := by
  induction k generalizing s with
  | zero => rfl
  | succ k ih =>
    unfold makeRoom
    split
    · rfl
    · simp [ih]

@[simp] theorem writeEntry_base (e : JEntry) (s : State) : (writeEntry e s).base = s.base := by simp [writeEntry]
theorem nextEntry_base {s s1 : State} {e : JEntry} (h : nextEntry s = some (e, s1)) : s1.base = s.base := by
  unfold nextEntry at h
  split at h
  · cases h
  · cases h
    simp

@[simp] theorem entryBad_base (s gone : State) (h : gone.base = s.base) : (entryBad s gone).base = s.base := by
  simp [entryBad, h]

@[simp] theorem journalWrite_base (ok : Bool) (s : State) : (journalWrite ok s).base = s.base := by
  unfold journalWrite
  split
  · rfl
  · split
    · rfl
    · simp [nextEntry_base ‹_›]

@[simp] theorem flushEntries_base (s : State) : (flushEntries s).base = s.base := by simp [flushEntries]
@[simp] theorem opLedgerStatus_base (c : Sub) (s : State) : (opLedgerStatus c s).state.base = s.base := by
  unfold opLedgerStatus
  dsimp only
  repeat' split
  all_goals simp

@[simp] theorem opJournalRead_base (c : Sub) (s : State) : (opJournalRead c s).state.base = s.base := by simp [opJournalRead]

/-! The umpire -/

@[simp] theorem setUmp_base (u : Umpire) (s : State) (ha : u.a.code = s.ump.a.code) (hb : u.b.code = s.ump.b.code) :
    (setUmp u s).base = s.base := by
  simp [setUmp, ha, hb]

@[simp] theorem setSusp_base (p : Nat) (l : List Nat) (s : State) : (setSusp p l s).base = s.base := by simp [setSusp]
@[simp] theorem resetPlane_roles (p : Nat) (s : State) : (resetPlane p s).roles = s.roles := by simp [resetPlane]
@[simp] theorem nameUnits_base (p : Nat) (us : List Nat) (s : State) : (nameUnits p us s).base = s.base := by
  simp [nameUnits]

@[simp] theorem axesSafe_roles (s : State) : (axesSafe s).roles = s.roles := by simp [axesSafe]
@[simp] theorem endWake_base (p : Cmd → Bool) (s : State) : (endWake p s).base = s.base := by simp [endWake]
@[simp] theorem endCmds_base (p : Cmd → Bool) (st : Nat) (s : State) : (endCmds p st s).base = s.base := by simp [endCmds]
@[simp] theorem dropChannels_base (p : Cmd → Bool) (s : State) : (dropChannels p s).base = s.base := by simp [dropChannels]
@[simp] theorem wakeDram_base (s : State) : (wakeDram s).base = s.base := by simp [wakeDram]
@[simp] theorem commitSafe_roles (s : State) : (commitSafe s).roles = s.roles := by simp [commitSafe]
@[simp] theorem fwTake_base (k : Nat) (s : State) : (fwTake k s).base = s.base := by simp [fwTake]
@[simp] theorem switchCmds_base (s : State) : (switchCmds s).base = s.base := by simp [switchCmds]
@[simp] theorem beginSwitch_base (p cls : Nat) (t e : Word) (held : Nat) (s : State) :
    (beginSwitch p cls t e held s).base = s.base := by
  simp [beginSwitch]

@[simp] theorem resignsTold_base (s : State) : (resignsTold s).base = s.base := by simp [resignsTold]
@[simp] theorem reports_base (s : State) : (reports s).base = s.base := by simp [reports]
@[simp] theorem beginRoll_base (units : List Nat) (s : State) : (beginRoll units s).base = s.base := by
  unfold beginRoll
  split <;> simp

@[simp] theorem rollStays_roles (r : Roll) (a : Nat) (s : State) : (rollStays r a s).roles = s.roles := by simp [rollStays]
@[simp] theorem supplyTick_base (s : State) : (supplyTick s).base = s.base := by simp [supplyTick]
@[simp] theorem copyTo_roles (p : Nat) (s : State) : (copyTo p s).roles = s.roles := by simp [copyTo]
@[simp] theorem takeTime_roles (p : Nat) (s : State) : (takeTime p s).roles = s.roles := by simp [takeTime]
@[simp] theorem opPlaneStatus_base (c : Sub) (s : State) : (opPlaneStatus c s).state.base = s.base := by simp [opPlaneStatus]
@[simp] theorem opPlaneHealth_base (c : Sub) (s : State) : (opPlaneHealth c s).state.base = s.base := by
  unfold opPlaneHealth
  split <;> simp

@[simp] theorem opPlaneRestore_base (c : Sub) (s : State) : (opPlaneRestore c s).state.base = s.base := by
  simp [opPlaneRestore]

@[simp] theorem opPlaneConfig_base (c : Sub) (s : State) : (opPlaneConfig c s).state.base = s.base := by simp [opPlaneConfig]

/-! Memory and DMA -/

@[simp] theorem nextSlot_base (s : State) : (nextSlot s).base = s.base := by
  unfold nextSlot
  dsimp only
  split <;> simp

@[simp] theorem endTransfer_base (k st : Nat) (r : DWord) (s : State) : (endTransfer k st r s).base = s.base := by
  simp [endTransfer]

@[simp] theorem stopChannel_base (k cause st : Nat) (s : State) : (stopChannel k cause st s).base = s.base := by
  simp [stopChannel]

@[simp] theorem startChannel_base (k : Nat) (x : Cmd) (dir : Bool) (host len : Nat) (data : List Byte) (r : DWord) (s : State) :
    (startChannel k x dir host len data r s).base = s.base := by
  simp [startChannel]

@[simp] theorem startFetch_base (k : Nat) (x : Cmd) (host : Nat) (l : List Rec) (r : DWord) (s : State) :
    (startFetch k x host l r s).base = s.base := by
  simp [startFetch]

@[simp] theorem updateCmd_base (x y : Cmd) (s : State) : (updateCmd x y s).base = s.base := by simp [updateCmd]
@[simp] theorem startRead_base (x : Cmd) (s : State) : (startRead x s).base = s.base := by
  unfold startRead
  split
  · rfl
  · split
    · rfl
    · split
      · simp
      · split <;> simp

@[simp] theorem startReads_base (s : State) : (startReads s).base = s.base := by simp [startReads]
@[simp] theorem transferDone_base (k : Nat) (s : State) : (transferDone k s).base = s.base := by
  unfold transferDone
  dsimp only
  split
  · split <;> simp
  · simp

@[simp] theorem loseTransfer_base (k : Nat) (s : State) : (loseTransfer k s).base = s.base := by simp [loseTransfer]
@[simp] theorem dramLost_base (s : State) : (dramLost s).base = s.base := by simp [dramLost]
@[simp] theorem spoilDram_base (a n : Nat) (s : State) : (spoilDram a n s).base = s.base := by simp [spoilDram]
@[simp] theorem eccError_base (ecc off : Nat) (s : State) : (eccError ecc off s).base = s.base := by simp [eccError]
@[simp] theorem eccRead_base (ecc a n : Nat) (s : State) : (eccRead ecc a n s).base = s.base := by simp [eccRead]
@[simp] theorem streamRead_base (x : Rec) (ecc : Nat) (s : State) : (streamRead x ecc s).base = s.base := by
  simp [streamRead]

@[simp] theorem fetchRead_base (k ecc : Nat) (s : State) : (fetchRead k ecc s).base = s.base := by
  unfold fetchRead
  dsimp only
  split <;> simp

@[simp] theorem stageWrite_base (k : Nat) (s : State) : (stageWrite k s).base = s.base := by simp [stageWrite]
@[simp] theorem grantTo_base (k ecc : Nat) (s : State) : (grantTo k ecc s).base = s.base := by simp [grantTo]
@[simp] theorem nextBlock_base (s : State) : (nextBlock s).base = s.base := by simp [nextBlock]
@[simp] theorem tookTurn_base (dir : Bool) (k : Nat) (s : State) : (tookTurn dir k s).base = s.base := by simp [tookTurn]
@[simp] theorem moveBurst_base (k : Nat) (s : State) : (moveBurst k s).base = s.base := by simp [moveBurst]
@[simp] theorem dmaStep_base (k : Nat) (err : Bool) (s : State) : (dmaStep k err s).base = s.base := by
  unfold dmaStep
  dsimp only
  repeat' split
  all_goals simp

@[simp] theorem captDamage_base (k : Nat) (s : State) : (captDamage k s).base = s.base := by
  unfold captDamage
  split <;> simp

@[simp] theorem streamParity_base (s : State) : (streamParity s).base = s.base := by simp [streamParity]
@[simp] theorem frontParity_base (q : Nat) (s : State) : (frontParity q s).base = s.base := by simp [frontParity]
@[simp] theorem issueBurst_base (k : Nat) (err : Bool) (s : State) : (issueBurst k err s).base = s.base := by
  simp [issueBurst]

@[simp] theorem burstPair_base (err : Bool) (s : State) : (burstPair err s).base = s.base := by
  unfold burstPair
  dsimp only
  split
  · split <;> simp
  · split <;> simp

@[simp] theorem streamBurst_base (head : Nat) (s : State) : (streamBurst head s).base = s.base := by simp [streamBurst]
@[simp] theorem walkFails_base (ch qp cause : Nat) (s : State) : (walkFails ch qp cause s).base = s.base := by
  simp [walkFails]

@[simp] theorem aheadFails_base (ch a cause : Nat) (s : State) : (aheadFails ch a cause s).base = s.base := by
  unfold aheadFails
  split <;> simp

@[simp] theorem pageHere_base (ch : Nat) (s : State) : (pageHere ch s).base = s.base := by simp [pageHere]
@[simp] theorem walkWaited_base (ch qp : Nat) (pte : List DWord) (s : State) : (walkWaited ch qp pte s).base = s.base := by
  unfold walkWaited
  dsimp only
  split <;> simp

@[simp] theorem walkAhead_base (ch : Nat) (pte : List DWord) (s : State) : (walkAhead ch pte s).base = s.base := by
  unfold walkAhead
  dsimp only
  split
  · simp
  · split <;> simp

@[simp] theorem translationWalk_base (ch qp : Nat) (pte : List DWord) (s : State) :
    (translationWalk ch qp pte s).base = s.base := by
  simp [translationWalk]

@[simp] theorem resumed_base (ch : Nat) (s : State) : (resumed ch s).base = s.base := by simp [resumed]
@[simp] theorem resumeChannel_base (ch : Nat) (pte : List DWord) (s : State) : (resumeChannel ch pte s).base = s.base := by
  simp [resumeChannel]

@[simp] theorem resumeWalk_base (ch : Nat) (s : State) : (resumeWalk ch s).base = s.base := by simp [resumeWalk]
@[simp] theorem stopSuspended_base (ch : Nat) (s : State) : (stopSuspended ch s).base = s.base := by simp [stopSuspended]
@[simp] theorem suspendTimeout_base (ch : Nat) (s : State) : (suspendTimeout ch s).base = s.base := by simp [suspendTimeout]
@[simp] theorem completionTimeout_base (ch qp : Nat) (s : State) : (completionTimeout ch qp s).base = s.base := by
  simp [completionTimeout]

@[simp] theorem suspendCut_base (s : State) : (suspendCut s).base = s.base := by simp [suspendCut]
@[simp] theorem biteChannel_base (k : Nat) (s : State) : (biteChannel k s).base = s.base := by simp [biteChannel]
@[simp] theorem biteStream_base (s : State) : (biteStream s).base = s.base := by simp [biteStream]
@[simp] theorem poisonBlock_base (a : Nat) (s : State) : (poisonBlock a s).base = s.base := by simp [poisonBlock]
@[simp] theorem invalidate_base (f : Mem → Mem) (s : State) : (invalidate f s).base = s.base := by simp [invalidate]
@[simp] theorem opMemStatus_base (c : Sub) (s : State) : (opMemStatus c s).state.base = s.base := by simp [opMemStatus]
@[simp] theorem opTurnSet_base (c : Sub) (s : State) : (opTurnSet c s).state.base = s.base := by simp [opTurnSet]
@[simp] theorem opTurnRead_base (c : Sub) (s : State) : (opTurnRead c s).state.base = s.base := by simp [opTurnRead]
@[simp] theorem opMemScrub_base (c : Sub) (s : State) : (opMemScrub c s).state.base = s.base := by simp [opMemScrub]

/-! Firmware slots and ledger writes -/

@[simp] theorem opFwStage_base (c : Sub) (s : State) : (opFwStage c s).state.base = s.base := by simp [opFwStage]
@[simp] theorem opFwSelect_base (c : Sub) (s : State) : (opFwSelect c s).state.base = s.base := by simp [opFwSelect]
@[simp] theorem readBackOk_base (x : Cmd) (s : State) : (readBackOk x s).state.base = s.base := by
  unfold readBackOk
  split <;> simp

@[simp] theorem readBackBad_base (x : Cmd) (s : State) : (readBackBad x s).base = s.base := by simp [readBackBad]
@[simp] theorem ledgerReadBack_base (ok : Bool) (s : State) : (ledgerReadBack ok s).base = s.base := by
  unfold ledgerReadBack
  split
  · rfl
  · split
    · rfl
    · split
      · split
        · rfl
        · simp [takeCmd_base ‹_›]
      · simp

/-! The PCIe function -/

@[simp] theorem discardCmds_base (s : State) : (discardCmds s).base = s.base := by simp [discardCmds]
@[simp] theorem disableQps_base (s : State) : (disableQps s).base = s.base := by simp [disableQps]
@[simp] theorem loseWork_base (s : State) : (loseWork s).base = s.base := by simp [loseWork]
@[simp] theorem linkFall_base (s : State) : (linkFall s).base = s.base := by simp [linkFall]
@[simp] theorem sendPending_base (s : State) : (sendPending s).base = s.base := by simp [sendPending]
@[simp] theorem linkRise_base (rate width : Nat) (s : State) : (linkRise rate width s).base = s.base := by
  unfold linkRise
  dsimp only
  split
  · simp
  · split <;> simp

/-! Clock sources and supplies -/

@[simp] theorem holdsImage_base (k : Nat) (found : Bool) (s : State) : (holdsImage k found s).base = s.base := by
  simp [holdsImage]

@[simp] theorem takeXtal32_base (s : State) : (takeXtal32 s).base = s.base := by simp [takeXtal32]
@[simp] theorem crystalStable_base (k : Nat) (s : State) : (crystalStable k s).base = s.base := by simp [crystalStable]
@[simp] theorem bootLevel_base (p : Nat) (s : State) : (bootLevel p s).base = s.base := by simp [bootLevel]
@[simp] theorem pllLock_base (p : Nat) (s : State) : (pllLock p s).base = s.base := by simp [pllLock]
@[simp] theorem sourceLost_base (k cause : Nat) (s : State) : (sourceLost k cause s).base = s.base := by simp [sourceLost]
@[simp] theorem sourceRecovered_base (k : Nat) (s : State) : (sourceRecovered k s).base = s.base := by simp [sourceRecovered]
@[simp] theorem portDark_base (k : Nat) (s : State) : (portDark k s).base = s.base := by simp [portDark]
@[simp] theorem afeCut_base (s : State) : (afeCut s).base = s.base := by simp [afeCut]

/-! Start-up, power loss and restoration -/

@[simp] theorem flushEvents_roles (s : State) : (flushEvents s).roles = s.roles := by simp [flushEvents]
@[simp] theorem startClocks_base (again : Bool) (s : State) : (startClocks again s).base = s.base := by simp [startClocks]
@[simp] theorem sampleStraps_base (x : Straps) (s : State) : (sampleStraps x s).base = s.base := by simp [sampleStraps]
@[simp] theorem beginCkpt_base (cause : Nat) (s : State) : (beginCkpt cause s).base = s.base := by simp [beginCkpt]
@[simp] theorem setHalf_base (h : Nat) (c : Option Ckpt) (s : State) : (setHalf h c s).base = s.base := by simp [setHalf]
@[simp] theorem startHalf_base (s : State) : (startHalf s).base = s.base := by simp [startHalf]
@[simp] theorem shadowLatch_roles (s : State) : (shadowLatch s).roles = s.roles := by simp [shadowLatch]
@[simp] theorem clearMark_base (h : Nat) (s : State) : (clearMark h s).base = s.base := by
  unfold clearMark
  split <;> simp

@[simp] theorem validMark_base (ok : Bool) (s : State) : (validMark ok s).base = s.base := by simp [validMark]
@[simp] theorem handLive_base (s : State) : (handLive s).base = s.base := by simp [handLive]
@[simp] theorem pwrfailRelease_base (s : State) : (pwrfailRelease s).base = s.base := by
  unfold pwrfailRelease
  split
  · simp
  · split <;> simp

@[simp] theorem afterRestart_base (s : State) : (afterRestart s).base = s.base := by simp [afterRestart]
@[simp] theorem postLoaded_roles (k : Nat) (s : State) : (postLoaded k s).roles = s.roles := by simp [postLoaded]
@[simp] theorem takeUp_roles (s : State) : (takeUp s).roles = s.roles := by simp [takeUp]

/-! Front-end and device commands, queue pair registers -/

@[simp] theorem opNop_base (c : Sub) (s : State) : (opNop c s).state.base = s.base := by simp [opNop]
@[simp] theorem opIdentify_base (c : Sub) (s : State) : (opIdentify c s).state.base = s.base := by simp [opIdentify]
@[simp] theorem abortNow_base (x : Cmd) (s : State) : (abortNow x s).base = s.base := by simp [abortNow]
@[simp] theorem opAbort_base (c : Sub) (s : State) : (opAbort c s).state.base = s.base := by
  unfold opAbort
  repeat' split
  all_goals simp

@[simp] theorem beginRun_base (s : State) : (beginRun s).base = s.base := by simp [beginRun]
@[simp] theorem drainStaging_base (s : State) : (drainStaging s).base = s.base := by simp [drainStaging]
@[simp] theorem qpRaise_base (q kind : Nat) (changed : Bool) (s : State) : (qpRaise q kind changed s).base = s.base := by
  simp [qpRaise]

@[simp] theorem writeQpCtrl_base (q : Nat) (v : Word) (s : State) : (writeQpCtrl q v s).base = s.base := by
  simp [writeQpCtrl]

@[simp] theorem writeSqTail_base (q : Nat) (v : Word) (s : State) : (writeSqTail q v s).base = s.base := by
  simp [writeSqTail]

@[simp] theorem writeCqHead_base (q : Nat) (v : Word) (s : State) : (writeCqHead q v s).base = s.base := by
  simp [writeCqHead]

@[simp] theorem clearRetry_base (q : Nat) (s : State) : (clearRetry q s).base = s.base := by simp [clearRetry]
@[simp] theorem coalesceTimeout_base (q : Nat) (s : State) : (coalesceTimeout q s).base = s.base := by simp [coalesceTimeout]
@[simp] theorem coalCut_base (s : State) : (coalCut s).base = s.base := by simp [coalCut]
@[simp] theorem easePairs_base (timed : Bool) (s : State) : (easePairs timed s).base = s.base := by simp [easePairs]
@[simp] theorem writeQpReg_base (q o : Nat) (v : Word) (s : State) : (writeQpReg q o v s).base = s.base := by
  have h (x : QPair) : (setQp q x s).base = s.base := congrArg State.planesPart (setQp_bare s q x)
  unfold writeQpReg
  dsimp only
  repeat' split
  all_goals simp only [h, writeQpCtrl_base, clearRetry_base]

@[simp] theorem writeMsix_base (k : Nat) (v : Word) (s : State) : (writeMsix k v s).base = s.base := by simp [writeMsix]
@[simp] theorem writeWin_base (w o : Nat) (v : Word) (s : State) : (writeWin w o v s).base = s.base := by simp [writeWin]
@[simp] theorem writeInv_base (d : DWord) (s : State) : (writeInv d s).base = s.base := by simp [writeInv]
@[simp] theorem writeXlat_base (o : Nat) (v : Word) (s : State) : (writeXlat o v s).base = s.base := by simp [writeXlat]
@[simp] theorem writeChCtrl_base (k : Nat) (v : Word) (s : State) : (writeChCtrl k v s).base = s.base := by
  simp [writeChCtrl]

@[simp] theorem writeReg_base (off : Nat) (v : Word) (s : State) : (writeReg off v s).base = s.base := by simp [writeReg]
@[simp] theorem writeWide_base (off : Nat) (v : DWord) (s : State) : (writeWide off v s).base = s.base := by simp [writeWide]

/-! Device time -/

@[simp] theorem setTime_base (t : DevTime) (s : State) : (setTime t s).base = s.base := by simp [setTime]
@[simp] theorem setPtp_base (p : Ptp) (s : State) : (setPtp p s).base = s.base := by simp [setPtp]
@[simp] theorem setMgt_base (k : Nat) (m : MgtPort) (s : State) : (setMgt k m s).base = s.base := by simp [setMgt]
@[simp] theorem onClks_roles (f : PlaneTime → PlaneTime) (s : State) : (onClks f s).roles = s.roles := by simp [onClks]
@[simp] theorem setCmp_base (u : Nat) (x : Cmp) (s : State) : (setCmp u x s).base = s.base := by simp [setCmp]
@[simp] theorem cmpFire_base (u : Nat) (s : State) : (cmpFire u s).base = s.base := by simp [cmpFire]
@[simp] theorem cmpsAtCut_base (s : State) : (cmpsAtCut s).base = s.base := by simp [cmpsAtCut]
@[simp] theorem stepTime_roles (d : Int) (s : State) : (stepTime d s).roles = s.roles := by simp [stepTime]
@[simp] theorem rateTime_roles (r : Word) (s : State) : (rateTime r s).roles = s.roles := by simp [rateTime]
@[simp] theorem timeCut_roles (s : State) : (timeCut s).roles = s.roles := by
  unfold timeCut
  dsimp only
  split
  · split <;> simp
  · split <;> simp

@[simp] theorem opTimeStep_roles (c : Sub) (s : State) : (opTimeStep c s).state.roles = s.roles := by simp [opTimeStep]
@[simp] theorem opTimeRate_roles (c : Sub) (s : State) : (opTimeRate c s).state.roles = s.roles := by simp [opTimeRate]
@[simp] theorem opTimeCmp_base (c : Sub) (s : State) : (opTimeCmp c s).state.base = s.base := by simp [opTimeCmp]
@[simp] theorem opTimeRead_base (c : Sub) (s : State) : (opTimeRead c s).state.base = s.base := by simp [opTimeRead]
@[simp] theorem opTimeStatus_base (c : Sub) (s : State) : (opTimeStatus c s).state.base = s.base := by simp [opTimeStatus]
@[simp] theorem choosePort_base (s : State) : (choosePort s).base = s.base := by
  unfold choosePort
  split <;> simp

@[simp] theorem opMgtConfig_base (c : Sub) (s : State) : (opMgtConfig c s).state.base = s.base := by simp [opMgtConfig]
@[simp] theorem opPtpConfig_base (c : Sub) (s : State) : (opPtpConfig c s).state.base = s.base := by simp [opPtpConfig]
@[simp] theorem opPtpStatus_base (c : Sub) (s : State) : (opPtpStatus c s).state.base = s.base := by simp [opPtpStatus]
@[simp] theorem servoStep_base (o : Int) (s : State) : (servoStep o s).base = s.base := by simp [servoStep]

/-! The MS-240 window -/

@[simp] theorem setWin_base (w : WindowBus) (s : State) : (setWin w s).base = s.base := by simp [setWin]
@[simp] theorem setWstat_base (b : Nat) (s : State) : (setWstat b s).base = s.base := by simp [setWstat]
@[simp] theorem setLstat_base (l b : Nat) (s : State) : (setLstat l b s).base = s.base := by simp [setLstat]
@[simp] theorem queueWrite_base (l kind : Nat) (v : Word) (s : State) : (queueWrite l kind v s).base = s.base := by
  simp [queueWrite]

@[simp] theorem winToken_roles (l port : Nat) (v : Word) (s : State) : (winToken l port v s).roles = s.roles := by
  simp [winToken]

@[simp] theorem winOut_roles (replaced : Bool) (l : Nat) (v : Word) (s : State) : (winOut replaced l v s).roles = s.roles := by
  unfold winOut
  dsimp only
  split
  · simp
  · split <;> simp

@[simp] theorem winSetMode_roles (l m : Nat) (s : State) : (winSetMode l m s).roles = s.roles := by simp [winSetMode]
@[simp] theorem winApply_roles (x : Nat × Nat × Word) (s : State) : (winApply x s).roles = s.roles := by simp [winApply]
@[simp] theorem winWritesCut_roles (s : State) : (winWritesCut s).roles = s.roles := by simp [winWritesCut]
@[simp] theorem winAsk_base (cmd : Bool) (data : Nat) (s : State) : (winAsk cmd data s).base = s.base := by simp [winAsk]
@[simp] theorem setOwner_roles (n : Nat) (on : Bool) (s : State) : (setOwner n on s).roles = s.roles := by simp [setOwner]
@[simp] theorem keepFlags_base (n : Nat) (s : State) : (keepFlags n s).base = s.base := by simp [keepFlags]
@[simp] theorem winClaimAt_roles (d : Nat) (s : State) : (winClaimAt d s).roles = s.roles := by simp [winClaimAt]
@[simp] theorem winOp_roles (code n : Nat) (s : State) : (winOp code n s).state.roles = s.roles := by simp [winOp]
@[simp] theorem winFenced_base (n : Nat) (s : State) : (winFenced n s).base = s.base := by
  unfold winFenced
  dsimp only
  split <;> simp

@[simp] theorem winCmdAt_roles (code : Nat) (s : State) : (winCmdAt code s).roles = s.roles := by
  have h := winOp_roles code s.window.session (setOwner s.window.session false s)
  unfold winCmdAt
  dsimp only
  split
  · simp
  · split
    · simp_all
    · simp

@[simp] theorem winDone_base (s : State) : (winDone s).base = s.base := by simp [winDone]
@[simp] theorem winRequests_roles (early : Bool) (s : State) : (winRequests early s).roles = s.roles := by
  unfold winRequests
  split <;> simp

@[simp] theorem statusClear_roles (a : Nat) (s : State) : (statusClear a s).roles = s.roles := by simp [statusClear]
@[simp] theorem winRead_roles (a : Nat) (s : State) : (winRead a s).roles = s.roles := by simp [winRead]
@[simp] theorem winCut_base (s : State) : (winCut s).base = s.base := by
  unfold winCut
  dsimp only
  split <;> simp

/-! The front end -/

@[simp] theorem crcFail_base (c : Sub) (s : State) : (crcFail c s).base = s.base := by simp [crcFail]
@[simp] theorem placement_roles (x : Cmd) (s : State) : (placement x s).state.roles = s.roles := by simp [placement]
@[simp] theorem placeTimed_roles (x : Cmd) (s : State) : (placeTimed x s).roles = s.roles := by simp [placeTimed]
@[simp] theorem placeDue_roles (s : State) : (placeDue s).roles = s.roles := by simp [placeDue]
@[simp] theorem firmwareFault_base (x : Cmd) (s : State) : (firmwareFault x s).base = s.base := by simp [firmwareFault]

/-! Registers -/

@[simp] theorem clearRc_base (off : Nat) (s : State) : (clearRc off s).base = s.base := by simp [clearRc]
@[simp] theorem readClear_base (off : Nat) (s : State) : (readClear off s).base = s.base := by simp [readClear]

/-! The tick -/

@[simp] theorem refuseLate_base (s : State) : (refuseLate s).base = s.base := by
  unfold refuseLate
  split <;> simp

@[simp] theorem owedByPlanes_roles (s : State) : (owedByPlanes s).roles = s.roles := by simp [owedByPlanes]
@[simp] theorem recDue_roles (s : State) : (recDue s).roles = s.roles := by simp [recDue]
@[simp] theorem endSample_roles (s : State) : (endSample s).roles = s.roles := by simp [endSample]
@[simp] theorem sampleGp_base (gp : List Word) (s : State) : (sampleGp gp s).base = s.base := by simp [sampleGp]
@[simp] theorem sampleEnc_base (enc : List Word) (bad : BitVec 16) (k : Nat) (s : State) :
    (sampleEnc enc bad k s).base = s.base := by
  simp [sampleEnc]

@[simp] theorem samplePins_base (gp enc : List Word) (bad : BitVec 16) (s : State) :
    (samplePins gp enc bad s).base = s.base := by
  simp [samplePins]

@[simp] theorem abortAt_roles (x : Cmd) (s : State) : (abortAt x s).roles = s.roles := by
  have h := opSessAbort_roles x.sub
    (onPlanes (abortTakes x.sub.target) { s with hif := { s.hif with cmds := s.hif.cmds.erase x } })
  unfold abortAt
  dsimp only
  split
  · simp
  · split
    · simp
    · split
      · simp_all
      · simp

@[simp] theorem winAbortAt_roles (s : State) : (winAbortAt s).roles = s.roles := by
  have h := winOp_roles 5 s.window.session (setOwner s.window.session false (onPlanes (abortTakes s.window.session) s))
  unfold winAbortAt
  dsimp only
  split
  · rfl
  · split
    · simp_all
    · simp

@[simp] theorem startAt_roles (x : Cmd) (s : State) : (startAt x s).roles = s.roles := by simp [startAt]
@[simp] theorem sessionCut_roles (n : Nat) (s : State) : (sessionCut n s).roles = s.roles := by simp [sessionCut]
@[simp] theorem recipeCut_roles (s : State) : (recipeCut s).roles = s.roles := by simp [recipeCut]
@[simp] theorem planesCut_roles (s : State) : (planesCut s).roles = s.roles := by simp [planesCut]
@[simp] theorem loadCut_base (s : State) : (loadCut s).base = s.base := by simp [loadCut]

end Sys2Proof.Machine
end

section
namespace Sys2Proof.Machine

/-! How the device state and the roles may move (01 R30, 11 R347, R349) -/

/-- From the roles r to the roles q, SAFE is not left and no second plane becomes ACTIVE. -/
def Stays (r q : State) : Prop := (r.dev = .safe → q.dev = .safe) ∧ (r.oneActive → q.oneActive)

@[simp] theorem stays_refl (r : State) : Stays r r := ⟨id, id⟩

theorem stays_congr {r : State} {s t : State} (e : t.roles = s.roles) (h : Stays r s.roles) : Stays r t.roles := by
  rwa [e]

@[simp] theorem stays_ite (c : Prop) [Decidable c] (r p q : State) :
    Stays r (if c then p else q) ↔ if c then Stays r p else Stays r q := by
  split <;> rfl

theorem forEach_stays {r : State} (l : List α) {f : α → State → State} {s : State}
    (hf : ∀ a u, Stays r u.roles → Stays r (f a u).roles) (h : Stays r s.roles) : Stays r (forEach l f s).roles := by
  unfold forEach
  induction l generalizing s with
  | nil => exact h
  | cons a l ih => exact ih (hf a s h)

/-- The roles r, with plane p in the state of code c of 11 Table 11-1. -/
def withRole (p c : Nat) (r : State) : State :=
  { r with ump := if p = 1 then { r.ump with a := { code := c } } else { r.ump with b := { code := c } } }

@[simp] theorem stays_withRole {r q : State} {p c : Nat} (hc : c ≠ 1) (h : Stays r q) : Stays r (withRole p c q) := by
  obtain ⟨hs, ho⟩ := h
  refine ⟨hs, fun hr => ?_⟩
  unfold withRole State.oneActive
  split
  · exact fun ⟨ha, _⟩ => hc ha
  · exact fun ⟨_, hb⟩ => hc hb

/-- A plane becomes ACTIVE where the other one has just left that role. -/
theorem stays_takeOver {r q : State} {p c : Nat} (hc : c ≠ 1) (h : Stays r q) :
    Stays r (withRole (otherPlane p) 1 (withRole p c q)) := by
  refine ⟨h.1, fun _ => ?_⟩
  unfold withRole otherPlane State.oneActive
  by_cases hp : p = 1
  · simp [hp, hc]
  · simp [hp, hc]

/-- A plane becomes ACTIVE where none is. -/
theorem stays_firstActive {r q : State} {p : Nat} (ha : q.ump.a.code ≠ 1) (hb : q.ump.b.code ≠ 1) (h : Stays r q) :
    Stays r (withRole p 1 q) := by
  refine ⟨h.1, fun _ => ?_⟩
  unfold withRole State.oneActive
  split
  · exact fun ⟨_, h⟩ => hb h
  · exact fun ⟨h, _⟩ => ha h

/-- The roles r, in the device state d. -/
def inState (d : DevState) (r : State) : State := { r with dev := d }

@[simp] theorem stays_inSafe {r q : State} (h : Stays r q) : Stays r (inState .safe q) := ⟨fun _ => rfl, h.2⟩

/-- Any state may follow one that is not SAFE. -/
theorem stays_inState {r q : State} (d : DevState) (hq : q.dev ≠ .safe) (h : Stays r q) : Stays r (inState d q) :=
  ⟨fun hr => absurd (h.1 hr) hq, h.2⟩

/-! Changes of role -/

theorem setPstat_roles (p : Nat) (v : PStat) (s : State) : (setPstat p v s).roles = withRole p v.code s.roles := by
  unfold setPstat withRole
  split <;> rfl

@[simp] theorem withRole_self (p : Nat) (s : State) : withRole p (pstat s p).code s.roles = s.roles := by
  unfold withRole pstat
  split <;> rfl

@[simp] theorem toState_roles (p new cls : Nat) (s : State) : (toState p new cls s).roles = withRole p new s.roles := by
  simp [toState, setPstat_roles, apply_ite PStat.code]

/-- A plane that is lost enters SUSPECT or OFFLINE. -/
theorem toSuspect_roles (p cls unit : Nat) (s : State) :
    ∃ c, c ≠ 1 ∧ (toSuspect p cls unit s).roles = withRole p c s.roles := by
  unfold toSuspect
  dsimp only
  split
  · exact ⟨5, by decide, by simp⟩
  · exact ⟨3, by decide, by simp⟩

theorem leaveRole_roles (p cls unit : Nat) (hb : Bool) (s : State) :
    ∃ c, c ≠ 1 ∧ (leaveRole p cls unit hb s).roles = withRole p c s.roles := by
  unfold leaveRole
  split
  · exact ⟨5, by decide, by simp⟩
  · exact toSuspect_roles p cls unit s

theorem dev_roles (s : State) : s.roles.dev = s.dev := rfl

theorem raise_roles (k d : Nat) (s : State) : (raise k d s).roles = s.roles := by simp

theorem okSn_roles (s : State) : (okSn s).state.roles = s.roles := by simp

theorem codes_of_noActive {s : State} (h : activeNo s = 0) : s.ump.a.code ≠ 1 ∧ s.ump.b.code ≠ 1 := by
  unfold activeNo at h
  split at h
  · cases h
  · split at h
    · cases h
    · exact ⟨‹_›, ‹_›⟩

/-- SET_STATE does nothing in SAFE (01 R30, Table 1-4). -/
theorem dev_of_mayGo {t : Nat} {s : State} (h : mayGo t s = true) : s.dev ≠ .safe := by
  intro hd
  simp only [mayGo, hd] at h
  split at h <;> simp_all [mayEnterSafe]

theorem toReady_roles (s : State) : (toReady s).roles = inState .ready s.roles := by
  unfold toReady
  rw [onPlanesSl_roles]
  rfl

theorem toRun_roles (s : State) : (toRun s).roles = inState .run s.roles :=
  congrArg (inState .run) (by simp : (takeUp s).roles = s.roles)

theorem enterStart_roles (again : Bool) (s : State) : (enterStart again s).roles = inState .start s.roles := by
  unfold enterStart
  extract_lets _ s1 s2
  have e1 : s1.roles = inState .start s.roles := congrArg State.rolesPart (startClocks_base again _)
  have e2 : s2.roles = s1.roles := by simp [s2]
  split
  · rw [raise_roles, e2, e1]
  · rw [e2, e1]

section
variable {r s : State} (h : Stays r s.roles)
include h

@[simp] theorem toSuspect_stays (p cls unit : Nat) : Stays r (toSuspect p cls unit s).roles := by
  obtain ⟨c, hc, e⟩ := toSuspect_roles p cls unit s
  rw [e]
  exact stays_withRole hc h

@[simp] theorem leaveRole_stays (p cls unit : Nat) (hb : Bool) : Stays r (leaveRole p cls unit hb s).roles := by
  obtain ⟨c, hc, e⟩ := leaveRole_roles p cls unit hb s
  rw [e]
  exact stays_withRole hc h

/-- The election makes the other plane ACTIVE once the lost one has left its role (11 R359). -/
@[simp] theorem elect_stays (hb : Bool) : Stays r (elect hb s).roles := by
  unfold elect
  split
  · exact h
  · next x _ =>
    obtain ⟨c, hc, e⟩ := leaveRole_roles x.old x.cls (pstat s x.old).unit hb
      { s with ump := { s.ump with sw := none, agreeRun := 0, electSn := s.sn } }
    simp [e, stays_takeOver hc h]

@[simp] theorem swapPlanes_stays : Stays r (swapPlanes s).roles := by
  simp [swapPlanes, stays_takeOver (show 2 ≠ 1 by decide) h]

/-! SAFE -/


omit h in
/-- Whatever else entering SAFE does, it leaves the roles (01 R30). -/
@[simp] theorem enterSafe_roles (s : State) : (enterSafe s).roles = inState .safe s.roles := by
  unfold enterSafe
  split
  · next hs => simp [inState, State.rolesPart, State.planesPart, State.bare, hs]
  · extract_lets ends s1 s2 s3
    have e : s3.roles = s.roles := by simp [s3, s2, s1]
    clear_value s3
    refine (commitSafe_roles _).trans ((congrArg State.rolesPart (applyLevel_base _ _)).trans ?_)
    exact congrArg (inState .safe) e

@[simp] theorem noneFit_stays : Stays r (noneFit s).roles := by simp [noneFit, h]

@[simp] theorem failStart_stays (p cause : Nat) : Stays r (failStart p cause s).roles := by
  unfold failStart
  split
  · exact h
  · simp [setPstat_roles, h]

@[simp] theorem fwStart_stays (k p : Nat) : Stays r (fwStart k p s).roles := by
  simp [fwStart, h]

@[simp] theorem fwSettle_stays : Stays r (fwSettle s).roles := by
  unfold fwSettle
  extract_lets s1
  have h1 : Stays r s1.roles := by
    unfold s1
    split
    · simp [h]
    · exact h
  split
  · exact forEach_stays _ (fun p u hu => fwStart_stays hu _ p) h1
  · split
    · exact forEach_stays _ (fun p u hu => failStart_stays hu p 3) h1
    · exact h1

@[simp] theorem failAlone_stays (p cls : Nat) : Stays r (failAlone p cls s).roles := by simp [failAlone, h]
@[simp] theorem startFail_stays (p cause : Nat) : Stays r (startFail p cause s).roles := by simp [startFail, h]

@[simp] theorem loseAt_stays (p cls unit : Nat) (hb : Bool) : Stays r (loseAt p cls unit hb s).roles := by
  unfold loseAt
  dsimp only
  split
  · simp [h]
  · split
    · exact h
    · split
      · split
        · exact h
        · refine noneFit_stays (leaveRole_stays (leaveRole_stays (stays_congr (s := s) ?_ h) ..) ..)
          simp
      · simp [h]

@[simp] theorem lose_stays (p cls unit : Nat) (hb : Bool) : Stays r (lose p cls unit hb s).roles := by
  simp [lose, h]

@[simp] theorem compareResync_stays (p : Nat) (agree : Bool) : Stays r (compareResync p agree s).roles := by
  simp [compareResync, h]

omit h in
theorem setUmp_setPstat (u : Umpire) (p : Nat) (v : PStat) (s : State) : setUmp u (setPstat p v s) = setUmp u s := by
  unfold setPstat
  split <;> rfl

@[simp] theorem compareStandby_stays (a o : Nat) (units : List Nat) (ra ro : Bool) :
    Stays r (compareStandby a o units ra ro s).roles := by
  simp [compareStandby, setUmp_setPstat, h]

@[simp] theorem signatureExchange_stays : Stays r (signatureExchange s).roles := by
  simp [signatureExchange, h]

@[simp] theorem rollSwitch_stays (x : Roll) (a : Nat) : Stays r (rollSwitch x a s).roles := by
  simp [rollSwitch, setPstat_roles, h]

@[simp] theorem checkRollVerdict_stays (okA okB : Bool) : Stays r (checkRollVerdict okA okB s).roles := by
  unfold checkRollVerdict
  split
  · exact h
  · simp [h]

@[simp] theorem rollDeadline_stays : Stays r (rollDeadline s).roles := by
  unfold rollDeadline
  split
  · exact h
  · simp [h]

@[simp] theorem healthReport_stays (p : Nat) (arrived : Bool) : Stays r (healthReport p arrived s).roles := by
  simp [healthReport, h]

@[simp] theorem selfTestSlice_stays (p : Nat) (pass : Bool) : Stays r (selfTestSlice p pass s).roles := by
  simp [selfTestSlice, apply_ite PStat.code, h]

@[simp] theorem restoreTested_stays (p : Nat) (pass : Bool) : Stays r (restoreTested p pass s).roles := by
  simp [restoreTested, h]

@[simp] theorem opPlaneOffline_stays (c : Sub) : Stays r (opPlaneOffline c s).state.roles := by
  simp [opPlaneOffline, h]

@[simp] theorem opPlaneSwap_stays (c : Sub) : Stays r (opPlaneSwap c s).state.roles := by
  simp [opPlaneSwap, h]

@[simp] theorem planeCut_stays : Stays r (planeCut s).roles := by
  unfold planeCut
  dsimp only
  split
  · simp [h]
  · simp [h]

@[simp] theorem bufError_stays (ecc p : Nat) : Stays r (bufError ecc p s).roles := by simp [bufError, h]
@[simp] theorem mgtRead_stays (p ecc : Nat) : Stays r (mgtRead p ecc s).roles := by simp [mgtRead, h]
@[simp] theorem burstOf_stays (k ecc : Nat) : Stays r (burstOf k ecc s).roles := by
  unfold burstOf
  split
  · simp [h]
  · split
    · simp [h]
    · split <;> simp [h]
  all_goals simp [h]
@[simp] theorem burstEnd_stays : Stays r (burstEnd s).roles := by simp [burstEnd, h]
@[simp] theorem dramGrant_stays (req ecc : Nat) : Stays r (dramGrant req ecc s).roles := by
  unfold dramGrant
  dsimp only
  split
  · exact h
  · split
    · simp [h]
    · split
      · simp [h]
      · split <;> simp [h]
@[simp] theorem scrubBlock_stays (ecc : Nat) : Stays r (scrubBlock ecc s).roles := by
  unfold scrubBlock
  dsimp only
  split <;> simp [h]
@[simp] theorem biteOf_stays (k : Nat) : Stays r (biteOf k s).roles := by
  unfold biteOf
  split <;> simp [h]
@[simp] theorem watchdogBite_stays : Stays r (watchdogBite s).roles := by simp [watchdogBite, h]
@[simp] theorem coast_stays (p : Nat) : Stays r (coast p s).roles := by simp [coast, h]
@[simp] theorem clockMonitorTrip_stays (p : Nat) (pll : Bool) (cause : Nat) :
    Stays r (clockMonitorTrip p pll cause s).roles := by simp [clockMonitorTrip, h]
@[simp] theorem umpireLost_stays : Stays r (umpireLost s).roles := by simp [umpireLost, h]
@[simp] theorem fastRcLost_stays : Stays r (fastRcLost s).roles := by
  unfold fastRcLost
  refine forEach_stays _ (fun p u hu => ?_) (by simp [h])
  simp [hu]
@[simp] theorem sharedClockTrip_stays (k cause : Nat) : Stays r (sharedClockTrip k cause s).roles := by
  simp [sharedClockTrip, h]
@[simp] theorem tickPeriodCheck_stays (okA okB : Bool) : Stays r (tickPeriodCheck okA okB s).roles := by
  simp [tickPeriodCheck, h]
@[simp] theorem supplyLost_stays (d : Nat) : Stays r (supplyLost d s).roles := by
  simp [supplyLost, h]


/-- No election takes place beside an ACTIVE plane (11 R349). -/
@[simp] theorem startupElection_stays : Stays r (startupElection s).roles := by
  unfold startupElection
  split
  · exact h
  · next hg =>
    have hn : activeNo s = 0 := by simp_all
    obtain ⟨ha, hb⟩ := codes_of_noActive hn
    split
    · rw [toState_roles, toState_roles]
      exact stays_withRole (by decide) (stays_firstActive ha hb h)
    · rw [toState_roles]
      exact stays_firstActive ha hb h
    · exact h

/-- READY follows START only (12 Table 12-3). -/
@[simp] theorem enterReady_stays : Stays r (enterReady s).roles := by
  unfold enterReady
  split
  · exact h
  · next hg =>
    have hd : s.dev = .start := by simp_all
    have hr : Stays r (inState .ready s.roles) := stays_inState .ready (by simp [dev_roles, hd]) h
    dsimp only
    rw [raise_roles]
    exact hr

@[simp] theorem restDram_stays : Stays r (restDram s).roles := by simp [restDram, h]

theorem toIdle_stays (hd : s.dev ≠ .safe) : Stays r (toIdle s).roles := by
  have hi : Stays r ({ s with dev := .idle } : State).roles := stays_inState (q := s.roles) .idle hd h
  simp [toIdle, hi]

/-- No transition of Table 1-4 leaves SAFE. -/
@[simp] theorem opSetState_stays (c : Sub) : Stays r (opSetState c s).state.roles := by
  unfold opSetState
  extract_lets t
  split
  · simp [h]
  · split
    · simp [h]
    · next hg =>
      have hd : s.dev ≠ .safe := dev_of_mayGo (by simpa using hg)
      split
      · rw [okSn_roles, toReady_roles]
        exact stays_inState .ready hd h
      · split
        · split
          · simp [h]
          · rw [okSn_roles, toRun_roles]
            exact stays_inState .run hd h
        · split
          · rw [okSn_roles]
            exact toIdle_stays h hd
          · split
            · exact stays_inState (q := s.roles) .standby hd h
            · simp [h]

@[simp] theorem coreOf_stays (op : Nat) (c : Sub) : Stays r (coreOf op c s).state.roles := by
  unfold coreOf
  split <;> simp [h]

@[simp] theorem forward_stays (op : Nat) (c : Sub) : Stays r (forward op c s).state.roles := by
  have hc := coreOf_stays h op c
  unfold forward
  split
  · simp_all
  · simp [h]

/-- An entry that passes its checks does no more to the roles than its execution. -/
theorem execEntry_stays (op : Nat) {core : Sub → State → OpOut} (c : Sub)
    (hc : ∀ u, Stays r u.roles → Stays r (core c u).state.roles) : Stays r (execEntry op core c s).roles := by
  unfold execEntry
  extract_lets s1
  have hs : Stays r s1.roles := by simp [s1, h]
  clear_value s1
  split
  · simp [hs]
  · split
    · simp [hs]
    · simp [hc _ hs]

theorem submit_stays (op : Nat) {core : Sub → State → OpOut} (c : Sub)
    (hc : ∀ u, Stays r u.roles → Stays r (core c u).state.roles) : Stays r (submit op core c s).roles := by
  unfold submit
  dsimp only
  split
  · simp [h]
  · split
    · simp [h]
    · split
      · simp [h]
      · split
        · simp [h]
        · split
          · simp [h]
          · exact execEntry_stays (by simpa using h) op c hc

@[simp] theorem fetchEntry_stays (qp : Nat) (ws image : List Word) : Stays r (fetchEntry qp ws image s).roles := by
  unfold fetchEntry
  dsimp only
  split
  · exact h
  · split
    · split <;> simp [h]
    · refine stays_congr (congrArg State.rolesPart (startReads_base _)) (submit_stays h _ _ fun u hu => ?_)
      split <;> simp [hu]

theorem releaseOrder_stays (x : Cmd) : Stays r (releaseOrder x s).roles := by
  have h1 : Stays r ({ s with hif := { s.hif with cmds := s.hif.cmds.erase x } } : State).roles := by simp [h]
  unfold releaseOrder
  dsimp only
  split
  · simp [h]
  · refine stays_congr (congrArg State.rolesPart (startReads_base _)) (execEntry_stays h1 x.op x.sub fun u hu => ?_)
    split <;> simp [hu]

omit h in
theorem releaseOrders_stays (n : Nat) {s : State} (h : Stays r s.roles) : Stays r (releaseOrders n s).roles := by
  induction n generalizing s with
  | zero => exact h
  | succ n ih =>
    unfold releaseOrders
    split
    · exact h
    · exact ih (releaseOrder_stays h _)

@[simp] theorem orderCut_stays : Stays r (orderCut s).roles := releaseOrders_stays _ h

@[simp] theorem commitForwarded_stays (x : Cmd) : Stays r (commitForwarded x s).roles := by
  have hc := coreOf_stays (r := r) (s := { s with hif := { s.hif with cmds := s.hif.cmds.erase x } }) (by simp [h]) x.op x.sub
  unfold commitForwarded
  dsimp only
  split
  · simp [h]
  · split
    · simp [h]
    · split
      · split
        · simp_all
        · split
          · exact h
          · simp_all
      · simp_all

@[simp] theorem sampleDeadline_stays : Stays r (sampleDeadline s).roles := by simp [sampleDeadline, h]
@[simp] theorem sharedCut_stays : Stays r (sharedCut s).roles := by simp [sharedCut, h]
@[simp] theorem advanceSn_stays : Stays r (advanceSn s).roles := by simp [advanceSn, h]
@[simp] theorem inputCut_stays (gp enc : List Word) (bad : BitVec 16) : Stays r (inputCut gp enc bad s).roles := by
  unfold inputCut
  extract_lets s1
  have h1 : Stays r s1.roles := by
    refine stays_congr (s := advanceSn (endSample (orderCut s))) (by simp [s1]) (advanceSn_stays ?_)
    simp [h]
  clear_value s1
  split
  · simp [h]
  · have h2 : Stays r (sharedCut (if halted s1 then winWritesCut s1 else planesCut s1)).roles :=
      sharedCut_stays (by simp [h1])
    exact orderCut_stays (by simpa using h2)

end

/-- The state after a command that may power the device down: the domains that lose their power hold no role. -/
theorem afterState_stays {s t : State} (h : Stays s.roles t.roles) : Stays s.roles (afterState s t).roles := by
  unfold afterState
  split
  · next hg =>
    have hc : (standbyDown t).ump.a.code = 0 := rfl
    refine ⟨fun hs => ?_, fun _ ⟨ha, _⟩ => absurd (hc.symm.trans ha) (by decide)⟩
    exact absurd (hg.2.symm.trans (h.1 hs)) (by decide)
  · exact h

end Sys2Proof.Machine
end

/-! The dispatch: every row but the resets keeps SAFE and the one ACTIVE plane. -/

section
namespace Sys2Proof.Machine

/-- From the roles r, the next state that an outcome gives, if any, neither leaves SAFE nor has a second ACTIVE plane. -/
def Admits (r : State) (o : Outcome) : Prop := ∀ t, o = .next t → Stays r t.roles

@[simp] theorem admits_next (r t : State) : Admits r (.next t) ↔ Stays r t.roles :=
  ⟨fun h => h t rfl, fun h _ e => by cases e; exact h⟩
@[simp] theorem admits_fault (r : State) (f : Fault) : Admits r (.fault f) := fun _ e => nomatch e
@[simp] theorem admits_ite (c : Prop) [Decidable c] (r : State) (x y : Outcome) (hx : Admits r x) (hy : Admits r y) :
    Admits r (if c then x else y) := by
  split
  · exact hx
  · exact hy
@[simp] theorem admits_guarded (r t : State) (b : Bool) (h : Stays r t.roles) : Admits r (guarded b t) := by
  simp [guarded, h]

/-- A host command does to the roles what its execution does. -/
theorem admits_hostCmd_of_stays (op : Nat) {core : Sub → State → OpOut} (c : Sub) (s : State)
    (h : ∀ u, Stays s.roles u.roles → Stays s.roles (core c u).state.roles) : Admits s.roles (hostCmd op core c s) :=
  (admits_next _ _).2 (submit_stays (stays_refl _) op c h)
@[simp] theorem admits_hostCmd (op : Nat) (core : Sub → State → OpOut) (c : Sub) (s : State)
    (h : ∀ u, (core c u).state.roles = u.roles) : Admits s.roles (hostCmd op core c s) :=
  admits_hostCmd_of_stays op c s fun u hu => stays_congr (h u) hu

@[simp] theorem admits_instrRow (w : DWord) (f : Plane → Plane) (s : State) : Admits s.roles (instrRow w f s) := by
  simp [instrRow]
@[simp] theorem admits_instrX (op lim x : Nat) (f : Nat → Plane → Plane) (s : State) : Admits s.roles (instrX op lim x f s) := by
  simp [instrX]
@[simp] theorem admits_instrW2 (op a b : Nat) (f : Nat → Nat → Plane → Plane) (s : State) :
    Admits s.roles (instrW2 op a b f s) := by
  simp [instrW2]
@[simp] theorem admits_qpRow (q : Nat) (f : State → State) (s : State) (h : ∀ u, (f u).roles = u.roles) :
    Admits s.roles (qpRow q f s) := by
  refine admits_guarded _ _ _ ?_
  split
  · rw [h]
    exact stays_refl _
  · exact stays_refl _
@[simp] theorem admits_winWrite (ok : Bool) (f : State → State) (s : State) (h : ∀ u, (f u).roles = u.roles) :
    Admits s.roles (winWrite ok f s) := by
  refine admits_guarded _ _ _ ?_
  split
  · exact stays_refl _
  · split
    · simp
    · rw [h]
      exact stays_refl _

/-! The sealed read and the restoration -/

@[simp] theorem loadSeal_base (s : State) : (loadSeal s).base = s.base := by
  unfold loadSeal
  split
  · simp
  · simp

@[simp] theorem sealedRead_roles (s : State) : (sealedRead s).roles = s.roles := by simp [sealedRead]
@[simp] theorem rcStable_roles (k : Nat) (s : State) : (rcStable k s).roles = s.roles := by simp [rcStable]

@[simp] theorem restoreOnce_base (k : Nat) (s : State) : (restoreOnce k s).base = s.base := by
  unfold restoreOnce
  dsimp only
  split
  · simp
  · split <;> simp

@[simp] theorem loadRestore_roles (k : Nat) (s : State) : (loadRestore k s).roles = s.roles := by simp [loadRestore]

/-! Rows that look before they act -/

theorem execTimedPlacement_admits (qp : Nat) (tag : BitVec 16) (s : State) : Admits s.roles (execTimedPlacement qp tag s) := by
  unfold execTimedPlacement
  split <;> simp

theorem execSwitchoverElection_admits (s : State) : Admits s.roles (execSwitchoverElection s) := by
  unfold execSwitchoverElection
  split <;> simp

theorem execEventPosting_admits (s : State) : Admits s.roles (execEventPosting s) := by
  unfold execEventPosting
  dsimp only
  split <;> simp

theorem execStoTestPulse_admits (pair : Nat) (ok : Bool) (s : State) : Admits s.roles (execStoTestPulse pair ok s) := by
  unfold execStoTestPulse
  split <;> simp

theorem execAiConversion_admits (ch : Nat) (codes : List Int) (parityBad : Bool) (s : State) :
    Admits s.roles (execAiConversion ch codes parityBad s) := by
  unfold execAiConversion
  dsimp only
  split <;> simp

theorem execCalHandover_admits (g diff : Nat) (s : State) : Admits s.roles (execCalHandover g diff s) := by
  unfold execCalHandover
  dsimp only
  split <;> simp

theorem execCalCoeffLoaded_admits (g : Nat) (coef : List (Int × Int)) (ok : Bool) (s : State) :
    Admits s.roles (execCalCoeffLoaded g coef ok s) := by
  unfold execCalCoeffLoaded
  dsimp only
  split <;> simp

theorem execAfeTestDone_admits (ch : Nat) (res : Word) (s : State) : Admits s.roles (execAfeTestDone ch res s) := by
  unfold execAfeTestDone
  split <;> simp

theorem execFrameDelivery_admits (p : Nat) (s : State) : Admits s.roles (execFrameDelivery p s) := by
  unfold execFrameDelivery
  dsimp only
  split <;> simp

theorem execPtpMessageReceive_admits (port : Nat) (m : PtpMsg) (s : State) : Admits s.roles (execPtpMessageReceive port m s) := by
  unfold execPtpMessageReceive
  dsimp only
  split
  · simp
  · split
    · simp
    · split
      · simp
      · split <;> simp

theorem execPtpMessageSend_admits (kind : Nat) (s : State) : Admits s.roles (execPtpMessageSend kind s) := by
  unfold execPtpMessageSend
  split <;> simp

theorem execCanTxComplete_admits (ch : Nat) (s : State) : Admits s.roles (execCanTxComplete ch s) := by
  unfold execCanTxComplete
  dsimp only
  split <;> simp

theorem execCanTxError_admits (ch : Nat) (s : State) : Admits s.roles (execCanTxError ch s) := by
  unfold execCanTxError
  dsimp only
  split <;> simp

theorem execCanArbitrationLost_admits (ch : Nat) (s : State) : Admits s.roles (execCanArbitrationLost ch s) := by
  unfold execCanArbitrationLost
  dsimp only
  split <;> simp

theorem execDroopFallback_admits (plane : Nat) (s : State) : Admits s.roles (execDroopFallback plane s) := by
  unfold execDroopFallback
  split <;> simp

theorem execLevelSettleExpiry_admits (plane : Nat) (s : State) : Admits s.roles (execLevelSettleExpiry plane s) := by
  unfold execLevelSettleExpiry
  dsimp only
  split
  · simp
  · split <;> simp

theorem execWindowRequestTimeout_admits (s : State) : Admits s.roles (execWindowRequestTimeout s) := by
  unfold execWindowRequestTimeout
  split <;> simp


theorem execSetState_admits (c : Sub) (s : State) : Admits s.roles (execSetState c s) :=
  (admits_next _ _).2 (afterState_stays (submit_stays (stays_refl _) 0x02 c fun _ h => opSetState_stays h c))

theorem execForwardedCommit_admits (qp : Nat) (fwd : Forwarded) (s : State) : Admits s.roles (execForwardedCommit qp fwd s) := by
  unfold execForwardedCommit
  refine admits_guarded _ _ _ ?_
  split
  · exact stays_refl _
  · refine afterState_stays (orderCut_stays ?_)
    split <;> simp

theorem execPlaneReady_admits (plane : Nat) (s : State) : Admits s.roles (execPlaneReady plane s) := by
  simp [execPlaneReady]

theorem execHeartbeatDeadline_admits (hbA hbB : Option Heartbeat) (s : State) :
    Admits s.roles (execHeartbeatDeadline hbA hbB s) := by
  simp [execHeartbeatDeadline]

theorem execSupplyTrip_admits (dom : Nat) (s : State) : Admits s.roles (execSupplyTrip dom s) := by
  refine admits_guarded _ _ _ ?_
  split
  · exact stays_refl _
  · exact supplyLost_stays (by simp) dom

theorem execFirmwareChecked_admits (plane : Nat) (found0 found1 : Bool) (s : State) :
    Admits s.roles (execFirmwareChecked plane found0 found1 s) := by
  refine admits_guarded _ _ _ ?_
  split
  · exact stays_refl _
  · exact fwSettle_stays (by simp)

/-- A wake starts from STANDBY only, and the end of an idle wake from IDLE only. -/
theorem execWakeTimerExpiry_admits (s : State) : Admits s.roles (execWakeTimerExpiry s) := by
  refine (admits_next _ _).2 ?_
  split
  · exact stays_refl _
  · next hg =>
    have hd : s.roles.dev ≠ .safe := by rw [dev_roles]; intro e; simp [e] at hg
    rw [enterStart_roles]
    exact stays_inState (q := s.roles) .start hd (stays_refl _)

theorem execIdleWakeCommit_admits (s : State) : Admits s.roles (execIdleWakeCommit s) := by
  refine (admits_next _ _).2 ?_
  split
  · exact stays_refl _
  · next hg =>
    have hd : s.roles.dev ≠ .safe := by rw [dev_roles]; intro e; simp [e] at hg
    have h1 : ({ wakeDram s with dev := .run, clock := { s.clock with idleWake := none } } : State).roles
        = inState .run s.roles := congrArg (inState .run) (by simp : (wakeDram s).roles = s.roles)
    dsimp only
    simp [h1, stays_inState .run hd (stays_refl _)]

/-- The rows that reset the device: the edges of PORST# and WARM_RST#, and the application of a warm reset. -/
def resets : Instr → Bool
  | .porstAssert | .porstRelease _ | .warmRstFall | .warmResetApply | .warmRstRelease _ => true
  | _ => false

/-- A row other than a reset keeps SAFE and the one ACTIVE plane. -/
theorem exec_admits (i : Instr) (s : State) (h : resets i = false) : Admits s.roles (exec i s) := by
  cases i with
  | nop c => simp [execNop]
  | identify c => simp [execIdentify]
  | setState c => exact execSetState_admits c s
  | abort c => simp [execAbort]
  | clkStatus c => simp [execClkStatus]
  | clkMeasure c => simp [execClkMeasure]
  | clkGate c => simp [execClkGate]
  | pwrStatus c => simp [execPwrStatus]
  | dvfsSet c => simp [execDvfsSet]
  | clkoutCfg c => simp [execClkoutCfg]
  | loopSetSp c => simp [execLoopSetSp]
  | loopSetOut c => simp [execLoopSetOut]
  | loopRead c => simp [execLoopRead]
  | loopSetMode c => simp [execLoopSetMode]
  | loopWrite c => simp [execLoopWrite]
  | boothStatus c => simp [execBoothStatus]
  | boothKeepAwake c => simp [execBoothKeepAwake]
  | modelLoad c => simp [execModelLoad]
  | modelReinit c => simp [execModelReinit]
  | testStart c => simp [execTestStart]
  | testStop c => simp [execTestStop]
  | testStatus c => simp [execTestStatus]
  | captRead c => simp [execCaptRead]
  | dispLoad c => simp [execDispLoad]
  | dispSetPrio c => simp [execDispSetPrio]
  | dispStatus c => simp [execDispStatus]
  | dispFlowStatus c => simp [execDispFlowStatus]
  | sessAdvance c => simp [execSessAdvance]
  | sessHold c => simp [execSessHold]
  | sessLoad c => simp [execSessLoad]
  | sessStart c => simp [execSessStart]
  | sessResume c => simp [execSessResume]
  | sessAbort c => simp [execSessAbort]
  | sessUnload c => simp [execSessUnload]
  | sessStatus c => simp [execSessStatus]
  | scanLoad c => simp [execScanLoad]
  | scanMode c => simp [execScanMode]
  | scanWrite c => simp [execScanWrite]
  | scanRead c => simp [execScanRead]
  | scanStatus c => simp [execScanStatus]
  | axConfig c => simp [execAxConfig]
  | axWrite c => simp [execAxWrite]
  | axEnable c => simp [execAxEnable]
  | axMove c => simp [execAxMove]
  | axStop c => simp [execAxStop]
  | axSetLimits c => simp [execAxSetLimits]
  | axHome c => simp [execAxHome]
  | axGear c => simp [execAxGear]
  | axGearSched c => simp [execAxGearSched]
  | axClear c => simp [execAxClear]
  | axRead c => simp [execAxRead]
  | safeStatus c => simp [execSafeStatus]
  | safeRequest c => simp [execSafeRequest]
  | safeReset c => simp [execSafeReset]
  | sconnStatus c => simp [execSconnStatus]
  | sealStage c => simp [execSealStage]
  | sealCommit c => simp [execSealCommit]
  | sealRead c => simp [execSealRead]
  | recConfig c => simp [execRecConfig]
  | recStream c => simp [execRecStream]
  | recStatus c => simp [execRecStatus]
  | recFetch c => simp [execRecFetch]
  | trigConfig c => simp [execTrigConfig]
  | trigCtrl c => simp [execTrigCtrl]
  | trigStatus c => simp [execTrigStatus]
  | maskLoad c => simp [execMaskLoad]
  | maskArm c => simp [execMaskArm]
  | maskStatus c => simp [execMaskStatus]
  | planeStatus c => simp [execPlaneStatus]
  | planeHealth c => simp [execPlaneHealth]
  | planeRestore c => simp [execPlaneRestore]
  | planeOffline c => exact admits_hostCmd_of_stays _ c s fun _ h => opPlaneOffline_stays h c
  | planeSwap c => exact admits_hostCmd_of_stays _ c s fun _ h => opPlaneSwap_stays h c
  | planeConfig c => simp [execPlaneConfig]
  | ledgerStatus c => simp [execLedgerStatus]
  | journalRead c => simp [execJournalRead]
  | fwStage c => simp [execFwStage]
  | fwSelect c => simp [execFwSelect]
  | memStatus c => simp [execMemStatus]
  | turnSet c => simp [execTurnSet]
  | turnRead c => simp [execTurnRead]
  | memScrub c => simp [execMemScrub]
  | aiConfig c => simp [execAiConfig]
  | afeSeq c => simp [execAfeSeq]
  | aoConfig c => simp [execAoConfig]
  | clConfig c => simp [execClConfig]
  | pwConfig c => simp [execPwConfig]
  | afeCal c => simp [execAfeCal]
  | afeTest c => simp [execAfeTest]
  | afeStatus c => simp [execAfeStatus]
  | afeMode c => simp [execAfeMode]
  | gpConfig c => simp [execGpConfig]
  | fpConfig c => simp [execFpConfig]
  | fpStation c => simp [execFpStation]
  | fpArm c => simp [execFpArm]
  | fpStatus c => simp [execFpStatus]
  | mgtConfig c => simp [execMgtConfig]
  | ptpConfig c => simp [execPtpConfig]
  | ptpStatus c => simp [execPtpStatus]
  | timeRead c => simp [execTimeRead]
  | timeStep c => simp [execTimeStep]
  | timeRate c => simp [execTimeRate]
  | timeCmp c => simp [execTimeCmp]
  | timeStatus c => simp [execTimeStatus]
  | canConfig c => simp [execCanConfig]
  | canFilter c => simp [execCanFilter]
  | canSignal c => simp [execCanSignal]
  | canSched c => simp [execCanSched]
  | canSend c => simp [execCanSend]
  | canCtrl c => simp [execCanCtrl]
  | canRxRead c => simp [execCanRxRead]
  | canStatus c => simp [execCanStatus]
  | evtRoute c => simp [execEvtRoute]
  | evtStatus c => simp [execEvtStatus]
  | evrRead c => simp [execEvrRead]
  | evrClear c => simp [execEvrClear]
  | obsCtrl c => simp [execObsCtrl]
  | obsRead c => simp [execObsRead]
  | lockChallenge c => simp [execLockChallenge]
  | lock c => simp [execLock]
  | qpEnable qp v => simp [execQpEnable]
  | qpDisable qp v => simp [execQpDisable]
  | qpSqTail qp v => simp [execQpSqTail]
  | qpCqHead qp v => simp [execQpCqHead]
  | qpRetryClear qp => simp [execQpRetryClear]
  | readClearCounter off => simp [execReadClearCounter]
  | evtCfgWrite src v => simp [execEvtCfgWrite]
  | evtAck src v => simp [execEvtAck]
  | dmaChResume ch pte => simp [execDmaChResume]
  | dmaChStop ch => simp [execDmaChStop]
  | xlatInvAll => simp [execXlatInvAll]
  | xlatInvPage page => simp [execXlatInvPage]
  | xlatInvDone => simp [execXlatInvDone]
  | registerWrite off wide v => simp [execRegisterWrite]
  | functionLevelReset => simp [execFunctionLevelReset]
  | linkDown => simp [execLinkDown]
  | linkUp rate width => simp [execLinkUp]
  | d3hotEntry => simp [execD3hotEntry]
  | d0Entry => simp [execD0Entry]
  | entryFetch qp words image => exact admits_guarded _ _ _ (orderCut_stays (fetchEntry_stays (stays_refl _) qp words image))
  | coalesceTimeout qp => simp [execCoalesceTimeout]
  | timedPlacement qp tag => exact execTimedPlacement_admits qp tag s
  | backlogEased => simp [execBacklogEased]
  | forwardedCommit qp fwd => exact execForwardedCommit_admits qp fwd s
  | inputCut gp enc bad => simp [execInputCut]
  | tokenDelivery loop port v q sn slot src bad => simp [execTokenDelivery]
  | taskFire booth => simp [execTaskFire]
  | loopExecution loop => simp [execLoopExecution]
  | coastLimitReached loop => simp [execCoastLimitReached]
  | staleLimitReached loop => simp [execStaleLimitReached]
  | sampleDeadline => simp [execSampleDeadline]
  | stepDurationDue sess => simp [execStepDurationDue]
  | triggerArmed eng => simp [execTriggerArmed]
  | triggerWindowComplete eng => simp [execTriggerWindowComplete]
  | outputCommit bad => simp [execOutputCommit]
  | signatureExchange => simp [execSignatureExchange]
  | checkRollVerdict okA okB => simp [execCheckRollVerdict]
  | heartbeatDeadline hbA hbB => exact execHeartbeatDeadline_admits hbA hbB s
  | planeResignation plane cls unit => simp [execPlaneResignation]
  | switchoverElection => exact execSwitchoverElection_admits s
  | healthReport plane arrived => simp [execHealthReport]
  | selfTestSlice plane pass => simp [execSelfTestSlice]
  | diagnosisPassed plane => simp [execDiagnosisPassed]
  | suspectTimeout plane => simp [execSuspectTimeout]
  | resyncCopyRound plane => simp [execResyncCopyRound]
  | resyncFinalCut plane => simp [execResyncFinalCut]
  | resyncComplete plane => simp [execResyncComplete]
  | resyncTimeout plane => simp [execResyncTimeout]
  | journalWrite ok => simp [execJournalWrite]
  | eventPosting => exact execEventPosting_admits s
  | eventRecordWrite ok => simp [execEventRecordWrite]
  | axisTick ax => simp [execAxisTick]
  | stallDeclared ax => simp [execStallDeclared]
  | safetyEvaluation => simp [execSafetyEvaluation]
  | discrepancyDemand ax => simp [execDiscrepancyDemand]
  | ss1TorqueOff ax => simp [execSs1TorqueOff]
  | stoTestPulse pair ok => exact execStoTestPulse_admits pair ok s
  | safetyPduReceive conn pdu => simp [execSafetyPduReceive]
  | safetyWatchdogExpiry conn => simp [execSafetyWatchdogExpiry]
  | safetyPduSend conn => simp [execSafetyPduSend]
  | scanCycleStart => simp [execScanCycleStart]
  | scanDeadline => simp [execScanDeadline]
  | scanShadowRead => simp [execScanShadowRead]
  | instrNop => simp [execInstrNop]
  | rung n => simp [execRung]
  | andBit a => simp [execAndBit]
  | andnBit a => simp [execAndnBit]
  | orBit a => simp [execOrBit]
  | ornBit a => simp [execOrnBit]
  | push => simp [execPush]
  | popand => simp [execPopand]
  | popor => simp [execPopor]
  | notRlo => simp [execNotRlo]
  | outBit a => simp [execOutBit]
  | setBit a => simp [execSetBit]
  | rstBit a => simp [execRstBit]
  | rEdge x => simp [execREdge]
  | fEdge x => simp [execFEdge]
  | ton x => simp [execTon]
  | tof x => simp [execTof]
  | tp x => simp [execTp]
  | tres x => simp [execTres]
  | ctu x => simp [execCtu]
  | ctd x => simp [execCtd]
  | cres x => simp [execCres]
  | cgt a b => simp [execCgt]
  | cge a b => simp [execCge]
  | clt a b => simp [execClt]
  | cle a b => simp [execCle]
  | ceq a b => simp [execCeq]
  | cne a b => simp [execCne]
  | lim lo x hi => simp [execLim]
  | mov a b => simp [execMov]
  | movi a imm => simp [execMovi]
  | holds x => simp [execHolds]
  | park x => simp [execPark]
  | force x => simp [execForce]
  | evt e code => simp [execEvt]
  | endProg => simp [execEndProg]
  | boothPowerDown group => simp [execBoothPowerDown]
  | boothWakeDone group => simp [execBoothWakeDone]
  | intervalClose booth => simp [execIntervalClose]
  | timeRecord => simp [execTimeRecord]
  | streamBurst head => simp [execStreamBurst]
  | dramGrant req ecc => simp [execDramGrant]
  | dramRefresh => simp [execDramRefresh]
  | memoryWatchdogBite => simp [execMemoryWatchdogBite]
  | scrubBlock ecc => simp [execScrubBlock]
  | dmaBurst err => simp [execDmaBurst]
  | translationWalk ch qp pte => simp [execTranslationWalk]
  | dmaSuspendTimeout ch => simp [execDmaSuspendTimeout]
  | aiConversion ch codes parityBad => exact execAiConversion_admits ch codes parityBad s
  | ne43Recovery ch => simp [execNe43Recovery]
  | injectedTrigger group at5ns codes => simp [execInjectedTrigger]
  | calRotationStart group => simp [execCalRotationStart]
  | calHandover group diff => exact execCalHandover_admits group diff s
  | calCoeffLoaded group coef ok => exact execCalCoeffLoaded_admits group coef ok s
  | afeTestDone ch res => exact execAfeTestDone_admits ch res s
  | clMeasure ch im lim => simp [execClMeasure]
  | complianceLost ch => simp [execComplianceLost]
  | complianceRestored ch => simp [execComplianceRestored]
  | clOpen ch => simp [execClOpen]
  | retransmitAlarm ch => simp [execRetransmitAlarm]
  | loopvMeasure v => simp [execLoopvMeasure]
  | aoOverload ch acting => simp [execAoOverload]
  | pwmPeriodStart ch => simp [execPwmPeriodStart]
  | frameReceive port f => simp [execFrameReceive]
  | frameDelivery port => exact execFrameDelivery_admits port s
  | outputFrameSend port => simp [execOutputFrameSend]
  | stationLost station => simp [execStationLost]
  | fieldLinkDown port => simp [execFieldLinkDown]
  | fieldLinkUp port => simp [execFieldLinkUp]
  | ptpMessageReceive port m => exact execPtpMessageReceive_admits port m s
  | ptpMessageSend kind => exact execPtpMessageSend_admits kind s
  | mgtLinkChange port up => simp [execMgtLinkChange]
  | timeCompareFire unit => simp [execTimeCompareFire]
  | canFrameReceive ch f tstamp => simp [execCanFrameReceive]
  | canSchedRelease ch slot => simp [execCanSchedRelease]
  | canTxComplete ch => exact execCanTxComplete_admits ch s
  | canTxError ch => exact execCanTxError_admits ch s
  | canArbitrationLost ch => exact execCanArbitrationLost_admits ch s
  | referenceMessage ch sent => simp [execReferenceMessage]
  | busOffRecovery ch => simp [execBusOffRecovery]
  | porstAssert => cases h
  | porstRelease x => cases h
  | warmRstFall => cases h
  | warmResetApply => cases h
  | warmRstRelease x => cases h
  | pwrfailAssert => simp [execPwrfailAssert]
  | checkpointShadowLatch => simp [execCheckpointShadowLatch]
  | checkpointValidMark ok => simp [execCheckpointValidMark]
  | pwrfailRelease => simp [execPwrfailRelease]
  | supplyTrip dom => exact execSupplyTrip_admits dom s
  | supplyRestored dom => simp [execSupplyRestored]
  | sealOpenAssert => simp [execSealOpenAssert]
  | sealOpenDeassert => simp [execSealOpenDeassert]
  | wakeTimerExpiry => exact execWakeTimerExpiry_admits s
  | idleWakeCommit => exact execIdleWakeCommit_admits s
  | crystalStable xtal => simp [execCrystalStable]
  | pllLock plane => simp [execPllLock]
  | firmwareChecked plane found0 found1 => exact execFirmwareChecked_admits plane found0 found1 s
  | selfTestDone plane pass => simp [execSelfTestDone]
  | planeReady plane => exact execPlaneReady_admits plane s
  | startupElection => simp [execStartupElection]
  | startupTimeout plane => simp [execStartupTimeout]
  | crystalStartTimeout plane => simp [execCrystalStartTimeout]
  | clockMonitorTrip plane pll cause => simp [execClockMonitorTrip]
  | sharedClockTrip src cause => simp [execSharedClockTrip]
  | clockSourceRecovered src => simp [execClockSourceRecovered]
  | tickAlignment delta trim => simp [execTickAlignment]
  | planeAligned plane => simp [execPlaneAligned]
  | tickPeriodCheck okA okB => simp [execTickPeriodCheck]
  | trimLimit plane => simp [execTrimLimit]
  | droopFallback plane => exact execDroopFallback_admits plane s
  | droopRelease => simp [execDroopRelease]
  | levelSettleExpiry plane => exact execLevelSettleExpiry_admits plane s
  | measurementDone ctr count timeout => simp [execMeasurementDone]
  | fieldLockExpiry => simp [execFieldLockExpiry]
  | nonceExpiry => simp [execNonceExpiry]
  | opsecWrite ok => simp [execOpsecWrite]
  | tapBypass bits n => simp [execTapBypass]
  | tapIdcode => simp [execTapIdcode]
  | tapSample => simp [execTapSample]
  | tapObsSel sel => simp [execTapObsSel]
  | tapObsData => simp [execTapObsData]
  | tapReset => simp [execTapReset]
  | winSpHi loop d => simp [execWinSpHi]
  | winSpLo loop d => simp [execWinSpLo]
  | winMoHi loop d => simp [execWinMoHi]
  | winMoLo loop d => simp [execWinMoLo]
  | winMode loop d => simp [execWinMode]
  | winClaim d => simp [execWinClaim]
  | winStart => simp [execWinStart]
  | winHold => simp [execWinHold]
  | winResume => simp [execWinResume]
  | winAdvance => simp [execWinAdvance]
  | winAbort => simp [execWinAbort]
  | windowStatusRead addr => simp [execWindowStatusRead]
  | windowRead addr => simp [execWindowRead]
  | windowRequestTimeout => exact execWindowRequestTimeout_admits s
  | rcStable src => simp [execRcStable]
  | pllLockTimeout plane => simp [execPllLockTimeout]
  | canIntegrationDone ch => simp [execCanIntegrationDone]
  | canReceiveError ch => simp [execCanReceiveError]
  | completionTimeout ch qp => simp [execCompletionTimeout]
  | ledgerReadBack ok => simp [execLedgerReadBack]
  | operatingSecond => simp [execOperatingSecond]

end Sys2Proof.Machine
end

/-! What a reset does to the roles, and the two invariants. -/

section
namespace Sys2Proof.Machine

theorem oneActive_roles (s : State) : s.roles.oneActive ↔ s.oneActive := Iff.rfl

theorem oneActive_of_roles {s t : State} (e : t.roles = s.roles) (h : s.oneActive) : t.oneActive := by
  rw [← oneActive_roles, e]
  exact h

theorem enterStart_oneActive (again : Bool) {s : State} (h : s.oneActive) : (enterStart again s).oneActive := by
  rw [← oneActive_roles, enterStart_roles]
  exact h

theorem oneActive_of_code {s : State} (h : s.ump.a.code = 0) : s.oneActive :=
  fun ⟨ha, _⟩ => absurd (h.symm.trans ha) (by decide)

/-- A reset takes both planes out of their roles (12 R381, R382). -/
theorem keepLdg_oneActive (s : State) : (keepLdg s).oneActive := oneActive_of_code rfl

theorem warmReset_oneActive (s : State) : (warmReset s).oneActive := by
  unfold warmReset
  dsimp only
  split
  · exact keepLdg_oneActive _
  · exact enterStart_oneActive false (keepLdg_oneActive _)

theorem porstRelease_oneActive (x : Straps) {s : State} (h : s.oneActive) : (porstRelease x s).oneActive := by
  unfold porstRelease
  dsimp only
  split
  · exact h
  · split
    · exact h
    · exact enterStart_oneActive false h

theorem warmRstRelease_oneActive (x : Straps) {s : State} (h : s.oneActive) : (warmRstRelease x s).oneActive := by
  unfold warmRstRelease
  dsimp only
  split
  · exact h
  · split
    · exact h
    · split
      · exact h
      · exact enterStart_oneActive false h

theorem warmRstFall_oneActive {s t : State} (h : s.oneActive) (he : execWarmRstFall s = .next t) : t.oneActive := by
  obtain rfl := next_inj he
  dsimp only
  split
  · exact h
  · split
    · exact h
    · split
      · exact h
      · split
        · exact oneActive_of_roles (by simp) h
        · exact warmReset_oneActive _

/-- A reset brings no second ACTIVE plane. -/
theorem exec_oneActive_of_resets {c : Instr} {s t : State} (hc : resets c = true) (h : s.oneActive)
    (he : exec c s = .next t) : t.oneActive := by
  cases c
  case porstAssert =>
    obtain rfl := next_inj he
    exact oneActive_of_code rfl
  case porstRelease x =>
    obtain ⟨-, rfl⟩ := guarded_next he
    exact porstRelease_oneActive x h
  case warmRstFall => exact warmRstFall_oneActive h he
  case warmResetApply =>
    obtain rfl := next_inj he
    split
    · exact warmReset_oneActive s
    · exact h
  case warmRstRelease x =>
    obtain ⟨-, rfl⟩ := guarded_next he
    exact warmRstRelease_oneActive x h
  all_goals cases hc

theorem exec_oneActive {c : Instr} {s t : State} (h : s.oneActive) (he : exec c s = .next t) : t.oneActive := by
  cases hc : resets c with
  | false => exact (exec_admits c s hc t he).2 h
  | true => exact exec_oneActive_of_resets hc h he

/-- Settles O43: over the rows; the one that makes a plane ACTIVE finds the other out of that role. -/
theorem everyStepKeepsOneActivePlane : Obligations.EveryStepKeepsOneActivePlane := by
  intro s t h he
  unfold step at he
  split at he
  · obtain rfl := next_inj he
    exact h
  · next c q _ => exact exec_oneActive (s := { s with pending := q }) h he

/-- Settles O46: over the rows other than resets, no operation leaves SAFE. -/
theorem onlyResetsLeaveSafe : Obligations.OnlyResetsLeaveSafe := by
  intro c s t hs he hne
  cases hc : resets c with
  | false => exact absurd ((exec_admits c s hc t he).1 hs) hne
  | true =>
    cases c
    case porstAssert => exact .inl rfl
    case porstRelease x => exact .inr (.inl ⟨x, rfl⟩)
    case warmRstFall => exact .inr (.inr (.inl rfl))
    case warmResetApply => exact .inr (.inr (.inr (.inl rfl)))
    case warmRstRelease x => exact .inr (.inr (.inr (.inr ⟨x, rfl⟩)))
    all_goals cases hc

end Sys2Proof.Machine
end

/-! The frame of the commands on shared blocks (01 R15, Table 1-1). -/

section
namespace Sys2Proof.Machine

/-- A host command leaves the bare device alone, or does to it what its execution does. -/
theorem submit_bare_or (op : Nat) (core : Sub → State → OpOut) (c : Sub) (s : State) :
    (submit op core c s).bare = s.bare
      ∨ ∃ u, u.bare = s.bare ∧ (submit op core c s).bare = (core c u).state.bare := by
  unfold submit
  dsimp only
  split
  · exact .inl (notFetched_bare s _)
  · split
    · exact .inl (by simp)
    · split
      · exact .inl (by simp)
      · split
        · exact .inl (by simp)
        · split
          · exact .inl (by simp)
          · unfold execEntry
            extract_lets u
            have hu : u.bare = s.bare := consumed_bare _ c
            clear_value u
            split
            · exact .inl (by rw [complete_bare, hu])
            · split
              · exact .inl (by rw [complete_bare, hu])
              · exact .inr ⟨u, hu, finish_bare op c _⟩

theorem submit_base {op : Nat} {core : Sub → State → OpOut} (h : ∀ c u, (core c u).state.base = u.base) (c : Sub)
    (s : State) : (submit op core c s).base = s.base := by
  obtain e | ⟨u, hu, e⟩ := submit_bare_or op core c s
  · exact congrArg State.planesPart e
  · calc (submit op core c s).base = (core c u).state.base := congrArg State.planesPart e
      _ = u.base := h c u
      _ = s.base := congrArg State.planesPart hu

theorem planes_of_base {s t : State} (h : t.base = s.base) : t.planeA = s.planeA ∧ t.planeB = s.planeB :=
  ⟨(congrArg State.planeA h :), (congrArg State.planeB h :)⟩

theorem planeOf_of_base {s t : State} (h : t.base = s.base) (k : Nat) : planeOf t k = planeOf s k := by
  obtain ⟨ha, hb⟩ := planes_of_base h
  unfold planeOf
  rw [ha, hb]

/-- The command of a row changes neither plane. -/
def KeepsPlanes (row : Sub → Instr) : Prop :=
  ∀ c s t, exec (row c) s = .next t → t.planeA = s.planeA ∧ t.planeB = s.planeB

theorem keepsPlanes_of_core {row : Sub → Instr} {op : Nat} {core : Sub → State → OpOut}
    (he : ∀ c s, exec (row c) s = hostCmd op core c s) (h : ∀ c u, (core c u).state.base = u.base) : KeepsPlanes row := by
  intro c s t ht
  obtain rfl := next_inj ((he c s).symm.trans ht)
  exact planes_of_base (submit_base h c s)

/-! The rows, by block of opcodes -/

theorem keepsPlanes_hostRowsFront : ∀ row ∈ hostRowsFront, row.1 ∈ sharedOps → KeepsPlanes row.2 := by
  simp only [hostRowsFront, List.forall_mem_cons, List.not_mem_nil, false_implies, implies_true, and_true]
  exact ⟨fun _ => keepsPlanes_of_core (fun _ _ => rfl) opNop_base,
    fun _ => keepsPlanes_of_core (fun _ _ => rfl) opIdentify_base,
    fun h => absurd h (by decide),
    fun _ => keepsPlanes_of_core (fun _ _ => rfl) opAbort_base,
    fun _ => keepsPlanes_of_core (fun _ _ => rfl) opClkStatus_base,
    fun _ => keepsPlanes_of_core (fun _ _ => rfl) opClkMeasure_base,
    fun _ => keepsPlanes_of_core (fun _ _ => rfl) opClkGate_base,
    fun _ => keepsPlanes_of_core (fun _ _ => rfl) opPwrStatus_base,
    fun _ => keepsPlanes_of_core (fun _ _ => rfl) opDvfsSet_base,
    fun _ => keepsPlanes_of_core (fun _ _ => rfl) opClkoutCfg_base,
    fun h => absurd h (by decide),
    fun h => absurd h (by decide),
    fun _ => keepsPlanes_of_core (fun _ _ => rfl) opLoopRead_base,
    fun h => absurd h (by decide),
    fun h => absurd h (by decide),
    fun _ => keepsPlanes_of_core (fun _ _ => rfl) opBoothStatus_base,
    fun h => absurd h (by decide)⟩

theorem keepsPlanes_hostRowsLoops : ∀ row ∈ hostRowsLoops, row.1 ∈ sharedOps → KeepsPlanes row.2 := by
  simp only [hostRowsLoops, List.forall_mem_cons, List.not_mem_nil, false_implies, implies_true, and_true]
  exact ⟨fun h => absurd h (by decide),
    fun h => absurd h (by decide),
    fun h => absurd h (by decide),
    fun h => absurd h (by decide),
    fun _ => keepsPlanes_of_core (fun _ _ => rfl) opTestStatus_base,
    fun _ => keepsPlanes_of_core (fun _ _ => rfl) opCaptRead_base,
    fun h => absurd h (by decide),
    fun h => absurd h (by decide),
    fun _ => keepsPlanes_of_core (fun _ _ => rfl) opDispStatus_base,
    fun _ => keepsPlanes_of_core (fun _ _ => rfl) opDispFlowStatus_base⟩

theorem keepsPlanes_hostRowsRecipe : ∀ row ∈ hostRowsRecipe, row.1 ∈ sharedOps → KeepsPlanes row.2 := by
  simp only [hostRowsRecipe, List.forall_mem_cons, List.not_mem_nil, false_implies, implies_true, and_true]
  exact ⟨fun h => absurd h (by decide),
    fun h => absurd h (by decide),
    fun h => absurd h (by decide),
    fun h => absurd h (by decide),
    fun h => absurd h (by decide),
    fun h => absurd h (by decide),
    fun h => absurd h (by decide),
    fun _ => keepsPlanes_of_core (fun _ _ => rfl) opSessStatus_base,
    fun h => absurd h (by decide),
    fun h => absurd h (by decide),
    fun h => absurd h (by decide),
    fun _ => keepsPlanes_of_core (fun _ _ => rfl) opScanRead_base,
    fun _ => keepsPlanes_of_core (fun _ _ => rfl) opScanStatus_base⟩

theorem keepsPlanes_hostRowsMotion : ∀ row ∈ hostRowsMotion, row.1 ∈ sharedOps → KeepsPlanes row.2 := by
  simp only [hostRowsMotion, List.forall_mem_cons, List.not_mem_nil, false_implies, implies_true, and_true]
  exact ⟨fun h => absurd h (by decide),
    fun h => absurd h (by decide),
    fun h => absurd h (by decide),
    fun h => absurd h (by decide),
    fun h => absurd h (by decide),
    fun h => absurd h (by decide),
    fun h => absurd h (by decide),
    fun h => absurd h (by decide),
    fun h => absurd h (by decide),
    fun h => absurd h (by decide),
    fun _ => keepsPlanes_of_core (fun _ _ => rfl) opAxRead_base,
    fun _ => keepsPlanes_of_core (fun _ _ => rfl) opSafeStatus_base,
    fun h => absurd h (by decide),
    fun h => absurd h (by decide),
    fun _ => keepsPlanes_of_core (fun _ _ => rfl) opSconnStatus_base,
    fun _ => keepsPlanes_of_core (fun _ _ => rfl) opSealStage_base,
    fun _ => keepsPlanes_of_core (fun _ _ => rfl) opSealCommit_base,
    fun _ => keepsPlanes_of_core (fun _ _ => rfl) opSealRead_base⟩

theorem keepsPlanes_hostRowsRecord : ∀ row ∈ hostRowsRecord, row.1 ∈ sharedOps → KeepsPlanes row.2 := by
  simp only [hostRowsRecord, List.forall_mem_cons, List.not_mem_nil, false_implies, implies_true, and_true]
  exact ⟨fun _ => keepsPlanes_of_core (fun _ _ => rfl) opRecConfig_base,
    fun _ => keepsPlanes_of_core (fun _ _ => rfl) opRecStream_base,
    fun _ => keepsPlanes_of_core (fun _ _ => rfl) opRecStatus_base,
    fun _ => keepsPlanes_of_core (fun _ _ => rfl) opRecFetch_base,
    fun h => absurd h (by decide),
    fun h => absurd h (by decide),
    fun _ => keepsPlanes_of_core (fun _ _ => rfl) opTrigStatus_base,
    fun h => absurd h (by decide),
    fun h => absurd h (by decide),
    fun _ => keepsPlanes_of_core (fun _ _ => rfl) opMaskStatus_base⟩

theorem keepsPlanes_hostRowsPlanes : ∀ row ∈ hostRowsPlanes, row.1 ∈ sharedOps → KeepsPlanes row.2 := by
  simp only [hostRowsPlanes, List.forall_mem_cons, List.not_mem_nil, false_implies, implies_true, and_true]
  exact ⟨fun _ => keepsPlanes_of_core (fun _ _ => rfl) opPlaneStatus_base,
    fun _ => keepsPlanes_of_core (fun _ _ => rfl) opPlaneHealth_base,
    fun _ => keepsPlanes_of_core (fun _ _ => rfl) opPlaneRestore_base,
    fun h => absurd h (by decide),
    fun h => absurd h (by decide),
    fun _ => keepsPlanes_of_core (fun _ _ => rfl) opPlaneConfig_base,
    fun _ => keepsPlanes_of_core (fun _ _ => rfl) opLedgerStatus_base,
    fun _ => keepsPlanes_of_core (fun _ _ => rfl) opJournalRead_base,
    fun _ => keepsPlanes_of_core (fun _ _ => rfl) opFwStage_base,
    fun _ => keepsPlanes_of_core (fun _ _ => rfl) opFwSelect_base,
    fun _ => keepsPlanes_of_core (fun _ _ => rfl) opMemStatus_base,
    fun _ => keepsPlanes_of_core (fun _ _ => rfl) opTurnSet_base,
    fun _ => keepsPlanes_of_core (fun _ _ => rfl) opTurnRead_base,
    fun _ => keepsPlanes_of_core (fun _ _ => rfl) opMemScrub_base⟩

theorem keepsPlanes_hostRowsAnalog : ∀ row ∈ hostRowsAnalog, row.1 ∈ sharedOps → KeepsPlanes row.2 := by
  simp only [hostRowsAnalog, List.forall_mem_cons, List.not_mem_nil, false_implies, implies_true, and_true]
  exact ⟨fun _ => keepsPlanes_of_core (fun _ _ => rfl) opAiConfig_base,
    fun _ => keepsPlanes_of_core (fun _ _ => rfl) opAfeSeq_base,
    fun _ => keepsPlanes_of_core (fun _ _ => rfl) opAoConfig_base,
    fun h => absurd h (by decide),
    fun _ => keepsPlanes_of_core (fun _ _ => rfl) opPwConfig_base,
    fun _ => keepsPlanes_of_core (fun _ _ => rfl) opAfeCal_base,
    fun _ => keepsPlanes_of_core (fun _ _ => rfl) opAfeTest_base,
    fun _ => keepsPlanes_of_core (fun _ _ => rfl) opAfeStatus_base,
    fun _ => keepsPlanes_of_core (fun _ _ => rfl) opAfeMode_base,
    fun h => absurd h (by decide)⟩

theorem keepsPlanes_hostRowsField : ∀ row ∈ hostRowsField, row.1 ∈ sharedOps → KeepsPlanes row.2 := by
  simp only [hostRowsField, List.forall_mem_cons, List.not_mem_nil, false_implies, implies_true, and_true]
  exact ⟨fun _ => keepsPlanes_of_core (fun _ _ => rfl) opFpConfig_base,
    fun _ => keepsPlanes_of_core (fun _ _ => rfl) opFpStation_base,
    fun _ => keepsPlanes_of_core (fun _ _ => rfl) opFpArm_base,
    fun _ => keepsPlanes_of_core (fun _ _ => rfl) opFpStatus_base,
    fun _ => keepsPlanes_of_core (fun _ _ => rfl) opMgtConfig_base,
    fun _ => keepsPlanes_of_core (fun _ _ => rfl) opPtpConfig_base,
    fun _ => keepsPlanes_of_core (fun _ _ => rfl) opPtpStatus_base,
    fun _ => keepsPlanes_of_core (fun _ _ => rfl) opTimeRead_base,
    fun h => absurd h (by decide),
    fun h => absurd h (by decide),
    fun _ => keepsPlanes_of_core (fun _ _ => rfl) opTimeCmp_base,
    fun _ => keepsPlanes_of_core (fun _ _ => rfl) opTimeStatus_base⟩

theorem keepsPlanes_hostRowsBus : ∀ row ∈ hostRowsBus, row.1 ∈ sharedOps → KeepsPlanes row.2 := by
  simp only [hostRowsBus, List.forall_mem_cons, List.not_mem_nil, false_implies, implies_true, and_true]
  exact ⟨fun _ => keepsPlanes_of_core (fun _ _ => rfl) opCanConfig_base,
    fun _ => keepsPlanes_of_core (fun _ _ => rfl) opCanFilter_base,
    fun _ => keepsPlanes_of_core (fun _ _ => rfl) opCanSignal_base,
    fun _ => keepsPlanes_of_core (fun _ _ => rfl) opCanSched_base,
    fun _ => keepsPlanes_of_core (fun _ _ => rfl) opCanSend_base,
    fun _ => keepsPlanes_of_core (fun _ _ => rfl) opCanCtrl_base,
    fun _ => keepsPlanes_of_core (fun _ _ => rfl) opCanRxRead_base,
    fun _ => keepsPlanes_of_core (fun _ _ => rfl) opCanStatus_base,
    fun _ => keepsPlanes_of_core (fun _ _ => rfl) opEvtRoute_base,
    fun _ => keepsPlanes_of_core (fun _ _ => rfl) opEvtStatus_base,
    fun _ => keepsPlanes_of_core (fun _ _ => rfl) opEvrRead_base,
    fun _ => keepsPlanes_of_core (fun _ _ => rfl) opEvrClear_base,
    fun _ => keepsPlanes_of_core (fun _ _ => rfl) opObsCtrl_base,
    fun _ => keepsPlanes_of_core (fun _ _ => rfl) opObsRead_base,
    fun _ => keepsPlanes_of_core (fun _ _ => rfl) opLockChallenge_base,
    fun h => absurd h (by decide)⟩

theorem keepsPlanes_hostRows : ∀ row ∈ hostRows, row.1 ∈ sharedOps → KeepsPlanes row.2 := by
  simp only [hostRows, List.forall_mem_append]
  exact ⟨⟨⟨⟨⟨⟨⟨⟨keepsPlanes_hostRowsFront, keepsPlanes_hostRowsLoops⟩, keepsPlanes_hostRowsRecipe⟩,
    keepsPlanes_hostRowsMotion⟩, keepsPlanes_hostRowsRecord⟩, keepsPlanes_hostRowsPlanes⟩, keepsPlanes_hostRowsAnalog⟩,
    keepsPlanes_hostRowsField⟩, keepsPlanes_hostRowsBus⟩

/-! CL_CONFIG may discard an output value in the planes (14 R448). -/

/-- A plane without the value addressed to retransmit channel k. -/
def withoutValue (k : Nat) (p : Plane) : Plane :=
  { p with fab := { p.fab with outReg := p.fab.outReg.filter fun x => x.1 != 32 + k } }

theorem planeOf_onPlanes_or (f : Plane → Plane) (s : State) (k : Nat) :
    planeOf (onPlanes f s) k = planeOf s k ∨ planeOf (onPlanes f s) k = f (planeOf s k) := by
  unfold planeOf onPlanes
  dsimp only
  split <;> split <;> simp

theorem opClConfig_base_or (c : Sub) (s : State) :
    (opClConfig c s).state.base = s.base ∨ (opClConfig c s).state.base = (clFresh c.target s).base := by
  unfold opClConfig
  extract_lets w x s1
  have h1 : s1 = clFresh c.target s ∨ s1 = s := by
    unfold s1
    split
    · exact .inl rfl
    · exact .inr rfl
  clear_value s1
  split
  · exact .inl (by simp)
  · split
    · exact .inl (by simp)
    · obtain rfl | rfl := h1
      · exact .inr (by rw [okSn_base, alarmEnds_base, setCl_base])
      · exact .inl (by rw [okSn_base, alarmEnds_base, setCl_base])

theorem planeOf_opClConfig_or (c : Sub) (s : State) (k : Nat) :
    planeOf (opClConfig c s).state k = planeOf s k
      ∨ planeOf (opClConfig c s).state k = withoutValue c.target (planeOf s k) := by
  obtain e | e := opClConfig_base_or c s
  · exact .inl (planeOf_of_base e k)
  · rw [planeOf_of_base e]
    exact planeOf_onPlanes_or (withoutValue c.target) s k

/-! TIME_STEP and TIME_RATE act in the planes on their device time (15 R481, R484). -/

/-- The planes but for their device time. -/
def State.untimed (s : State) : State := onClks (fun _ => {}) s.base

theorem untimed_of_base {s t : State} (h : t.base = s.base) : t.untimed = s.untimed := congrArg (onClks fun _ => {}) h

theorem onClks_untimed (f : PlaneTime → PlaneTime) (s : State) : (onClks f s).untimed = s.untimed := rfl

theorem stepTime_untimed (d : Int) (s : State) : (stepTime d s).untimed = s.untimed :=
  calc (stepTime d s).untimed = (onClks _ (setTime { s.field.time with stepUsed := true } s)).untimed :=
        untimed_of_base ((cmpsAtCut_base _).trans (congrArg State.planesPart (raise_bare ..)))
    _ = s.untimed := rfl

theorem rateTime_untimed (r : Word) (s : State) : (rateTime r s).untimed = s.untimed := by
  unfold rateTime
  extract_lets x
  calc (raise 0x18A 2 _).untimed = (setTime { x with rate := r } (onClks _ s)).untimed :=
        untimed_of_base (congrArg State.planesPart (raise_bare ..))
    _ = s.untimed := rfl

theorem opTimeStep_untimed (c : Sub) (s : State) : (opTimeStep c s).state.untimed = s.untimed := by
  unfold opTimeStep
  split
  · exact untimed_of_base (by simp)
  · split
    · exact untimed_of_base (by simp)
    · exact stepTime_untimed _ s

theorem opTimeRate_untimed (c : Sub) (s : State) : (opTimeRate c s).state.untimed = s.untimed := by
  unfold opTimeRate
  split
  · exact untimed_of_base (by simp)
  · exact rateTime_untimed _ s

theorem submit_untimed {op : Nat} {core : Sub → State → OpOut} (h : ∀ c u, (core c u).state.untimed = u.untimed)
    (c : Sub) (s : State) : (submit op core c s).untimed = s.untimed := by
  obtain e | ⟨u, hu, e⟩ := submit_bare_or op core c s
  · exact untimed_of_base (congrArg State.planesPart e)
  · calc (submit op core c s).untimed = (core c u).state.untimed := untimed_of_base (congrArg State.planesPart e)
      _ = u.untimed := h c u
      _ = s.untimed := untimed_of_base (congrArg State.planesPart hu)

theorem planeOf_untimed (s : State) (k : Nat) : planeOf s.untimed k = { planeOf s k with clk := {} } := by
  unfold planeOf
  split <;> rfl

theorem planeOf_of_untimed {s t : State} (h : t.untimed = s.untimed) (k : Nat) :
    { planeOf t k with clk := (planeOf s k).clk } = planeOf s k := by
  have e : ({ planeOf t k with clk := {} } : Plane) = { planeOf s k with clk := {} } := by
    rw [← planeOf_untimed, ← planeOf_untimed, h]
  exact (congrArg (fun p : Plane => { p with clk := (planeOf s k).clk }) e :)

/-- Settles O58: the rows of the shared commands by their operations; then CL_CONFIG, and the two commands of time. -/
theorem sharedCommandsKeepThePlanes : Obligations.SharedCommandsKeepThePlanes := by
  refine ⟨fun row hr ho c s t => keepsPlanes_hostRows row hr ho c s t, fun c s t ht k _ => ?_, fun c s t ht k _ => ?_⟩
  · obtain rfl := next_inj ht
    obtain e | ⟨u, hu, e⟩ := submit_bare_or 0xC3 opClConfig c s
    · exact .inl (planeOf_of_base (congrArg State.planesPart e) k)
    · rw [planeOf_of_base (congrArg State.planesPart e), ← planeOf_of_base (congrArg State.planesPart hu)]
      exact planeOf_opClConfig_or c u k
  · obtain ht | ht := ht
    · obtain rfl := next_inj ht
      exact planeOf_of_untimed (submit_untimed opTimeStep_untimed c s) k
    · obtain rfl := next_inj ht
      exact planeOf_of_untimed (submit_untimed opTimeRate_untimed c s) k

end Sys2Proof.Machine
end

/-! The frame of the plane commands, which the write window breaks (19 R575). -/

section
namespace Sys2Proof.Machine

/-- A running device, its first queue enabled, with a window write of the value 7 to the set point of loop 0 that waits for
the cut. -/
def windowWriteWaits : State :=
  { dev := .run, sn := 100
    hif := { linkUp := true, linkRate := 16, linkWidth := 4, qps := [(0, { ctrl := 0x4401 })] }
    boot := { porst := false, preTick := false, firstCommit := true }
    ump := { a := { code := 1 }, b := { code := 2, agreed := true } }
    sealed := { read := true }
    clock := { powered := (upTo 20).map fun d => (d, true) }
    window := { writes := [(0, 0, 7)] } }

/-- The placement of a LOOP_SET_SP of loop 0 marks the waiting write of that set point as replaced. -/
theorem window_writes_loopSetSp :
    (submit 0x10 opLoopSetSp { params := [5] } windowWriteWaits).window.writes = [(0, 3, 7)] := by
  decide +kernel

/-- Refutes O57: a LOOP_SET_SP of loop 0 places its token after the waiting window write, which the placement replaces
(19 R575), so that the queue of the window changes with the planes. -/
theorem not_planeCommandsKeepTheSharedBlocks : ¬ Obligations.PlaneCommandsKeepTheSharedBlocks := by
  intro h
  have hrow : (0x10, Instr.loopSetSp) ∈ hostRows := by simp [hostRows, hostRowsFront]
  have frame := h _ hrow (by decide) { params := [5] } windowWriteWaits _ rfl
  have kept : (submit 0x10 opLoopSetSp { params := [5] } windowWriteWaits).window.writes = [(0, 0, 7)] :=
    congrArg (fun u : State => u.window.writes) frame
  exact absurd (window_writes_loopSetSp.symm.trans kept) (by decide)

end Sys2Proof.Machine
end

/-! The rows of the output commit and of the posting (01 R19, 17 R516). -/

section
namespace Sys2Proof.Machine

/-- No block stops a commit whose channels all exist. -/
theorem channels_exist {bad : List Nat} (h : (bad.all fun c => decide (c < 4352)) = true) :
    (bad.any fun c => decide (4352 ≤ c)) = false := by
  rw [List.all_eq_true] at h
  rw [List.any_eq_false]
  intro c hc
  have := of_decide_eq_true (h c hc)
  simpa using this

theorem commits_eq_true {s : State} (ho : s.dev ≠ .off) (hs : s.dev ≠ .standby) (ht : s.boot.preTick = false) :
    commits s = true := by
  simp [commits, ho, hs, ht]

/-- The commit in a state that drives outputs: the first one writes the safe registers and demands before it. -/
theorem execOutputCommit_eq {bad : List Nat} {s : State} (hb : (bad.all fun c => decide (c < 4352)) = true)
    (hc : commits s = true) :
    execOutputCommit bad s
      = .next (commitAll bad (if s.boot.firstCommit then s else forEach (upTo 8) gridOrigin (firstCommit s))) := by
  simp [execOutputCommit, channels_exist hb, hc]

/-- Settles O23: the commit by whether a first one has been made, the posting by whether the umpire decides. -/
theorem commitAndPostingRowsTakeEffect : Obligations.CommitAndPostingRowsTakeEffect := by
  intro s
  refine ⟨fun bad hb ho hs ht => ?_, fun h => ?_, fun n h => ?_⟩
  · have he := execOutputCommit_eq hb (commits_eq_true ho hs ht)
    refine ⟨fun hf => he.trans ?_, fun hf => he.trans ?_⟩
    · rw [if_pos hf]
    · rw [hf]
      rfl
  · show execEventPosting s = _
    simp only [execEventPosting, h]
  · show execEventPosting s = _
    simp only [execEventPosting, h]

end Sys2Proof.Machine
end

/-! The fence of the voltage outputs (01 R22): what the stage decides on a channel rests on the channel's own entries and on
nothing else that a commit changes. -/

section
namespace Sys2Proof.Machine

theorem forEach_keeps_of_mem {β : Type} (g : σ → β) (l : List α) (f : α → σ → σ) (s : σ)
    (h : ∀ a ∈ l, ∀ u, g (f a u) = g u) : g (forEach l f s) = g s := by
  unfold forEach
  induction l generalizing s with
  | nil => rfl
  | cons b l ih =>
    obtain ⟨hb, hl⟩ := List.forall_mem_cons.1 h
    exact (ih _ hl).trans (hb s)

/-- Where every other element leaves g alone, a run over a list without repetition does to g what the one element does. -/
theorem forEach_once {β : Type} (g : σ → β) {l : List α} (f : α → σ → σ) {a : α} (hn : l.Nodup) (ha : a ∈ l)
    (h : ∀ b, b ≠ a → ∀ u, g (f b u) = g u) (s : σ) : ∃ u, g u = g s ∧ g (forEach l f s) = g (f a u) := by
  induction l generalizing s with
  | nil => cases ha
  | cons b l ih =>
    obtain ⟨hb, hl⟩ := List.nodup_cons.1 hn
    rcases List.mem_cons.1 ha with rfl | ha
    · exact ⟨s, rfl, forEach_keeps_of_mem g l f _ fun b hm => h b (ne_of_mem_of_not_mem hm hb)⟩
    · obtain ⟨u, hu, e⟩ := ih hl ha (f b s)
      exact ⟨u, hu.trans (h b (ne_of_mem_of_not_mem ha hb).symm s), e⟩

/-! The entries of one channel -/

/-- The device as the stage sees it when it decides on channel c: of its tables, the entries of that channel alone. -/
def State.atChan (c : Nat) (s : State) : State :=
  { dev := s.dev, planeA := s.planeA, planeB := s.planeB, ump := s.ump, sealed := s.sealed
    outs := {
      chan := [(c, tget 0 s.outs.chan c)], have_ := [(c, tget false s.outs.have_ c)]
      fenced := [(c, tget false s.outs.fenced c)], heldRun := [(c, tget 0 s.outs.heldRun c)], afeOff := s.outs.afeOff } }

theorem tget_single (d : α) (k : Nat) (v : α) : tget d [(k, v)] k = v := if_pos rfl

theorem atChan_of_bare {s t : State} (c : Nat) (h : t.bare = s.bare) : t.atChan c = s.atChan c :=
  (congrArg (State.atChan c) h :)

theorem chan_of_atChan {s t : State} {c : Nat} (h : t.atChan c = s.atChan c) :
    tget 0 t.outs.chan c = tget 0 s.outs.chan c ∧ tget false t.outs.fenced c = tget false s.outs.fenced c := by
  have ho := congrArg State.outs h
  exact ⟨by simpa [State.atChan, tget_single] using congrArg (fun o : Outs => tget 0 o.chan c) ho,
    by simpa [State.atChan, tget_single] using congrArg (fun o : Outs => tget false o.fenced c) ho⟩

/-- A voltage output's value is decided on its own entries (R19 to R26). -/
theorem commitValueB_atChan (bad : Bool) (s : State) (p : Plane) {c : Nat} (hc : c < 32) :
    commitValueB bad (s.atChan c) p c = commitValueB bad s p c := by
  have hw : wanted (s.atChan c) p c = wanted s p c := by
    simp [wanted, show ¬ 32 ≤ c by omega, show ¬ 128 ≤ c by omega]
  have hl : lateHold (s.atChan c) p c = lateHold s p c := by simp [lateHold, State.atChan, tget_single]
  have hk : committed (s.atChan c) c = committed s c := by simp [committed, State.atChan, tget_single]
  have hh : tget false (s.atChan c).outs.have_ c = tget false s.outs.have_ c := tget_single ..
  have hcl : decide (32 ≤ c) = false := by simpa using hc
  simp only [commitValueB, hw, hl, hk, hh, hcl, Bool.false_and]
  rfl

/-! The commit of a channel -/

theorem driveChan_outs (c : Nat) (u : Word) (s : State) : (driveChan c u s).outs = s.outs := by
  unfold driveChan
  split
  · rfl
  · split <;> rfl

theorem driveChan_atChan (k c : Nat) (u : Word) (s : State) : (driveChan k u s).atChan c = s.atChan c := by
  unfold driveChan
  split
  · rfl
  · split <;> rfl

theorem stally_ite_atChan (b : Prop) [Decidable b] (k n c : Nat) (s : State) :
    (if b then stally k n s else s).atChan c = s.atChan c := by
  split <;> rfl

/-- The commit of a channel leaves the entries of every other. -/
theorem commitChan_atChan_of_ne (bad : List Nat) (p : Plane) {k c : Nat} (h : k ≠ c) (s : State) :
    (commitChan bad p k s).atChan c = s.atChan c := by
  unfold commitChan
  extract_lets r o s1
  rw [driveChan_atChan, stally_ite_atChan]
  simp only [s1, o, State.atChan, setOuts, tget_tset_ne _ _ _ _ _ h]

theorem commitChan_chan (bad : List Nat) (p : Plane) (c : Nat) (s : State) :
    tget 0 (commitChan bad p c s).outs.chan c = (commitValueB (bad.contains c) s p c).1
      ∧ tget false (commitChan bad p c s).outs.fenced c = (commitValueB (bad.contains c) s p c).2.1 := by
  unfold commitChan
  extract_lets r o s1
  have e : (if r.2.2 then stally 0x81 1 s1 else s1).outs = s1.outs := by split <;> rfl
  simp only [driveChan_outs, e]
  exact ⟨tget_tset_self .., tget_tset_self ..⟩

/-- The stage serves the pins' channels first, and after them only channels of station entries. -/
theorem servedChans_eq (s : State) : ∃ l, servedChans s = upTo 128 ++ l ∧ ∀ c ∈ l, 128 ≤ c := by
  refine ⟨_, rfl, fun c hm => ?_⟩
  rw [List.mem_eraseDups, List.mem_append] at hm
  rcases hm with hm | hm
  · obtain ⟨x, -, hx⟩ := List.mem_flatMap.1 hm
    split at hx
    · obtain ⟨i, -, rfl⟩ := List.mem_map.1 hx
      omega
    · cases hx
  · exact of_decide_eq_true (List.mem_filter.1 hm).2

/-- Of the channels served, a pin's is committed once. -/
theorem commitChans_chan (bad : List Nat) (p : Plane) {c : Nat} (hc : c < 32) (s : State) :
    tget 0 (forEach (servedChans s) (commitChan bad p) s).outs.chan c = (commitValueB (bad.contains c) s p c).1
      ∧ tget false (forEach (servedChans s) (commitChan bad p) s).outs.fenced c
        = (commitValueB (bad.contains c) s p c).2.1 := by
  obtain ⟨u, hu, e⟩ := forEach_once (State.atChan c) (commitChan bad p) (l := upTo 128) (a := c) List.nodup_range
    (List.mem_range.2 (by omega)) (fun b hb u => commitChan_atChan_of_ne bad p hb u) s
  have hrest : (forEach (servedChans s) (commitChan bad p) s).atChan c = (commitChan bad p c u).atChan c := by
    obtain ⟨l, hl, h128⟩ := servedChans_eq s
    rw [← e, hl]
    unfold forEach
    rw [List.foldl_append]
    refine forEach_keeps_of_mem (State.atChan c) l (commitChan bad p) _ fun b hb v => commitChan_atChan_of_ne bad p ?_ v
    exact Nat.ne_of_gt (Nat.lt_of_lt_of_le (by omega) (h128 b hb))
  have hv : commitValueB (bad.contains c) u p c = commitValueB (bad.contains c) s p c := by
    rw [← commitValueB_atChan _ u p hc, hu, commitValueB_atChan _ s p hc]
  obtain ⟨h1, h2⟩ := chan_of_atChan hrest
  obtain ⟨k1, k2⟩ := commitChan_chan bad p c u
  exact ⟨h1.trans (k1.trans (by rw [hv])), h2.trans (k2.trans (by rw [hv]))⟩

/-! The rest of the commit -/

theorem countHeld_of_settled {s : State} (hw : s.ump.sw = none) (hr : s.ump.roll = none) : countHeld s = s := by
  unfold countHeld
  rw [hw, hr, Option.map_none, Option.map_none, ← hw, ← hr]

theorem sharedParity_bare (d : Nat) (s : State) : (sharedParity d s).bare = s.bare := by
  unfold sharedParity
  rw [raise_bare]
  rfl

theorem countRetransmit_atChan (p : Plane) (c : Nat) (s : State) : (countRetransmit p s).atChan c = s.atChan c := by
  unfold countRetransmit
  refine forEach_keeps (State.atChan c) _ _ (fun k u => ?_) s
  dsimp only
  split <;> rfl

theorem commitGp_chan (bad : List Nat) (p : Plane) (s : State) : (commitGp bad p s).outs.chan = s.outs.chan := by
  unfold commitGp
  refine forEach_keeps (fun u : State => u.outs.chan) _ _ (fun _ _ => ?_) s
  rfl

theorem commitGp_fenced (bad : List Nat) (p : Plane) (s : State) : (commitGp bad p s).outs.fenced = s.outs.fenced := by
  unfold commitGp
  refine forEach_keeps (fun u : State => u.outs.fenced) _ _ (fun _ _ => ?_) s
  rfl

theorem driveSteps_outs (p : Plane) (s : State) : (driveSteps p s).outs = s.outs := by
  unfold driveSteps
  refine forEach_keeps State.outs _ _ (fun _ _ => ?_) _
  rfl

theorem commitLines_outs (k : Nat) (s : State) : (commitLines k s).outs = s.outs := by
  unfold commitLines setPlane
  dsimp only
  split <;> rfl

/-- Where the umpire decides on no sample, a voltage output takes what the stage decides on the present state. -/
theorem commitAll_chan (bad : List Nat) {c : Nat} (hc : c < 32) {s : State} (hw : s.ump.sw = none) (hr : s.ump.roll = none) :
    tget 0 (commitAll bad s).outs.chan c = (commitValueB (bad.contains c) s (actPlane s) c).1
      ∧ tget false (commitAll bad s).outs.fenced c = (commitValueB (bad.contains c) s (actPlane s) c).2.1 := by
  unfold commitAll
  rw [countHeld_of_settled hw hr]
  extract_lets s0 p s1 s2
  have hb : s0.bare = s.bare := forEach_keeps State.bare _ _ (fun _ u => sharedParity_bare _ u) s
  have hp : p = actPlane s := (congrArg actPlane hb :)
  have h1 : s1.atChan c = s.atChan c := (countRetransmit_atChan p c s0).trans (atChan_of_bare c hb)
  have hv : commitValueB (bad.contains c) s1 p c = commitValueB (bad.contains c) s (actPlane s) c := by
    rw [← commitValueB_atChan _ s1 p hc, h1, commitValueB_atChan _ s p hc, hp]
  have hl : (onPlanes (countFenced s2) (commitLines 2 (commitLines 1 s2))).outs = s2.outs :=
    (commitLines_outs 2 _).trans (commitLines_outs 1 s2)
  rw [hl, ← hv]
  simp only [s2, driveSteps_outs, commitGp_chan, commitGp_fenced]
  exact commitChans_chan bad p hc s1

/-! The fence itself -/

/-- A voltage output that is neither held nor forced takes the plane's value, fenced (R22). -/
theorem commitValueB_fenced {s : State} {p : Plane} {c : Nat} (hc : c < 32) (hd : s.dev = .run) (hw : s.ump.sw = none)
    (hr : s.ump.roll = none) (ho : chanOff s c = false) (hh : tget false s.outs.have_ c = true)
    (hf : forcedSafe s p c = false) (hl : lateHold s p c = false) :
    let v := (axisOutput p c).getD (outReg p c)
    let u : Word := BitVec.ofInt 32 (fenceApply (fence s.sealed c 0).toInt (fence s.sealed c 1).toInt
      (fence s.sealed c 2).toInt (tget 0 s.outs.chan c).toInt v.toInt)
    commitValueB false s p c = (u, u != v, false) := by
  have hv : wanted s p c = (axisOutput p c).getD (outReg p c) := by
    simp [wanted, show ¬ 32 ≤ c by omega, show ¬ 128 ≤ c by omega]
  have ha : analogChan s.sealed c = true := by simp [analogChan, show c < 128 by omega]
  have hn : deciding s = false := by simp [deciding, hw, hr]
  simp [commitValueB, hv, ha, hn, ho, hh, hf, hl, hd, committed]

/-- Settles O49: the stage serves a voltage output once, and decides on entries that the rest of the commit leaves. -/
theorem analogueOutputsAreFenced : Obligations.AnalogueOutputsAreFenced := by
  intro s bad ch hch hbad hpar hd ht hfc _ hw hr ho hh hf hl
  have hall : (bad.all fun c => decide (c < 4352)) = true := List.all_eq_true.2 fun b hb => decide_eq_true (hbad b hb)
  have he : exec (.outputCommit bad) s = .next (commitAll bad s) := by
    have e := execOutputCommit_eq hall (commits_eq_true (by simp [hd]) (by simp [hd]) ht)
    rwa [if_pos hfc] at e
  obtain ⟨hchan, hfen⟩ := commitAll_chan bad hch hw hr
  rw [hpar, commitValueB_fenced hch hd hw hr ho hh hf hl] at hchan hfen
  exact ⟨_, he, hchan, hfen.trans (Bool.eq_iff_iff.2 (bne_iff_ne.trans decide_eq_true_iff.symm))⟩

end Sys2Proof.Machine
end

/-! Host memory keeps its canonical form, `State.memWf` (02 R61, R79). What writes none of it keeps the
form as it was; what may write, by `hostWrite` in the end, keeps the canonical form. Every operation of the model gets one
lemma here, and the dispatch one case for each row. -/

section
namespace Sys2Proof.Machine

/-- Host memory is in canonical form. -/
def State.memForm (s : State) : Bool := memSorted s.hif.hostMem

@[simp] theorem memForm_mk (s : State)
    {dev sn a b ev tr tap lock tally ump led boot sealed rec held mem an outs field can clk win pins ctr q} :
    (State.mk dev sn a b s.hif ev tr tap lock tally ump led boot sealed rec held mem an outs field can clk win pins ctr
      q).memForm = s.memForm := by
  simp only [State.memForm]

@[simp] theorem memForm_mk_hif (s : State)
    {dev sn a b up rate width d3 qps msix pba cmds posts ch0 en mask fw timed load rdata}
    {ev tr tap lock tally ump led boot sealed rec held mem an outs field can clk win pins ctr q} :
    (State.mk dev sn a b (Hif.mk up rate width d3 qps msix pba cmds posts ch0 en mask fw timed s.hif.hostMem load rdata) ev tr
      tap lock tally ump led boot sealed rec held mem an outs field can clk win pins ctr q).memForm = s.memForm := by
  simp only [State.memForm]

@[simp] theorem memForm_ite (c : Prop) [Decidable c] (s t : State) :
    (if c then s else t).memForm = if c then s.memForm else t.memForm := apply_ite State.memForm c s t
@[simp] theorem forEach_memForm_eq (l : List α) (f : α → State → State) (s : State)
    (h : ∀ a u, (f a u).memForm = u.memForm) :
    (forEach l f s).memForm = s.memForm := forEach_keeps State.memForm l f h s

/-- A state whose memory is in canonical form, as the body of a loop finds it: stated so that `simp` can use the form. -/
@[simp] theorem memForm_coe (u : {u : State // u.memForm}) : u.1.memForm = true := u.2

@[simp] theorem forEach_memForm (l : List α) (f : α → State → State) (s : State)
    (hf : ∀ a (u : {u : State // u.memForm}), (f a u).memForm) (h : s.memForm) : (forEach l f s).memForm := by
  unfold forEach
  induction l generalizing s with
  | nil => exact h
  | cons a l ih => exact ih (f a s) (hf a ⟨s, h⟩)

variable {s : State}

/-! Shared operations -/

@[simp] theorem setPstat_memForm (p : Nat) (v : PStat) (s : State) : (setPstat p v s).memForm = s.memForm := by simp [setPstat]
@[simp] theorem setPlane_memForm (p : Nat) (v : Plane) (s : State) : (setPlane p v s).memForm = s.memForm := by simp [setPlane]

@[simp] theorem whenRuns_memForm (h : s.memForm) (t : State) (ht : t.memForm) :
    (whenRuns s t).memForm := by
  simp [whenRuns, h, ht]

@[simp] theorem whenRuns_memForm_eq (t : State) (ht : t.memForm = s.memForm) : (whenRuns s t).memForm = s.memForm := by
  simp [whenRuns, ht]

@[simp] theorem onPlanes_memForm (f : Plane → Plane) (s : State) : (onPlanes f s).memForm = s.memForm := by simp [onPlanes]
@[simp] theorem onExec_memForm (f : Plane → Plane) (s : State) : (onExec f s).memForm = s.memForm := by simp [onExec]
@[simp] theorem stally_memForm (k n : Nat) (s : State) : (stally k n s).memForm = s.memForm := by simp [stally]
@[simp] theorem takeFree_memForm (s : State) : (takeFree s).2.memForm = s.memForm := rfl

@[simp] theorem hostWrite_memForm (h : s.memForm) (a : Nat) (bs : List Byte) : (hostWrite a bs s).memForm :=
  hostWrite_memWf a bs s h

@[simp] theorem msixSend_memForm (h : s.memForm) (v : Nat) : (msixSend v s).memForm := by simp [msixSend, h]

@[simp] theorem setEvtCfg_memForm (src : Nat) (v : Word) (s : State) :
    (setEvtCfg src v s).memForm = s.memForm := by
  simp [setEvtCfg]

@[simp] theorem evTime_memForm (e : Ev) (s : State) : (evTime e s).2.memForm = s.memForm := by
  unfold evTime
  split
  · rfl
  · split <;> simp

@[simp] theorem queueRecord_memForm (e : Ev) (s : State) : (queueRecord e s).memForm = s.memForm := by simp [queueRecord]
@[simp] theorem postFlags_memForm (e : Ev) (s : State) : (postFlags e s).memForm = s.memForm := by simp [postFlags]
@[simp] theorem traceEvent_memForm (e : Ev) (s : State) : (traceEvent e s).memForm = s.memForm := by simp [traceEvent]
@[simp] theorem postOne_memForm (e : Ev) (s : State) : (postOne e s).memForm = s.memForm := by simp [postOne]
@[simp] theorem postList_memForm (h : s.memForm) (es : List Ev) : (postList es s).memForm := by simp [postList, h]
@[simp] theorem postAll_memForm (h : s.memForm) (p : Nat) : (postAll p s).memForm := by simp [postAll, h]

@[simp] theorem raiseExt_memForm (h : s.memForm) (src : Nat) (data : Word) (ext : List Word) :
    (raiseExt src data ext s).memForm := by
  simp [raiseExt, h]

@[simp] theorem raise_memForm (h : s.memForm) (src : Nat) (data : Nat) : (raise src data s).memForm := by simp [raise, h]

@[simp] theorem raiseAt_memForm (h : s.memForm) (sn : Word) (src data : Nat) : (raiseAt sn src data s).memForm := by
  simp [raiseAt, h]

@[simp] theorem sharedParity_memForm (h : s.memForm) (data : Nat) : (sharedParity data s).memForm := by simp [sharedParity, h]

@[simp] theorem logF6_memForm (h : s.memForm) (code path obj : Nat) (e0 : Word) (op : Nat) (v : Word) :
    (logF6 code path obj e0 op v s).memForm := by
  simp [logF6, h]

@[simp] theorem setMem_memForm (m : Mem) (s : State) : (setMem m s).memForm = s.memForm := by simp [setMem]
@[simp] theorem countMem_memForm (k : Nat) (s : State) : (countMem k s).memForm = s.memForm := by simp [countMem]

@[simp] theorem tlbTouch_memForm (a : Nat) (s : State) : (tlbTouch a s).memForm = s.memForm := by
  unfold tlbTouch
  split <;> simp

@[simp] theorem setQp_memForm (q : Nat) (v : QPair) (s : State) : (setQp q v s).memForm = s.memForm := by simp [setQp]
@[simp] theorem stopQp_memForm (h : s.memForm) (q cause : Nat) : (stopQp q cause s).memForm := by simp [stopQp, h]
@[simp] theorem signalQp_memForm (h : s.memForm) (q : Nat) : (signalQp q s).memForm := by simp [signalQp, h]

@[simp] theorem countIrq_memForm (h : s.memForm) (q : Nat) (counted : Bool) : (countIrq q counted s).memForm := by
  simp [countIrq, h]

@[simp] theorem setCh0_memForm (x : Ch0) (s : State) : (setCh0 x s).memForm = s.memForm := by simp [setCh0]

@[simp] theorem postNow_memForm (h : s.memForm) (q : Nat) (tag : BitVec 16) (status : Nat) (res : DWord) (suppress : Bool) :
    (postNow q tag status res suppress s).memForm := by
  simp [postNow, h]

@[simp] theorem qpFault_memForm (h : s.memForm) (q cause : Nat) : (qpFault q cause s).memForm := by simp [qpFault, h]

@[simp] theorem post_memForm (h : s.memForm) (q : Nat) (tag : BitVec 16) (status : Nat) (res : DWord) (suppress : Bool) :
    (post q tag status res suppress s).memForm := by
  unfold post
  split
  · simp [h]
  · split <;> simp [h]

@[simp] theorem drainPosts_memForm (h : s.memForm) (q : Nat) : (drainPosts q s).memForm := by simp [drainPosts, h]

@[simp] theorem stampPost_memForm (op : Nat) (sn : Option Word) (c : Sub) (s : State) :
    (stampPost op sn c s).memForm = s.memForm := by
  simp [stampPost]

@[simp] theorem complete_memForm (h : s.memForm) (c : Sub) (st : Nat) (r : DWord) :
    (complete c st r s).memForm := by
  simp [complete, h]

@[simp] theorem notifyIf_memForm (h : s.memForm) (past : Bool) (c : Sub) : (notifyIf past c s).memForm := by simp [notifyIf, h]
@[simp] theorem okSn_memForm (s : State) : (okSn s).state.memForm = s.memForm := by simp [okSn]
@[simp] theorem okRes_memForm (r : DWord) (s : State) : (okRes r s).state.memForm = s.memForm := by simp [okRes]
@[simp] theorem failSt_memForm (st : Nat) (s : State) : (failSt st s).state.memForm = s.memForm := by simp [failSt]

@[simp] theorem failRes_memForm (st : Nat) (r : Nat) (s : State) :
    (failRes st r s).state.memForm = s.memForm := by
  simp [failRes]

@[simp] theorem badWindow_memForm (h : s.memForm) (op : Nat) (c : Sub) (a : Nat) : (badWindow op c a s).state.memForm := by
  simp [badWindow, h]

@[simp] theorem withPlane_memForm (sel : Word) (s : State) (k : Nat → OpOut) (h : ∀ p, (k p).state.memForm = s.memForm) :
    (withPlane sel s k).state.memForm = s.memForm := by
  simp [withPlane, h]

@[simp] theorem addCmd_memForm (x : Cmd) (s : State) : (addCmd x s).memForm = s.memForm := by simp [addCmd]

@[simp] theorem finish_memForm (op : Nat) (c : Sub) (o : OpOut) (h : o.state.memForm) : (finish op c o).memForm := by
  cases o with
  | done st r s =>
    have h1 := notifyIf_memForm (s := s) h (commitsOp op && st == stOk) c
    simp [finish, h1]
  | wait w aux s =>
    have h1 : s.memForm := h
    simp [finish, h1]
  | write a bs r s =>
    have h1 : s.memForm := h
    simp [finish, h1]

@[simp] theorem notFetched_memForm (h : s.memForm) (q : Nat) : (notFetched q s).memForm := by
  unfold notFetched
  split <;> simp [h]

@[simp] theorem consume_memForm (q : Nat) (s : State) : (consume q s).memForm = s.memForm := by simp [consume]
@[simp] theorem fetched_memForm (c : Sub) (s : State) : (fetched c s).memForm = s.memForm := by simp [fetched]

@[simp] theorem refuseBusy_memForm (h : s.memForm) (c : Sub) (timedStore : Bool) : (refuseBusy c timedStore s).memForm := by
  simp [refuseBusy, h]

@[simp] theorem refreshOrders_memForm (s : State) : (refreshOrders s).memForm = s.memForm := by simp [refreshOrders]

@[simp] theorem holdOrder_memForm (op : Nat) (c : Sub) (s : State) :
    (holdOrder op c s).memForm = s.memForm := by
  simp [holdOrder]

@[simp] theorem execEntry_memForm (op : Nat) (core : Sub → State → OpOut) (c : Sub) (s : State)
    (hc : ∀ u : {u : State // u.memForm}, (core c u).state.memForm) (h : s.memForm) : (execEntry op core c s).memForm := by
  unfold execEntry
  extract_lets s1
  have h1 : s1.memForm := by simp [s1, h]
  have h2 := hc ⟨s1, h1⟩
  simp [h1, h2]

@[simp] theorem consumed_memForm (c : Sub) (s : State) : (consumed c s).memForm = s.memForm := by simp [consumed]

@[simp] theorem submit_memForm (op : Nat) (core : Sub → State → OpOut) (c : Sub) (s : State)
    (hc : ∀ u : {u : State // u.memForm}, (core c u).state.memForm) (h : s.memForm) : (submit op core c s).memForm := by
  unfold submit
  dsimp only
  repeat' split
  all_goals simp [h, hc]

theorem takeCmd_memForm {p : Cmd → Bool} {s s1 : State} {c : Cmd} (h : takeCmd p s = some (c, s1)) :
    s1.memForm = s.memForm := by
  unfold takeCmd at h
  split at h
  · cases h
  · cases h
    simp

@[simp] theorem completeWaiting_memForm (h : s.memForm) (p : Cmd → Bool) (st : Nat) (r : DWord) :
    (completeWaiting p st r s).memForm := by
  unfold completeWaiting
  split
  · exact h
  · simp [takeCmd_memForm ‹_›, h]

/-! Every plane with the sealed block -/

@[simp] theorem onPlanesSl_memForm (f : Seal → Plane → Plane) (s : State) : (onPlanesSl f s).memForm = s.memForm := by
  simp [onPlanesSl]

@[simp] theorem onExecSl_memForm (f : Seal → Plane → Plane) (s : State) :
    (onExecSl f s).memForm = s.memForm := by
  simp [onExecSl]

/-! Loops, booths and the dispatcher -/

@[simp] theorem replaceWin_memForm (port l : Nat) (s : State) :
    (replaceWin port l s).memForm = s.memForm := by
  simp [replaceWin]

@[simp] theorem placeWrite_memForm (port l : Nat) (v sn : Word) (s : State) :
    (placeWrite port l v sn s).memForm = s.memForm := by
  simp [placeWrite]

@[simp] theorem opPlaceWrite_memForm (port : Nat) (c : Sub) (s : State) :
    (opPlaceWrite port c s).state.memForm = s.memForm := by
  simp [opPlaceWrite]

@[simp] theorem opLoopSetSp_memForm (c : Sub) (s : State) : (opLoopSetSp c s).state.memForm = s.memForm := by simp [opLoopSetSp]

@[simp] theorem opLoopSetOut_memForm (h : s.memForm) (c : Sub) : (opLoopSetOut c s).state.memForm := by
  unfold opLoopSetOut
  split
  · split <;> simp [h]
  · simp [h]

@[simp] theorem opLoopRead_memForm (c : Sub) (s : State) : (opLoopRead c s).state.memForm = s.memForm := by simp [opLoopRead]
@[simp] theorem readOne_memForm (h : s.memForm) (x : Cmd) : (readOne x s).memForm := by simp [readOne, h]
@[simp] theorem readsDone_memForm (h : s.memForm) : (readsDone s).memForm := by simp [readsDone, h]

@[simp] theorem outOfRestore_memForm (l m : Nat) (s : State) :
    (outOfRestore l m s).memForm = s.memForm := by
  simp [outOfRestore]

@[simp] theorem opLoopSetMode_memForm (c : Sub) (s : State) :
    (opLoopSetMode c s).state.memForm = s.memForm := by
  simp [opLoopSetMode]

@[simp] theorem opLoopWrite_memForm (c : Sub) (s : State) : (opLoopWrite c s).state.memForm = s.memForm := by simp [opLoopWrite]

@[simp] theorem opBoothStatus_memForm (c : Sub) (s : State) :
    (opBoothStatus c s).state.memForm = s.memForm := by
  simp [opBoothStatus]

@[simp] theorem opBoothKeepAwake_memForm (c : Sub) (s : State) : (opBoothKeepAwake c s).state.memForm = s.memForm := by
  simp [opBoothKeepAwake]

@[simp] theorem opModelLoad_memForm (c : Sub) (s : State) : (opModelLoad c s).state.memForm = s.memForm := by simp [opModelLoad]

@[simp] theorem opModelReinit_memForm (c : Sub) (s : State) :
    (opModelReinit c s).state.memForm = s.memForm := by
  simp [opModelReinit]

@[simp] theorem opTestStart_memForm (c : Sub) (s : State) : (opTestStart c s).state.memForm = s.memForm := by simp [opTestStart]
@[simp] theorem opTestStop_memForm (c : Sub) (s : State) : (opTestStop c s).state.memForm = s.memForm := by simp [opTestStop]

@[simp] theorem opTestStatus_memForm (c : Sub) (s : State) :
    (opTestStatus c s).state.memForm = s.memForm := by
  simp [opTestStatus]

@[simp] theorem opCaptRead_memForm (h : s.memForm) (c : Sub) : (opCaptRead c s).state.memForm := by simp [opCaptRead, h]
@[simp] theorem gridOrigin_memForm (k : Nat) (s : State) : (gridOrigin k s).memForm = s.memForm := by simp [gridOrigin]

@[simp] theorem opDispLoad_memForm (h : s.memForm) (c : Sub) : (opDispLoad c s).state.memForm := by
  unfold opDispLoad
  dsimp only
  split
  · simp [h]
  · split
    · simp [h]
    · split
      · simp [h]
      · split <;> simp [h]

@[simp] theorem opDispSetPrio_memForm (c : Sub) (s : State) : (opDispSetPrio c s).state.memForm = s.memForm := by
  unfold opDispSetPrio
  dsimp only
  split
  · simp
  · split
    · simp
    · split <;> simp

@[simp] theorem opDispStatus_memForm (c : Sub) (s : State) :
    (opDispStatus c s).state.memForm = s.memForm := by
  simp [opDispStatus]

@[simp] theorem opDispFlowStatus_memForm (c : Sub) (s : State) : (opDispFlowStatus c s).state.memForm = s.memForm := by
  simp [opDispFlowStatus]

@[simp] theorem reportParity_memForm (p : Nat) (s : State) : (reportParity p s).memForm = s.memForm := by simp [reportParity]

@[simp] theorem eachCopy_memForm (t : Token) (bad : Nat) (f g : Token → Plane → Plane) (s : State) :
    (eachCopy t bad f g s).memForm = s.memForm := by
  simp [eachCopy]

@[simp] theorem broadcast_memForm (h : s.memForm) (t : Token) (slot src bad : Nat) :
    (broadcast t slot src bad s).memForm := by
  simp [broadcast, h]

@[simp] theorem broadcastFrom_memForm (h : s.memForm) (kind src : Nat) (v : Word) (q : Bool) (sn : Word) (slot late : Nat) :
    (broadcastFrom kind src v q sn slot late s).memForm := by
  simp [broadcastFrom, h]

@[simp] theorem runLoop_memForm (loop : Nat) (s : State) : (runLoop loop s).memForm = s.memForm := by simp [runLoop]
@[simp] theorem groupsDown_memForm (h : s.memForm) (g : Nat) : (groupsDown g s).memForm := by simp [groupsDown, h]
@[simp] theorem wakeGroup_memForm (h : s.memForm) (n g : Nat) : (wakeGroup n g s).memForm := by simp [wakeGroup, h]

/-! Axes -/

@[simp] theorem opAx_memForm (run cmd : Bool) (a : Nat) (f : State → Plane → Nat × Plane) (s : State) :
    (opAx run cmd a f s).state.memForm = s.memForm := by
  simp [opAx]

@[simp] theorem opAxConfig_memForm (c : Sub) (s : State) : (opAxConfig c s).state.memForm = s.memForm := by simp [opAxConfig]
@[simp] theorem opAxWrite_memForm (c : Sub) (s : State) : (opAxWrite c s).state.memForm = s.memForm := by simp [opAxWrite]
@[simp] theorem opAxEnable_memForm (c : Sub) (s : State) : (opAxEnable c s).state.memForm = s.memForm := by simp [opAxEnable]
@[simp] theorem opAxMove_memForm (c : Sub) (s : State) : (opAxMove c s).state.memForm = s.memForm := by simp [opAxMove]
@[simp] theorem opAxStop_memForm (c : Sub) (s : State) : (opAxStop c s).state.memForm = s.memForm := by simp [opAxStop]

@[simp] theorem opAxSetLimits_memForm (c : Sub) (s : State) :
    (opAxSetLimits c s).state.memForm = s.memForm := by
  simp [opAxSetLimits]

@[simp] theorem opAxHome_memForm (c : Sub) (s : State) : (opAxHome c s).state.memForm = s.memForm := by simp [opAxHome]
@[simp] theorem opAxGear_memForm (c : Sub) (s : State) : (opAxGear c s).state.memForm = s.memForm := by simp [opAxGear]

@[simp] theorem opAxGearSched_memForm (c : Sub) (s : State) :
    (opAxGearSched c s).state.memForm = s.memForm := by
  simp [opAxGearSched]

@[simp] theorem opAxClear_memForm (c : Sub) (s : State) : (opAxClear c s).state.memForm = s.memForm := by simp [opAxClear]
@[simp] theorem opAxRead_memForm (c : Sub) (s : State) : (opAxRead c s).state.memForm = s.memForm := by simp [opAxRead]

/-! Safety functions -/

@[simp] theorem opSafeStatus_memForm (c : Sub) (s : State) :
    (opSafeStatus c s).state.memForm = s.memForm := by
  simp [opSafeStatus]

@[simp] theorem opSafeRequest_memForm (c : Sub) (s : State) :
    (opSafeRequest c s).state.memForm = s.memForm := by
  simp [opSafeRequest]

@[simp] theorem opSafeReset_memForm (c : Sub) (s : State) : (opSafeReset c s).state.memForm = s.memForm := by
  unfold opSafeReset
  dsimp only
  split <;> simp

@[simp] theorem opSconnStatus_memForm (c : Sub) (s : State) :
    (opSconnStatus c s).state.memForm = s.memForm := by
  simp [opSconnStatus]

/-! The sealed block -/

@[simp] theorem opSealStage_memForm (h : s.memForm) (c : Sub) : (opSealStage c s).state.memForm := by simp [opSealStage, h]

@[simp] theorem opSealCommit_memForm (c : Sub) (s : State) :
    (opSealCommit c s).state.memForm = s.memForm := by
  simp [opSealCommit]

@[simp] theorem sealCommitted_memForm (h : s.memForm) (k : Nat) : (sealCommitted k s).state.memForm := by
  unfold sealCommitted
  split <;> simp [h]

@[simp] theorem opSealRead_memForm (c : Sub) (s : State) : (opSealRead c s).state.memForm = s.memForm := by
  unfold opSealRead
  dsimp only
  split
  · simp
  · split
    · simp
    · split <;> simp

@[simp] theorem sealOpenCut_memForm (s : State) : (sealOpenCut s).memForm = s.memForm := by simp [sealOpenCut]
@[simp] theorem postPre_memForm (h : s.memForm) : (postPre s).memForm := by simp [postPre, h]

@[simp] theorem resetDemand_memForm (cause : Nat) (which : Nat → Bool) (s : State) :
    (resetDemand cause which s).memForm = s.memForm := by
  simp [resetDemand]

/-! Address translation -/

@[simp] theorem setDmaCh_memForm (k : Nat) (v : DmaCh) (s : State) : (setDmaCh k v s).memForm = s.memForm := by simp [setDmaCh]
@[simp] theorem idleCh_memForm (k : Nat) (s : State) : (idleCh k s).memForm = s.memForm := by simp [idleCh]
@[simp] theorem countMiss_memForm (s : State) : (countMiss s).memForm = s.memForm := by simp [countMiss]
@[simp] theorem tlbMiss_memForm (ch : Nat) (s : State) : (tlbMiss ch s).memForm = s.memForm := by simp [tlbMiss]
@[simp] theorem suspend_memForm (h : s.memForm) (ch cause va : Nat) : (suspend ch cause va s).memForm := by simp [suspend, h]
@[simp] theorem settleAbort_memForm (h : s.memForm) (x : Cmd) : (settleAbort x s).memForm := by simp [settleAbort, h]
@[simp] theorem settleAborts_memForm (h : s.memForm) : (settleAborts s).memForm := by simp [settleAborts, h]

@[simp] theorem drainAll_memForm (h : s.memForm) : (drainAll s).memForm := by
  unfold drainAll
  exact settleAborts_memForm (by simp [h])

@[simp] theorem tlbFill_memForm (ch a sh page perm table : Nat) (s : State) :
    (tlbFill ch a sh page perm table s).memForm = s.memForm := by
  simp [tlbFill]

@[simp] theorem setPlaneBuf_memForm (p : Nat) (l : List Word) (s : State) : (setPlaneBuf p l s).memForm = s.memForm := by
  simp [setPlaneBuf]

@[simp] theorem stageWords_memForm (n : Nat) (l : List Word) (s : State) : (stageWords n l s).memForm = s.memForm := by
  simp [stageWords]

/-! Recorders -/

@[simp] theorem onRec_memForm (f : Recorder → Recorder) (s : State) : (onRec f s).memForm = s.memForm := by simp [onRec]

@[simp] theorem loseStaged_memForm (h : s.memForm) (cause : Nat) (a b : Word) (sw_ : Bool) :
    (loseStaged cause a b sw_ s).memForm := by
  simp [loseStaged, h]

@[simp] theorem loseRec_memForm (h : s.memForm) (cause : Nat) (a b : Word) (sw_ : Bool) :
    (loseRec cause a b sw_ s).memForm := by
  simp [loseRec, h]

@[simp] theorem pushRec_memForm (x : Rec) (s : State) : (pushRec x s).memForm = s.memForm := by simp [pushRec]

@[simp] theorem stageGap_memForm (s : State) : (stageGap s).memForm = s.memForm := by
  unfold stageGap
  split <;> simp

@[simp] theorem stageRec_memForm (h : s.memForm) (type flags : Nat) (a b : Word) (body : List Word) (k : Nat) :
    (stageRec type flags a b body k s).memForm := by
  unfold stageRec
  dsimp only
  split <;> simp [h]

@[simp] theorem edgeTick_memForm (h : s.memForm) (sw_ : Bool) (n : Word) (cur : Tab (Word × Bool)) :
    (edgeTick sw_ n cur s).memForm := by
  simp [edgeTick, h]

@[simp] theorem setBoothRec_memForm (b : Nat) (v : BoothRec) (s : State) : (setBoothRec b v s).memForm = s.memForm := by
  simp [setBoothRec]

@[simp] theorem boothTick_memForm (sw_ : Bool) (n : Word) (k : Nat) (p : Plane) (b : Nat) (s : State) :
    (boothTick sw_ n k p b s).memForm = s.memForm := by
  simp [boothTick]

@[simp] theorem closeInterval_memForm (h : s.memForm) (partial_ : Bool) (b : Nat) : (closeInterval partial_ b s).memForm := by
  simp [closeInterval, h]

@[simp] theorem closeDue_memForm (h : s.memForm) (n : Nat) : (closeDue n s).memForm := by simp [closeDue, h]
@[simp] theorem setRecording_memForm (h : s.memForm) (b n : Nat) : (setRecording b n s).memForm := by simp [setRecording, h]
@[simp] theorem cfgBefore_memForm (h : s.memForm) (n : Word) : (cfgBefore n s).memForm := by simp [cfgBefore, h]

@[simp] theorem timeRecordOf_memForm (h : s.memForm) (k : Nat) (sw_ : Bool) : (timeRecordOf k sw_ s).memForm := by
  unfold timeRecordOf
  split <;> simp [h]

@[simp] theorem timeRecord_memForm (h : s.memForm) : (timeRecord s).memForm := by simp [timeRecord, h]

@[simp] theorem recSample_memForm (h : s.memForm) (sw_ : Bool) (k : Nat) (x : HeldTick) : (recSample sw_ k x s).memForm := by
  simp [recSample, h]

@[simp] theorem recTick_memForm (h : s.memForm) : (recTick s).memForm := by simp [recTick, h]

@[simp] theorem recHalt_memForm (h : s.memForm) : (recHalt s).memForm := by
  unfold recHalt
  split
  · exact h
  · have h1 (b : Nat) (u : {u : State // u.memForm}) :
        (if intervalDue u b then closeInterval false b u.1 else closeInterval true b u).memForm := by simp
    exact raise_memForm (by simpa using forEach_memForm _ _ s h1 h) _ _

@[simp] theorem recHeldTick_memForm (h : s.memForm) (switched : Bool) (k : Nat) (x : HeldTick) :
    (recHeldTick switched k x s).memForm := by
  unfold recHeldTick
  extract_lets s1
  have h1 : s1.memForm := closeDue_memForm (by simp [h]) _
  split
  · split
    · exact h1
    · simp [h1]
  · exact h1

@[simp] theorem recDecide_memForm (h : s.memForm) (switched : Bool) (k : Nat) : (recDecide switched k s).memForm := by
  unfold recDecide
  extract_lets s1
  have h1 : s1.memForm := cfgBefore_memForm (by simp [h]) _
  simp [h1]

@[simp] theorem recFlush_memForm (h : s.memForm) : (recFlush s).memForm := by
  unfold recFlush
  split
  · have h1 : (closeDue 16 (recTick s)).memForm := by simp [h]
    simp [h1]
  · exact h

@[simp] theorem recStart_memForm (h : s.memForm) : (recStart s).memForm := by simp [recStart, h]
@[simp] theorem recBegin_memForm (h : s.memForm) : (recBegin s).memForm := by simp [recBegin, h]
@[simp] theorem recCut_memForm (h : s.memForm) : (recCut s).memForm := by simp [recCut, h]
@[simp] theorem recStop_memForm (h : s.memForm) : (recStop s).memForm := by simp [recStop, h]
@[simp] theorem ringLevel_memForm (h : s.memForm) : (ringLevel s).memForm := by simp [ringLevel, h]

@[simp] theorem stopStaged_memForm (h : s.memForm) (n : Nat) : (stopStaged n s).memForm := by
  induction n generalizing s with
  | zero => exact h
  | succ n ih =>
    unfold stopStaged
    split
    · exact h
    · simp [ih, h]

@[simp] theorem mendDram_memForm (a n : Nat) (s : State) : (mendDram a n s).memForm = s.memForm := by simp [mendDram]

@[simp] theorem ringBurst_memForm (h : s.memForm) : (ringBurst s).memForm := by
  unfold ringBurst
  extract_lets s0 r n r1 r2 u s1 s2
  have h0 : s0.memForm := by simp [s0, h]
  have h2 : s2.memForm := by simp [s2, s1, u, h0]
  simp [h2]

@[simp] theorem onStream_memForm (f : Stream → Stream) (s : State) : (onStream f s).memForm = s.memForm := by simp [onStream]
@[simp] theorem streamHalt_memForm (h : s.memForm) (cause a : Nat) : (streamHalt cause a s).memForm := by simp [streamHalt, h]

@[simp] theorem streamOutside_memForm (h : s.memForm) (a : Nat) : (streamOutside a s).memForm := by
  unfold streamOutside
  exact streamHalt_memForm (by simp [h]) _ _

@[simp] theorem streamMiss_memForm (a : Nat) (wr : Bool) (s : State) :
    (streamMiss a wr s).memForm = s.memForm := by
  simp [streamMiss]

@[simp] theorem streamFault_memForm (h : s.memForm) (cause a : Nat) (wr : Bool) : (streamFault cause a wr s).memForm := by
  simp [streamFault, h]

@[simp] theorem streamStatus_memForm (h : s.memForm) : (streamStatus s).memForm := by
  unfold streamStatus
  dsimp only
  split
  · simp [h]
  · split <;> simp [h]

@[simp] theorem streamFail_memForm (h : s.memForm) (cause a : Nat) : (streamFail cause a s).memForm := by simp [streamFail, h]

@[simp] theorem streamSuspend_memForm (h : s.memForm) (cause a : Nat) (wr : Bool) : (streamSuspend cause a wr s).memForm := by
  simp [streamSuspend, h]

@[simp] theorem streamGuard_memForm (h : s.memForm) (wr : Bool) (a n : Nat) (k : State → State)
    (hk : ∀ u : {u : State // u.memForm}, (k u).memForm) : (streamGuard wr a n s k).memForm := by
  unfold streamGuard
  repeat' split
  any_goals simp [h]
  exact hk ⟨tlbTouch a s, by simp [h]⟩

@[simp] theorem streamCopy_memForm (h : s.memForm) (x : Rec) (head : Nat) : (streamCopy x s head).memForm := by
  unfold streamCopy
  extract_lets t a n
  split
  · exact h
  · refine streamGuard_memForm h _ _ _ _ fun u => ?_
    extract_lets s1 done s2 s3
    have h2 : s2.memForm := by simp [s2, s1]
    have h3 : s3.memForm := by simp [s3, h2]
    simp [h3]

@[simp] theorem streamStep_memForm (h : s.memForm) (head : Nat) : (streamStep head s).memForm := by
  unfold streamStep
  refine streamGuard_memForm h _ _ _ _ fun u => ?_
  dsimp only
  split
  · exact u.2
  · split
    · split
      · exact u.2
      · exact streamGuard_memForm u.2 _ _ _ _ fun v => by simp
    · simp

@[simp] theorem recLost_memForm (h : s.memForm) : (recLost s).memForm := by simp [recLost, h]
@[simp] theorem opRecConfig_memForm (h : s.memForm) (c : Sub) : (opRecConfig c s).state.memForm := by simp [opRecConfig, h]

@[simp] theorem oldestFail_memForm (s : State) : (oldestFail s).state.memForm = s.memForm := by
  unfold oldestFail
  split <;> simp

@[simp] theorem stopStream_memForm (h : s.memForm) : (stopStream s).memForm := by simp [stopStream, h]
@[simp] theorem opRecStream_memForm (h : s.memForm) (c : Sub) : (opRecStream c s).state.memForm := by simp [opRecStream, h]

@[simp] theorem opRecStatus_memForm (c : Sub) (s : State) : (opRecStatus c s).state.memForm = s.memForm := by
  unfold opRecStatus
  dsimp only
  repeat' split
  all_goals simp

@[simp] theorem opRecFetch_memForm (h : s.memForm) (c : Sub) : (opRecFetch c s).state.memForm := by simp [opRecFetch, h]

@[simp] theorem opTrigConfig_memForm (c : Sub) (s : State) :
    (opTrigConfig c s).state.memForm = s.memForm := by
  simp [opTrigConfig]

@[simp] theorem opTrigCtrl_memForm (c : Sub) (s : State) : (opTrigCtrl c s).state.memForm = s.memForm := by simp [opTrigCtrl]

@[simp] theorem opTrigStatus_memForm (c : Sub) (s : State) :
    (opTrigStatus c s).state.memForm = s.memForm := by
  simp [opTrigStatus]

@[simp] theorem opMaskLoad_memForm (h : s.memForm) (c : Sub) : (opMaskLoad c s).state.memForm := by
  unfold opMaskLoad
  dsimp only
  split
  · simp [h]
  · split
    · simp [h]
    · split <;> simp [h]

@[simp] theorem opMaskArm_memForm (c : Sub) (s : State) : (opMaskArm c s).state.memForm = s.memForm := by
  unfold opMaskArm
  dsimp only
  split
  · simp
  · split <;> simp

@[simp] theorem opMaskStatus_memForm (c : Sub) (s : State) :
    (opMaskStatus c s).state.memForm = s.memForm := by
  simp [opMaskStatus]

/-! Sessions -/

@[simp] theorem placeReq_memForm (n : Nat) (hold : Bool) (arg : Nat) (sn : Word) (s : State) :
    (placeReq n hold arg sn s).memForm = s.memForm := by
  simp [placeReq]

@[simp] theorem opPlaceReq_memForm (hold : Bool) (c : Sub) (s : State) : (opPlaceReq hold c s).state.memForm = s.memForm := by
  simp [opPlaceReq]

@[simp] theorem opSessReq_memForm (hold : Bool) (c : Sub) (s : State) : (opSessReq hold c s).state.memForm = s.memForm := by
  simp [opSessReq]

@[simp] theorem opSessAdvance_memForm (c : Sub) (s : State) :
    (opSessAdvance c s).state.memForm = s.memForm := by
  simp [opSessAdvance]

@[simp] theorem opSessHold_memForm (c : Sub) (s : State) : (opSessHold c s).state.memForm = s.memForm := by simp [opSessHold]

@[simp] theorem opSessLoad_memForm (h : s.memForm) (c : Sub) : (opSessLoad c s).state.memForm := by
  unfold opSessLoad
  dsimp only
  repeat' split
  all_goals simp [h]

@[simp] theorem opSessStart_memForm (h : s.memForm) (c : Sub) : (opSessStart c s).state.memForm := by
  unfold opSessStart
  dsimp only
  repeat' split
  all_goals simp [h]

@[simp] theorem opSessResume_memForm (c : Sub) (s : State) :
    (opSessResume c s).state.memForm = s.memForm := by
  simp [opSessResume]

@[simp] theorem opSessAbort_memForm (c : Sub) (s : State) : (opSessAbort c s).state.memForm = s.memForm := by simp [opSessAbort]
@[simp] theorem stageSess_memForm (c : Sub) (s : State) : (stageSess c s).state.memForm = s.memForm := by simp [stageSess]

@[simp] theorem opSessUnload_memForm (c : Sub) (s : State) :
    (opSessUnload c s).state.memForm = s.memForm := by
  simp [opSessUnload]

@[simp] theorem opSessStatus_memForm (c : Sub) (s : State) :
    (opSessStatus c s).state.memForm = s.memForm := by
  simp [opSessStatus]

/-! The analogue front end -/

@[simp] theorem setAnalog_memForm (a : Analog) (s : State) : (setAnalog a s).memForm = s.memForm := by simp [setAnalog]

@[simp] theorem setAgroup_memForm (g : Nat) (x : AGroup) (s : State) :
    (setAgroup g x s).memForm = s.memForm := by
  simp [setAgroup]

@[simp] theorem setAi_memForm (ch : Nat) (x : AChan) (s : State) : (setAi ch x s).memForm = s.memForm := by simp [setAi]

@[simp] theorem groupEvent_memForm (h : s.memForm) (g code d1 d2 : Nat) : (groupEvent g code d1 d2 s).memForm := by
  simp [groupEvent, h]

@[simp] theorem convEvents_memForm (h : s.memForm) (ch : Nat) (old new : AChan) : (convEvents ch old new s).memForm := by
  simp [convEvents, h]

@[simp] theorem convFailed_memForm (h : s.memForm) (g conv cause : Nat) : (convFailed g conv cause s).memForm := by
  simp [convFailed, h]

@[simp] theorem endCal_memForm (h : s.memForm) (g st : Nat) (r : DWord) : (endCal g st r s).memForm := by simp [endCal, h]

@[simp] theorem injectOne_memForm (h : s.memForm) (g : Nat) (e : Int) (ch : Nat) (codes : List Int) :
    (injectOne g e ch codes s).memForm := by
  unfold injectOne
  dsimp only
  split <;> simp [h]

@[simp] theorem injectDue_memForm (h : s.memForm) (g : Nat) : (injectDue g s).memForm := by simp [injectDue, h]
@[simp] theorem startRotation_memForm (g : Nat) (s : State) : (startRotation g s).memForm = s.memForm := by simp [startRotation]

@[simp] theorem replaceRole_memForm (h : s.memForm) (b : Bool) (g : Nat) : (replaceRole b g s).memForm := by
  simp [replaceRole, h]

@[simp] theorem settleAi_memForm (ch : Nat) (x : AChan) (v : Word) (q : Bool) (fresh : Bool) (s : State) :
    (settleAi ch x v q fresh s).memForm = s.memForm := by
  simp [settleAi]

@[simp] theorem lastToken_memForm (h : s.memForm) (ch : Nat) (q : Bool) (x : AChan) : (lastToken ch q x s).memForm := by
  simp [lastToken, h]

@[simp] theorem cutAi_memForm (h : s.memForm) (drops : List Nat) (roleLost : List Nat) (dueNow : List Nat) (ch : Nat) :
    (cutAi drops roleLost dueNow ch s).memForm := by
  unfold cutAi
  dsimp only
  repeat' split
  all_goals simp [h]

@[simp] theorem cutAgroup_memForm (h : s.memForm) (g : Nat) : (cutAgroup g s).memForm := by
  unfold cutAgroup
  extract_lets x sch drops s1 y s2 s3
  have h1 : s1.memForm := by simp [s1, h]
  have h3 : s3.memForm := by simp [s3, s2, h1]
  exact injectDue_memForm (by simp [h3]) _

@[simp] theorem pwmCut_memForm (s : State) : (pwmCut s).memForm = s.memForm := by simp [pwmCut]
@[simp] theorem analogCut_memForm (h : s.memForm) : (analogCut s).memForm := by simp [analogCut, h]

@[simp] theorem ifScheduled_memForm (low : Bool) (g : Nat) (s0 s : State) (h : s.memForm = s0.memForm) :
    (ifScheduled low g s0 s).state.memForm = s0.memForm := by
  unfold ifScheduled
  split <;> simp [h]

@[simp] theorem opAiConfig_memForm (c : Sub) (s : State) : (opAiConfig c s).state.memForm = s.memForm := by simp [opAiConfig]
@[simp] theorem opAfeSeq_memForm (c : Sub) (s : State) : (opAfeSeq c s).state.memForm = s.memForm := by simp [opAfeSeq]
@[simp] theorem opAoConfig_memForm (c : Sub) (s : State) : (opAoConfig c s).state.memForm = s.memForm := by simp [opAoConfig]
@[simp] theorem setCl_memForm (k : Nat) (x : CLoop) (s : State) : (setCl k x s).memForm = s.memForm := by simp [setCl]
@[simp] theorem alarmEnds_memForm (h : s.memForm) (k : Nat) : (alarmEnds k s).memForm := by simp [alarmEnds, h]
@[simp] theorem clFresh_memForm (k : Nat) (s : State) : (clFresh k s).memForm = s.memForm := by simp [clFresh]
@[simp] theorem opClConfig_memForm (h : s.memForm) (c : Sub) : (opClConfig c s).state.memForm := by simp [opClConfig, h]
@[simp] theorem opPwConfig_memForm (c : Sub) (s : State) : (opPwConfig c s).state.memForm = s.memForm := by simp [opPwConfig]
@[simp] theorem opAfeCal_memForm (c : Sub) (s : State) : (opAfeCal c s).state.memForm = s.memForm := by simp [opAfeCal]
@[simp] theorem opAfeTest_memForm (c : Sub) (s : State) : (opAfeTest c s).state.memForm = s.memForm := by simp [opAfeTest]
@[simp] theorem opAfeStatus_memForm (c : Sub) (s : State) : (opAfeStatus c s).state.memForm = s.memForm := by simp [opAfeStatus]
@[simp] theorem opAfeMode_memForm (c : Sub) (s : State) : (opAfeMode c s).state.memForm = s.memForm := by simp [opAfeMode]

@[simp] theorem setGpDir_memForm (n : Nat) (out : Bool) (s : State) :
    (setGpDir n out s).memForm = s.memForm := by
  simp [setGpDir]

@[simp] theorem opGpConfig_memForm (c : Sub) (s : State) : (opGpConfig c s).state.memForm = s.memForm := by simp [opGpConfig]

/-! Clocks and power domains -/

@[simp] theorem setPclk_memForm (p : Nat) (v : PClk) (s : State) : (setPclk p v s).memForm = s.memForm := by simp [setPclk]

@[simp] theorem setClkSrc_memForm (k : Nat) (v : ClkSrc) (s : State) :
    (setClkSrc k v s).memForm = s.memForm := by
  simp [setClkSrc]

@[simp] theorem setCounter_memForm (k : Nat) (v : FCount) (s : State) :
    (setCounter k v s).memForm = s.memForm := by
  simp [setCounter]

@[simp] theorem setPower_memForm (h : s.memForm) (d : Nat) (on : Bool) : (setPower d on s).memForm := by simp [setPower, h]
@[simp] theorem setGate_memForm (h : s.memForm) (g : Nat) (on : Bool) : (setGate g on s).memForm := by simp [setGate, h]

@[simp] theorem useGate_memForm (h : s.memForm) (g : Nat) : (useGate g s).memForm := by
  unfold useGate
  exact setGate_memForm (by simp [h]) _ _

@[simp] theorem levelPlane_memForm (target cause p : Nat) (s : State) : (levelPlane target cause p s).memForm = s.memForm := by
  simp [levelPlane]

@[simp] theorem levelEvent_memForm (h : s.memForm) (old new cause : Nat) : (levelEvent old new cause s).memForm := by
  simp [levelEvent, h]

@[simp] theorem applyLevel_memForm (h : s.memForm) (cause : Nat) : (applyLevel cause s).memForm := by simp [applyLevel, h]

@[simp] theorem settleTick_memForm (s : State) : (settleTick s).memForm = s.memForm := by
  unfold settleTick
  refine forEach_memForm_eq _ _ _ fun p t => ?_
  split <;> simp

@[simp] theorem completeDvfs_memForm (h : s.memForm) : (completeDvfs s).memForm := by simp [completeDvfs, h]
@[simp] theorem levelCut_memForm (h : s.memForm) : (levelCut s).memForm := by simp [levelCut, h]
@[simp] theorem opClkStatus_memForm (c : Sub) (s : State) : (opClkStatus c s).state.memForm = s.memForm := by simp [opClkStatus]
@[simp] theorem opClkMeasure_memForm (h : s.memForm) (c : Sub) : (opClkMeasure c s).state.memForm := by simp [opClkMeasure, h]

@[simp] theorem opClkGate_memForm (h : s.memForm) (c : Sub) : (opClkGate c s).state.memForm := by
  unfold opClkGate
  split
  · simp [h]
  · split <;> simp [h]

@[simp] theorem opPwrStatus_memForm (c : Sub) (s : State) : (opPwrStatus c s).state.memForm = s.memForm := by simp [opPwrStatus]
@[simp] theorem opDvfsSet_memForm (h : s.memForm) (c : Sub) : (opDvfsSet c s).state.memForm := by simp [opDvfsSet, h]
@[simp] theorem opClkoutCfg_memForm (h : s.memForm) (c : Sub) : (opClkoutCfg c s).state.memForm := by simp [opClkoutCfg, h]

/-! CAN channels -/

@[simp] theorem setCan_memForm (ch : Nat) (v : CanChan) (s : State) : (setCan ch v s).memForm = s.memForm := by simp [setCan]

@[simp] theorem setSignal_memForm (k : Nat) (v : CanSignal) (s : State) :
    (setSignal k v s).memForm = s.memForm := by
  simp [setSignal]

@[simp] theorem setShadow_memForm (ch : Nat) (v : List TxEnt) (s : State) : (setShadow ch v s).memForm = s.memForm := by
  simp [setShadow]

@[simp] theorem canEv_memForm (h : s.memForm) (ch k data : Nat) : (canEv ch k data s).memForm := by simp [canEv, h]
@[simp] theorem canCount_memForm (ch k : Nat) (s : State) : (canCount ch k s).memForm = s.memForm := by simp [canCount]
@[simp] theorem canState_memForm (h : s.memForm) (ch st : Nat) : (canState ch st s).memForm := by simp [canState, h]
@[simp] theorem confine_memForm (h : s.memForm) (ch : Nat) : (confine ch s).memForm := by simp [confine, h]
@[simp] theorem txErrorCount_memForm (h : s.memForm) (ch : Nat) : (txErrorCount ch s).memForm := by simp [txErrorCount, h]
@[simp] theorem recDown_memForm (h : s.memForm) (ch : Nat) : (recDown ch s).memForm := by simp [recDown, h]

@[simp] theorem canRelease_memForm (ch : Nat) (e : Plane → TxEnt) (s : State) : (canRelease ch e s).memForm = s.memForm := by
  unfold canRelease
  split <;> simp

@[simp] theorem canDrop_memForm (h : s.memForm) (ch : Nat) : (canDrop ch s).memForm := by simp [canDrop, h]

@[simp] theorem canPlace_memForm (h : s.memForm) (ch : Nat) (e : Plane → TxEnt) : (canPlace ch e s).memForm := by
  simp [canPlace, h]

@[simp] theorem startHead_memForm (ch : Nat) (s : State) : (startHead ch s).memForm = s.memForm := by
  unfold startHead
  dsimp only
  split <;> simp

@[simp] theorem popHead_memForm (ch : Nat) (s : State) : (popHead ch s).memForm = s.memForm := by
  unfold popHead
  dsimp only
  split <;> simp

@[simp] theorem sendOne_memForm (h : s.memForm) (c : Nat) : (sendOne c s).memForm := by
  unfold sendOne
  split <;> simp [h]

@[simp] theorem releaseSlot_memForm (h : s.memForm) (ch k : Nat) : (releaseSlot ch k s).memForm := by simp [releaseSlot, h]
@[simp] theorem sendWaiting_memForm (h : s.memForm) (x : Cmd) : (sendWaiting x s).memForm := by simp [sendWaiting, h]
@[simp] theorem canSendAll_memForm (h : s.memForm) : (canSendAll s).memForm := by simp [canSendAll, h]
@[simp] theorem opCanSend_memForm (h : s.memForm) (c : Sub) : (opCanSend c s).state.memForm := by simp [opCanSend, h]
@[simp] theorem opCanConfig_memForm (c : Sub) (s : State) : (opCanConfig c s).state.memForm = s.memForm := by simp [opCanConfig]
@[simp] theorem opCanFilter_memForm (c : Sub) (s : State) : (opCanFilter c s).state.memForm = s.memForm := by simp [opCanFilter]
@[simp] theorem opCanSignal_memForm (c : Sub) (s : State) : (opCanSignal c s).state.memForm = s.memForm := by simp [opCanSignal]
@[simp] theorem opCanSched_memForm (c : Sub) (s : State) : (opCanSched c s).state.memForm = s.memForm := by simp [opCanSched]
@[simp] theorem opCanCtrl_memForm (h : s.memForm) (c : Sub) : (opCanCtrl c s).state.memForm := by simp [opCanCtrl, h]

@[simp] theorem rxWritten_memForm (x : DmaCh) (m n : Nat) (s : State) :
    (rxWritten x m n s).memForm = s.memForm := by
  simp [rxWritten]

@[simp] theorem opCanRxRead_memForm (h : s.memForm) (c : Sub) : (opCanRxRead c s).state.memForm := by
  unfold opCanRxRead
  dsimp only
  split
  · simp [h]
  · split
    · simp [h]
    · split
      · split <;> simp [h]
      · simp [h]

@[simp] theorem opCanStatus_memForm (c : Sub) (s : State) : (opCanStatus c s).state.memForm = s.memForm := by simp [opCanStatus]
@[simp] theorem toBuffer_memForm (h : s.memForm) (ch k : Nat) (e : RxEnt) : (toBuffer ch k e s).memForm := by simp [toBuffer, h]
@[simp] theorem toFifo_memForm (h : s.memForm) (ch : Nat) (e : RxEnt) : (toFifo ch e s).memForm := by simp [toFifo, h]

@[simp] theorem extract_memForm (ch f k : Nat) (d : List Byte) (s : State) : (extract ch f k d s).memForm = s.memForm := by
  simp [extract]

@[simp] theorem filterFrame_memForm (h : s.memForm) (ch : Nat) (fr : CanFrame) (t : DWord) :
    (filterFrame ch fr t s).memForm := by
  unfold filterFrame
  dsimp only
  split <;> simp [h]

@[simp] theorem receiveFrame_memForm (h : s.memForm) (ch : Nat) (fr : CanFrame) (t : DWord) :
    (receiveFrame ch fr t s).memForm := by
  unfold receiveFrame
  dsimp only
  split <;> simp [h]

@[simp] theorem retryHead_memForm (h : s.memForm) (ch : Nat) (e : TxEnt) (r : List TxEnt) : (retryHead ch e r s).memForm := by
  simp [retryHead, h]

@[simp] theorem presentRef_memForm (h : s.memForm) (ch : Nat) : (presentRef ch s).memForm := by simp [presentRef, h]
@[simp] theorem sentRef_memForm (h : s.memForm) (ch : Nat) : (sentRef ch s).memForm := by simp [sentRef, h]
@[simp] theorem signalTokens_memForm (h : s.memForm) : (signalTokens s).memForm := by simp [signalTokens, h]
@[simp] theorem canCut_memForm (h : s.memForm) : (canCut s).memForm := by simp [canCut, h]
@[simp] theorem destroyHead_memForm (h : s.memForm) (ch : Nat) : (destroyHead ch s).memForm := by simp [destroyHead, h]

@[simp] theorem canPass_memForm (h : s.memForm) (t : Word) (ch : Nat) (hurts : Bool) : (canPass t ch hurts s).memForm := by
  simp [canPass, h]

@[simp] theorem canSwitch_memForm (h : s.memForm) (t : Word) (ch : Nat) : (canSwitch t ch s).memForm := by simp [canSwitch, h]
@[simp] theorem canResume_memForm (ch : Nat) (s : State) : (canResume ch s).memForm = s.memForm := by simp [canResume]
@[simp] theorem canSafe_memForm (ch : Nat) (s : State) : (canSafe ch s).memForm = s.memForm := by simp [canSafe]
@[simp] theorem canSupply_memForm (h : s.memForm) (ch : Nat) : (canSupply ch s).memForm := by simp [canSupply, h]

/-! The scan engine -/

@[simp] theorem commitWrites_memForm (h : s.memForm) (f : Nat → Word → Plane → Plane) : (commitWrites f s).memForm := by
  simp [commitWrites, h]

@[simp] theorem scanStart_memForm (h : s.memForm) : (scanStart s).memForm := by simp [scanStart, h]
@[simp] theorem takeArms_memForm (s : State) : (takeArms s).memForm = s.memForm := by simp [takeArms]
@[simp] theorem scanDeadlineAll_memForm (s : State) : (scanDeadlineAll s).memForm = s.memForm := by simp [scanDeadlineAll]

@[simp] theorem commitMode_memForm (h : s.memForm) : (commitMode s).memForm := by
  unfold commitMode
  split <;> simp [h]

@[simp] theorem scanFlush_memForm (h : s.memForm) : (scanFlush s).memForm := by simp [scanFlush, h]
@[simp] theorem scanProgress_memForm (x : Nat) (s : State) : (scanProgress x s).memForm = s.memForm := by simp [scanProgress]
@[simp] theorem scanCut_memForm (h : s.memForm) : (scanCut s).memForm := by simp [scanCut, h]

@[simp] theorem opScanLoad_memForm (h : s.memForm) (c : Sub) : (opScanLoad c s).state.memForm := by
  unfold opScanLoad
  dsimp only
  split
  · simp [h]
  · split
    · simp [h]
    · split
      · simp [h]
      · split <;> simp [h]

@[simp] theorem opScanMode_memForm (c : Sub) (s : State) : (opScanMode c s).state.memForm = s.memForm := by simp [opScanMode]
@[simp] theorem opScanWrite_memForm (c : Sub) (s : State) : (opScanWrite c s).state.memForm = s.memForm := by simp [opScanWrite]

@[simp] theorem opScanRead_memForm (c : Sub) (s : State) : (opScanRead c s).state.memForm = s.memForm := by
  unfold opScanRead
  simp only [state_ite, memForm_ite, failSt_memForm]
  rw [withPlane_memForm, ite_self]
  intro k
  split
  · split <;> simp
  · simp

@[simp] theorem opScanStatus_memForm (c : Sub) (s : State) :
    (opScanStatus c s).state.memForm = s.memForm := by
  simp [opScanStatus]

@[simp] theorem takeInstr_memForm (w : DWord) (f : Plane → Plane) (s : State) : (takeInstr w f s).memForm = s.memForm := by
  simp [takeInstr]

/-! The output commit -/

@[simp] theorem setOuts_memForm (o : Outs) (s : State) : (setOuts o s).memForm = s.memForm := by simp [setOuts]

@[simp] theorem driveChan_memForm (c : Nat) (u : Word) (s : State) :
    (driveChan c u s).memForm = s.memForm := by
  simp [driveChan]

@[simp] theorem commitChan_memForm (bad : List Nat) (p : Plane) (c : Nat) (s : State) :
    (commitChan bad p c s).memForm = s.memForm := by
  simp [commitChan]

@[simp] theorem commitGp_memForm (bad : List Nat) (p : Plane) (s : State) : (commitGp bad p s).memForm = s.memForm := by
  simp [commitGp]

@[simp] theorem countRetransmit_memForm (p : Plane) (s : State) : (countRetransmit p s).memForm = s.memForm := by
  simp [countRetransmit]

@[simp] theorem commitLines_memForm (k : Nat) (s : State) : (commitLines k s).memForm = s.memForm := by simp [commitLines]
@[simp] theorem countHeld_memForm (s : State) : (countHeld s).memForm = s.memForm := by simp [countHeld]
@[simp] theorem driveSteps_memForm (p : Plane) (s : State) : (driveSteps p s).memForm = s.memForm := by simp [driveSteps]
@[simp] theorem commitAll_memForm (h : s.memForm) (bad : List Nat) : (commitAll bad s).memForm := by simp [commitAll, h]
@[simp] theorem firstCommit_memForm (s : State) : (firstCommit s).memForm = s.memForm := by simp [firstCommit]

/-! Field ports -/

@[simp] theorem setPort_memForm (k : Nat) (p : FPort) (s : State) : (setPort k p s).memForm = s.memForm := by simp [setPort]

@[simp] theorem setStation_memForm (k : Nat) (x : Station) (s : State) : (setStation k x s).memForm = s.memForm := by
  simp [setStation]

@[simp] theorem portEvent_memForm (h : s.memForm) (p code d : Nat) : (portEvent p code d s).memForm := by simp [portEvent, h]
@[simp] theorem mqAll_memForm (k : Nat) (v : Bool) (s : State) : (mqAll k v s).memForm = s.memForm := by simp [mqAll]
@[simp] theorem stationLost_memForm (h : s.memForm) (k : Nat) : (stationLost k s).memForm := by simp [stationLost, h]

@[simp] theorem enterWords_memForm (k : Nat) (ws : List Word) (ms : BitVec 16) (s : State) :
    (enterWords k ws ms s).memForm = s.memForm := by
  simp [enterWords]

@[simp] theorem framePdus_memForm (k : Nat) (ws : List Word) (s : State) : (framePdus k ws s).memForm = s.memForm := by
  simp [framePdus]

@[simp] theorem frameTokens_memForm (h : s.memForm) (p k : Nat) (ws : List Word) (ms : BitVec 16) (sn : Word) :
    (frameTokens p k ws ms sn s).memForm := by
  simp [frameTokens, h]

@[simp] theorem deliverFrame_memForm (h : s.memForm) (p : Nat) (f : KFrame) : (deliverFrame p f s).memForm := by
  simp [deliverFrame, h]

@[simp] theorem cycleStation_memForm (k : Nat) (s : State) : (cycleStation k s).memForm = s.memForm := by
  unfold cycleStation
  dsimp only
  split <;> simp

@[simp] theorem returnStation_memForm (h : s.memForm) (k : Nat) : (returnStation k s).memForm := by simp [returnStation, h]
@[simp] theorem portCut_memForm (h : s.memForm) (p : Nat) : (portCut p s).memForm := by simp [portCut, h]
@[simp] theorem fieldCut_memForm (h : s.memForm) : (fieldCut s).memForm := by simp [fieldCut, h]
@[simp] theorem armSent_memForm (h : s.memForm) (k : Nat) : (armSent k s).memForm := by simp [armSent, h]
@[simp] theorem sendFrame_memForm (h : s.memForm) (p : Nat) : (sendFrame p s).memForm := by simp [sendFrame, h]

@[simp] theorem portSwitch_memForm (t : Word) (left p : Nat) (s : State) : (portSwitch t left p s).memForm = s.memForm := by
  simp [portSwitch]

@[simp] theorem opFpConfig_memForm (h : s.memForm) (c : Sub) : (opFpConfig c s).state.memForm := by
  unfold opFpConfig
  dsimp only
  split
  · simp [h]
  · split
    · simp [h]
    · split
      · simp [h]
      · split <;> simp [h]

@[simp] theorem mqFresh_memForm (k : Nat) (s : State) : (mqFresh k s).memForm = s.memForm := by simp [mqFresh]

@[simp] theorem opFpStation_memForm (c : Sub) (s : State) : (opFpStation c s).state.memForm = s.memForm := by
  unfold opFpStation
  dsimp only
  split
  · simp
  · split
    · simp
    · split <;> simp

@[simp] theorem opFpArm_memForm (c : Sub) (s : State) : (opFpArm c s).state.memForm = s.memForm := by simp [opFpArm]
@[simp] theorem opFpStatus_memForm (c : Sub) (s : State) : (opFpStatus c s).state.memForm = s.memForm := by simp [opFpStatus]

/-! Events and the event recorder -/

@[simp] theorem postUpTo_memForm (h : s.memForm) (n : Word) (p : Nat) : (postUpTo n p s).memForm := by simp [postUpTo, h]
@[simp] theorem postBefore_memForm (h : s.memForm) (t : Word) : (postBefore t s).memForm := by simp [postBefore, h]

@[simp] theorem postDecided_memForm (h : s.memForm) (t : Word) (old new : Nat) : (postDecided t old new s).memForm := by
  unfold postDecided
  dsimp only
  split <;> simp [h]

@[simp] theorem routeWrite_memForm (h : s.memForm) (src : Nat) (v : Word) (w1c : Bool) (path : Nat) (e0 : Word) (op : Nat) :
    (routeWrite src v w1c path e0 op s).memForm := by
  simp [routeWrite, h]

@[simp] theorem opEvtRoute_memForm (h : s.memForm) (c : Sub) : (opEvtRoute c s).state.memForm := by simp [opEvtRoute, h]
@[simp] theorem opEvtStatus_memForm (c : Sub) (s : State) : (opEvtStatus c s).state.memForm = s.memForm := by simp [opEvtStatus]

@[simp] theorem ledgerFails_memForm (h : s.memForm) : (ledgerFails s).memForm := by
  unfold ledgerFails
  exact raise_memForm (sharedParity_memForm (by simp [h]) _) _ _

@[simp] theorem writeRecSlot_memForm (ws : List Word) (s : State) :
    (writeRecSlot ws s).memForm = s.memForm := by
  simp [writeRecSlot]

@[simp] theorem ownEvent_memForm (data : Nat) (ext : List Word) (s : State) : (ownEvent data ext s).2.memForm = s.memForm := by
  simp [ownEvent]

@[simp] theorem raiseOwn_memForm (h : s.memForm) (e : Ev) : (raiseOwn e s).memForm := by simp [raiseOwn, h]
@[simp] theorem fillLast_memForm (h : s.memForm) : (fillLast s).memForm := by simp [fillLast, h]
@[simp] theorem afterSlot_memForm (h : s.memForm) : (afterSlot s).memForm := by simp [afterSlot, h]
@[simp] theorem dropRecord_memForm (s : State) : (dropRecord s).memForm = s.memForm := by simp [dropRecord]
@[simp] theorem putRecord_memForm (h : s.memForm) (e : Ev) : (putRecord e s).memForm := by simp [putRecord, h]
@[simp] theorem queueLost_memForm (h : s.memForm) : (queueLost s).memForm := by simp [queueLost, h]

theorem nextRecord_memForm {s s1 : State} {e : Ev} (h : nextRecord s = some (e, s1)) : s1.memForm = s.memForm := by
  unfold nextRecord at h
  split at h
  · cases h
  · cases h
    simp

@[simp] theorem recordWrite_memForm (h : s.memForm) (ok : Bool) : (recordWrite ok s).memForm := by
  unfold recordWrite
  split
  · exact h
  · split
    · exact h
    · next e s1 he =>
      have h1 : s1.memForm := (nextRecord_memForm he).trans h
      have h2 := ledgerFails_memForm h
      simp [h1, h2]

@[simp] theorem opEvrRead_memForm (h : s.memForm) (c : Sub) : (opEvrRead c s).state.memForm := by simp [opEvrRead, h]
@[simp] theorem opEvrClear_memForm (c : Sub) (s : State) : (opEvrClear c s).state.memForm = s.memForm := by simp [opEvrClear]

@[simp] theorem evrCleared_memForm (h : s.memForm) (cut : Word) : (evrCleared cut s).memForm := by
  unfold evrCleared
  extract_lets old mine _ s1 n _ _ s2
  have h2 : s2.memForm := by simp [s2, s1, h]
  simp [h2]

@[simp] theorem writeOpsec_memForm (h : s.memForm) (ok : Bool) : (writeOpsec ok s).memForm := by simp [writeOpsec, h]
@[simp] theorem stopTrace_memForm (h : s.memForm) (cause : Nat) : (stopTrace cause s).memForm := by simp [stopTrace, h]
@[simp] theorem traceCut_memForm (h : s.memForm) : (traceCut s).memForm := by simp [traceCut, h]
@[simp] theorem opObsCtrl_memForm (h : s.memForm) (c : Sub) : (opObsCtrl c s).state.memForm := by simp [opObsCtrl, h]
@[simp] theorem opObsRead_memForm (c : Sub) (s : State) : (opObsRead c s).state.memForm = s.memForm := by simp [opObsRead]

@[simp] theorem opLockChallenge_memForm (h : s.memForm) (c : Sub) : (opLockChallenge c s).state.memForm := by
  unfold opLockChallenge
  split
  · simp [h]
  · split <;> simp [h]

@[simp] theorem closeLock_memForm (h : s.memForm) (cause : Nat) : (closeLock cause s).memForm := by simp [closeLock, h]

@[simp] theorem opLock_memForm (h : s.memForm) (c : Sub) : (opLock c s).state.memForm := by
  unfold opLock
  split <;> simp [h]

@[simp] theorem lockCut_memForm (s : State) : (lockCut s).memForm = s.memForm := by simp [lockCut]

@[simp] theorem setTap_memForm (ir : BitVec 8) (tdo : Nat) (s : State) :
    (setTap ir tdo s).memForm = s.memForm := by
  simp [setTap]

@[simp] theorem takeBits_memForm (n : Nat) (s : State) : (takeBits n s).2.memForm = s.memForm := by
  induction n generalizing s with
  | zero => rfl
  | succ n ih => simp [takeBits, ih]

/-! The journal -/

@[simp] theorem setLed_memForm (l : Ledger) (s : State) : (setLed l s).memForm = s.memForm := by simp [setLed]

@[simp] theorem setFwSlot_memForm (k : Nat) (v : FwSlot) (s : State) :
    (setFwSlot k v s).memForm = s.memForm := by
  simp [setFwSlot]

@[simp] theorem handEntry_memForm (h : s.memForm) (e : JEntry) : (handEntry e s).memForm := by simp [handEntry, h]
@[simp] theorem handOver_memForm (h : s.memForm) : (handOver s).memForm := by simp [handOver, h]

@[simp] theorem dropEntries_memForm (h : s.memForm) (t : Word) (loser : Nat) : (dropEntries t loser s).memForm := by
  simp [dropEntries, h]

@[simp] theorem appendEntry_memForm (e : JEntry) (s : State) : (appendEntry e s).memForm = s.memForm := by simp [appendEntry]

@[simp] theorem makeRoom_memForm (h : s.memForm) (n k : Nat) : (makeRoom n k s).memForm := by
  induction k generalizing s with
  | zero => exact h
  | succ k ih =>
    unfold makeRoom
    split
    · exact h
    · simp [ih, h]

@[simp] theorem writeEntry_memForm (h : s.memForm) (e : JEntry) : (writeEntry e s).memForm := by simp [writeEntry, h]

theorem nextEntry_memForm {s s1 : State} {e : JEntry} (h : nextEntry s = some (e, s1)) : s1.memForm = s.memForm := by
  unfold nextEntry at h
  split at h
  · cases h
  · cases h
    simp

@[simp] theorem entryBad_memForm (h : s.memForm) (gone : State) (hg : gone.memForm) : (entryBad s gone).memForm := by
  simp [entryBad, h, hg]

@[simp] theorem journalWrite_memForm (h : s.memForm) (ok : Bool) : (journalWrite ok s).memForm := by
  unfold journalWrite
  split
  · exact h
  · split
    · exact h
    · next e s1 he =>
      have h1 : s1.memForm := (nextEntry_memForm he).trans h
      have h2 := entryBad_memForm h s1 h1
      simp [h1, h2]

@[simp] theorem flushEntries_memForm (h : s.memForm) : (flushEntries s).memForm := by simp [flushEntries, h]

@[simp] theorem opLedgerStatus_memForm (c : Sub) (s : State) : (opLedgerStatus c s).state.memForm = s.memForm := by
  unfold opLedgerStatus
  dsimp only
  repeat' split
  all_goals simp

@[simp] theorem opJournalRead_memForm (h : s.memForm) (c : Sub) :
    (opJournalRead c s).state.memForm := by
  simp [opJournalRead, h]

/-! The umpire -/

@[simp] theorem setUmp_memForm (u : Umpire) (s : State) : (setUmp u s).memForm = s.memForm := by simp [setUmp]
@[simp] theorem setSusp_memForm (p : Nat) (l : List Nat) (s : State) : (setSusp p l s).memForm = s.memForm := by simp [setSusp]
@[simp] theorem resetPlane_memForm (p : Nat) (s : State) : (resetPlane p s).memForm = s.memForm := by simp [resetPlane]
@[simp] theorem toState_memForm (h : s.memForm) (p new cls : Nat) : (toState p new cls s).memForm := by simp [toState, h]

@[simp] theorem nameUnits_memForm (p : Nat) (us : List Nat) (s : State) : (nameUnits p us s).memForm = s.memForm := by
  simp [nameUnits]

@[simp] theorem toSuspect_memForm (h : s.memForm) (p cls unit : Nat) :
    (toSuspect p cls unit s).memForm := by
  simp [toSuspect, h]

@[simp] theorem leaveRole_memForm (h : s.memForm) (p cls unit : Nat) (hb : Bool) : (leaveRole p cls unit hb s).memForm := by
  simp [leaveRole, h]

@[simp] theorem axesSafe_memForm (s : State) : (axesSafe s).memForm = s.memForm := by simp [axesSafe]
@[simp] theorem endWake_memForm (h : s.memForm) (p : Cmd → Bool) : (endWake p s).memForm := by simp [endWake, h]
@[simp] theorem endCmds_memForm (h : s.memForm) (p : Cmd → Bool) (st : Nat) : (endCmds p st s).memForm := by simp [endCmds, h]

@[simp] theorem dropChannels_memForm (p : Cmd → Bool) (s : State) :
    (dropChannels p s).memForm = s.memForm := by
  simp [dropChannels]

@[simp] theorem wakeDram_memForm (h : s.memForm) : (wakeDram s).memForm := by simp [wakeDram, h]
@[simp] theorem commitSafe_memForm (s : State) : (commitSafe s).memForm = s.memForm := by simp [commitSafe]

@[simp] theorem enterSafe_memForm (h : s.memForm) : (enterSafe s).memForm := by
  unfold enterSafe
  split
  · exact h
  · extract_lets ends s1 s2 s3
    have h1 : s1.memForm := endCmds_memForm (by simp [h]) _ _
    have h2 : s2.memForm := by simp [s2, h1]
    have h3 : s3.memForm := by simp [s3, h2]
    simp [h3]

@[simp] theorem failStart_memForm (h : s.memForm) (p cause : Nat) : (failStart p cause s).memForm := by
  unfold failStart
  split
  · exact h
  · extract_lets _ s1 d s2 _ s3
    have h2 : s2.memForm := by simp [s2, s1, h]
    have h3 : s3.memForm := by simp [s3, h2]
    simp [h3]

@[simp] theorem fwTake_memForm (h : s.memForm) (k : Nat) : (fwTake k s).memForm := by simp [fwTake, h]
@[simp] theorem fwStart_memForm (h : s.memForm) (k p : Nat) : (fwStart k p s).memForm := by simp [fwStart, h]

@[simp] theorem fwSettle_memForm (h : s.memForm) : (fwSettle s).memForm := by
  unfold fwSettle
  dsimp only
  split
  · split <;> simp [h]
  · split <;> simp [h]

@[simp] theorem switchCmds_memForm (h : s.memForm) : (switchCmds s).memForm := by simp [switchCmds, h]

@[simp] theorem beginSwitch_memForm (h : s.memForm) (p cls : Nat) (t e : Word) (held : Nat) :
    (beginSwitch p cls t e held s).memForm := by
  simp [beginSwitch, h]

@[simp] theorem elect_memForm (h : s.memForm) (hb : Bool) : (elect hb s).memForm := by
  unfold elect
  split
  · exact h
  · extract_lets new _ s1 s2 left s3 s4 s5
    have h1 : s1.memForm := by simp [s1, h]
    have h2 : s2.memForm := by simp [s2, h1]
    have h3 : s3.memForm := by simp [s3, h2]
    have h5 : s5.memForm := by simp [s5, s4, h3]
    simp [h5]

@[simp] theorem noneFit_memForm (h : s.memForm) : (noneFit s).memForm := by simp [noneFit, h]
@[simp] theorem failAlone_memForm (h : s.memForm) (p cls : Nat) : (failAlone p cls s).memForm := by simp [failAlone, h]

@[simp] theorem loseAt_memForm (h : s.memForm) (p cls unit : Nat) (hb : Bool) : (loseAt p cls unit hb s).memForm := by
  unfold loseAt
  dsimp only
  split
  · simp [h]
  · split
    · exact h
    · split
      · split
        · exact h
        · exact noneFit_memForm (leaveRole_memForm (by simp [h]) _ _ _ _)
      · split
        · split
          · split <;> simp [h]
          · simp [h]
        · split
          · exact h
          · simp [h]

@[simp] theorem lose_memForm (h : s.memForm) (p cls unit : Nat) (hb : Bool) :
    (lose p cls unit hb s).memForm := by
  simp [lose, h]

@[simp] theorem resignsTold_memForm (s : State) : (resignsTold s).memForm = s.memForm := by simp [resignsTold]
@[simp] theorem reports_memForm (h : s.memForm) : (reports s).memForm := by simp [reports, h]

@[simp] theorem compareResync_memForm (h : s.memForm) (p : Nat) (agree : Bool) : (compareResync p agree s).memForm := by
  simp [compareResync, h]

@[simp] theorem beginRoll_memForm (h : s.memForm) (units : List Nat) : (beginRoll units s).memForm := by
  unfold beginRoll
  split <;> simp [h]

@[simp] theorem compareStandby_memForm (h : s.memForm) (a o : Nat) (units : List Nat) (ra ro : Bool) :
    (compareStandby a o units ra ro s).memForm := by
  simp [compareStandby, h]

@[simp] theorem signatureExchange_memForm (h : s.memForm) : (signatureExchange s).memForm := by simp [signatureExchange, h]

@[simp] theorem rollStays_memForm (h : s.memForm) (r : Roll) (a : Nat) : (rollStays r a s).memForm := by
  unfold rollStays
  extract_lets _ s1 s2
  have h1 : s1.memForm := by simp [s1, h]
  have h2 : s2.memForm := by simp [s2, h1]
  simp [h2]

@[simp] theorem rollSwitch_memForm (h : s.memForm) (r : Roll) (a : Nat) : (rollSwitch r a s).memForm := by
  unfold rollSwitch
  extract_lets _ _ s1 s2
  have h2 : s2.memForm := by simp [s2, s1, h]
  simp [h2]

@[simp] theorem checkRollVerdict_memForm (h : s.memForm) (okA okB : Bool) : (checkRollVerdict okA okB s).memForm := by
  unfold checkRollVerdict
  split
  · exact h
  · extract_lets a o passed there code s1 u s2 s3
    have h1 : s1.memForm := by simp [s1, h]
    have h2 : s2.memForm := by simp [s2, h1]
    have h3 : s3.memForm := by simp [s3, h1]
    split
    · simp [h2]
    · split
      · simp [h1]
      · exact noneFit_memForm (dropEntries_memForm (by simp [h3]) _ _)

@[simp] theorem rollDeadline_memForm (h : s.memForm) : (rollDeadline s).memForm := by
  unfold rollDeadline
  split <;> simp [h]

@[simp] theorem healthReport_memForm (h : s.memForm) (p : Nat) (arrived : Bool) : (healthReport p arrived s).memForm := by
  simp [healthReport, h]

@[simp] theorem selfTestSlice_memForm (h : s.memForm) (p : Nat) (pass : Bool) : (selfTestSlice p pass s).memForm := by
  simp [selfTestSlice, h]

@[simp] theorem supplyTick_memForm (s : State) : (supplyTick s).memForm = s.memForm := by simp [supplyTick]
@[simp] theorem copyTo_memForm (p : Nat) (s : State) : (copyTo p s).memForm = s.memForm := by simp [copyTo]
@[simp] theorem takeTime_memForm (p : Nat) (s : State) : (takeTime p s).memForm = s.memForm := by simp [takeTime]

@[simp] theorem opPlaneStatus_memForm (c : Sub) (s : State) :
    (opPlaneStatus c s).state.memForm = s.memForm := by
  simp [opPlaneStatus]

@[simp] theorem opPlaneHealth_memForm (c : Sub) (s : State) : (opPlaneHealth c s).state.memForm = s.memForm := by
  unfold opPlaneHealth
  split <;> simp

@[simp] theorem opPlaneRestore_memForm (c : Sub) (s : State) : (opPlaneRestore c s).state.memForm = s.memForm := by
  simp [opPlaneRestore]

@[simp] theorem restoreTested_memForm (h : s.memForm) (p : Nat) (pass : Bool) : (restoreTested p pass s).memForm := by
  simp [restoreTested, h]

@[simp] theorem opPlaneOffline_memForm (h : s.memForm) (c : Sub) : (opPlaneOffline c s).state.memForm := by
  simp [opPlaneOffline, h]

@[simp] theorem swapPlanes_memForm (h : s.memForm) : (swapPlanes s).memForm := by
  unfold swapPlanes
  extract_lets a o
  exact raise_memForm (postDecided_memForm (by simp [h]) _ _ _) _ _

@[simp] theorem opPlaneSwap_memForm (h : s.memForm) (c : Sub) : (opPlaneSwap c s).state.memForm := by simp [opPlaneSwap, h]

@[simp] theorem opPlaneConfig_memForm (c : Sub) (s : State) :
    (opPlaneConfig c s).state.memForm = s.memForm := by
  simp [opPlaneConfig]

@[simp] theorem planeCut_memForm (h : s.memForm) : (planeCut s).memForm := by
  unfold planeCut
  extract_lets late s1 mine
  have h1 : s1.memForm := by simp [s1, h]
  split
  · exact h1
  · have h2 := swapPlanes_memForm h1
    simp [h1, h2]

/-! Memory and DMA -/

@[simp] theorem nextSlot_memForm (h : s.memForm) : (nextSlot s).memForm := by
  unfold nextSlot
  dsimp only
  split <;> simp [h]

@[simp] theorem endTransfer_memForm (h : s.memForm) (k st : Nat) (r : DWord) : (endTransfer k st r s).memForm := by
  simp [endTransfer, h]

@[simp] theorem stopChannel_memForm (h : s.memForm) (k cause st : Nat) : (stopChannel k cause st s).memForm := by
  simp [stopChannel, h]

@[simp] theorem startChannel_memForm (k : Nat) (x : Cmd) (dir : Bool) (host len : Nat) (data : List Byte) (r : DWord) (s : State) :
    (startChannel k x dir host len data r s).memForm = s.memForm := by
  simp [startChannel]

@[simp] theorem startFetch_memForm (k : Nat) (x : Cmd) (host : Nat) (l : List Rec) (r : DWord) (s : State) :
    (startFetch k x host l r s).memForm = s.memForm := by
  simp [startFetch]

@[simp] theorem updateCmd_memForm (x y : Cmd) (s : State) : (updateCmd x y s).memForm = s.memForm := by simp [updateCmd]

@[simp] theorem startRead_memForm (x : Cmd) (s : State) : (startRead x s).memForm = s.memForm := by
  unfold startRead
  split
  · rfl
  · split
    · rfl
    · split
      · simp
      · split <;> simp

@[simp] theorem startReads_memForm (s : State) : (startReads s).memForm = s.memForm := by simp [startReads]

@[simp] theorem transferDone_memForm (h : s.memForm) (k : Nat) : (transferDone k s).memForm := by
  unfold transferDone
  dsimp only
  split
  · split <;> simp [h]
  · simp [h]

@[simp] theorem loseTransfer_memForm (h : s.memForm) (k : Nat) : (loseTransfer k s).memForm := by simp [loseTransfer, h]

@[simp] theorem dramLost_memForm (h : s.memForm) : (dramLost s).memForm := by
  unfold dramLost
  split
  · exact h
  · exact raise_memForm (by simp [h]) _ _

@[simp] theorem spoilDram_memForm (a n : Nat) (s : State) : (spoilDram a n s).memForm = s.memForm := by simp [spoilDram]
@[simp] theorem eccError_memForm (h : s.memForm) (ecc off : Nat) : (eccError ecc off s).memForm := by simp [eccError, h]
@[simp] theorem eccRead_memForm (h : s.memForm) (ecc a n : Nat) : (eccRead ecc a n s).memForm := by simp [eccRead, h]

@[simp] theorem streamRead_memForm (h : s.memForm) (x : Rec) (ecc : Nat) : (streamRead x ecc s).memForm := by
  simp [streamRead, h]

@[simp] theorem fetchRead_memForm (h : s.memForm) (k ecc : Nat) : (fetchRead k ecc s).memForm := by
  unfold fetchRead
  dsimp only
  split <;> simp [h]

@[simp] theorem stageWrite_memForm (h : s.memForm) (k : Nat) : (stageWrite k s).memForm := by simp [stageWrite, h]
@[simp] theorem bufError_memForm (h : s.memForm) (ecc p : Nat) : (bufError ecc p s).memForm := by simp [bufError, h]
@[simp] theorem mgtRead_memForm (h : s.memForm) (p ecc : Nat) : (mgtRead p ecc s).memForm := by simp [mgtRead, h]

@[simp] theorem burstOf_memForm (h : s.memForm) (k ecc : Nat) : (burstOf k ecc s).memForm := by
  unfold burstOf
  split
  · simp [h]
  · split
    · simp [h]
    · split <;> simp [h]
  · simp [h]
  · simp [h]
  · simp [h]
  · exact h

@[simp] theorem burstEnd_memForm (h : s.memForm) : (burstEnd s).memForm := by simp [burstEnd, h]
@[simp] theorem grantTo_memForm (k ecc : Nat) (s : State) : (grantTo k ecc s).memForm = s.memForm := by simp [grantTo]

@[simp] theorem dramGrant_memForm (h : s.memForm) (req ecc : Nat) : (dramGrant req ecc s).memForm := by
  unfold dramGrant
  dsimp only
  split
  · simp [h]
  · split
    · simp [h]
    · split
      · simp [h]
      · split <;> simp [h]

@[simp] theorem nextBlock_memForm (s : State) : (nextBlock s).memForm = s.memForm := by simp [nextBlock]

@[simp] theorem scrubBlock_memForm (h : s.memForm) (ecc : Nat) : (scrubBlock ecc s).memForm := by
  unfold scrubBlock
  dsimp only
  split <;> simp [h]

@[simp] theorem tookTurn_memForm (dir : Bool) (k : Nat) (s : State) :
    (tookTurn dir k s).memForm = s.memForm := by
  simp [tookTurn]

@[simp] theorem moveBurst_memForm (h : s.memForm) (k : Nat) : (moveBurst k s).memForm := by simp [moveBurst, h]

@[simp] theorem dmaStep_memForm (h : s.memForm) (k : Nat) (err : Bool) : (dmaStep k err s).memForm := by
  unfold dmaStep
  extract_lets x a
  split
  · exact stopChannel_memForm (logF6_memForm (by simp [h]) _ _ _ _ _ _) _ _ _
  · split
    · split <;> simp [h]
    · simp [h]
    · simp [h]

@[simp] theorem captDamage_memForm (k : Nat) (s : State) : (captDamage k s).memForm = s.memForm := by
  unfold captDamage
  split <;> simp

@[simp] theorem streamParity_memForm (h : s.memForm) : (streamParity s).memForm := by simp [streamParity, h]
@[simp] theorem frontParity_memForm (h : s.memForm) (q : Nat) : (frontParity q s).memForm := by simp [frontParity, h]

@[simp] theorem issueBurst_memForm (h : s.memForm) (k : Nat) (err : Bool) : (issueBurst k err s).memForm := by
  simp [issueBurst, h]

@[simp] theorem burstPair_memForm (h : s.memForm) (err : Bool) : (burstPair err s).memForm := by
  unfold burstPair
  dsimp only
  split
  · split <;> simp [h]
  · split <;> simp [h]

@[simp] theorem streamBurst_memForm (h : s.memForm) (head : Nat) : (streamBurst head s).memForm := by simp [streamBurst, h]

@[simp] theorem walkFails_memForm (h : s.memForm) (ch qp cause : Nat) : (walkFails ch qp cause s).memForm := by
  simp [walkFails, h]

@[simp] theorem aheadFails_memForm (h : s.memForm) (ch a cause : Nat) : (aheadFails ch a cause s).memForm := by
  unfold aheadFails
  split <;> simp [h]

@[simp] theorem pageHere_memForm (h : s.memForm) (ch : Nat) : (pageHere ch s).memForm := by simp [pageHere, h]

@[simp] theorem walkWaited_memForm (h : s.memForm) (ch qp : Nat) (pte : List DWord) : (walkWaited ch qp pte s).memForm := by
  unfold walkWaited
  dsimp only
  split <;> simp [h]

@[simp] theorem walkAhead_memForm (h : s.memForm) (ch : Nat) (pte : List DWord) : (walkAhead ch pte s).memForm := by
  unfold walkAhead
  dsimp only
  split
  · simp [h]
  · split <;> simp [h]

@[simp] theorem translationWalk_memForm (h : s.memForm) (ch qp : Nat) (pte : List DWord) :
    (translationWalk ch qp pte s).memForm := by
  simp [translationWalk, h]

@[simp] theorem resumed_memForm (h : s.memForm) (ch : Nat) : (resumed ch s).memForm := by simp [resumed, h]

@[simp] theorem resumeChannel_memForm (h : s.memForm) (ch : Nat) (pte : List DWord) : (resumeChannel ch pte s).memForm := by
  simp [resumeChannel, h]

@[simp] theorem resumeWalk_memForm (h : s.memForm) (ch : Nat) : (resumeWalk ch s).memForm := by simp [resumeWalk, h]
@[simp] theorem stopSuspended_memForm (h : s.memForm) (ch : Nat) : (stopSuspended ch s).memForm := by simp [stopSuspended, h]
@[simp] theorem suspendTimeout_memForm (h : s.memForm) (ch : Nat) : (suspendTimeout ch s).memForm := by simp [suspendTimeout, h]

@[simp] theorem completionTimeout_memForm (h : s.memForm) (ch qp : Nat) : (completionTimeout ch qp s).memForm := by
  simp [completionTimeout, h]

@[simp] theorem suspendCut_memForm (s : State) : (suspendCut s).memForm = s.memForm := by simp [suspendCut]
@[simp] theorem biteChannel_memForm (h : s.memForm) (k : Nat) : (biteChannel k s).memForm := by simp [biteChannel, h]
@[simp] theorem biteStream_memForm (h : s.memForm) : (biteStream s).memForm := by simp [biteStream, h]
@[simp] theorem poisonBlock_memForm (a : Nat) (s : State) : (poisonBlock a s).memForm = s.memForm := by simp [poisonBlock]

@[simp] theorem biteOf_memForm (h : s.memForm) (k : Nat) : (biteOf k s).memForm := by
  unfold biteOf
  split <;> simp [h]

@[simp] theorem watchdogBite_memForm (h : s.memForm) : (watchdogBite s).memForm := by simp [watchdogBite, h]
@[simp] theorem invalidate_memForm (f : Mem → Mem) (s : State) : (invalidate f s).memForm = s.memForm := by simp [invalidate]
@[simp] theorem opMemStatus_memForm (c : Sub) (s : State) : (opMemStatus c s).state.memForm = s.memForm := by simp [opMemStatus]
@[simp] theorem opTurnSet_memForm (c : Sub) (s : State) : (opTurnSet c s).state.memForm = s.memForm := by simp [opTurnSet]
@[simp] theorem opTurnRead_memForm (c : Sub) (s : State) : (opTurnRead c s).state.memForm = s.memForm := by simp [opTurnRead]
@[simp] theorem opMemScrub_memForm (c : Sub) (s : State) : (opMemScrub c s).state.memForm = s.memForm := by simp [opMemScrub]

/-! Firmware slots and ledger writes -/

@[simp] theorem opFwStage_memForm (h : s.memForm) (c : Sub) : (opFwStage c s).state.memForm := by simp [opFwStage, h]
@[simp] theorem opFwSelect_memForm (c : Sub) (s : State) : (opFwSelect c s).state.memForm = s.memForm := by simp [opFwSelect]

@[simp] theorem readBackOk_memForm (h : s.memForm) (x : Cmd) : (readBackOk x s).state.memForm := by
  unfold readBackOk
  split <;> simp [h]

@[simp] theorem readBackBad_memForm (h : s.memForm) (x : Cmd) : (readBackBad x s).memForm := by simp [readBackBad, h]

@[simp] theorem ledgerReadBack_memForm (h : s.memForm) (ok : Bool) : (ledgerReadBack ok s).memForm := by
  unfold ledgerReadBack
  split
  · exact h
  · split
    · exact h
    · split
      · split
        · exact h
        · simp [takeCmd_memForm ‹_›, h]
      · simp [h]

/-! The PCIe function -/

@[simp] theorem discardCmds_memForm (h : s.memForm) : (discardCmds s).memForm := by simp [discardCmds, h]
@[simp] theorem disableQps_memForm (s : State) : (disableQps s).memForm = s.memForm := by simp [disableQps]
@[simp] theorem loseWork_memForm (h : s.memForm) : (loseWork s).memForm := by simp [loseWork, h]
@[simp] theorem linkFall_memForm (h : s.memForm) : (linkFall s).memForm := by simp [linkFall, h]
@[simp] theorem sendPending_memForm (h : s.memForm) : (sendPending s).memForm := by simp [sendPending, h]

@[simp] theorem linkRise_memForm (h : s.memForm) (rate width : Nat) : (linkRise rate width s).memForm := by
  unfold linkRise
  dsimp only
  split
  · simp [h]
  · split <;> simp [h]

/-! Clock sources and supplies -/

@[simp] theorem startFail_memForm (h : s.memForm) (p cause : Nat) : (startFail p cause s).memForm := by simp [startFail, h]

@[simp] theorem holdsImage_memForm (k : Nat) (found : Bool) (s : State) : (holdsImage k found s).memForm = s.memForm := by
  simp [holdsImage]

@[simp] theorem takeXtal32_memForm (h : s.memForm) : (takeXtal32 s).memForm := by simp [takeXtal32, h]
@[simp] theorem crystalStable_memForm (h : s.memForm) (k : Nat) : (crystalStable k s).memForm := by simp [crystalStable, h]
@[simp] theorem bootLevel_memForm (h : s.memForm) (p : Nat) : (bootLevel p s).memForm := by simp [bootLevel, h]

@[simp] theorem pllLock_memForm (h : s.memForm) (p : Nat) : (pllLock p s).memForm := by
  unfold pllLock
  split
  · exact h
  · exact bootLevel_memForm (by simp [h]) _

@[simp] theorem sourceLost_memForm (h : s.memForm) (k cause : Nat) : (sourceLost k cause s).memForm := by simp [sourceLost, h]
@[simp] theorem coast_memForm (h : s.memForm) (p : Nat) : (coast p s).memForm := by simp [coast, h]

@[simp] theorem clockMonitorTrip_memForm (h : s.memForm) (p : Nat) (pll : Bool) (cause : Nat) :
    (clockMonitorTrip p pll cause s).memForm := by
  simp [clockMonitorTrip, h]

@[simp] theorem umpireLost_memForm (h : s.memForm) : (umpireLost s).memForm := by simp [umpireLost, h]
@[simp] theorem fastRcLost_memForm (h : s.memForm) : (fastRcLost s).memForm := by simp [fastRcLost, h]

@[simp] theorem sharedClockTrip_memForm (h : s.memForm) (k cause : Nat) : (sharedClockTrip k cause s).memForm := by
  simp [sharedClockTrip, h]

@[simp] theorem sourceRecovered_memForm (h : s.memForm) (k : Nat) :
    (sourceRecovered k s).memForm := by
  simp [sourceRecovered, h]

@[simp] theorem tickPeriodCheck_memForm (h : s.memForm) (okA okB : Bool) : (tickPeriodCheck okA okB s).memForm := by
  simp [tickPeriodCheck, h]

@[simp] theorem portDark_memForm (h : s.memForm) (k : Nat) : (portDark k s).memForm := by simp [portDark, h]

@[simp] theorem supplyLost_memForm (h : s.memForm) (d : Nat) : (supplyLost d s).memForm := by
  unfold supplyLost
  split
  · simp [h]
  · split
    · split
      · simp [h]
      · exact h
    · split
      · simp [h]
      · split
        · exact forEach_memForm _ _ _ (fun _ u => by simp) (by simp [h])
        · split <;> exact h

@[simp] theorem afeCut_memForm (s : State) : (afeCut s).memForm = s.memForm := by simp [afeCut]

/-! Start-up, power loss and restoration -/

@[simp] theorem flushEvents_memForm (h : s.memForm) : (flushEvents s).memForm := by simp [flushEvents, h]

@[simp] theorem startClocks_memForm (again : Bool) (s : State) :
    (startClocks again s).memForm = s.memForm := by
  simp [startClocks]

@[simp] theorem enterStart_memForm (h : s.memForm) (again : Bool) : (enterStart again s).memForm := by
  unfold enterStart
  extract_lets _ s1 s2
  have h1 : s1.memForm := by simp [s1, h]
  have h2 : s2.memForm := by simp [s2, h1]
  simp [h2]

@[simp] theorem sampleStraps_memForm (x : Straps) (s : State) : (sampleStraps x s).memForm = s.memForm := by simp [sampleStraps]
@[simp] theorem porstRelease_memForm (h : s.memForm) (x : Straps) : (porstRelease x s).memForm := by simp [porstRelease, h]
@[simp] theorem beginCkpt_memForm (h : s.memForm) (cause : Nat) : (beginCkpt cause s).memForm := by simp [beginCkpt, h]

@[simp] theorem warmRstRelease_memForm (h : s.memForm) (x : Straps) :
    (warmRstRelease x s).memForm := by
  simp [warmRstRelease, h]

@[simp] theorem setHalf_memForm (h : Nat) (c : Option Ckpt) (s : State) :
    (setHalf h c s).memForm = s.memForm := by
  simp [setHalf]

@[simp] theorem startHalf_memForm (h : s.memForm) : (startHalf s).memForm := by simp [startHalf, h]
@[simp] theorem shadowLatch_memForm (h : s.memForm) : (shadowLatch s).memForm := by simp [shadowLatch, h]

@[simp] theorem clearMark_memForm (h : Nat) (s : State) : (clearMark h s).memForm = s.memForm := by
  unfold clearMark
  split <;> simp

@[simp] theorem validMark_memForm (h : s.memForm) (ok : Bool) : (validMark ok s).memForm := by simp [validMark, h]
@[simp] theorem handLive_memForm (h : s.memForm) : (handLive s).memForm := by simp [handLive, h]

@[simp] theorem pwrfailRelease_memForm (h : s.memForm) : (pwrfailRelease s).memForm := by
  unfold pwrfailRelease
  split
  · exact h
  · extract_lets s1 mine _ s2 _ s3
    have h1 : s1.memForm := by
      unfold s1
      split
      · exact raise_memForm (raise_memForm (by simp [h]) _ _) _ _
      · simp [h]
    have h3 : s3.memForm := by simp [s3, s2, h1]
    simp [h3]

@[simp] theorem afterRestart_memForm (s : State) : (afterRestart s).memForm = s.memForm := by simp [afterRestart]
@[simp] theorem postLoaded_memForm (h : s.memForm) (k : Nat) : (postLoaded k s).memForm := by simp [postLoaded, h]

@[simp] theorem startupElection_memForm (h : s.memForm) : (startupElection s).memForm := by
  unfold startupElection
  split
  · exact h
  · split <;> simp [h]

@[simp] theorem enterReady_memForm (h : s.memForm) : (enterReady s).memForm := by simp [enterReady, h]
@[simp] theorem takeUp_memForm (h : s.memForm) : (takeUp s).memForm := by simp [takeUp, h]

/-! Front-end and device commands, queue pair registers -/

@[simp] theorem opNop_memForm (c : Sub) (s : State) : (opNop c s).state.memForm = s.memForm := by simp [opNop]
@[simp] theorem opIdentify_memForm (c : Sub) (s : State) : (opIdentify c s).state.memForm = s.memForm := by simp [opIdentify]
@[simp] theorem abortNow_memForm (h : s.memForm) (x : Cmd) : (abortNow x s).memForm := by simp [abortNow, h]

@[simp] theorem opAbort_memForm (h : s.memForm) (c : Sub) : (opAbort c s).state.memForm := by
  unfold opAbort
  repeat' split
  all_goals simp [h]

@[simp] theorem toRun_memForm (h : s.memForm) : (toRun s).memForm := by simp [toRun, h]
@[simp] theorem toReady_memForm (s : State) : (toReady s).memForm = s.memForm := by simp [toReady]
@[simp] theorem restDram_memForm (h : s.memForm) : (restDram s).memForm := by simp [restDram, h]

@[simp] theorem toIdle_memForm (h : s.memForm) : (toIdle s).memForm := by
  unfold toIdle
  refine applyLevel_memForm (restDram_memForm (recStop_memForm ?_)) _
  simp [h]

@[simp] theorem beginRun_memForm (h : s.memForm) : (beginRun s).memForm := by simp [beginRun, h]
@[simp] theorem opSetState_memForm (h : s.memForm) (c : Sub) : (opSetState c s).state.memForm := by simp [opSetState, h]
@[simp] theorem drainStaging_memForm (h : s.memForm) : (drainStaging s).memForm := by simp [drainStaging, h]

@[simp] theorem qpRaise_memForm (h : s.memForm) (q kind : Nat) (changed : Bool) : (qpRaise q kind changed s).memForm := by
  simp [qpRaise, h]

@[simp] theorem writeQpCtrl_memForm (h : s.memForm) (q : Nat) (v : Word) : (writeQpCtrl q v s).memForm := by
  simp [writeQpCtrl, h]

@[simp] theorem writeSqTail_memForm (h : s.memForm) (q : Nat) (v : Word) : (writeSqTail q v s).memForm := by
  simp [writeSqTail, h]

@[simp] theorem writeCqHead_memForm (h : s.memForm) (q : Nat) (v : Word) : (writeCqHead q v s).memForm := by
  simp [writeCqHead, h]

@[simp] theorem clearRetry_memForm (h : s.memForm) (q : Nat) : (clearRetry q s).memForm := by simp [clearRetry, h]

@[simp] theorem coalesceTimeout_memForm (h : s.memForm) (q : Nat) :
    (coalesceTimeout q s).memForm := by
  simp [coalesceTimeout, h]

@[simp] theorem coalCut_memForm (s : State) : (coalCut s).memForm = s.memForm := by simp [coalCut]
@[simp] theorem easePairs_memForm (h : s.memForm) (timed : Bool) : (easePairs timed s).memForm := by simp [easePairs, h]

@[simp] theorem writeQpReg_memForm (h : s.memForm) (q o : Nat) (v : Word) : (writeQpReg q o v s).memForm := by
  simp [writeQpReg, h]

@[simp] theorem writeMsix_memForm (h : s.memForm) (k : Nat) (v : Word) : (writeMsix k v s).memForm := by simp [writeMsix, h]

@[simp] theorem writeWin_memForm (w o : Nat) (v : Word) (s : State) :
    (writeWin w o v s).memForm = s.memForm := by
  simp [writeWin]

@[simp] theorem writeInv_memForm (d : DWord) (s : State) : (writeInv d s).memForm = s.memForm := by simp [writeInv]
@[simp] theorem writeXlat_memForm (h : s.memForm) (o : Nat) (v : Word) : (writeXlat o v s).memForm := by simp [writeXlat, h]

@[simp] theorem writeChCtrl_memForm (h : s.memForm) (k : Nat) (v : Word) : (writeChCtrl k v s).memForm := by
  simp [writeChCtrl, h]

@[simp] theorem writeReg_memForm (h : s.memForm) (off : Nat) (v : Word) : (writeReg off v s).memForm := by simp [writeReg, h]

@[simp] theorem writeWide_memForm (h : s.memForm) (off : Nat) (v : DWord) :
    (writeWide off v s).memForm := by
  simp [writeWide, h]

/-! Device time -/

@[simp] theorem setTime_memForm (t : DevTime) (s : State) : (setTime t s).memForm = s.memForm := by simp [setTime]
@[simp] theorem setPtp_memForm (p : Ptp) (s : State) : (setPtp p s).memForm = s.memForm := by simp [setPtp]
@[simp] theorem setMgt_memForm (k : Nat) (m : MgtPort) (s : State) : (setMgt k m s).memForm = s.memForm := by simp [setMgt]
@[simp] theorem onClks_memForm (f : PlaneTime → PlaneTime) (s : State) : (onClks f s).memForm = s.memForm := by simp [onClks]
@[simp] theorem setCmp_memForm (u : Nat) (x : Cmp) (s : State) : (setCmp u x s).memForm = s.memForm := by simp [setCmp]
@[simp] theorem cmpFire_memForm (h : s.memForm) (u : Nat) : (cmpFire u s).memForm := by simp [cmpFire, h]
@[simp] theorem cmpsAtCut_memForm (h : s.memForm) : (cmpsAtCut s).memForm := by simp [cmpsAtCut, h]
@[simp] theorem stepTime_memForm (h : s.memForm) (d : Int) : (stepTime d s).memForm := by simp [stepTime, h]
@[simp] theorem rateTime_memForm (h : s.memForm) (r : Word) : (rateTime r s).memForm := by simp [rateTime, h]

@[simp] theorem timeCut_memForm (h : s.memForm) : (timeCut s).memForm := by
  unfold timeCut
  dsimp only
  split
  · split <;> simp [h]
  · split <;> simp [h]

@[simp] theorem opTimeStep_memForm (h : s.memForm) (c : Sub) : (opTimeStep c s).state.memForm := by simp [opTimeStep, h]
@[simp] theorem opTimeRate_memForm (h : s.memForm) (c : Sub) : (opTimeRate c s).state.memForm := by simp [opTimeRate, h]
@[simp] theorem opTimeCmp_memForm (h : s.memForm) (c : Sub) : (opTimeCmp c s).state.memForm := by simp [opTimeCmp, h]
@[simp] theorem opTimeRead_memForm (c : Sub) (s : State) : (opTimeRead c s).state.memForm = s.memForm := by simp [opTimeRead]

@[simp] theorem opTimeStatus_memForm (c : Sub) (s : State) :
    (opTimeStatus c s).state.memForm = s.memForm := by
  simp [opTimeStatus]

@[simp] theorem choosePort_memForm (h : s.memForm) : (choosePort s).memForm := by
  unfold choosePort
  split <;> simp [h]

@[simp] theorem opMgtConfig_memForm (h : s.memForm) (c : Sub) : (opMgtConfig c s).state.memForm := by simp [opMgtConfig, h]
@[simp] theorem opPtpConfig_memForm (h : s.memForm) (c : Sub) : (opPtpConfig c s).state.memForm := by simp [opPtpConfig, h]
@[simp] theorem opPtpStatus_memForm (c : Sub) (s : State) : (opPtpStatus c s).state.memForm = s.memForm := by simp [opPtpStatus]
@[simp] theorem servoStep_memForm (h : s.memForm) (o : Int) : (servoStep o s).memForm := by simp [servoStep, h]

/-! The MS-240 window -/

@[simp] theorem setWin_memForm (w : WindowBus) (s : State) : (setWin w s).memForm = s.memForm := by simp [setWin]
@[simp] theorem setWstat_memForm (b : Nat) (s : State) : (setWstat b s).memForm = s.memForm := by simp [setWstat]
@[simp] theorem setLstat_memForm (l b : Nat) (s : State) : (setLstat l b s).memForm = s.memForm := by simp [setLstat]

@[simp] theorem queueWrite_memForm (l kind : Nat) (v : Word) (s : State) : (queueWrite l kind v s).memForm = s.memForm := by
  simp [queueWrite]

@[simp] theorem winToken_memForm (l port : Nat) (v : Word) (s : State) : (winToken l port v s).memForm = s.memForm := by
  simp [winToken]

@[simp] theorem winOut_memForm (h : s.memForm) (replaced : Bool) (l : Nat) (v : Word) : (winOut replaced l v s).memForm := by
  unfold winOut
  dsimp only
  split
  · simp [h]
  · split <;> simp [h]

@[simp] theorem winSetMode_memForm (l m : Nat) (s : State) : (winSetMode l m s).memForm = s.memForm := by simp [winSetMode]
@[simp] theorem winApply_memForm (h : s.memForm) (x : Nat × Nat × Word) : (winApply x s).memForm := by simp [winApply, h]
@[simp] theorem winWritesCut_memForm (h : s.memForm) : (winWritesCut s).memForm := by simp [winWritesCut, h]

@[simp] theorem winAsk_memForm (cmd : Bool) (data : Nat) (s : State) :
    (winAsk cmd data s).memForm = s.memForm := by
  simp [winAsk]

@[simp] theorem setOwner_memForm (n : Nat) (on : Bool) (s : State) : (setOwner n on s).memForm = s.memForm := by simp [setOwner]
@[simp] theorem keepFlags_memForm (n : Nat) (s : State) : (keepFlags n s).memForm = s.memForm := by simp [keepFlags]
@[simp] theorem winClaimAt_memForm (d : Nat) (s : State) : (winClaimAt d s).memForm = s.memForm := by simp [winClaimAt]
@[simp] theorem winOp_memForm (h : s.memForm) (code n : Nat) : (winOp code n s).state.memForm := by simp [winOp, h]

@[simp] theorem winFenced_memForm (h : s.memForm) (n : Nat) : (winFenced n s).memForm := by
  unfold winFenced
  dsimp only
  split <;> simp [h]

@[simp] theorem winCmdAt_memForm (h : s.memForm) (code : Nat) : (winCmdAt code s).memForm := by
  unfold winCmdAt
  extract_lets n
  have hw := winOp_memForm (s := setOwner n false s) (by simp [h]) code n
  split
  · simp [h]
  · split
    · simp_all
    · simp [h]

@[simp] theorem winDone_memForm (s : State) : (winDone s).memForm = s.memForm := by simp [winDone]

@[simp] theorem winRequests_memForm (h : s.memForm) (early : Bool) : (winRequests early s).memForm := by
  unfold winRequests
  split <;> simp [h]

@[simp] theorem statusClear_memForm (a : Nat) (s : State) : (statusClear a s).memForm = s.memForm := by simp [statusClear]
@[simp] theorem winRead_memForm (a : Nat) (s : State) : (winRead a s).memForm = s.memForm := by simp [winRead]

@[simp] theorem winCut_memForm (s : State) : (winCut s).memForm = s.memForm := by
  unfold winCut
  dsimp only
  split <;> simp

/-! The front end -/

@[simp] theorem coreOf_memForm (h : s.memForm) (op : Nat) (c : Sub) : (coreOf op c s).state.memForm := by
  unfold coreOf
  split <;> simp [h]

@[simp] theorem forward_memForm (h : s.memForm) (op : Nat) (c : Sub) : (forward op c s).state.memForm := by
  have hc := coreOf_memForm h op c
  unfold forward
  split
  · simp_all
  · exact h

@[simp] theorem crcFail_memForm (h : s.memForm) (c : Sub) : (crcFail c s).memForm := by simp [crcFail, h]

@[simp] theorem fetchEntry_memForm (h : s.memForm) (qp : Nat) (ws image : List Word) :
    (fetchEntry qp ws image s).memForm := by
  unfold fetchEntry
  dsimp only
  split
  · simp [h]
  · split
    · simp [h]
    · split <;> simp [h]

@[simp] theorem releaseOrder_memForm (h : s.memForm) (x : Cmd) : (releaseOrder x s).memForm := by
  unfold releaseOrder
  dsimp only
  split
  · simp [h]
  · split <;> simp [h]

@[simp] theorem releaseOrders_memForm (h : s.memForm) (n : Nat) : (releaseOrders n s).memForm := by
  induction n generalizing s with
  | zero => exact h
  | succ n ih =>
    unfold releaseOrders
    split
    · exact h
    · simp [ih, h]

@[simp] theorem orderCut_memForm (h : s.memForm) : (orderCut s).memForm := by simp [orderCut, h]
@[simp] theorem placement_memForm (x : Cmd) (s : State) : (placement x s).state.memForm = s.memForm := by simp [placement]
@[simp] theorem placeTimed_memForm (h : s.memForm) (x : Cmd) : (placeTimed x s).memForm := by simp [placeTimed, h]
@[simp] theorem placeDue_memForm (h : s.memForm) : (placeDue s).memForm := by simp [placeDue, h]

@[simp] theorem commitForwarded_memForm (h : s.memForm) (x : Cmd) : (commitForwarded x s).memForm := by
  unfold commitForwarded
  extract_lets _ s1
  have h1 : s1.memForm := h
  have hc := coreOf_memForm h1 x.op x.sub
  split
  · simp [h1]
  · split
    · simp [h1]
    · split
      · next e =>
        rw [e] at hc
        split
        · simp_all
        · split
          · exact h
          · simp_all
      · exact finish_memForm _ _ _ hc

@[simp] theorem firmwareFault_memForm (h : s.memForm) (x : Cmd) : (firmwareFault x s).memForm := by simp [firmwareFault, h]

/-! Registers -/

@[simp] theorem clearRc_memForm (off : Nat) (s : State) : (clearRc off s).memForm = s.memForm := by simp [clearRc]
@[simp] theorem readClear_memForm (off : Nat) (s : State) : (readClear off s).memForm = s.memForm := by simp [readClear]

/-! The tick -/

@[simp] theorem sampleDeadline_memForm (h : s.memForm) : (sampleDeadline s).memForm := by
  unfold sampleDeadline
  extract_lets s0 s1 s2 s3 s4 s5
  have h0 : s0.memForm := by simp [s0, h]
  split
  · exact h0
  · have h1 : s1.memForm := by simp [s1, h0]
    have h5 : s5.memForm := by simp [s5, s4, s3, s2, h1]
    simp [h5]

@[simp] theorem refuseLate_memForm (h : s.memForm) : (refuseLate s).memForm := by
  unfold refuseLate
  split <;> simp [h]

@[simp] theorem owedByPlanes_memForm (h : s.memForm) : (owedByPlanes s).memForm := by simp [owedByPlanes, h]
@[simp] theorem recDue_memForm (h : s.memForm) : (recDue s).memForm := by simp [recDue, h]

@[simp] theorem endSample_memForm (h : s.memForm) : (endSample s).memForm := by
  unfold endSample
  split
  · exact h
  · extract_lets s1 s2
    have h1 : s1.memForm := by simp [s1, h]
    have h2 : s2.memForm := canCut_memForm (analogCut_memForm (by simp [h1]))
    exact handOver_memForm (shadowLatch_memForm (by simp [h2]))

@[simp] theorem sampleGp_memForm (gp : List Word) (s : State) : (sampleGp gp s).memForm = s.memForm := by simp [sampleGp]

@[simp] theorem sampleEnc_memForm (enc : List Word) (bad : BitVec 16) (k : Nat) (s : State) :
    (sampleEnc enc bad k s).memForm = s.memForm := by
  simp [sampleEnc]

@[simp] theorem samplePins_memForm (gp enc : List Word) (bad : BitVec 16) (s : State) :
    (samplePins gp enc bad s).memForm = s.memForm := by
  simp [samplePins]

@[simp] theorem abortAt_memForm (h : s.memForm) (x : Cmd) : (abortAt x s).memForm := by
  unfold abortAt
  extract_lets _ s1
  have h1 : s1.memForm := h
  have ha := opSessAbort_memForm x.sub (onPlanes (abortTakes x.sub.target) s1)
  split
  · simp [h1]
  · split
    · simp [h1]
    · split
      · simp_all
      · exact h1

@[simp] theorem winAbortAt_memForm (h : s.memForm) : (winAbortAt s).memForm := by
  unfold winAbortAt
  extract_lets n
  have hw := winOp_memForm (s := setOwner n false (onPlanes (abortTakes n) s)) (by simp [h]) 5 n
  split
  · exact h
  · split
    · simp_all
    · simp [h]

@[simp] theorem startAt_memForm (h : s.memForm) (x : Cmd) : (startAt x s).memForm := by simp [startAt, h]

@[simp] theorem sessionCut_memForm (h : s.memForm) (n : Nat) : (sessionCut n s).memForm := by
  unfold sessionCut
  extract_lets s1 s2
  have h2 : s2.memForm := by simp [s2, s1, h]
  simp [h2]

@[simp] theorem recipeCut_memForm (h : s.memForm) : (recipeCut s).memForm := by
  unfold recipeCut
  extract_lets waiting s1 named s2 s3
  have h2 : s2.memForm := by simp [s2, s1, h]
  have h3 : s3.memForm := winAbortAt_memForm (forEach_memForm _ _ _ (fun x u => abortAt_memForm u.2 x) h2)
  simp [h3]

@[simp] theorem planesCut_memForm (h : s.memForm) : (planesCut s).memForm := by
  unfold planesCut
  extract_lets s1 s2 s3 s4 s5 s6
  have h4 : s4.memForm := by simp [s4, s3, s2, s1, h]
  have h5 : s5.memForm := by simp [s5, h4]
  simp [s6, h5]

@[simp] theorem loadCut_memForm (s : State) : (loadCut s).memForm = s.memForm := by simp [loadCut]

@[simp] theorem sharedCut_memForm (h : s.memForm) : (sharedCut s).memForm := by
  unfold sharedCut
  extract_lets s1
  have h1 : s1.memForm := by simp [s1, h]
  simp [h1]

/-! Resets, restorations, the sealed read and the input cut -/

section
variable {s : State} (h : s.memForm)
include h

@[simp] theorem loadSeal_memForm : (loadSeal s).memForm := by
  unfold loadSeal
  split <;> simp [h]

@[simp] theorem sealedRead_memForm : (sealedRead s).memForm := by
  unfold sealedRead
  extract_lets s1 s2
  have h1 : s1.memForm := by simp [s1, h]
  have h2 : s2.memForm := by simp [s2, h1]
  exact postPre_memForm (by simp [h2])

@[simp] theorem rcStable_memForm (k : Nat) : (rcStable k s).memForm := by
  unfold rcStable
  extract_lets c s1
  have h1 : s1.memForm := by simp [s1, h]
  split
  · exact h
  · split
    · exact h1
    · split
      · exact sealedRead_memForm (wakeDram_memForm (by simp [h1]))
      · exact h1

@[simp] theorem restoreOnce_memForm (k : Nat) : (restoreOnce k s).memForm := by
  unfold restoreOnce
  split
  · exact h
  · extract_lets p b c marks s1
    have h1 : s1.memForm := forEach_memForm _ _ _ (fun _ u => by simp) h
    split
    · simp [h]
    · simp [h1]

@[simp] theorem loadRestore_memForm (k : Nat) : (loadRestore k s).memForm := by
  unfold loadRestore
  simp [h]

omit h in
@[simp] theorem resetCore_memForm (s : State) : (resetCore s).memForm = s.memForm := rfl

omit h in
@[simp] theorem keepLdg_memForm (s : State) : (keepLdg s).memForm = s.memForm := rfl

@[simp] theorem warmReset_memForm : (warmReset s).memForm := by
  unfold warmReset
  extract_lets s1 s2
  have h2 : s2.memForm := by simp [s2, s1, h]
  simp [h2]

/-- A power-down keeps what stands in the host's memory. -/
theorem standbyDown_memForm : (standbyDown s).memForm := by
  unfold standbyDown
  extract_lets s1 s2 s3 t
  have h1 : s1.memForm := linkFall_memForm (writeOpsec_memForm (by simp [h]) _)
  have h2 : s2.memForm := setPower_memForm (restDram_memForm (by simp [h1])) _ _
  have h3 : s3.memForm := by simp [s3, h2]
  simp [t, h3]

omit h in
@[simp] theorem afterState_memForm (t : State) (ht : t.memForm) : (afterState s t).memForm := by
  unfold afterState
  split
  · exact standbyDown_memForm ht
  · exact ht

@[simp] theorem advanceSn_memForm : (advanceSn s).memForm := by
  unfold advanceSn
  extract_lets n s1 up
  have h1 : s1.memForm := by simp [s1, h]
  simp [h1]

@[simp] theorem inputCut_memForm (gp enc : List Word) (bad : BitVec 16) : (inputCut gp enc bad s).memForm := by
  cases hr : cutRuns s with
  | false => simp [inputCut_of_not_runs gp enc bad hr, h]
  | true =>
    rw [inputCut_of_runs gp enc bad hr]
    extract_lets u
    have ha : (advanceSn (endSample (orderCut s))).memForm := advanceSn_memForm (by simp [h])
    have hu : u.memForm := by simp [u, ha]
    have hc : (sharedCut (if halted u then winWritesCut u else planesCut u)).memForm := sharedCut_memForm (by simp [hu])
    exact orderCut_memForm (by simp [hc])

end

end Sys2Proof.Machine
end

/-! The dispatch: every row keeps the canonical form of host memory. -/

section
namespace Sys2Proof.Machine

/-- The next state that an outcome gives, if any, has host memory in canonical form. -/
def GivesForm (o : Outcome) : Prop := ∀ t, o = .next t → t.memForm

@[simp] theorem givesForm_next (t : State) : GivesForm (.next t) ↔ t.memForm :=
  ⟨fun h => h t rfl, fun h _ e => by cases e; exact h⟩
@[simp] theorem givesForm_fault (r : Fault) : GivesForm (.fault r) := fun _ e => nomatch e
@[simp] theorem givesForm_ite (c : Prop) [Decidable c] (x y : Outcome) :
    GivesForm (if c then x else y) ↔ if c then GivesForm x else GivesForm y := by
  split <;> rfl
@[simp] theorem givesForm_guarded (b : Bool) (t : State) : GivesForm (guarded b t) ↔ b = true → t.memForm := by
  cases b <;> simp [guarded]

section
variable {s : State} (h : s.memForm)
include h

@[simp] theorem givesForm_hostCmd (op : Nat) (core : Sub → State → OpOut) (c : Sub)
    (hc : ∀ u : {u : State // u.memForm}, (core c u).state.memForm) : GivesForm (hostCmd op core c s) := by
  simp [hostCmd, h, hc]
@[simp] theorem givesForm_instrRow (w : DWord) (f : Plane → Plane) : GivesForm (instrRow w f s) := by simp [instrRow, h]
@[simp] theorem givesForm_instrX (op lim x : Nat) (f : Nat → Plane → Plane) : GivesForm (instrX op lim x f s) := by
  simp [instrX, h]
@[simp] theorem givesForm_instrW2 (op a b : Nat) (f : Nat → Nat → Plane → Plane) : GivesForm (instrW2 op a b f s) := by
  simp [instrW2, h]
@[simp] theorem givesForm_qpRow (q : Nat) (f : State → State) (hf : ∀ u : {u : State // u.memForm}, (f u).memForm) :
    GivesForm (qpRow q f s) := by
  have h1 := hf ⟨s, h⟩
  simp [qpRow, h, h1]
@[simp] theorem givesForm_winWrite (ok : Bool) (f : State → State) (hf : ∀ u : {u : State // u.memForm}, (f u).memForm) :
    GivesForm (winWrite ok f s) := by
  have h1 := hf ⟨s, h⟩
  simp [winWrite, h, h1]

theorem execTimedPlacement_givesForm (qp : Nat) (tag : BitVec 16) : GivesForm (execTimedPlacement qp tag s) := by
  unfold execTimedPlacement
  split <;> simp [h]

theorem execSwitchoverElection_givesForm : GivesForm (execSwitchoverElection s) := by
  unfold execSwitchoverElection
  split <;> simp [h]

theorem execEventPosting_givesForm : GivesForm (execEventPosting s) := by
  unfold execEventPosting
  dsimp only
  split <;> simp [h]

theorem execStoTestPulse_givesForm (pair : Nat) (ok : Bool) : GivesForm (execStoTestPulse pair ok s) := by
  unfold execStoTestPulse
  split <;> simp [h]

theorem execAiConversion_givesForm (ch : Nat) (codes : List Int) (parityBad : Bool) :
    GivesForm (execAiConversion ch codes parityBad s) := by
  unfold execAiConversion
  dsimp only
  split <;> simp [h]

/-- A rotation that fails ends with its converter out of service. -/
theorem calFails_memForm (g k cause st : Nat) (r : DWord) (x : AGroup) :
    (endCal g st r (groupEvent g 3 0 0 (convFailed g k cause (setAgroup g x s)))).memForm :=
  endCal_memForm (groupEvent_memForm (by simp [h]) _ _ _ _) _ _ _

theorem execCalHandover_givesForm (g diff : Nat) : GivesForm (execCalHandover g diff s) := by
  unfold execCalHandover
  dsimp only
  split
  · simp [h]
  · simp [h, calFails_memForm]

theorem execCalCoeffLoaded_givesForm (g : Nat) (coef : List (Int × Int)) (ok : Bool) :
    GivesForm (execCalCoeffLoaded g coef ok s) := by
  unfold execCalCoeffLoaded
  dsimp only
  split
  · simp [h]
  · simp [h, calFails_memForm]

theorem execAfeTestDone_givesForm (ch : Nat) (res : Word) : GivesForm (execAfeTestDone ch res s) := by
  unfold execAfeTestDone
  split <;> simp [h]

theorem execFrameDelivery_givesForm (p : Nat) : GivesForm (execFrameDelivery p s) := by
  unfold execFrameDelivery
  dsimp only
  split <;> simp [h]

theorem execPtpMessageReceive_givesForm (port : Nat) (m : PtpMsg) : GivesForm (execPtpMessageReceive port m s) := by
  unfold execPtpMessageReceive
  dsimp only
  split
  · simp [h]
  · split
    · simp [h]
    · split
      · simp [h]
      · split <;> simp [h]

theorem execPtpMessageSend_givesForm (kind : Nat) : GivesForm (execPtpMessageSend kind s) := by
  unfold execPtpMessageSend
  split <;> simp [h]

theorem execCanTxComplete_givesForm (ch : Nat) : GivesForm (execCanTxComplete ch s) := by
  unfold execCanTxComplete
  dsimp only
  split <;> simp [h]

theorem execCanTxError_givesForm (ch : Nat) : GivesForm (execCanTxError ch s) := by
  unfold execCanTxError
  dsimp only
  split <;> simp [h]

theorem execCanArbitrationLost_givesForm (ch : Nat) : GivesForm (execCanArbitrationLost ch s) := by
  unfold execCanArbitrationLost
  dsimp only
  split <;> simp [h]

theorem execDroopFallback_givesForm (plane : Nat) : GivesForm (execDroopFallback plane s) := by
  unfold execDroopFallback
  split <;> simp [h]

theorem execLevelSettleExpiry_givesForm (plane : Nat) : GivesForm (execLevelSettleExpiry plane s) := by
  unfold execLevelSettleExpiry
  dsimp only
  split
  · simp
  · split <;> simp [h]

theorem execWindowRequestTimeout_givesForm : GivesForm (execWindowRequestTimeout s) := by
  unfold execWindowRequestTimeout
  split <;> simp [h]

theorem execSetState_givesForm (c : Sub) : GivesForm (execSetState c s) :=
  (givesForm_next _).2 (afterState_memForm _ (by simp [h]))

theorem execD0Entry_givesForm : GivesForm (execD0Entry s) := by
  refine (givesForm_next _).2 ?_
  split
  · exact h
  · exact raise_memForm (sendPending_memForm (by simp [h])) _ _

theorem execForwardedCommit_givesForm (qp : Nat) (fwd : Forwarded) : GivesForm (execForwardedCommit qp fwd s) := by
  refine (givesForm_guarded _ _).2 fun _ => ?_
  split
  · exact h
  · exact afterState_memForm _ (orderCut_memForm (by simp [h]))

theorem execTimeRecord_givesForm : GivesForm (execTimeRecord s) := by
  have h1 : (recDue s).memForm := by simp [h]
  simp [execTimeRecord, h1]

theorem execIdleWakeCommit_givesForm : GivesForm (execIdleWakeCommit s) := by
  refine (givesForm_next _).2 ?_
  split
  · exact h
  · exact recBegin_memForm (completeWaiting_memForm (by simp [h]) _ _ _)

/-- Every row keeps the canonical form. -/
theorem exec_givesForm (i : Instr) : GivesForm (exec i s) := by
  cases i with
  | nop c => simp [execNop, h]
  | identify c => simp [execIdentify, h]
  | setState c => exact execSetState_givesForm h c
  | abort c => simp [execAbort, h]
  | clkStatus c => simp [execClkStatus, h]
  | clkMeasure c => simp [execClkMeasure, h]
  | clkGate c => simp [execClkGate, h]
  | pwrStatus c => simp [execPwrStatus, h]
  | dvfsSet c => simp [execDvfsSet, h]
  | clkoutCfg c => simp [execClkoutCfg, h]
  | loopSetSp c => simp [execLoopSetSp, h]
  | loopSetOut c => simp [execLoopSetOut, h]
  | loopRead c => simp [execLoopRead, h]
  | loopSetMode c => simp [execLoopSetMode, h]
  | loopWrite c => simp [execLoopWrite, h]
  | boothStatus c => simp [execBoothStatus, h]
  | boothKeepAwake c => simp [execBoothKeepAwake, h]
  | modelLoad c => simp [execModelLoad, h]
  | modelReinit c => simp [execModelReinit, h]
  | testStart c => simp [execTestStart, h]
  | testStop c => simp [execTestStop, h]
  | testStatus c => simp [execTestStatus, h]
  | captRead c => simp [execCaptRead, h]
  | dispLoad c => simp [execDispLoad, h]
  | dispSetPrio c => simp [execDispSetPrio, h]
  | dispStatus c => simp [execDispStatus, h]
  | dispFlowStatus c => simp [execDispFlowStatus, h]
  | sessAdvance c => simp [execSessAdvance, h]
  | sessHold c => simp [execSessHold, h]
  | sessLoad c => simp [execSessLoad, h]
  | sessStart c => simp [execSessStart, h]
  | sessResume c => simp [execSessResume, h]
  | sessAbort c => simp [execSessAbort, h]
  | sessUnload c => simp [execSessUnload, h]
  | sessStatus c => simp [execSessStatus, h]
  | scanLoad c => simp [execScanLoad, h]
  | scanMode c => simp [execScanMode, h]
  | scanWrite c => simp [execScanWrite, h]
  | scanRead c => simp [execScanRead, h]
  | scanStatus c => simp [execScanStatus, h]
  | axConfig c => simp [execAxConfig, h]
  | axWrite c => simp [execAxWrite, h]
  | axEnable c => simp [execAxEnable, h]
  | axMove c => simp [execAxMove, h]
  | axStop c => simp [execAxStop, h]
  | axSetLimits c => simp [execAxSetLimits, h]
  | axHome c => simp [execAxHome, h]
  | axGear c => simp [execAxGear, h]
  | axGearSched c => simp [execAxGearSched, h]
  | axClear c => simp [execAxClear, h]
  | axRead c => simp [execAxRead, h]
  | safeStatus c => simp [execSafeStatus, h]
  | safeRequest c => simp [execSafeRequest, h]
  | safeReset c => simp [execSafeReset, h]
  | sconnStatus c => simp [execSconnStatus, h]
  | sealStage c => simp [execSealStage, h]
  | sealCommit c => simp [execSealCommit, h]
  | sealRead c => simp [execSealRead, h]
  | recConfig c => simp [execRecConfig, h]
  | recStream c => simp [execRecStream, h]
  | recStatus c => simp [execRecStatus, h]
  | recFetch c => simp [execRecFetch, h]
  | trigConfig c => simp [execTrigConfig, h]
  | trigCtrl c => simp [execTrigCtrl, h]
  | trigStatus c => simp [execTrigStatus, h]
  | maskLoad c => simp [execMaskLoad, h]
  | maskArm c => simp [execMaskArm, h]
  | maskStatus c => simp [execMaskStatus, h]
  | planeStatus c => simp [execPlaneStatus, h]
  | planeHealth c => simp [execPlaneHealth, h]
  | planeRestore c => simp [execPlaneRestore, h]
  | planeOffline c => simp [execPlaneOffline, h]
  | planeSwap c => simp [execPlaneSwap, h]
  | planeConfig c => simp [execPlaneConfig, h]
  | ledgerStatus c => simp [execLedgerStatus, h]
  | journalRead c => simp [execJournalRead, h]
  | fwStage c => simp [execFwStage, h]
  | fwSelect c => simp [execFwSelect, h]
  | memStatus c => simp [execMemStatus, h]
  | turnSet c => simp [execTurnSet, h]
  | turnRead c => simp [execTurnRead, h]
  | memScrub c => simp [execMemScrub, h]
  | aiConfig c => simp [execAiConfig, h]
  | afeSeq c => simp [execAfeSeq, h]
  | aoConfig c => simp [execAoConfig, h]
  | clConfig c => simp [execClConfig, h]
  | pwConfig c => simp [execPwConfig, h]
  | afeCal c => simp [execAfeCal, h]
  | afeTest c => simp [execAfeTest, h]
  | afeStatus c => simp [execAfeStatus, h]
  | afeMode c => simp [execAfeMode, h]
  | gpConfig c => simp [execGpConfig, h]
  | fpConfig c => simp [execFpConfig, h]
  | fpStation c => simp [execFpStation, h]
  | fpArm c => simp [execFpArm, h]
  | fpStatus c => simp [execFpStatus, h]
  | mgtConfig c => simp [execMgtConfig, h]
  | ptpConfig c => simp [execPtpConfig, h]
  | ptpStatus c => simp [execPtpStatus, h]
  | timeRead c => simp [execTimeRead, h]
  | timeStep c => simp [execTimeStep, h]
  | timeRate c => simp [execTimeRate, h]
  | timeCmp c => simp [execTimeCmp, h]
  | timeStatus c => simp [execTimeStatus, h]
  | canConfig c => simp [execCanConfig, h]
  | canFilter c => simp [execCanFilter, h]
  | canSignal c => simp [execCanSignal, h]
  | canSched c => simp [execCanSched, h]
  | canSend c => simp [execCanSend, h]
  | canCtrl c => simp [execCanCtrl, h]
  | canRxRead c => simp [execCanRxRead, h]
  | canStatus c => simp [execCanStatus, h]
  | evtRoute c => simp [execEvtRoute, h]
  | evtStatus c => simp [execEvtStatus, h]
  | evrRead c => simp [execEvrRead, h]
  | evrClear c => simp [execEvrClear, h]
  | obsCtrl c => simp [execObsCtrl, h]
  | obsRead c => simp [execObsRead, h]
  | lockChallenge c => simp [execLockChallenge, h]
  | lock c => simp [execLock, h]
  | qpEnable qp v => simp [execQpEnable, h]
  | qpDisable qp v => simp [execQpDisable, h]
  | qpSqTail qp v => simp [execQpSqTail, h]
  | qpCqHead qp v => simp [execQpCqHead, h]
  | qpRetryClear qp => simp [execQpRetryClear, h]
  | readClearCounter off => simp [execReadClearCounter, h]
  | evtCfgWrite src v => simp [execEvtCfgWrite, h]
  | evtAck src v => simp [execEvtAck, h]
  | dmaChResume ch pte => simp [execDmaChResume, h]
  | dmaChStop ch => simp [execDmaChStop, h]
  | xlatInvAll => simp [execXlatInvAll, h]
  | xlatInvPage page => simp [execXlatInvPage, h]
  | xlatInvDone => simp [execXlatInvDone, h]
  | registerWrite off wide v => simp [execRegisterWrite, h]
  | functionLevelReset => simp [execFunctionLevelReset, h]
  | linkDown => simp [execLinkDown, h]
  | linkUp rate width => simp [execLinkUp, h]
  | d3hotEntry => simp [execD3hotEntry, h]
  | d0Entry => exact execD0Entry_givesForm h
  | entryFetch qp words image => simp [execEntryFetch, h]
  | coalesceTimeout qp => simp [execCoalesceTimeout, h]
  | timedPlacement qp tag => exact execTimedPlacement_givesForm h qp tag
  | backlogEased => simp [execBacklogEased, h]
  | forwardedCommit qp fwd => exact execForwardedCommit_givesForm h qp fwd
  | inputCut gp enc bad => simp [execInputCut, h]
  | tokenDelivery loop port v q sn slot src bad => simp [execTokenDelivery, h]
  | taskFire booth => simp [execTaskFire, h]
  | loopExecution loop => simp [execLoopExecution, h]
  | coastLimitReached loop => simp [execCoastLimitReached, h]
  | staleLimitReached loop => simp [execStaleLimitReached, h]
  | sampleDeadline => simp [execSampleDeadline, h]
  | stepDurationDue sess => simp [execStepDurationDue, h]
  | triggerArmed eng => simp [execTriggerArmed, h]
  | triggerWindowComplete eng => simp [execTriggerWindowComplete, h]
  | outputCommit bad => simp [execOutputCommit, h]
  | signatureExchange => simp [execSignatureExchange, h]
  | checkRollVerdict okA okB => simp [execCheckRollVerdict, h]
  | heartbeatDeadline hbA hbB => simp [execHeartbeatDeadline, h]
  | planeResignation plane cls unit => simp [execPlaneResignation, h]
  | switchoverElection => exact execSwitchoverElection_givesForm h
  | healthReport plane arrived => simp [execHealthReport, h]
  | selfTestSlice plane pass => simp [execSelfTestSlice, h]
  | diagnosisPassed plane => simp [execDiagnosisPassed, h]
  | suspectTimeout plane => simp [execSuspectTimeout, h]
  | resyncCopyRound plane => simp [execResyncCopyRound, h]
  | resyncFinalCut plane => simp [execResyncFinalCut, h]
  | resyncComplete plane => simp [execResyncComplete, h]
  | resyncTimeout plane => simp [execResyncTimeout, h]
  | journalWrite ok => simp [execJournalWrite, h]
  | eventPosting => exact execEventPosting_givesForm h
  | eventRecordWrite ok => simp [execEventRecordWrite, h]
  | axisTick ax => simp [execAxisTick, h]
  | stallDeclared ax => simp [execStallDeclared, h]
  | safetyEvaluation => simp [execSafetyEvaluation, h]
  | discrepancyDemand ax => simp [execDiscrepancyDemand, h]
  | ss1TorqueOff ax => simp [execSs1TorqueOff, h]
  | stoTestPulse pair ok => exact execStoTestPulse_givesForm h pair ok
  | safetyPduReceive conn pdu => simp [execSafetyPduReceive, h]
  | safetyWatchdogExpiry conn => simp [execSafetyWatchdogExpiry, h]
  | safetyPduSend conn => simp [execSafetyPduSend, h]
  | scanCycleStart => simp [execScanCycleStart, h]
  | scanDeadline => simp [execScanDeadline, h]
  | scanShadowRead => simp [execScanShadowRead, h]
  | instrNop => simp [execInstrNop, h]
  | rung n => simp [execRung, h]
  | andBit a => simp [execAndBit, h]
  | andnBit a => simp [execAndnBit, h]
  | orBit a => simp [execOrBit, h]
  | ornBit a => simp [execOrnBit, h]
  | push => simp [execPush, h]
  | popand => simp [execPopand, h]
  | popor => simp [execPopor, h]
  | notRlo => simp [execNotRlo, h]
  | outBit a => simp [execOutBit, h]
  | setBit a => simp [execSetBit, h]
  | rstBit a => simp [execRstBit, h]
  | rEdge x => simp [execREdge, h]
  | fEdge x => simp [execFEdge, h]
  | ton x => simp [execTon, h]
  | tof x => simp [execTof, h]
  | tp x => simp [execTp, h]
  | tres x => simp [execTres, h]
  | ctu x => simp [execCtu, h]
  | ctd x => simp [execCtd, h]
  | cres x => simp [execCres, h]
  | cgt a b => simp [execCgt, h]
  | cge a b => simp [execCge, h]
  | clt a b => simp [execClt, h]
  | cle a b => simp [execCle, h]
  | ceq a b => simp [execCeq, h]
  | cne a b => simp [execCne, h]
  | lim lo x hi => simp [execLim, h]
  | mov a b => simp [execMov, h]
  | movi a imm => simp [execMovi, h]
  | holds x => simp [execHolds, h]
  | park x => simp [execPark, h]
  | force x => simp [execForce, h]
  | evt e code => simp [execEvt, h]
  | endProg => simp [execEndProg, h]
  | boothPowerDown group => simp [execBoothPowerDown, h]
  | boothWakeDone group => simp [execBoothWakeDone, h]
  | intervalClose booth => simp [execIntervalClose, h]
  | timeRecord => exact execTimeRecord_givesForm h
  | streamBurst head => simp [execStreamBurst, h]
  | dramGrant req ecc => simp [execDramGrant, h]
  | dramRefresh => simp [execDramRefresh, h]
  | memoryWatchdogBite => simp [execMemoryWatchdogBite, h]
  | scrubBlock ecc => simp [execScrubBlock, h]
  | dmaBurst err => simp [execDmaBurst, h]
  | translationWalk ch qp pte => simp [execTranslationWalk, h]
  | dmaSuspendTimeout ch => simp [execDmaSuspendTimeout, h]
  | aiConversion ch codes parityBad => exact execAiConversion_givesForm h ch codes parityBad
  | ne43Recovery ch => simp [execNe43Recovery, h]
  | injectedTrigger group at5ns codes => simp [execInjectedTrigger, h]
  | calRotationStart group => simp [execCalRotationStart, h]
  | calHandover group diff => exact execCalHandover_givesForm h group diff
  | calCoeffLoaded group coef ok => exact execCalCoeffLoaded_givesForm h group coef ok
  | afeTestDone ch res => exact execAfeTestDone_givesForm h ch res
  | clMeasure ch im lim => simp [execClMeasure, h]
  | complianceLost ch => simp [execComplianceLost, h]
  | complianceRestored ch => simp [execComplianceRestored, h]
  | clOpen ch => simp [execClOpen, h]
  | retransmitAlarm ch => simp [execRetransmitAlarm, h]
  | loopvMeasure v => simp [execLoopvMeasure, h]
  | aoOverload ch acting => simp [execAoOverload, h]
  | pwmPeriodStart ch => simp [execPwmPeriodStart, h]
  | frameReceive port f => simp [execFrameReceive, h]
  | frameDelivery port => exact execFrameDelivery_givesForm h port
  | outputFrameSend port => simp [execOutputFrameSend, h]
  | stationLost station => simp [execStationLost, h]
  | fieldLinkDown port => simp [execFieldLinkDown, h]
  | fieldLinkUp port => simp [execFieldLinkUp, h]
  | ptpMessageReceive port m => exact execPtpMessageReceive_givesForm h port m
  | ptpMessageSend kind => exact execPtpMessageSend_givesForm h kind
  | mgtLinkChange port up => simp [execMgtLinkChange, h]
  | timeCompareFire unit => simp [execTimeCompareFire, h]
  | canFrameReceive ch f tstamp => simp [execCanFrameReceive, h]
  | canSchedRelease ch slot => simp [execCanSchedRelease, h]
  | canTxComplete ch => exact execCanTxComplete_givesForm h ch
  | canTxError ch => exact execCanTxError_givesForm h ch
  | canArbitrationLost ch => exact execCanArbitrationLost_givesForm h ch
  | referenceMessage ch sent => simp [execReferenceMessage, h]
  | busOffRecovery ch => simp [execBusOffRecovery, h]
  | porstAssert => simp [execPorstAssert, h]
  | porstRelease x => simp [execPorstRelease, h]
  | warmRstFall => simp [execWarmRstFall, h]
  | warmResetApply => simp [execWarmResetApply, h]
  | warmRstRelease x => simp [execWarmRstRelease, h]
  | pwrfailAssert => simp [execPwrfailAssert, h]
  | checkpointShadowLatch => simp [execCheckpointShadowLatch, h]
  | checkpointValidMark ok => simp [execCheckpointValidMark, h]
  | pwrfailRelease => simp [execPwrfailRelease, h]
  | supplyTrip dom => simp [execSupplyTrip, h]
  | supplyRestored dom => simp [execSupplyRestored, h]
  | sealOpenAssert => simp [execSealOpenAssert, h]
  | sealOpenDeassert => simp [execSealOpenDeassert, h]
  | wakeTimerExpiry => simp [execWakeTimerExpiry, h]
  | idleWakeCommit => exact execIdleWakeCommit_givesForm h
  | crystalStable xtal => simp [execCrystalStable, h]
  | pllLock plane => simp [execPllLock, h]
  | firmwareChecked plane found0 found1 => simp [execFirmwareChecked, h]
  | selfTestDone plane pass => simp [execSelfTestDone, h]
  | planeReady plane => simp [execPlaneReady, h]
  | startupElection => simp [execStartupElection, h]
  | startupTimeout plane => simp [execStartupTimeout, h]
  | crystalStartTimeout plane => simp [execCrystalStartTimeout, h]
  | clockMonitorTrip plane pll cause => simp [execClockMonitorTrip, h]
  | sharedClockTrip src cause => simp [execSharedClockTrip, h]
  | clockSourceRecovered src => simp [execClockSourceRecovered, h]
  | tickAlignment delta trim => simp [execTickAlignment, h]
  | planeAligned plane => simp [execPlaneAligned, h]
  | tickPeriodCheck okA okB => simp [execTickPeriodCheck, h]
  | trimLimit plane => simp [execTrimLimit, h]
  | droopFallback plane => exact execDroopFallback_givesForm h plane
  | droopRelease => simp [execDroopRelease, h]
  | levelSettleExpiry plane => exact execLevelSettleExpiry_givesForm h plane
  | measurementDone ctr count timeout => simp [execMeasurementDone, h]
  | fieldLockExpiry => simp [execFieldLockExpiry, h]
  | nonceExpiry => simp [execNonceExpiry, h]
  | opsecWrite ok => simp [execOpsecWrite, h]
  | tapBypass bits n => simp [execTapBypass, h]
  | tapIdcode => simp [execTapIdcode, h]
  | tapSample => simp [execTapSample, h]
  | tapObsSel sel => simp [execTapObsSel, h]
  | tapObsData => simp [execTapObsData, h]
  | tapReset => simp [execTapReset, h]
  | winSpHi loop d => simp [execWinSpHi, h]
  | winSpLo loop d => simp [execWinSpLo, h]
  | winMoHi loop d => simp [execWinMoHi, h]
  | winMoLo loop d => simp [execWinMoLo, h]
  | winMode loop d => simp [execWinMode, h]
  | winClaim d => simp [execWinClaim, h]
  | winStart => simp [execWinStart, h]
  | winHold => simp [execWinHold, h]
  | winResume => simp [execWinResume, h]
  | winAdvance => simp [execWinAdvance, h]
  | winAbort => simp [execWinAbort, h]
  | windowStatusRead addr => simp [execWindowStatusRead, h]
  | windowRead addr => simp [execWindowRead, h]
  | windowRequestTimeout => exact execWindowRequestTimeout_givesForm h
  | rcStable src => simp [execRcStable, h]
  | pllLockTimeout plane => simp [execPllLockTimeout, h]
  | canIntegrationDone ch => simp [execCanIntegrationDone, h]
  | canReceiveError ch => simp [execCanReceiveError, h]
  | completionTimeout ch qp => simp [execCompletionTimeout, h]
  | ledgerReadBack ok => simp [execLedgerReadBack, h]
  | operatingSecond => simp [execOperatingSecond, h]

end

/-- Settles O42: over the rows; a step runs one, or idles. -/
theorem everyStepKeepsHostMemoryForm : Obligations.EveryStepKeepsHostMemoryForm := by
  intro s t h ht
  unfold step at ht
  split at ht
  · obtain rfl := next_inj ht
    exact h
  · next c r _ =>
    have h1 : ({ s with pending := r } : State).memForm := h
    exact exec_givesForm h1 c t ht

end Sys2Proof.Machine
end


/-! Host commands that are executed where their entry is consumed: what the execution answers is how the command ends (02 R70,
R80 to R86). -/

section
namespace Sys2Proof.Machine

/-- An accepted command ends as its execution says. -/
theorem completes_of_core {op : Nat} {row : Sub → Instr} {ok : Sub → State → Prop} {out core : Sub → State → OpOut}
    (hrow : ∀ c s, exec (row c) s = hostCmd op core c s) (h : ∀ c t, ok c t → core c t = out c t) :
    Completes op row ok out := by
  intro c s hr hok
  rw [hrow, hostCmd, submit_of_runsNow s op core c hr, h c _ hok]

@[simp] theorem begun_bare (op : Nat) (c : Sub) (s : State) : (begun op c s).bare = s.bare := by simp [begun]

@[simp] theorem begun_dev (op : Nat) (c : Sub) (s : State) : (begun op c s).dev = s.dev :=
  congrArg (fun u => u.dev) (begun_bare op c s)

@[simp] theorem begun_sealed (op : Nat) (c : Sub) (s : State) : (begun op c s).sealed = s.sealed :=
  congrArg (fun u => u.sealed) (begun_bare op c s)

@[simp] theorem begun_clock (op : Nat) (c : Sub) (s : State) : (begun op c s).clock = s.clock :=
  congrArg (fun u => u.clock) (begun_bare op c s)

/-- A PLANE parameter that names a readable plane selects it. -/
theorem withPlane_of_named {sel : Word} {s : State} (k : Nat → OpOut) (h : planeNamed sel s = true) :
    withPlane sel s k = k (namedPlane sel s) := by
  simp only [planeNamed, Bool.and_eq_true, decide_eq_true_eq] at h
  obtain ⟨hr, hc⟩ := h
  rw [withPlane, if_neg (Nat.not_lt.2 hr)]
  exact if_pos hc

/-! NOP, IDENTIFY and ABORT -/

theorem opIdentify_word_zero {c : Sub} (t : State) (h : par c 0 = 0) : opIdentify c t
    = okRes (dw ((fwVersionOf t).toNat * 2 ^ 48 + t.boot.slot * 2 ^ 40 + 0xA124 * 2 ^ 16 + 0x43)) t := by
  simp [opIdentify, h]

theorem opIdentify_word_one {c : Sub} (t : State) (h : par c 0 = 1) : opIdentify c t = okRes Config.serial t := by
  simp [opIdentify, h]

section
variable {c : Sub} {t : State} (hs : ¬ (c.target = c.qp ∧ (par c 0).toNat % 65536 = c.tag.toNat))
include hs

/-- ABORT of an outstanding command before its commit point (02 R72). -/
theorem opAbort_of_open {x : Cmd} (h : abortCmd c t = some x) (ho : x.op ≠ 0x03) (hn : x.committed = none) : opAbort c t
    = if (abortPost c (abortNow x t)).isSome then .wait .device [word c.target, par c 0, t.sn] (abortNow x t)
      else okSn (abortNow x t) := by
  simp [opAbort, hs, h, ho, hn]

theorem opAbort_of_committed {x : Cmd} {n : Word} (h : abortCmd c t = some x) (ho : x.op ≠ 0x03)
    (hn : x.committed = some n) : opAbort c t = failRes stAlreadyDone n.toNat t := by
  simp [opAbort, hs, h, ho, hn]

theorem opAbort_of_unknown (h : abortCmd c t = none) (hp : abortPost c t = none) : opAbort c t = failSt stAlreadyDone t := by
  simp [opAbort, hs, h, hp]

/-- The final completion of the named command waits for its page (02 R71). -/
theorem opAbort_of_posting {e : Post} (h : abortCmd c t = none) (hp : abortPost c t = some e) (ho : e.op ≠ 0x03) :
    opAbort c t = failRes stAlreadyDone (e.commit.getD 0).toNat t := by
  simp [opAbort, hs, h, hp, ho]

end

/-- Settles O1, command by command. -/
theorem frontEndCommandsComplete : Obligations.FrontEndCommandsComplete := by
  refine ⟨completes_of_core (fun _ _ => rfl) fun c t _ => rfl, ?_, ?_, fun x => ?_, fun x n => ?_, ?_, fun e => ?_⟩
  · exact completes_of_core (fun _ _ => rfl) fun c t h => opIdentify_word_zero t h
  · exact completes_of_core (fun _ _ => rfl) fun c t h => opIdentify_word_one t h
  · exact completes_of_core (fun _ _ => rfl) fun c t ⟨hs, h, ho, hn⟩ => opAbort_of_open hs h ho hn
  · exact completes_of_core (fun _ _ => rfl) fun c t ⟨hs, h, ho, hn⟩ => opAbort_of_committed hs h ho hn
  · exact completes_of_core (fun _ _ => rfl) fun c t ⟨hs, h, hp⟩ => opAbort_of_unknown hs h hp
  · exact completes_of_core (fun _ _ => rfl) fun c t ⟨hs, h, hp, ho⟩ => opAbort_of_posting hs h hp ho

/-! SET_STATE -/

section
variable {c : Sub} {t : State}

theorem opSetState_toRun (h1 : par c 1 = 0) (h0 : par c 0 = 3) (hd : t.dev = .ready)
    (hc : (actPlane t).fab.cfg.isSome = true) (hv : t.sealed.valid = true) : opSetState c t = okSn (toRun t) := by
  simp [opSetState, mayGo, h1, h0, hd, hc, hv]

theorem opSetState_toReady (h1 : par c 1 = 0) (h0 : par c 0 = 2) (hd : t.dev = .run) (hn : noSession (actPlane t) = true)
    (ha : axesIn [0, 1] (actPlane t) = true) : opSetState c t = okSn (toReady t) := by
  simp [opSetState, mayGo, h1, h0, hd, hn, ha]

theorem opSetState_toIdle (h1 : par c 1 = 0) (h0 : par c 0 = 4) (hd : t.dev = .run) (hn : noSession (actPlane t) = true)
    (ha : axesIn [0] (actPlane t) = true) (hl : ((upTo 1024).all (loopIdle (actPlane t))) = true) :
    opSetState c t = okSn (toIdle t) := by
  simp only [opSetState, mayGo, h1, h0, hd, hn, ha, hl]
  rfl

/-- RESULT 0 is log entry 89. -/
theorem opSetState_toStandby (h0 : par c 0 = 5) (hd : t.dev = .ready) : opSetState c t
    = okRes 0 { t with dev := .standby, clock := { t.clock with wake := if par c 1 = 0 then none else some (par c 1) } } := by
  simp [opSetState, mayGo, h0, hd]

theorem opSetState_toSafe (h1 : par c 1 = 0) (h0 : par c 0 = 7) (hm : mayEnterSafe t = true) :
    opSetState c t = okSn (enterSafe t) := by
  have hg : mayGo 7 t = true := by
    unfold mayGo
    split <;> simp_all
  simp [opSetState, h1, h0, hg]

theorem opSetState_fromIdle (h1 : par c 1 = 0) (h0 : par c 0 = 3) (hd : t.dev = .idle) (hw : t.clock.idleWake = none) :
    opSetState c t = .wait .device [] (beginRun t) := by
  simp [opSetState, mayGo, h1, h0, hd, hw]

end

theorem execSetState_of_runsNow {c : Sub} {s : State} {o : OpOut} (hr : runsNow 0x02 c s = true)
    (h : opSetState c (begun 0x02 c s) = o) : exec (.setState c) s = .next (afterState s (finish 0x02 c o)) := by
  rw [exec_setState, execSetState, submit_of_runsNow s 0x02 opSetState c hr, h]

/-- Settles O2, transition by transition. -/
theorem setStateCompletes : Obligations.SetStateCompletes := by
  intro c s hr
  have ends {o : OpOut} := execSetState_of_runsNow (o := o) hr
  refine ⟨fun h1 h0 hd hc hv => ?_, fun h1 h0 hd hn ha => ?_, fun h1 h0 hd hn ha hl => ?_, fun h0 hd => ?_,
    fun h1 h0 hm => ?_, fun h1 h0 hd hw => ?_⟩
  · exact ends (opSetState_toRun h1 h0 (by simpa using hd) hc (by simpa using hv))
  · exact ends (opSetState_toReady h1 h0 (by simpa using hd) hn ha)
  · exact ends (opSetState_toIdle h1 h0 (by simpa using hd) hn ha hl)
  · exact ends (opSetState_toStandby h0 (by simpa using hd))
  · exact ends (opSetState_toSafe h1 h0 (by simpa [mayEnterSafe] using hm))
  · exact ends (opSetState_fromIdle h1 h0 (by simpa using hd) (by simpa using hw))

/-! Loops -/

section
variable {c : Sub} {t : State}

theorem tooFar_of_untimed (h : hasTimed c = false) : tooFar c t = false := by simp [tooFar, h]
theorem tooLate_of_untimed (h : hasTimed c = false) : tooLate c t = false := by simp [tooLate, h]
theorem tooFar_of_near (h : snDiff c.atSn t.sn ≤ 100000) : tooFar c t = false := by simp [tooFar, Int.not_lt.2 h]
theorem tooLate_of_later (h : snLater c.atSn (t.sn + 1) = true) : tooLate c t = false := by
  rw [tooLate, h, Bool.not_true, Bool.and_false]
theorem stampOf_of_untimed (h : hasTimed c = false) : stampOf c t = t.sn + 1 := by simp [stampOf, h]

theorem opPlaceWrite_of_untimed (port : Nat) (h : hasTimed c = false) :
    opPlaceWrite port c t = okRes (dw (t.sn + 1).toNat) (placeWrite port c.target (par c 0) (t.sn + 1) t) := by
  simp [opPlaceWrite, stampOf_of_untimed h]

/-- A set point of a loop that the window does not own (02 R84). -/
theorem opLoopSetSp_untimed (h : hasTimed c = false) (hw : windowOwns t c.target = false) :
    opLoopSetSp c t = okRes (dw (t.sn + 1).toNat) (placeWrite 0 c.target (par c 0) (t.sn + 1) t) := by
  simp [opLoopSetSp, tooFar_of_untimed h, tooLate_of_untimed h, h, hw, opPlaceWrite_of_untimed]

theorem opLoopSetSp_timed (h : hasTimed c = true) (hf : snDiff c.atSn t.sn ≤ 100000)
    (hl : snLater c.atSn (t.sn + 1) = true) (hw : windowOwns t c.target = false) : opLoopSetSp c t = .wait .timed [] t := by
  simp [opLoopSetSp, tooFar_of_near hf, tooLate_of_later hl, h, hw]

/-- The value of LOOP_SET_OUT lies inside the fence of the loop's channel, where it has one. -/
def insideFence (c : Sub) (t : State) : Prop :=
  ((loopChan (actPlane t) c.target).all fun ch => !outsideFence t.sealed ch (par c 0)) = true

/-- Past its tests, LOOP_SET_OUT with a value inside the fence waits in the timed store or is placed. -/
theorem opLoopSetOut_inside (hf : tooFar c t = false) (hl : tooLate c t = false) (hm : loopMode (actPlane t) c.target = 2)
    (hw : windowOwns t c.target = false) (hv : insideFence c t) :
    opLoopSetOut c t = if hasTimed c then .wait .timed [] t else opPlaceWrite 1 c t := by
  unfold insideFence at hv
  unfold opLoopSetOut
  cases hc : loopChan (actPlane t) c.target with
  | none => simp [hf, hl, hm, hw]
  | some ch =>
    have ho : outsideFence t.sealed ch (par c 0) = false := by simpa [hc] using hv
    simp [hf, hl, hm, hw, ho]

theorem opLoopSetOut_untimed (h : hasTimed c = false) (hm : loopMode (actPlane t) c.target = 2)
    (hw : windowOwns t c.target = false) (hv : insideFence c t) :
    opLoopSetOut c t = okRes (dw (t.sn + 1).toNat) (placeWrite 1 c.target (par c 0) (t.sn + 1) t) := by
  rw [opLoopSetOut_inside (tooFar_of_untimed h) (tooLate_of_untimed h) hm hw hv, h, opPlaceWrite_of_untimed 1 h]
  rfl

theorem opLoopSetOut_timed (h : hasTimed c = true) (hf : snDiff c.atSn t.sn ≤ 100000)
    (hl : snLater c.atSn (t.sn + 1) = true) (hm : loopMode (actPlane t) c.target = 2) (hw : windowOwns t c.target = false)
    (hv : insideFence c t) : opLoopSetOut c t = .wait .timed [] t := by
  rw [opLoopSetOut_inside (tooFar_of_near hf) (tooLate_of_later hl) hm hw hv, h]
  rfl

/-- LOOP_READ of a readable plane while no switch-over is under way that the read would wait for (02 R85). -/
theorem opLoopRead_of_named (h4 : (par c 0).toNat % 4 = 0) (hn : planeNamed (par c 2) t = true)
    (hsw : par c 2 = 0 → t.ump.sw = none) :
    let p := planeOf t (namedPlane (par c 2) t)
    let w := (par c 0).toNat / 4
    ((par c 0).toNat ≤ 252 → par c 1 = 1 → opLoopRead c t = okRes (dword (relLw p c.target w) 0) t)
    ∧ ((par c 0).toNat ≤ 248 → par c 1 = 2 →
      opLoopRead c t = okRes (dword (relLw p c.target w) (relLw p c.target (w + 1))) t) := by
  have hg : ¬ (par c 2 = 0 ∧ t.ump.sw.isSome = true) := fun ⟨h0, hs⟩ => by simp [hsw h0] at hs
  refine ⟨fun hl h1 => ?_, fun hl h1 => ?_⟩
  · have hp : ¬ 252 < (par c 0).toNat := Nat.not_lt.2 hl
    simp only [opLoopRead, if_neg hg, withPlane_of_named _ hn, h1]
    simp [h4, hp]
  · have hp : ¬ 252 < (par c 0).toNat ∧ ¬ 248 < (par c 0).toNat := by omega
    simp only [opLoopRead, if_neg hg, withPlane_of_named _ hn, h1]
    simp [h4, hp]

/-- A read of the active plane waits for the election of a switch-over under way. -/
theorem opLoopRead_of_switch (h4 : (par c 0).toNat % 4 = 0) (hl : (par c 0).toNat ≤ 248) (h1 : 1 ≤ (par c 1).toNat)
    (h2 : (par c 1).toNat ≤ 2) (h0 : par c 2 = 0) (hsw : t.ump.sw.isSome = true) : opLoopRead c t = .wait .device [] t := by
  have hg : ¬ ((par c 0).toNat % 4 ≠ 0 ∨ 252 < (par c 0).toNat ∨ (par c 1).toNat = 0 ∨ 2 < (par c 1).toNat
      ∨ ((par c 1).toNat = 2 ∧ 248 < (par c 0).toNat)) := by omega
  unfold opLoopRead
  simp only [if_neg hg, if_pos (And.intro h0 hsw)]

theorem opLoopSetMode_permitted (hm : (par c 0).toNat ≤ 4 ∨ (par c 0).toNat = 6) (hw : windowOwns t c.target = false)
    (ho : modeOk (t.dev == .ready) false c.target (par c 0).toNat (actPlane t) = true) : opLoopSetMode c t
    = okSn (onExecSl (fun sl => setMode sl 0 c.target (par c 0).toNat) (outOfRestore c.target (par c 0).toNat t)) := by
  have hg : (decide ((par c 0).toNat ≤ 4) || (par c 0).toNat == 6) = true := by simpa using hm
  simp only [opLoopSetMode, hg, hw, ho, Bool.not_true, Bool.false_eq_true, if_false]

/-- The form that R123 asks of a LOOP_WRITE. -/
theorem loopWriteForm_of (h4 : (par c 0).toNat % 4 = 0) (h1 : 1 ≤ (par c 1).toNat) (h8 : (par c 1).toNat ≤ 8)
    (hl : (par c 0).toNat + 4 * (par c 1).toNat ≤ 256)
    (hz : ((upTo 8).all fun i => decide (i < (par c 1).toNat) || par c (2 + i) == 0) = true)
    (hr : ((upTo (par c 1).toNat).all fun i => rwWord ((par c 0).toNat / 4 + i)) = true)
    (hd : (par c 0).toNat / 4 ≠ 0 ∨ field (par c 2) 4 4 = 0) : loopWriteForm c = true := by
  have hd' : ((par c 0).toNat / 4 != 0 || field (par c 2) 4 4 == 0) = true := by
    rwa [Bool.or_eq_true, bne_iff_ne, beq_iff_eq]
  simp only [loopWriteForm, hz, hr, hd', h4, h1, h8, hl, and_self, decide_true, beq_self_eq_true, Bool.and_self]

theorem opLoopWrite_permitted (hf : loopWriteForm c = true)
    (ho : contextOk (writeContext c.target ((par c 0).toNat / 4) ((upTo (par c 1).toNat).map fun i => par c (2 + i)) []
      (actPlane t)) c.target = true)
    (hw : (par c 0).toNat / 4 ≤ wSpTarget → wSpTarget < (par c 0).toNat / 4 + (par c 1).toNat →
      windowOwns t c.target = false) : opLoopWrite c t
    = okSn (onExec (fun p => writeContext c.target ((par c 0).toNat / 4)
        ((upTo (par c 1).toNat).map fun i => par c (2 + i)) p.fab.stepNamed p) t) := by
  have hg : ¬ ((par c 0).toNat / 4 ≤ wSpTarget ∧ wSpTarget < (par c 0).toNat / 4 + (par c 1).toNat
      ∧ windowOwns t c.target = true) := fun ⟨h1, h2, h3⟩ => by simp [hw h1 h2] at h3
  simp only [opLoopWrite, hf, ho, if_neg hg, Bool.not_true, Bool.false_eq_true, if_false]

end

/-- Settles O4, command by command. -/
theorem loopCommandsComplete : Obligations.LoopCommandsComplete := by
  refine ⟨?_, ?_, ?_, ?_, ?_, ?_, ?_, ?_, ?_⟩
  · exact completes_of_core (fun _ _ => rfl) fun c t ⟨h, hw⟩ => opLoopSetSp_untimed h hw
  · exact completes_of_core (fun _ _ => rfl) fun c t ⟨h, hf, hl, hw⟩ => opLoopSetSp_timed h hf hl hw
  · exact completes_of_core (fun _ _ => rfl) fun c t ⟨h, hm, hw, hv⟩ => opLoopSetOut_untimed h hm hw hv
  · exact completes_of_core (fun _ _ => rfl) fun c t ⟨h, hf, hl, hm, hw, hv⟩ => opLoopSetOut_timed h hf hl hm hw hv
  · exact completes_of_core (fun _ _ => rfl) fun c t ⟨h4, hl, h1, hn, hsw⟩ => (opLoopRead_of_named h4 hn hsw).1 hl h1
  · exact completes_of_core (fun _ _ => rfl) fun c t ⟨h4, hl, h1, hn, hsw⟩ => (opLoopRead_of_named h4 hn hsw).2 hl h1
  · exact completes_of_core (fun _ _ => rfl) fun c t ⟨h4, hl, h1, h2, h0, hsw⟩ => opLoopRead_of_switch h4 hl h1 h2 h0 hsw
  · exact completes_of_core (fun _ _ => rfl) fun c t ⟨hm, hw, ho⟩ => opLoopSetMode_permitted hm hw ho
  · refine completes_of_core (fun _ _ => rfl) fun c t ⟨h4, h1, h8, hl, hz, hr, hd, ho, hw⟩ => ?_
    exact opLoopWrite_permitted (loopWriteForm_of h4 h1 h8 hl hz hr hd) ho hw

/-! Recipe sessions -/

section
variable {c : Sub} {t : State}

/-- A request to a RUNNING session that the window does not own (02 R86). -/
theorem opSessReq_untimed (hold : Bool) (h : hasTimed c = false) (hw : ownedByWindow (actPlane t) c.target = false)
    (hr : sessState (actPlane t) c.target = ssRunning) : opSessReq hold c t
    = okRes (dw (t.sn + 1).toNat) (placeReq c.target hold (par c 0).toNat (t.sn + 1) t) := by
  simp [opSessReq, opPlaceReq, tooFar_of_untimed h, tooLate_of_untimed h, stampOf_of_untimed h, h, hw, hr]

theorem opSessReq_timed (hold : Bool) (h : hasTimed c = true) (hf : snDiff c.atSn t.sn ≤ 100000)
    (hl : snLater c.atSn (t.sn + 1) = true) (hw : ownedByWindow (actPlane t) c.target = false)
    (hr : sessState (actPlane t) c.target = ssRunning) : opSessReq hold c t = .wait .timed [] t := by
  simp [opSessReq, tooFar_of_near hf, tooLate_of_later hl, h, hw, hr]

/-- SESS_LOAD of an image that passes every check, where no other session holds its scope if the session is RESTORED. -/
theorem opSessLoad_passes {img : List Word} {len : Nat} (hi : c.image.take ((par c 2).toNat / 4) = img)
    (hn : (par c 2).toNat = len) (ha : addrAt c 0 % 8 = 0) (hlen : len ≤ 1048576)
    (hin : inWindow t false (addrAt c 0) len = true) (hw : ownedByWindow (actPlane t) c.target = false)
    (hst : sessState (actPlane t) c.target = ssIdle ∨ sessState (actPlane t) c.target = ssDone
      ∨ (sessState (actPlane t) c.target = ssRestored
        ∧ scopeConflict (actPlane t) c.target (parseSess img len).scope = none))
    (hck : sessCheck (actPlane t) c.target img len = none) :
    opSessLoad c t = okSn (onExec (loadSess c.target (parseSess img len)) t) := by
  subst hi hn
  have hl : ¬ 1048576 < (par c 2).toNat := Nat.not_lt.2 hlen
  rcases hst with hs | hs | ⟨hs, hscope⟩
  · simp [opSessLoad, ha, hl, hin, hw, hs, hck, ssIdle, ssRestored]
  · simp [opSessLoad, ha, hl, hin, hw, hs, hck, ssDone, ssRestored]
  · simp [opSessLoad, ha, hl, hin, hw, hs, hck, hscope]

theorem opSessResume_held (hw : ownedByWindow (actPlane t) c.target = false)
    (hst : sessState (actPlane t) c.target = ssHeld
      ∨ (sessState (actPlane t) c.target = ssRestored ∧ bit (sw (actPlane t) c.target wSstate) 26 = false))
    (hk : field (par c 0) 0 16 = 0xFFFF ∨ field (par c 0) 0 16 < nStep (sessImg (actPlane t) c.target)) : opSessResume c t
    = .done stOk (dw (t.sn.toNat + (if ilHold (actPlane t) c.target then 2 ^ 32 else 0)))
        (onExec (resumeSess c.target (field (par c 0) 0 16)) t) := by
  have hg : ¬ (field (par c 0) 0 16 ≠ 0xFFFF ∧ nStep (sessImg (actPlane t) c.target) ≤ field (par c 0) 0 16) := by omega
  unfold opSessResume
  simp only [if_neg hg]
  rcases hst with hs | ⟨hs, hb⟩
  · simp [hw, hs]
  · simp [hw, hs, hb]

theorem opSessUnload_stopped (hw : ownedByWindow (actPlane t) c.target = false)
    (hst : sessState (actPlane t) c.target = ssLoaded ∨ sessState (actPlane t) c.target = ssDone) : opSessUnload c t
    = okSn (onExec (fun q =>
        setSess { q.sess with imgs := tset none q.sess.imgs c.target none } (setSessState c.target ssIdle q)) t) := by
  rcases hst with hs | hs <;> simp [opSessUnload, hw, hs]

theorem opSessStatus_of_named (h4 : (par c 1).toNat % 4 = 0) (hl : (par c 1).toNat ≤ 56)
    (hn : planeNamed (par c 0) t = true) :
    let p := planeOf t (namedPlane (par c 0) t)
    let w := (par c 1).toNat / 4
    opSessStatus c t = okRes (dword (sw p c.target w) (sw p c.target (w + 1))) t := by
  have hg : ¬ ((par c 1).toNat % 4 ≠ 0 ∨ 56 < (par c 1).toNat) := by omega
  simp only [opSessStatus, if_neg hg, withPlane_of_named _ hn]

/-- SESS_START at its cut (06 R205, R208). -/
theorem opSessStart_passes (hw : ownedByWindow (actPlane t) c.target = false) (hd : t.dev = .run)
    (hst : sessState (actPlane t) c.target = ssLoaded ∨ sessState (actPlane t) c.target = ssDone)
    (hn : nStep (sessImg (actPlane t) c.target) ≠ 0)
    (hk : field (par c 0) 0 16 = 0xFFFF ∨ field (par c 0) 0 16 < nStep (sessImg (actPlane t) c.target))
    (hs : scopeConflict (actPlane t) c.target (sessImg (actPlane t) c.target).scope = none)
    (hb : boundAction (actPlane t) (sessImg (actPlane t) c.target) = none)
    (hf : fencedAction t.sealed (actPlane t) (sessImg (actPlane t) c.target) = none) : opSessStart c t
    = okSn (onExec (startSess t c.target (if field (par c 0) 0 16 = 0xFFFF then (sessImg (actPlane t) c.target).first
        else field (par c 0) 0 16)) t) := by
  have hg : ¬ (field (par c 0) 0 16 ≠ 0xFFFF ∧ nStep (sessImg (actPlane t) c.target) ≤ field (par c 0) 0 16) := by omega
  have hc : ¬ (t.dev ≠ .run ∨ (sessState (actPlane t) c.target ≠ ssLoaded ∧ sessState (actPlane t) c.target ≠ ssDone)
      ∨ nStep (sessImg (actPlane t) c.target) = 0) := by
    simp only [hd, hn, ne_eq, not_true_eq_false, false_or, or_false]
    exact fun ⟨h1, h2⟩ => hst.elim h1 h2
  simp only [opSessStart, hw, Bool.false_eq_true, if_false, if_neg hc, if_neg hg, hs, hb, hf]

/-- The states in which SESS_ABORT takes a session to its end. -/
def abortable (p : Plane) (n : Nat) : Prop :=
  sessState p n = ssRunning ∨ sessState p n = ssHeld ∨ sessState p n = ssFaulted ∨ sessState p n = ssRestored

/-- SESS_ABORT at its cut (06 R205, R208). -/
theorem opSessAbort_passes (hw : ownedByWindow (actPlane t) c.target = false)
    (h : (field (par c 0) 0 16 = 0xFFFE
        ∧ (abortable (actPlane t) c.target ∨ sessState (actPlane t) c.target = ssAborting))
      ∨ ((field (par c 0) 0 16 = 0xFFFF ∨ field (par c 0) 0 16 < nStep (sessImg (actPlane t) c.target))
        ∧ bit (sw (actPlane t) c.target wSstate) 26 = false ∧ abortable (actPlane t) c.target)) : opSessAbort c t
    = okSn (onExec (sessAbort t c.target (field (par c 0) 0 16) false (par c 1)) t) := by
  have hst : ¬ (sessState (actPlane t) c.target ≠ ssRunning ∧ sessState (actPlane t) c.target ≠ ssHeld
      ∧ sessState (actPlane t) c.target ≠ ssFaulted ∧ sessState (actPlane t) c.target ≠ ssRestored
      ∧ sessState (actPlane t) c.target ≠ ssAborting) := by
    unfold abortable at h
    tauto
  have hna : abortable (actPlane t) c.target → sessState (actPlane t) c.target ≠ ssAborting := by
    rintro (e | e | e | e) <;> rw [e] <;> decide
  have hend : ¬ ((sessState (actPlane t) c.target = ssAborting ∨ bit (sw (actPlane t) c.target wSstate) 26 = true)
      ∧ field (par c 0) 0 16 ≠ 0xFFFE) := by
    rintro ⟨ha, hk⟩
    rcases h with ⟨he, -⟩ | ⟨-, hb, hl⟩
    · exact hk he
    · exact ha.elim (hna hl) (by simp [hb])
  have hk : ¬ (field (par c 0) 0 16 ≠ 0xFFFE ∧ field (par c 0) 0 16 ≠ 0xFFFF
      ∧ nStep (sessImg (actPlane t) c.target) ≤ field (par c 0) 0 16) := by
    rcases h with ⟨he, -⟩ | ⟨he, -⟩ <;> omega
  simp only [opSessAbort, hw, Bool.false_eq_true, if_false, if_neg hst, if_neg hend, if_neg hk]

end

/-- Settles O7, command by command; SESS_START and SESS_ABORT end at their commit cut. -/
theorem recipeCommandsComplete : Obligations.RecipeCommandsComplete := by
  refine ⟨?_, ?_, ?_, ?_, ?_, ?_, ?_, ?_, ?_, ?_, fun x s hx => ?_, fun x s hx => ?_⟩
  · exact completes_of_core (fun _ _ => rfl) fun c t ⟨h, hw, hr⟩ => opSessReq_untimed false h hw hr
  · exact completes_of_core (fun _ _ => rfl) fun c t ⟨h, hf, hl, hw, hr⟩ => opSessReq_timed false h hf hl hw hr
  · exact completes_of_core (fun _ _ => rfl) fun c t ⟨h, hw, hr⟩ => opSessReq_untimed true h hw hr
  · exact completes_of_core (fun _ _ => rfl) fun c t ⟨h, hf, hl, hw, hr⟩ => opSessReq_timed true h hf hl hw hr
  · exact completes_of_core (fun _ _ => rfl) fun c t ⟨ha, hl, hi, hw, hs, hc⟩ => opSessLoad_passes rfl rfl ha hl hi hw hs hc
  · exact completes_of_core (core := stageSess) (fun _ _ => rfl) fun _ _ _ => rfl
  · exact completes_of_core (fun _ _ => rfl) fun c t ⟨hw, hs, hk⟩ => opSessResume_held hw hs hk
  · exact completes_of_core (core := stageSess) (fun _ _ => rfl) fun _ _ _ => rfl
  · exact completes_of_core (fun _ _ => rfl) fun c t ⟨hw, hs⟩ => opSessUnload_stopped hw hs
  · exact completes_of_core (fun _ _ => rfl) fun c t ⟨h4, hl, hn⟩ => opSessStatus_of_named h4 hl hn
  · intro t p n i k hF ho hw hd hst hn hk hs hb hf
    rw [← hx] at hF ho
    unfold startAt
    rw [if_neg (by simpa using hF), if_neg (by simpa using ho), opSessStart_passes hw hd hst hn hk hs hb hf, hx]
  · intro s1 t p n k hF ho hw hc
    rw [← hx] at hF ho
    have ha := opSessAbort_passes (c := x.sub) (t := t) hw (by unfold abortable; tauto)
    unfold abortAt
    rw [if_neg (by simpa using hF), if_neg (by simpa using ho), ha, hx]
    rfl

end Sys2Proof.Machine
end


/-! Rows of the link (O19) and of the front end (O20). -/
section
namespace Sys2Proof.Machine

/-! The link -/

theorem linkRise_of_rated {rate width : Nat} {s : State} (hr : rate ≠ 2) (hl : s.hif.linkUp = false)
    (hp : tget false s.clock.powered 0x04 = true) (ht : tget false s.clock.tripped 0x04 = false) : linkRise rate width s
    = raise 0x1F6 (2 + (dw rate).toNat % 256 * 2 ^ 8 + width * 2 ^ 16)
      (sendPending { s with hif := { s.hif with
        linkUp := true, linkRate := rate, linkWidth := width, msixEn := true, msixMask := false } }) := by
  simp [linkRise, hr, hl, hp, ht]

/-- Settles O19: each row past its guards. -/
theorem linkRowsTakeEffect : Obligations.LinkRowsTakeEffect := by
  intro s
  refine ⟨fun hl => ⟨?_, ?_, fun hd => ?_, fun hd => ?_⟩, fun rate width hi hr hl hp ht => ?_⟩
  · simp [execFunctionLevelReset, hl]
  · simp [execLinkDown, linkFall, hl]
  · simp [execD3hotEntry, hl, hd]
  · simp [execD0Entry, hl, hd]
  · have hf : linkForm rate width = true := hi
    simp [execLinkUp, guarded, hf, linkRise_of_rated hr hl hp ht]

end Sys2Proof.Machine
end


/-! What the front end and a completion change: messages of events (`Signals`), the work of one queue pair (`Keeps`), and
the commands that only report (O56). -/
section
namespace Sys2Proof.Machine

/-! Events change the host interface by their messages only -/

/-- The host interface without what a message changes: host memory, and the pending messages. -/
def State.quiet (s : State) : Hif := { s.hif with hostMem := [], pba := 0 }

/-- The address lies outside the message of every vector. -/
def ClearOfMessages (s : State) (a : Nat) : Prop :=
  ∀ v < 64, let m := (msixWord s v 0).toNat + (msixWord s v 1).toNat * 2 ^ 32; a < m ∨ m + 4 ≤ a

/-- From s to t the host interface changes by messages only. -/
structure Signals (s t : State) : Prop where
  quiet : t.quiet = s.quiet
  read : ∀ a, ClearOfMessages s a → hostRead t a = hostRead s a

section
variable {s t u : State}

theorem msixWord_of_msix (h : t.hif.msix = s.hif.msix) (v i : Nat) : msixWord t v i = msixWord s v i := by
  unfold msixWord
  rw [h]

theorem clearOfMessages_of_msix (h : t.hif.msix = s.hif.msix) {a : Nat} (hc : ClearOfMessages s a) : ClearOfMessages t a := by
  unfold ClearOfMessages at hc ⊢
  simpa only [msixWord_of_msix h] using hc

theorem hostRead_of_hostMem (h : t.hif.hostMem = s.hif.hostMem) (a : Nat) : hostRead t a = hostRead s a := by
  unfold hostRead
  rw [h]

theorem qpOf_of_qps (h : t.hif.qps = s.hif.qps) (q : Nat) : qpOf t q = qpOf s q := by
  unfold qpOf
  rw [h]

theorem waitingPosts_of_posts (h : t.hif.posts = s.hif.posts) (q : Nat) : waitingPosts t q = waitingPosts s q := by
  unfold waitingPosts
  rw [h]

/-- A write reads as before outside its bytes. -/
theorem hostRead_hostWrite_outside {a n : Nat} {bs : List Byte} (hn : bs.length = n) (s : State) {b : Nat}
    (h : b < a ∨ a + n ≤ b) : hostRead (hostWrite a bs s) b = hostRead s b := by
  rw [hostRead_hostWrite, if_neg (by omega)]

namespace Signals

theorem of_hif (h : t.hif = s.hif) : Signals s t :=
  ⟨by rw [State.quiet, h]; rfl, fun a _ => hostRead_of_hostMem (by rw [h]) a⟩

theorem refl (s : State) : Signals s s := of_hif rfl

theorem msix (h : Signals s t) : t.hif.msix = s.hif.msix := (congrArg Hif.msix h.quiet :)
theorem qps (h : Signals s t) : t.hif.qps = s.hif.qps := (congrArg Hif.qps h.quiet :)
theorem posts (h : Signals s t) : t.hif.posts = s.hif.posts := (congrArg Hif.posts h.quiet :)
theorem cmds (h : Signals s t) : t.hif.cmds = s.hif.cmds := (congrArg Hif.cmds h.quiet :)

theorem trans (h : Signals s t) (h' : Signals t u) : Signals s u :=
  ⟨h'.quiet.trans h.quiet, fun a ha => (h'.read a (clearOfMessages_of_msix h.msix ha)).trans (h.read a ha)⟩

theorem forEach (l : List α) {f : α → State → State} (h : ∀ a ∈ l, ∀ u, Signals u (f a u)) (s : State) :
    Signals s (forEach l f s) := by
  unfold Machine.forEach
  induction l generalizing s with
  | nil => exact refl s
  | cons a l ih =>
    obtain ⟨ha, hl⟩ := List.forall_mem_cons.1 h
    exact (ha s).trans (ih hl (f a s))

end Signals

end

theorem evts_hif (x : Evts) (s : State) : State.hif { s with evts := x } = s.hif := rfl

@[simp] theorem evTime_hif (e : Ev) (s : State) : (evTime e s).2.hif = s.hif := by
  unfold evTime
  split
  · rfl
  · split <;> rfl

@[simp] theorem queueRecord_hif (e : Ev) (s : State) : (queueRecord e s).hif = s.hif := by
  unfold queueRecord
  split
  · exact evTime_hif e s
  · rfl

@[simp] theorem postFlags_hif (e : Ev) (s : State) : (postFlags e s).hif = s.hif := by
  unfold postFlags
  exact evts_hif _ s

@[simp] theorem traceEvent_hif (e : Ev) (s : State) : (traceEvent e s).hif = s.hif := by
  unfold traceEvent
  split <;> rfl

@[simp] theorem stally_hif (k n : Nat) (s : State) : (stally k n s).hif = s.hif := rfl

@[simp] theorem postOne_hif (e : Ev) (s : State) : (postOne e s).hif = s.hif := by
  unfold postOne
  dsimp only
  split <;> simp

theorem msixSend_signals {v : Nat} (hv : v < 64) (s : State) : Signals s (msixSend v s) := by
  unfold msixSend
  split
  · exact .refl s
  · split
    · exact ⟨rfl, fun _ _ => rfl⟩
    · exact ⟨rfl, fun a ha => hostRead_hostWrite_outside rfl s (ha v hv)⟩

theorem lt_of_mem_risingVectors {s : State} {es : List Ev} {v : Nat} (h : v ∈ risingVectors s es) : v < 64 := by
  unfold risingVectors at h
  rw [List.mem_eraseDups] at h
  obtain ⟨e, -, rfl⟩ := List.mem_map.1 h
  exact field_lt _ _ _

theorem postList_signals (es : List Ev) (s : State) : Signals s (postList es s) := by
  unfold postList
  dsimp only
  refine .trans (t := forEach es postOne s) (.of_hif (forEach_keeps State.hif _ _ (fun u e => postOne_hif u e) s)) ?_
  refine .forEach (risingVectors s es) (fun v hv u => ?_) _
  exact (msixSend_signals (lt_of_mem_risingVectors hv) u).trans (.of_hif (stally_hif 0xB0 1 _))

theorem raiseExt_signals (src : Nat) (data : Word) (ext : List Word) (s : State) : Signals s (raiseExt src data ext s) := by
  unfold raiseExt
  dsimp only
  split
  · exact postList_signals _ s
  · exact .of_hif rfl

theorem raise_signals (src data : Nat) (s : State) : Signals s (raise src data s) := raiseExt_signals _ _ _ s

theorem qpRaise_signals (q kind : Nat) (b : Bool) (s : State) : Signals s (qpRaise q kind b s) := by
  unfold qpRaise
  split
  · exact raiseExt_signals _ _ _ s
  · exact .refl s

/-! Address look-up -/

section
variable {s t : State}

@[simp] theorem tlbTouch_hif (a : Nat) (s : State) : (tlbTouch a s).hif = s.hif := by
  unfold tlbTouch
  split <;> rfl

theorem busOf_of_mem (h : t.mem = s.mem) (a : Nat) : busOf t a = busOf s a := by
  unfold busOf tlbFind
  rw [h]

theorem tlbTouch_mem_of_mem (h : t.mem = s.mem) (a : Nat) : (tlbTouch a t).mem = (tlbTouch a s).mem := by
  unfold tlbTouch tlbFind
  rw [h]
  split
  · exact h
  · rfl

/-- A hit keeps the entry that covers the address. -/
theorem tlbFind_tlbTouch (a : Nat) (s : State) : tlbFind (tlbTouch a s) a = tlbFind s a := by
  unfold tlbTouch
  split
  · rfl
  · next x hx =>
    have hf : tlbFind s a = some x := by
      split at hx
      · exact hx
      · cases hx
    have hp := List.find?_some hf
    rw [hf]
    exact List.find?_cons_of_pos hp

theorem tlbTouch_xlatEn (a : Nat) (s : State) : (tlbTouch a s).mem.xlatEn = s.mem.xlatEn := by
  unfold tlbTouch
  split <;> rfl

theorem busOf_tlbTouch (a : Nat) (s : State) : busOf (tlbTouch a s) a = busOf s a := by
  unfold busOf
  rw [tlbFind_tlbTouch, tlbTouch_xlatEn]

end

/-! Queue pairs -/

@[simp] theorem qpOf_setQp_self (q : Nat) (v : QPair) (s : State) : qpOf (setQp q v s) q = v := tget_tset_self _ _ _ _

theorem qpOf_setQp_ne {q r : Nat} (v : QPair) (s : State) (h : r ≠ q) : qpOf (setQp q v s) r = qpOf s r :=
  tget_tset_ne _ _ _ _ _ h.symm

theorem cqAddr_of_qpOf {s t : State} {q : Nat} (hb : (qpOf t q).cqBase = (qpOf s q).cqBase)
    (ht : (qpOf t q).cqTail = (qpOf s q).cqTail) : cqAddr t q = cqAddr s q := by
  unfold cqAddr
  rw [hb, ht]

/-- The pair after the entry at the head of its ring is consumed. -/
theorem qpOf_consumed (c : Sub) (s : State) : qpOf (consumed c s) c.qp
    = let p := qpOf s c.qp
      let h := (p.sqHead + 1) % sqLen p
      { p with sqHead := h, sqTail := if p.sqTail = p.sqHead then h else p.sqTail } := by
  have h : (consumed c s).hif.qps = (consume c.qp s).hif.qps := rfl
  rw [qpOf_of_qps h, consume, qpOf_of_qps (congrArg Hif.qps (tlbTouch_hif _ _)), qpOf_setQp_self]

theorem waitingPosts_consumed (c : Sub) (s : State) (q : Nat) : waitingPosts (consumed c s) q = waitingPosts s q := by
  have h : (consumed c s).hif.posts = (consume c.qp s).hif.posts := rfl
  exact waitingPosts_of_posts (by rw [h, consume, tlbTouch_hif]; rfl) q

theorem cqAddr_consumed (c : Sub) (s : State) : cqAddr (consumed c s) c.qp = cqAddr s c.qp :=
  cqAddr_of_qpOf (by rw [qpOf_consumed]) (by rw [qpOf_consumed])

theorem consumed_mem (c : Sub) (s : State) : (consumed c s).mem = (tlbTouch (sqAddr s c.qp) s).mem := by
  have h (p : QPair) : (tlbTouch (sqAddr s c.qp) (setQp c.qp p s)).mem = (tlbTouch (sqAddr s c.qp) s).mem :=
    tlbTouch_mem_of_mem (by rfl) _
  exact h _

theorem signalQp_signals (q : Nat) (s : State) :
    Signals (setQp q { qpOf s q with coalCount := 0, coalAge := 0 } s) (signalQp q s) :=
  (msixSend_signals (field_lt _ _ _) _).trans (raiseExt_signals _ _ _ _)

/-- The order that entries wait for has no part in the address of a page. -/
theorem busOf_consumed_refreshOrders (c : Sub) (s : State) (a : Nat) :
    busOf (consumed c (refreshOrders s)) a = busOf (consumed c s) a := by
  have h : (tlbTouch (sqAddr s c.qp) (refreshOrders s)).mem = (tlbTouch (sqAddr s c.qp) s).mem := tlbTouch_mem_of_mem (by rfl) _
  refine busOf_of_mem ?_ a
  rw [consumed_mem, consumed_mem]
  exact h

end Sys2Proof.Machine
end


/-! What the work of one queue pair leaves unchanged (O56), and the entry of a completion (O55). -/
section
namespace Sys2Proof.Machine

/-- The host interface without what the commands of a queue pair change: the pairs, the commands, the messages and the
completions, and the account of channel 0. -/
def State.settings (s : State) : Hif :=
  { s.hif with qps := [], cmds := [], hostMem := [], pba := 0, posts := [], ch0 := {}, fwHigh := false, timedHigh := false }

/-- The address lies outside every completion entry that a slot of B stands for. -/
def ClearOfSlots (B : Nat → Prop) (a : Nat) : Prop := ∀ b, B b → a < b ∨ b + 16 ≤ a

/-- From s to t only queue pair q works: it writes completion entries at slots of B, and messages. -/
structure PairWorks (q : Nat) (B : Nat → Prop) (s t : State) : Prop where
  settings : t.settings = s.settings
  pairs : ∀ r, r ≠ q → qpOf t r = qpOf s r
  posts : ∀ r, r ≠ q → waitingPosts t r = waitingPosts s r
  subs : t.hif.cmds.map (·.sub) = s.hif.cmds.map (·.sub)
  read : ∀ a, ClearOfSlots B a → ClearOfMessages s a → hostRead t a = hostRead s a

namespace PairWorks

variable {q : Nat} {B : Nat → Prop} {s t u : State}

theorem of_signals (h : Signals s t) : PairWorks q B s t where
  settings := (congrArg (fun x : Hif => { x with
    qps := [], cmds := [], hostMem := [], pba := 0, posts := [], ch0 := {}, fwHigh := false, timedHigh := false }) h.quiet :)
  pairs r _ := qpOf_of_qps h.qps r
  posts r _ := waitingPosts_of_posts h.posts r
  subs := by rw [h.cmds]
  read a _ ha := h.read a ha

theorem of_hif (h : t.hif = s.hif) : PairWorks q B s t := of_signals (.of_hif h)

theorem refl (s : State) : PairWorks q B s s := of_hif rfl

theorem msix (h : PairWorks q B s t) : t.hif.msix = s.hif.msix := (congrArg Hif.msix h.settings :)

theorem trans (h : PairWorks q B s t) (h' : PairWorks q B t u) : PairWorks q B s u where
  settings := h'.settings.trans h.settings
  pairs r hr := (h'.pairs r hr).trans (h.pairs r hr)
  posts r hr := (h'.posts r hr).trans (h.posts r hr)
  subs := h'.subs.trans h.subs
  read a hb ha := (h'.read a hb (clearOfMessages_of_msix h.msix ha)).trans (h.read a hb ha)

theorem setQp (q : Nat) (B : Nat → Prop) (v : QPair) (s : State) : PairWorks q B s (setQp q v s) :=
  ⟨rfl, fun _ hr => qpOf_setQp_ne v s hr, fun _ _ => rfl, rfl, fun _ _ _ => rfl⟩

theorem setCh0 (x : Ch0) (s : State) : PairWorks q B s (setCh0 x s) :=
  ⟨rfl, fun _ _ => rfl, fun _ _ => rfl, rfl, fun _ _ _ => rfl⟩

theorem tlbTouch (a : Nat) (s : State) : PairWorks q B s (tlbTouch a s) := of_hif (tlbTouch_hif a s)

theorem stally (k n : Nat) (s : State) : PairWorks q B s (stally k n s) := of_hif rfl

/-- The bytes of a completion entry. -/
theorem hostWrite {b : Nat} (hb : B b) {bs : List Byte} (hn : bs.length = 16) (s : State) : PairWorks q B s (hostWrite b bs s) :=
  ⟨rfl, fun _ _ => rfl, fun _ _ => rfl, rfl, fun _ ha _ => hostRead_hostWrite_outside hn s (ha b hb)⟩

theorem signalQp (q : Nat) (B : Nat → Prop) (s : State) : PairWorks q B s (signalQp q s) :=
  (setQp q B _ s).trans (of_signals (signalQp_signals q s))

theorem countIrq (q : Nat) (B : Nat → Prop) (b : Bool) (s : State) : PairWorks q B s (countIrq q b s) := by
  unfold Machine.countIrq
  dsimp only
  split
  · split
    · exact (setQp q B _ s).trans (signalQp q B _)
    · exact setQp q B _ s
  · exact refl s

theorem stopQp (q : Nat) (B : Nat → Prop) (cause : Nat) (s : State) : PairWorks q B s (stopQp q cause s) :=
  (setQp q B _ s).trans (of_signals (raiseExt_signals _ _ _ _))

theorem qpFault (q : Nat) (B : Nat → Prop) (cause : Nat) (s : State) : PairWorks q B s (qpFault q cause s) :=
  .trans (of_signals ((Signals.of_hif (countMem_hif 4 s)).trans (raise_signals _ _ _))) (stopQp q B 3 _)

theorem notFetched (q : Nat) (B : Nat → Prop) (s : State) : PairWorks q B s (notFetched q s) := by
  unfold Machine.notFetched
  split
  · split
    · exact qpFault q B _ s
    · exact refl s
  · exact refl s

theorem length_entry (p : QPair) (tag : BitVec 16) (status : Nat) (res : DWord) :
    (bytesOf (completionWords p tag status res)).length = 16 := rfl

theorem postNow (tag : BitVec 16) (status : Nat) (res : DWord) (b : Bool) (h : B (busOf s (cqAddr s q))) :
    PairWorks q B s (postNow q tag status res b s) :=
  (hostWrite h (length_entry (qpOf s q) tag status res) s).trans ((setCh0 _ _).trans
    ((setQp q B _ _).trans (countIrq q B _ _)))

/-- A completion that waits for the page of its slot joins those of its pair. -/
theorem addPost (e : Post) (s : State) :
    PairWorks e.qp B s { s with hif := { s.hif with posts := s.hif.posts ++ [e] } } :=
  ⟨rfl, fun _ _ => rfl, fun r hr => by simp [waitingPosts, Ne.symm hr], rfl, fun _ _ _ => rfl⟩

theorem post (tag : BitVec 16) (status : Nat) (res : DWord) (b : Bool) (h : B (busOf s (cqAddr s q))) :
    PairWorks q B s (post q tag status res b s) := by
  have later := addPost (B := B) { qp := q, tag := tag, status := status, result := res, suppress := b } s
  unfold Machine.post
  dsimp only
  split
  · exact later
  · split
    · have ha : cqAddr (Machine.tlbTouch (cqAddr s q) s) q = cqAddr s q := by
        unfold cqAddr
        rw [qpOf_of_qps (congrArg Hif.qps (tlbTouch_hif _ s))]
      exact (tlbTouch _ s).trans (postNow tag status res b (by rwa [ha, busOf_tlbTouch]))
    · exact later
    · exact qpFault q B _ s

theorem complete (c : Sub) (status : Nat) (res : DWord) (h : B (busOf s (cqAddr s c.qp))) :
    PairWorks c.qp B s (complete c status res s) :=
  post c.tag status res _ h

theorem stampPost (op : Nat) (sn : Option Word) (c : Sub) (s : State) : PairWorks c.qp B s (stampPost op sn c s) := by
  unfold Machine.stampPost
  split
  · exact refl s
  · refine ⟨rfl, fun _ _ => rfl, fun r hr => ?_, rfl, fun _ _ _ => rfl⟩
    unfold waitingPosts
    rw [List.filter_map]
    refine (congrArg (List.map _) (List.filter_congr fun e _ => ?_)).trans
      ((List.map_congr_left fun e he => ?_).trans (List.map_id _))
    · dsimp only [Function.comp]
      split <;> rfl
    · have hq : (e.qp == c.qp) = false := by
        have := (List.mem_filter.1 he).2
        simp only [beq_iff_eq] at this
        simpa [this] using hr
      simp [hq]

theorem consumed (c : Sub) (s : State) : PairWorks c.qp B s (consumed c s) :=
  (setQp c.qp B _ s).trans ((tlbTouch _ _).trans ((setCh0 _ _).trans (stally _ _ _)))

theorem refreshOrders (s : State) : PairWorks q B s (refreshOrders s) := by
  refine ⟨rfl, fun _ _ => rfl, fun _ _ => rfl, ?_, fun _ _ _ => rfl⟩
  unfold Machine.refreshOrders
  rw [List.map_map]
  refine List.map_congr_left fun x _ => ?_
  dsimp only [Function.comp]
  split <;> rfl

theorem refuseBusy (c : Sub) (timed : Bool) (h : B (busOf s (cqAddr s c.qp))) : PairWorks c.qp B s (refuseBusy c timed s) :=
  (complete c stBusy 0 h).trans (setQp c.qp B _ _)

end PairWorks

/-! Commands that only report -/

/-- An execution that only reports completes or waits in the state it began in, but for the free value it may draw. -/
def OpOut.reports (s : State) : OpOut → Prop
  | .done _ _ t => t = s ∨ t = (takeFree s).2
  | .wait _ _ t => t = s
  | .write .. => False

/-- From s to t the pair of entry c works, and at most c joins the outstanding commands. -/
def EntryWorks (c : Sub) (B : Nat → Prop) (s t : State) : Prop :=
  PairWorks c.qp B s t ∨ ∃ u x, PairWorks c.qp B s u ∧ x.sub = c ∧ t = addCmd x u

section
variable {c : Sub} {B : Nat → Prop} {s t u : State}

theorem EntryWorks.trans (h : PairWorks c.qp B s t) (h' : EntryWorks c B t u) : EntryWorks c B s u :=
  h'.imp h.trans fun ⟨v, x, hv, hx, e⟩ => ⟨v, x, h.trans hv, hx, e⟩

theorem commitsOp_of_status {op : Nat} (h : op ∈ statusOps) : commitsOp op = false := by
  revert op
  decide

theorem not_deviceCommit_of_status {op : Nat} (h : op ∈ statusOps) : (op == 0x08 || op == 0xC5) = false := by
  revert op
  decide

theorem finish_entryWorks {op : Nat} {o : OpOut} (hop : op ∈ statusOps) (ho : o.reports s)
    (hb : B (busOf s (cqAddr s c.qp))) : EntryWorks c B s (finish op c o) := by
  cases o with
  | done st r t =>
    have ht : PairWorks c.qp B s t := by rcases ho with rfl | rfl <;> exact .of_hif rfl
    have hb' : B (busOf t (cqAddr t c.qp)) := by rcases ho with rfl | rfl <;> exact hb
    simp only [finish, commitsOp_of_status hop, Bool.false_and, notifyIf, Bool.false_eq_true, if_false]
    exact .inl (ht.trans ((PairWorks.complete c st r hb').trans (.stampPost ..)))
  | wait w aux t =>
    obtain rfl : t = s := ho
    simp only [finish, not_deviceCommit_of_status hop, Bool.false_and, notifyIf, Bool.false_eq_true, if_false]
    exact .inr ⟨t, _, .refl t, rfl, rfl⟩
  | write a bs r t => exact ho.elim

theorem execEntry_entryWorks {op : Nat} {core : Sub → State → OpOut} (hop : op ∈ statusOps)
    (hc : ∀ u, (core c u).reports u) (hb : B (busOf s (cqAddr s c.qp))) : EntryWorks c B s (execEntry op core c s) := by
  unfold execEntry
  extract_lets u
  have hu : PairWorks c.qp B s u := .stally _ _ s
  have hbu : B (busOf u (cqAddr u c.qp)) := hb
  clear_value u
  split
  · exact .inl (hu.trans (.complete c _ _ hbu))
  · split
    · exact .inl (hu.trans (.complete c _ _ hbu))
    · exact .trans hu (finish_entryWorks hop (hc u) hbu)

/-- A command that only reports, from its ring to its completion or its wait. -/
theorem submit_entryWorks {op : Nat} {core : Sub → State → OpOut} (hop : op ∈ statusOps) (hc : ∀ u, (core c u).reports u)
    (hb : B (busOf s (cqAddr s c.qp))) (hb' : B (busOf (consumed c s) (cqAddr s c.qp))) :
    EntryWorks c B s (submit op core c s) := by
  have hr : PairWorks c.qp B s (refreshOrders s) := .refreshOrders s
  have hu : PairWorks c.qp B s (consumed c (refreshOrders s)) := hr.trans (.consumed c _)
  have hbu : B (busOf (consumed c (refreshOrders s)) (cqAddr (consumed c (refreshOrders s)) c.qp)) := by
    rw [cqAddr_consumed, busOf_consumed_refreshOrders]
    exact hb'
  have completes (st : Nat) : EntryWorks c B s (complete c st 0 (consumed c (refreshOrders s))) :=
    .inl (hu.trans (.complete c st 0 hbu))
  unfold submit
  dsimp only
  split
  · exact .inl (.notFetched _ B s)
  · split
    · exact completes _
    · split
      · exact completes _
      · split
        · exact .inl (hr.trans (.refuseBusy c _ hb))
        · split
          · exact .inr ⟨_, _, hu, rfl, rfl⟩
          · exact .trans hu (execEntry_entryWorks hop hc hbu)

end

/-! The reporting commands -/

section
variable {s : State}

@[simp] theorem okRes_reports (r : DWord) (s : State) : (okRes r s).reports s := .inl rfl
@[simp] theorem okRes_takeFree_reports (r : DWord) (s : State) : (okRes r (takeFree s).2).reports s := .inr rfl
@[simp] theorem failSt_reports (st : Nat) (s : State) : (failSt st s).reports s := .inl rfl
@[simp] theorem wait_reports (w : Wait) (aux : List Word) (s : State) : (OpOut.wait w aux s).reports s := rfl

@[simp] theorem ite_reports (p : Prop) [Decidable p] (a b : OpOut) :
    (if p then a else b).reports s ↔ if p then a.reports s else b.reports s := by
  split <;> rfl

theorem reports_ite {p : Prop} [Decidable p] {a b : OpOut} (ha : a.reports s) (hb : b.reports s) :
    (if p then a else b).reports s := by
  split <;> assumption

@[simp] theorem withPlane_reports (sel : Word) (k : Nat → OpOut) (h : ∀ p, (k p).reports s) :
    (withPlane sel s k).reports s := by
  simp [withPlane, h]

end

theorem opNop_reports (c : Sub) (s : State) : (opNop c s).reports s := by simp [opNop]
theorem opIdentify_reports (c : Sub) (s : State) : (opIdentify c s).reports s := by simp [opIdentify]
theorem opClkStatus_reports (c : Sub) (s : State) : (opClkStatus c s).reports s := by simp [opClkStatus]
theorem opPwrStatus_reports (c : Sub) (s : State) : (opPwrStatus c s).reports s := by simp [opPwrStatus]
theorem opLoopRead_reports (c : Sub) (s : State) : (opLoopRead c s).reports s := by simp [opLoopRead]
theorem opBoothStatus_reports (c : Sub) (s : State) : (opBoothStatus c s).reports s := by simp [opBoothStatus]
theorem opTestStatus_reports (c : Sub) (s : State) : (opTestStatus c s).reports s := by simp [opTestStatus]
theorem opDispStatus_reports (c : Sub) (s : State) : (opDispStatus c s).reports s := by simp [opDispStatus]
theorem opDispFlowStatus_reports (c : Sub) (s : State) : (opDispFlowStatus c s).reports s := by simp [opDispFlowStatus]
theorem opSessStatus_reports (c : Sub) (s : State) : (opSessStatus c s).reports s := by simp [opSessStatus]
theorem opScanRead_reports (c : Sub) (s : State) : (opScanRead c s).reports s := by
  refine reports_ite (failSt_reports _ s) (withPlane_reports _ _ fun k => reports_ite ?_ (okRes_reports _ s))
  split <;> simp

theorem opScanStatus_reports (c : Sub) (s : State) : (opScanStatus c s).reports s := by simp [opScanStatus]
theorem opAxRead_reports (c : Sub) (s : State) : (opAxRead c s).reports s := by simp [opAxRead]
theorem opSafeStatus_reports (c : Sub) (s : State) : (opSafeStatus c s).reports s := by simp [opSafeStatus]
theorem opSconnStatus_reports (c : Sub) (s : State) : (opSconnStatus c s).reports s := by simp [opSconnStatus]
theorem opSealRead_reports (c : Sub) (s : State) : (opSealRead c s).reports s := by
  refine reports_ite (failSt_reports _ s) (reports_ite (okRes_reports _ s) ?_)
  split <;> simp

theorem opRecStatus_reports (c : Sub) (s : State) : (opRecStatus c s).reports s := by
  have hf (o : Option Word) : OpOut.reports s (match o with
      | some q => okRes (dw q.toNat) s
      | none => okRes (takeFree s).1 (takeFree s).2) := by
    cases o <;> simp
  unfold opRecStatus
  dsimp only
  split
  case h_3 => exact hf _
  case h_4 => exact hf _
  all_goals simp

theorem opTrigStatus_reports (c : Sub) (s : State) : (opTrigStatus c s).reports s := by simp [opTrigStatus]
theorem opMaskStatus_reports (c : Sub) (s : State) : (opMaskStatus c s).reports s := by simp [opMaskStatus]
theorem opPlaneStatus_reports (c : Sub) (s : State) : (opPlaneStatus c s).reports s := by simp [opPlaneStatus]
theorem opPlaneHealth_reports (c : Sub) (s : State) : (opPlaneHealth c s).reports s := by
  unfold opPlaneHealth
  split <;> simp

theorem opLedgerStatus_reports (c : Sub) (s : State) : (opLedgerStatus c s).reports s := by
  unfold opLedgerStatus
  split <;> simp only [okRes_reports, failSt_reports]
  · split <;> simp
  · split <;> simp

theorem opMemStatus_reports (c : Sub) (s : State) : (opMemStatus c s).reports s := by simp [opMemStatus]
theorem opTurnRead_reports (c : Sub) (s : State) : (opTurnRead c s).reports s := by simp [opTurnRead]
theorem opAfeStatus_reports (c : Sub) (s : State) : (opAfeStatus c s).reports s := by simp [opAfeStatus]
theorem opFpStatus_reports (c : Sub) (s : State) : (opFpStatus c s).reports s := by simp [opFpStatus]
theorem opPtpStatus_reports (c : Sub) (s : State) : (opPtpStatus c s).reports s := by simp [opPtpStatus]
theorem opTimeRead_reports (c : Sub) (s : State) : (opTimeRead c s).reports s := by simp [opTimeRead]
theorem opTimeStatus_reports (c : Sub) (s : State) : (opTimeStatus c s).reports s := by simp [opTimeStatus]
theorem opCanStatus_reports (c : Sub) (s : State) : (opCanStatus c s).reports s := by simp [opCanStatus]
theorem opEvtStatus_reports (c : Sub) (s : State) : (opEvtStatus c s).reports s := by simp [opEvtStatus]
theorem opObsRead_reports (c : Sub) (s : State) : (opObsRead c s).reports s := by simp [opObsRead]

/-- The rows of the reporting commands. -/
def statusRows : List (Nat × (Sub → Instr)) :=
  [(0x00, .nop), (0x01, .identify), (0x04, .clkStatus), (0x07, .pwrStatus), (0x12, .loopRead), (0x15, .boothStatus),
    (0x24, .testStatus), (0x32, .dispStatus), (0x33, .dispFlowStatus), (0x47, .sessStatus), (0x63, .scanRead),
    (0x64, .scanStatus), (0x7A, .axRead), (0x80, .safeStatus), (0x83, .sconnStatus), (0x86, .sealRead),
    (0x92, .recStatus), (0x96, .trigStatus), (0x99, .maskStatus), (0xA0, .planeStatus), (0xA1, .planeHealth),
    (0xA6, .ledgerStatus), (0xB0, .memStatus), (0xB2, .turnRead), (0xC7, .afeStatus), (0xD3, .fpStatus),
    (0xD6, .ptpStatus), (0xD7, .timeRead), (0xDB, .timeStatus), (0xE7, .canStatus), (0xE9, .evtStatus),
    (0xED, .obsRead)]

theorem filter_hostRows_statusOps : hostRows.filter (fun row => decide (row.1 ∈ statusOps)) = statusRows := rfl

theorem mem_statusRows {row : Nat × (Sub → Instr)} (h : row ∈ hostRows) (hs : row.1 ∈ statusOps) : row ∈ statusRows := by
  rw [← filter_hostRows_statusOps]
  exact List.mem_filter.2 ⟨h, decide_eq_true hs⟩

/-- The row's command is a host command that only reports. -/
def RowReports (row : Nat × (Sub → Instr)) : Prop :=
  ∃ core, (∀ c s, exec (row.2 c) s = hostCmd row.1 core c s) ∧ ∀ c s, (core c s).reports s

theorem rowReports_of {op : Nat} {row : Sub → Instr} {core : Sub → State → OpOut} (h : ∀ c s, (core c s).reports s)
    (he : ∀ c s, exec (row c) s = hostCmd op core c s) : RowReports (op, row) := ⟨core, he, h⟩

theorem rowReports_of_mem_statusRows : ∀ row ∈ statusRows, RowReports row := by
  simp only [statusRows, List.forall_mem_cons, List.not_mem_nil, false_implies, implies_true, and_true]
  exact ⟨rowReports_of opNop_reports fun _ _ => rfl, rowReports_of opIdentify_reports fun _ _ => rfl,
    rowReports_of opClkStatus_reports fun _ _ => rfl, rowReports_of opPwrStatus_reports fun _ _ => rfl,
    rowReports_of opLoopRead_reports fun _ _ => rfl, rowReports_of opBoothStatus_reports fun _ _ => rfl,
    rowReports_of opTestStatus_reports fun _ _ => rfl, rowReports_of opDispStatus_reports fun _ _ => rfl,
    rowReports_of opDispFlowStatus_reports fun _ _ => rfl, rowReports_of opSessStatus_reports fun _ _ => rfl,
    rowReports_of opScanRead_reports fun _ _ => rfl, rowReports_of opScanStatus_reports fun _ _ => rfl,
    rowReports_of opAxRead_reports fun _ _ => rfl, rowReports_of opSafeStatus_reports fun _ _ => rfl,
    rowReports_of opSconnStatus_reports fun _ _ => rfl, rowReports_of opSealRead_reports fun _ _ => rfl,
    rowReports_of opRecStatus_reports fun _ _ => rfl, rowReports_of opTrigStatus_reports fun _ _ => rfl,
    rowReports_of opMaskStatus_reports fun _ _ => rfl, rowReports_of opPlaneStatus_reports fun _ _ => rfl,
    rowReports_of opPlaneHealth_reports fun _ _ => rfl, rowReports_of opLedgerStatus_reports fun _ _ => rfl,
    rowReports_of opMemStatus_reports fun _ _ => rfl, rowReports_of opTurnRead_reports fun _ _ => rfl,
    rowReports_of opAfeStatus_reports fun _ _ => rfl, rowReports_of opFpStatus_reports fun _ _ => rfl,
    rowReports_of opPtpStatus_reports fun _ _ => rfl, rowReports_of opTimeRead_reports fun _ _ => rfl,
    rowReports_of opTimeStatus_reports fun _ _ => rfl, rowReports_of opCanStatus_reports fun _ _ => rfl,
    rowReports_of opEvtStatus_reports fun _ _ => rfl, rowReports_of opObsRead_reports fun _ _ => rfl⟩

/-! The frame -/

section
variable {c : Sub} {B : Nat → Prop} {s t : State}

theorem state_bare_of_reports {o : OpOut} (h : o.reports s) : o.state.bare = s.bare := by
  cases o with
  | done st r t => rcases h with rfl | rfl <;> rfl
  | wait w aux t => exact congrArg State.bare h
  | write a bs r t => exact h.elim

theorem qpOf_addCmd (x : Cmd) (s : State) (q : Nat) : qpOf (addCmd x s) q = qpOf s q := rfl
theorem waitingPosts_addCmd (x : Cmd) (s : State) (q : Nat) : waitingPosts (addCmd x s) q = waitingPosts s q := rfl
theorem settings_addCmd (x : Cmd) (s : State) : (addCmd x s).settings = s.settings := rfl
theorem hostRead_addCmd (x : Cmd) (s : State) (a : Nat) : hostRead (addCmd x s) a = hostRead s a := rfl

theorem addCmd_subs (x : Cmd) (s : State) : (addCmd x s).hif.cmds.map (·.sub) = s.hif.cmds.map (·.sub) ++ [x.sub] :=
  List.map_append

/-- What the settings leave open may be taken from the state before. -/
theorem hif_of_settings (h : t.settings = s.settings) :
    { t.hif with
      qps := s.hif.qps, cmds := s.hif.cmds, hostMem := s.hif.hostMem, pba := s.hif.pba, posts := s.hif.posts
      ch0 := s.hif.ch0, fwHigh := s.hif.fwHigh, timedHigh := s.hif.timedHigh } = s.hif :=
  (congrArg (fun x : Hif => { x with
    qps := s.hif.qps, cmds := s.hif.cmds, hostMem := s.hif.hostMem, pba := s.hif.pba, posts := s.hif.posts
    ch0 := s.hif.ch0, fwHigh := s.hif.fwHigh, timedHigh := s.hif.timedHigh }) h :)

/-- What the work of an entry leaves unchanged of the host interface. -/
theorem EntryWorks.frame (h : EntryWorks c B s t) :
    t.settings = s.settings ∧ (∀ q, q ≠ c.qp → qpOf t q = qpOf s q)
    ∧ (∀ q, q ≠ c.qp → waitingPosts t q = waitingPosts s q)
    ∧ (t.hif.cmds.map (·.sub) = s.hif.cmds.map (·.sub) ∨ t.hif.cmds.map (·.sub) = s.hif.cmds.map (·.sub) ++ [c])
    ∧ ∀ a, ClearOfSlots B a → ClearOfMessages s a → hostRead t a = hostRead s a := by
  rcases h with h | ⟨u, x, h, rfl, rfl⟩
  · exact ⟨h.settings, h.pairs, h.posts, .inl h.subs, h.read⟩
  · exact ⟨h.settings, h.pairs, h.posts, .inr ((addCmd_subs x u).trans (by rw [h.subs])), h.read⟩

end

/-- Settles O56: a row that only reports does the work of its entry, in the slot it finds before or after its consumption. -/
theorem statusCommandsChangeNothingElse : Obligations.StatusCommandsChangeNothingElse := by
  intro row hrow hop c s t ht
  obtain ⟨core, he, hr⟩ := rowReports_of_mem_statusRows row (mem_statusRows hrow hop)
  obtain rfl : t = submit row.1 core c s := next_inj ((he c s).symm.trans ht)
  have hw : EntryWorks c (fun b => b = busOf s (cqAddr s c.qp) ∨ b = busOf (consumed c s) (cqAddr s c.qp)) s
      (submit row.1 core c s) :=
    submit_entryWorks hop (hr c) (.inl rfl) (.inr rfl)
  obtain ⟨hset, hpairs, hposts, hsubs, hread⟩ := hw.frame
  exact ⟨submit_bare s row.1 core c fun u => state_bare_of_reports (hr c u), hpairs, hif_of_settings hset,
    hposts, hsubs, hread⟩

end Sys2Proof.Machine
end


/-! The entry of a completion (O55): what a NOP writes while the tail lies in the ring, and the tail beyond the ring that the
statement does not exclude. -/
section
namespace Sys2Proof.Machine

section
variable {q : Nat} {tag : BitVec 16} {st : Nat} {r : DWord} {b : Bool} {s : State}

/-- What the next completion of the pair rests on: tail, sequence and phase. -/
def ringOf (p : QPair) : Nat × BitVec 16 × Bool := (p.cqTail, p.seq, p.phase)

/-- The same after one more completion of a ring of n slots. -/
def nextRing (n : Nat) (x : Nat × BitVec 16 × Bool) : Nat × BitVec 16 × Bool :=
  (if x.1 + 1 = n then 0 else x.1 + 1, x.2.1 + 1, if x.1 + 1 = n then !x.2.2 else x.2.2)

theorem nextRing_tail_of_lt {n : Nat} {x : Nat × BitVec 16 × Bool} (h : x.1 < n) : (nextRing n x).1 = (x.1 + 1) % n := by
  unfold nextRing
  dsimp only
  split
  · next hw => rw [hw, Nat.mod_self]
  · next hw => exact (Nat.mod_eq_of_lt (by omega)).symm

theorem ringOf_signalQp (q : Nat) (s : State) : ringOf (qpOf (signalQp q s) q) = ringOf (qpOf s q) := by
  rw [qpOf_of_qps (signalQp_signals q s).qps, qpOf_setQp_self]
  rfl

theorem ringOf_countIrq (q : Nat) (b : Bool) (s : State) : ringOf (qpOf (countIrq q b s) q) = ringOf (qpOf s q) := by
  unfold countIrq
  dsimp only
  split
  · split
    · rw [ringOf_signalQp, qpOf_setQp_self]
      rfl
    · rw [qpOf_setQp_self]
      rfl
  · rfl

/-- No completion entry is among what the count of an interrupt writes. -/
theorem hostRead_countIrq {a : Nat} (h : ClearOfMessages s a) : hostRead (countIrq q b s) a = hostRead s a :=
  (PairWorks.countIrq q (fun _ => False) b s).read a (fun _ hb => hb.elim) h

theorem ringOf_postNow :
    ringOf (qpOf (postNow q tag st r b s) q) = nextRing (cqLen (qpOf s q)) (ringOf (qpOf s q)) := by
  unfold postNow
  rw [ringOf_countIrq, qpOf_setQp_self]
  by_cases hw : (qpOf s q).cqTail + 1 = cqLen (qpOf s q) <;> simp [ringOf, nextRing, hw]

theorem hostRead_setQp (q : Nat) (p : QPair) (s : State) (a : Nat) : hostRead (setQp q p s) a = hostRead s a := rfl
theorem hostRead_setCh0 (x : Ch0) (s : State) (a : Nat) : hostRead (setCh0 x s) a = hostRead s a := rfl

/-- The entry stands at the bus address of the slot, where no message overwrites it. -/
theorem hostRead_postNow {i : Nat} (hi : i < 16) (h : ClearOfMessages s (busOf s (cqAddr s q) + i)) :
    hostRead (postNow q tag st r b s) (busOf s (cqAddr s q) + i) = (bytesOf (completionWords (qpOf s q) tag st r))[i]? := by
  unfold postNow
  dsimp only
  rw [hostRead_countIrq]
  · rw [hostRead_setQp, hostRead_setCh0, hostRead_hostWrite, PairWorks.length_entry, if_pos (by omega), Nat.add_sub_cancel_left]
  · exact clearOfMessages_of_msix ((PairWorks.hostWrite (B := fun _ => True) trivial (PairWorks.length_entry ..) s).trans
      ((PairWorks.setCh0 _ _).trans (PairWorks.setQp q _ _ _))).msix h

theorem post_of_ready (hw : waitingPosts s q = []) (ht : translate s true (cqAddr s q) = .ready) :
    post q tag st r b s = postNow q tag st r b (tlbTouch (cqAddr s q) s) := by
  simp only [post, hw, ht, List.isEmpty_nil, Bool.not_true, Bool.false_eq_true, if_false]

theorem stampPost_hostMem (op : Nat) (n : Option Word) (c : Sub) (s : State) :
    (stampPost op n c s).hif.hostMem = s.hif.hostMem := by
  unfold stampPost
  split <;> rfl

theorem stampPost_qps (op : Nat) (n : Option Word) (c : Sub) (s : State) : (stampPost op n c s).hif.qps = s.hif.qps := by
  unfold stampPost
  split <;> rfl

theorem finish_nop (c : Sub) (s : State) :
    finish 0x00 c (opNop c s) = stampPost 0x00 none c (complete c stOk (dw s.sn.toNat) s) := rfl

end

/-- The pair of an entry that has begun. -/
theorem qpOf_begun (op : Nat) (c : Sub) (s : State) : qpOf (begun op c s) c.qp
    = let p := qpOf s c.qp
      let h := (p.sqHead + 1) % sqLen p
      { p with sqHead := h, sqTail := if p.sqTail = p.sqHead then h else p.sqTail } :=
  qpOf_consumed c (refreshOrders s)

section
variable (op : Nat) (c : Sub) (s : State)

theorem cqAddr_begun : cqAddr (begun op c s) c.qp = cqAddr s c.qp := cqAddr_consumed c (refreshOrders s)

theorem cqLen_begun : cqLen (qpOf (begun op c s) c.qp) = cqLen (qpOf s c.qp) := by
  rw [qpOf_begun]
  rfl

theorem ringOf_begun : ringOf (qpOf (begun op c s) c.qp) = ringOf (qpOf s c.qp) := by
  rw [qpOf_begun]
  rfl

theorem waitingPosts_begun (q : Nat) : waitingPosts (begun op c s) q = waitingPosts s q :=
  waitingPosts_consumed c (refreshOrders s) q

theorem msix_begun : (begun op c s).hif.msix = s.hif.msix :=
  ((PairWorks.refreshOrders (B := fun _ => False) s).trans ((PairWorks.consumed c _).trans (.stally _ _ _))).msix

end

theorem dw_toNat_eq_dword (w : Word) : dw w.toNat = dword w 0 := by simp [dw, dword]

/-- The words of a NOP's entry, from the pair before its consumption. -/
theorem completionWords_nop (c : Sub) (s : State) :
    completionWords (qpOf (begun 0x00 c s) c.qp) c.tag stOk (dw (begun 0x00 c s).sn.toNat)
      = let p := qpOf s c.qp
        [word c.tag.toNat, s.sn, 0, word (p.seq.toNat + (p.sqHead + 1) % sqLen p * 2 ^ 16 + p.phase.toNat * 2 ^ 31)] := by
  have hn : (begun 0x00 c s).sn = s.sn := (congrArg State.sn (begun_bare 0x00 c s) :)
  have hp (b : Bool) : (if b then 0x80000000 else 0) = b.toNat * 2 ^ 31 := by cases b <;> rfl
  simp only [completionWords, qpOf_begun, hn, dw_toNat_eq_dword, loWord_dword, hiWord_dword, hp]
  rfl

/-- A NOP whose completion tail lies in its ring writes its entry there and moves the tail on. -/
theorem nop_writes_completion (c : Sub) (s : State) (hr : runsNow 0x00 c s = true) :
    let p := qpOf s c.qp
    let a := p.cqBase.toNat + 16 * p.cqTail
    let b := busOf (begun 0x00 c s) a
    p.cqTail < cqLen p → waitingPosts s c.qp = [] → translate (begun 0x00 c s) true a = .ready →
    (∀ v < 64, let m := (msixWord s v 0).toNat + (msixWord s v 1).toNat * 2 ^ 32; m + 4 ≤ b ∨ b + 16 ≤ m) →
    ∃ t, exec (.nop c) s = .next t
      ∧ (∀ i < 16, hostRead t (b + i) = (bytesOf [word c.tag.toNat, s.sn, 0,
          word (p.seq.toNat + (p.sqHead + 1) % sqLen p * 2 ^ 16 + p.phase.toNat * 2 ^ 31)])[i]?)
      ∧ (qpOf t c.qp).cqTail = (p.cqTail + 1) % cqLen p ∧ (qpOf t c.qp).seq = p.seq + 1
      ∧ (qpOf t c.qp).phase = (if p.cqTail + 1 = cqLen p then !p.phase else p.phase) := by
  intro p a b hlt hw ht hm
  set u := begun 0x00 c s
  have ha : cqAddr u c.qp = a := cqAddr_begun 0x00 c s
  have hq : qpOf (tlbTouch a u) c.qp = qpOf u c.qp := qpOf_of_qps (congrArg Hif.qps (tlbTouch_hif a u)) c.qp
  have hb : busOf (tlbTouch a u) (cqAddr (tlbTouch a u) c.qp) = b := by
    rw [cqAddr_of_qpOf (congrArg QPair.cqBase hq) (congrArg QPair.cqTail hq), ha, busOf_tlbTouch]
  have hp : complete c stOk (dw u.sn.toNat) u = postNow c.qp c.tag stOk (dw u.sn.toNat) (hasSuppress c) (tlbTouch a u) := by
    rw [← ha]
    exact post_of_ready ((waitingPosts_begun 0x00 c s c.qp).trans hw) (by rwa [ha])
  have he : exec (.nop c) s = .next (finish 0x00 c (opNop c u)) :=
    congrArg Host.Outcome.next (submit_of_runsNow s 0x00 opNop c hr)
  rw [finish_nop, hp] at he
  refine ⟨_, he, fun i hi => ?_, ?_⟩
  · have hclear : ClearOfMessages (tlbTouch a u) (b + i) :=
      clearOfMessages_of_msix ((congrArg Hif.msix (tlbTouch_hif a u)).trans (msix_begun 0x00 c s))
        fun v hv => by have := hm v hv; omega
    rw [hostRead_of_hostMem (stampPost_hostMem ..), ← hb, hostRead_postNow hi (hb ▸ hclear), hq, completionWords_nop]
  · have hring : ringOf (qpOf (postNow c.qp c.tag stOk (dw u.sn.toNat) (hasSuppress c) (tlbTouch a u)) c.qp)
        = nextRing (cqLen p) (ringOf p) := by
      rw [ringOf_postNow, hq, cqLen_begun, ringOf_begun]
    rw [qpOf_of_qps (stampPost_qps ..)]
    exact ⟨(congrArg (·.1) hring).trans (nextRing_tail_of_lt (x := ringOf p) hlt),
      congrArg (·.2.1) hring, congrArg (·.2.2) hring⟩

/-- A running device whose first queue pair has its completion tail at slot 20 of a ring of 16. -/
def tailBeyondRing : State :=
  { dev := .run, sn := 100
    hif := {
      linkUp := true, linkRate := 16, linkWidth := 4
      qps := [(0, { ctrl := 0x4401, cqBase := 0x1000, cqTail := 20, cqHead := 8 })] }
    boot := { porst := false, preTick := false, firstCommit := true }
    ump := { a := { code := 1 }, b := { code := 2, agreed := true } }
    sealed := { read := true }
    clock := { powered := (upTo 20).map fun d => (d, true) } }

/-- The tail of a NOP's pair then moves on to slot 21, which 20 + 1 modulo 16 is not. -/
theorem cqTail_nop_tailBeyondRing : (qpOf (submit 0x00 opNop {} tailBeyondRing) 0).cqTail = 21 := by
  decide +kernel

theorem clear_tailBeyondRing : ∀ v < 64,
    let m := (msixWord tailBeyondRing v 0).toNat + (msixWord tailBeyondRing v 1).toNat * 2 ^ 32
    m + 4 ≤ busOf (begun 0x00 {} tailBeyondRing) 0x1140 ∨ busOf (begun 0x00 {} tailBeyondRing) 0x1140 + 16 ≤ m := by
  decide +kernel

/-- Refutes O55: the statement admits a completion tail that lies beyond its ring, and such a tail counts on without
wrapping. Inside the ring the statement holds: `nop_writes_completion`. -/
theorem not_completionEntryIsWritten : ¬ Obligations.CompletionEntryIsWritten := by
  intro h
  obtain ⟨t, ht, -, htail, -, -⟩ := h {} tailBeyondRing (by decide +kernel) rfl (by decide +kernel) clear_tailBeyondRing
  obtain rfl := next_inj ht
  exact absurd (cqTail_nop_tailBeyondRing.symm.trans htail) (by decide)

end Sys2Proof.Machine
end


/-! Rows of the front end (O20). -/
section
namespace Sys2Proof.Machine

theorem guarded_of_lt {q : Nat} (h : q < 64) (s : State) : guarded (decide (q < 64)) s = .next s := if_pos (decide_eq_true h)

section
variable {q : Nat} {ws image : List Word} {s : State}

theorem fetchEntry_of_valid (hn : (qpOf s q).sqHead ≠ (qpOf s q).sqTail) (hc : entryCrcOk ws = true) : fetchEntry q ws image s
    = let op := field (wordAt ws 0) 0 8
      startReads (submit op (if isFast op then coreOf op else forward op) (entryOfWords q ws image) s) := by
  simp only [fetchEntry, hn, hc, Bool.not_true, Bool.false_eq_true, if_false]

theorem fetchEntry_of_damaged (hn : (qpOf s q).sqHead ≠ (qpOf s q).sqTail) (hc : entryCrcOk ws = false)
    (hf : fetchable s { entryOfWords q ws image with flags := 0 } = true) :
    fetchEntry q ws image s = crcFail { entryOfWords q ws image with flags := 0 } s := by
  simp only [fetchEntry, hn, hc, hf, Bool.not_false, if_false, if_true]

theorem coalesceTimeout_of_due (hi : bit (qpOf s q).coalCtrl 1 = true) (ht : field (qpOf s q).coalCtrl 24 8 ≠ 0)
    (hc : 0 < (qpOf s q).coalCount) (ha : field (qpOf s q).coalCtrl 24 8 ≤ (qpOf s q).coalAge) :
    coalesceTimeout q s = signalQp q s := by
  simp [coalesceTimeout, hi, ht, hc, ha]

end

section
variable {x : Cmd} {s : State}

theorem placeTimed_of_open (h : afterF x.op s = false) : placeTimed x s
    = finish x.op x.sub (placement x { s with hif := { s.hif with cmds := s.hif.cmds.erase x } }) := by
  have h' : afterF x.op { s with hif := { s.hif with cmds := s.hif.cmds.erase x } } = false := h
  simp only [placeTimed, h', Bool.false_eq_true, if_false]

theorem commitForwarded_of_done (hf : afterF x.op s = false) (ho : overtaken x.op s = false) {st : Nat} {r : DWord} {t : State}
    (h : coreOf x.op x.sub { s with hif := { s.hif with cmds := s.hif.cmds.erase x } } = .done st r t) :
    commitForwarded x s = finish x.op x.sub (.done st r t) := by
  have hf' : afterF x.op { s with hif := { s.hif with cmds := s.hif.cmds.erase x } } = false := hf
  have ho' : overtaken x.op { s with hif := { s.hif with cmds := s.hif.cmds.erase x } } = false := ho
  simp only [commitForwarded, hf', ho', h, Bool.false_eq_true, if_false]

end

/-- The pairs that ease raise their events: the marks of the backlog and of the timed store stay. -/
theorem easePairs_timedHigh (timed : Bool) (s : State) : (easePairs timed s).hif.timedHigh = s.hif.timedHigh := by
  refine forEach_keeps (fun u => u.hif.timedHigh) _ _ (fun q u => ?_) s
  exact (congrArg Hif.timedHigh (qpRaise_signals q 2 true (setQp q { qpOf u q with retry := true } u)).quiet :)

theorem execBacklogEased_forwarded {s : State} (hh : s.hif.fwHigh = true) (hb : backlog s ≤ 192)
    (ht : s.hif.timedHigh = false) :
    execBacklogEased s = .next (easePairs false { s with hif := { s.hif with fwHigh := false } }) := by
  have h : (easePairs false { s with hif := { s.hif with fwHigh := false } }).hif.timedHigh = false :=
    (easePairs_timedHigh false _).trans ht
  simp only [execBacklogEased, hh, hb, h, decide_true, Bool.and_true, Bool.false_and, Bool.false_eq_true, if_true, if_false]

theorem execBacklogEased_timed {s : State} (hh : s.hif.fwHigh = false) (ht : s.hif.timedHigh = true) (hb : timedCount s ≤ 768) :
    execBacklogEased s = .next (easePairs true { s with hif := { s.hif with timedHigh := false } }) := by
  simp only [execBacklogEased, hh, hb, ht, decide_true, Bool.and_true, Bool.false_and, Bool.false_eq_true, if_true, if_false]

/-- Settles O20: each row past its guards. -/
theorem frontEndRowsTakeEffect : Obligations.FrontEndRowsTakeEffect := by
  refine ⟨fun s q ws image hq hn => ⟨fun hc => ?_, fun hc hf => ?_⟩, fun s x hq hp hf hx => ?_,
    fun s x hq hw hx => ⟨?_, fun hf ho st r t h => commitForwarded_of_done hf ho h⟩, fun s q hq hi ht hc ha => ?_,
    fun s x hq hw hf ho hx => ?_,
    fun s => ⟨fun hh hb ht => execBacklogEased_forwarded hh hb ht, fun hh ht hb => execBacklogEased_timed hh ht hb⟩⟩
  · rw [exec_entryFetch, execEntryFetch, guarded_of_lt hq, fetchEntry_of_valid hn hc]
  · rw [exec_entryFetch, execEntryFetch, guarded_of_lt hq, fetchEntry_of_damaged hn hc hf]
  · rw [exec_timedPlacement, execTimedPlacement, guarded_of_lt hq, hx]
    simp only [placeTimed_of_open hf]
  · rw [exec_forwardedCommit, execForwardedCommit, guarded_of_lt hq]
    simp only [Bool.false_eq_true, if_false, Bool.false_and, hx]
  · rw [exec_coalesceTimeout, execCoalesceTimeout, guarded_of_lt hq, coalesceTimeout_of_due hi ht hc ha]
  · rw [exec_forwardedCommit, execForwardedCommit, guarded_of_lt hq]
    simp only [if_true, hx, hf, ho, Bool.not_false, Bool.and_true]

end Sys2Proof.Machine
end


/-! The divisors at the cut (O60). -/
section
namespace Sys2Proof.Machine

theorem fieldN_mod (y n lo len : Nat) (h : lo + len ≤ n) : fieldN (y % 2 ^ n) lo len = fieldN y lo len := by
  rw [fieldN, fieldN, show n = lo + (n - lo) by omega, pow_add, Nat.mod_mul_right_div_self,
    Nat.mod_mod_of_dvd _ (pow_dvd_pow 2 (by omega))]

/-- A replaced field reads as its new value, cut to the field's length. -/
theorem field_setField (w : BitVec n) {lo len : Nat} (h : lo + len ≤ n) (v : Nat) :
    field (setField w lo len v) lo len = v % 2 ^ len := by
  have hz : w.toNat / 2 ^ lo - w.toNat / 2 ^ lo % 2 ^ len = 2 ^ len * (w.toNat / 2 ^ lo / 2 ^ len) := by
    have := Nat.div_add_mod (w.toNat / 2 ^ lo) (2 ^ len)
    omega
  rw [field, setField, BitVec.toNat_ofNat, fieldN_mod _ _ _ _ h, fieldN, fieldN, Nat.add_mul_div_right _ _ (by positivity),
    mul_comm _ (2 ^ lo), Nat.sub_mul_div, hz, Nat.mul_add_mod, Nat.mod_mod]

@[simp] theorem lw_setLw_self (l w : Nat) (v : Word) (p : Plane) : lw (setLw l w v p) l w = v := tget_tset_self ..

theorem lw_setLw_ne {l w k x : Nat} (v : Word) (p : Plane) (h : 64 * l + w ≠ 64 * k + x) : lw (setLw l w v p) k x = lw p k x :=
  tget_tset_ne _ _ _ _ _ h

theorem field_lw_setLf (l w v : Nat) (p : Plane) {lo len : Nat} (h : lo + len ≤ 32) :
    field (lw (setLf l w lo len v p) l w) lo len = v % 2 ^ len := by
  rw [setLf, lw_setLw_self, field_setField _ h]

@[simp] theorem due_setLf (l w lo len v : Nat) (p : Plane) : (setLf l w lo len v p).fab.due = p.fab.due := rfl

/-- Where every other element leaves g alone, a run over a list that holds an element once does to g what that element does. -/
theorem forEach_of_count_eq_one {α β σ : Type} [DecidableEq α] (g : σ → β) {l : List α} (f : α → σ → σ) {a : α}
    (hc : l.count a = 1) (h : ∀ b, b ≠ a → ∀ u, g (f b u) = g u) (s : σ) : ∃ u, g u = g s ∧ g (forEach l f s) = g (f a u) := by
  induction l generalizing s with
  | nil => simp at hc
  | cons b l ih =>
    by_cases hb : b = a
    · subst hb
      have hl : b ∉ l := List.count_eq_zero.1 (by simpa using hc)
      exact ⟨s, rfl, forEach_keeps_of_mem g l f _ fun c hm => h c (ne_of_mem_of_not_mem hm hl)⟩
    · obtain ⟨u, hu, e⟩ := ih (by simpa [hb] using hc) (f b s)
      exact ⟨u, hu.trans (h b hb s), e⟩

/-- The turn of one configured loop at the cut (03 R94). -/
def divTurn (held : List Nat) (l : Nat) (q : Plane) : Plane :=
  if held.contains l then q
  else
    let n := field (lw q l wTiming) 0 10
    if n = 0 then setLf l wTiming 0 10 (loopDiv q l - 1) (setFab { q.fab with due := q.fab.due ++ [l] } q)
    else setLf l wTiming 0 10 (n - 1) q

theorem divCut_eq (held : List Nat) (p : Plane) : divCut held p
    = forEach ((loopRecs p).map fun r => r.loop) (divTurn held)
      (setFab { p.fab with due := [], cutOpen := true, deadlineDone := false } p) := rfl

/-- What the divisor rule reads and changes of loop l: its divisor, its count, and whether the sample executes it. -/
def divView (l : Nat) (q : Plane) : Word × Word × Bool := (lw q l wCtrl, lw q l wTiming, q.fab.due.contains l)

theorem divView_divTurn_ne (held : List Nat) {k l : Nat} (h : k ≠ l) (q : Plane) :
    divView l (divTurn held k q) = divView l q := by
  have hc : 64 * k + wTiming ≠ 64 * l + wCtrl := by simp only [wTiming, wCtrl]; omega
  have ht : 64 * k + wTiming ≠ 64 * l + wTiming := by omega
  simp only [divTurn]
  split
  · rfl
  · split
    · simp only [divView, setLf, lw_setLw_ne _ _ hc, lw_setLw_ne _ _ ht]
      simp [setLw, setFab, lw, h.symm]
    · simp only [divView, setLf, lw_setLw_ne _ _ hc, lw_setLw_ne _ _ ht]
      rfl

/-- The loop's own turn with its count at 0: this sample is an execution sample, and the count starts again. -/
theorem divTurn_of_zero {held : List Nat} {l : Nat} {q : Plane} (hh : held.contains l = false)
    (hn : field (lw q l wTiming) 0 10 = 0) :
    (divTurn held l q).fab.due.contains l = true
      ∧ field (lw (divTurn held l q) l wTiming) 0 10 = (loopDiv q l - 1) % 1024 := by
  simp only [divTurn, hh, hn, Bool.false_eq_true, if_false, if_true]
  exact ⟨by simp [setFab], field_lw_setLf _ _ _ _ (by decide)⟩

/-- The loop's own turn with another count: it counts down by one, and the sample is none of its own. -/
theorem divTurn_of_ne_zero {held : List Nat} {l : Nat} {q : Plane} (hh : held.contains l = false)
    (hn : field (lw q l wTiming) 0 10 ≠ 0) :
    (divTurn held l q).fab.due = q.fab.due
      ∧ field (lw (divTurn held l q) l wTiming) 0 10 = field (lw q l wTiming) 0 10 - 1 := by
  have hlt : field (lw q l wTiming) 0 10 - 1 < 2 ^ 10 := (Nat.sub_le _ _).trans_lt (field_lt ..)
  simp only [divTurn, hh, hn, Bool.false_eq_true, if_false]
  exact ⟨rfl, (field_lw_setLf _ _ _ _ (by decide)).trans (Nat.mod_eq_of_lt hlt)⟩

theorem count_loopRecs (p : Plane) (l : Nat) :
    ((loopRecs p).map fun r => r.loop).count l = ((loopRecs p).filter fun r => r.loop == l).length := by
  rw [List.count, List.countP_map, List.countP_eq_length_filter]
  rfl

/-- Settles O60: the turns of the other loops leave what the rule speaks of, so the loop's own turn decides. -/
theorem divisorsCountTicks : Obligations.DivisorsCountTicks := by
  intro p held l hh hone n q
  obtain ⟨u, hu, hq⟩ := forEach_of_count_eq_one (divView l) (divTurn held) ((count_loopRecs p l).trans hone)
    (fun k hk => divView_divTurn_ne held hk) (setFab { p.fab with due := [], cutOpen := true, deadlineDone := false } p)
  rw [← divCut_eq] at hq
  change divView l q = _ at hq
  simp only [divView, Prod.mk.injEq] at hu hq
  obtain ⟨hctrl, htim, hdue⟩ := hu
  obtain ⟨-, hqtim, hqdue⟩ := hq
  have hn : field (lw u l wTiming) 0 10 = n := congrArg (fun w => field w 0 10) htim
  have hd : loopDiv u l = loopDiv p l := congrArg (fun w => divisor (field w 12 4)) hctrl
  rw [hqtim, hqdue, ← hd]
  refine ⟨fun h0 => divTurn_of_zero hh (hn.trans h0), fun h0 => ?_⟩
  obtain ⟨hsame, hcount⟩ := divTurn_of_ne_zero hh (hn.trans_ne h0)
  exact ⟨by rw [hsame, hdue]; rfl, by rw [hcount, hn]⟩

end Sys2Proof.Machine
end

/-! Booths, models, tests and captures (O5). -/
section
namespace Sys2Proof.Machine

section
variable {c : Sub} {t : State}

theorem opBoothStatus_of_named (h : planeNamed (par c 0) t = true) :
    opBoothStatus c t = okRes (boothStatusWord (planeOf t (namedPlane (par c 0) t)) c.target) t := by
  rw [opBoothStatus, withPlane_of_named _ h]

/-- MODEL_LOAD with its words in range, on a loop that is neither in TUNE nor in COAST (04 R152). -/
theorem opModelLoad_permitted (hz : field (par c 0) 9 3 = 0) (hk : field (par c 0) 29 2 ≠ 3) (hd : field (par c 0) 0 9 ≤ 256)
    (ho : field (par c 5) 0 16 ≤ field (par c 5) 16 16) (hc : bit (par c 0) 31 = true → field (par c 5) 16 16 ≠ 0)
    (h5 : loopMode (actPlane t) c.target ≠ 5) (h7 : loopMode (actPlane t) c.target ≠ 7) : opModelLoad c t
    = okSn (onExec (fun p =>
        let e := entryOf p c.target
        forEach (upTo 6) (fun i q => setLw c.target (wMcfg + i) (par c i) q)
          (setEntry c.target (entryBits (due e 0) (due e 1) (due e 2) true (due e 4) (bit (par c 6) 0)) p)) t) := by
  have hr : ¬ (field (par c 0) 9 3 ≠ 0 ∨ field (par c 0) 29 2 = 3 ∨ 256 < field (par c 0) 0 9
      ∨ field (par c 5) 16 16 < field (par c 5) 0 16 ∨ (bit (par c 0) 31 = true ∧ field (par c 5) 16 16 = 0)) := by
    rintro (h | h | h | h | ⟨hb, h⟩)
    · exact h hz
    · exact hk h
    · exact Nat.not_lt.2 hd h
    · exact Nat.not_lt.2 ho h
    · exact hc hb h
  simp only [opModelLoad, if_neg hr, h5, h7, or_self, if_false]

theorem opModelReinit_permitted (h5 : loopMode (actPlane t) c.target ≠ 5) (h7 : loopMode (actPlane t) c.target ≠ 7) :
    opModelReinit c t = okSn (onExec (fun p =>
        let e := entryOf p c.target
        setEntry c.target (entryBits (due e 0) (due e 1) (due e 2) true (due e 4) (due e 5)) p) t) := by
  simp only [opModelReinit, h5, h7, or_self, if_false]

theorem opTestStart_permitted (hr : testRangesOk c = true) (hd : t.dev = .run)
    (hc : testConditions (testFrom c) c.target (actPlane t) = true) : opTestStart c t
    = okSn (onExec (fun p =>
        let f := loopMode p c.target
        setTest c.target (testFrom c) (setEntry c.target (entryAfter (entryOf p c.target) f 5)
          (setLf c.target wCtrl 28 4 f (setLf c.target wCtrl 0 4 5 p)))) t) := by
  simp only [opTestStart, hr, hd, hc, Bool.not_true, Bool.false_eq_true, ne_eq, not_true_eq_false, or_self, if_false]

theorem opTestStop_inTune (h : loopMode (actPlane t) c.target = 5) : opTestStop c t
    = okSn (onExec (fun p => setTest c.target { testOf p c.target with stopReq := true } p) t) := by
  rw [opTestStop, if_neg (not_not.2 h)]

theorem opTestStatus_of_named (h : planeNamed (par c 0) t = true) :
    let x := testOf (planeOf t (namedPlane (par c 0) t)) c.target
    opTestStatus c t = okRes (dw (x.status + x.cause * 2 ^ 8 + x.fencedSeen.toNat * 2 ^ 16 + x.records * 2 ^ 32)) t := by
  simp only [opTestStatus, withPlane_of_named _ h]

/-- CAPT_READ of slots that the booth has, into a window, of a plane whose booth group is powered (04 R157). -/
theorem opCaptRead_permitted (hf : (par c 1).toNat ≤ 32767) (hn : 1 ≤ (par c 2).toNat)
    (hl : (par c 1).toNat + (par c 2).toNat ≤ 32768) (hw : inWindow t true (addrAt c 3) (8 * (par c 2).toNat) = true)
    (hp : planeNamed (par c 0) t = true) (hg : (group (planeOf t (namedPlane (par c 0) t)) (c.target / 4)).powered = true) :
    opCaptRead c t = .write (addrAt c 3)
      (captBytes (planeOf t (namedPlane (par c 0) t)) c.target (par c 1).toNat (par c 2).toNat) (dw (8 * (par c 2).toNat)) t := by
  have hr : ¬ (32767 < (par c 1).toNat ∨ (par c 2).toNat = 0 ∨ 32768 < (par c 1).toNat + (par c 2).toNat) := by omega
  simp only [opCaptRead, if_neg hr, hw, withPlane_of_named _ hp, hg, Bool.not_true, Bool.false_eq_true, if_false]

end

/-- Settles O5, command by command. -/
theorem boothModelAndTestCommandsComplete : Obligations.BoothModelAndTestCommandsComplete := by
  refine ⟨?_, ?_, ?_, ?_, ?_, ?_, ?_, ?_⟩
  · exact completes_of_core (fun _ _ => rfl) fun c t h => opBoothStatus_of_named h
  · exact completes_of_core (core := opBoothKeepAwake) (fun _ _ => rfl) fun _ _ _ => rfl
  · exact completes_of_core (fun _ _ => rfl) fun c t ⟨hz, hk, hd, ho, hc, h5, h7⟩ => opModelLoad_permitted hz hk hd ho hc h5 h7
  · exact completes_of_core (fun _ _ => rfl) fun c t ⟨h5, h7⟩ => opModelReinit_permitted h5 h7
  · exact completes_of_core (fun _ _ => rfl) fun c t ⟨hr, hd, hc⟩ => opTestStart_permitted hr hd hc
  · exact completes_of_core (fun _ _ => rfl) fun c t h => opTestStop_inTune h
  · exact completes_of_core (fun _ _ => rfl) fun c t h => opTestStatus_of_named h
  · exact completes_of_core (fun _ _ => rfl) fun c t ⟨hf, hn, hl, hw, hp, hg⟩ => opCaptRead_permitted hf hn hl hw hp hg

end Sys2Proof.Machine
end

/-! Tokens, tasks and executions, and the sample deadline (O21). -/
section
namespace Sys2Proof.Machine

/-- The parity covers the token, not itself. -/
theorem tokenPar_withPar (t : Token) (x : BitVec 8) : tokenPar { t with par := x } = tokenPar t := rfl

theorem tokenSound_mkToken (kind port loop : Nat) (v : Word) (q : Bool) (sn : BitVec 16) :
    tokenSound (mkToken kind port loop v q sn) = true := by
  rw [tokenSound, mkToken, tokenPar_withPar]
  exact beq_self_eq_true _

theorem tokenSound_hurtToken {t : Token} (h : tokenSound t = true) : tokenSound (hurtToken t) = false := by
  have hp : t.par = tokenPar t := eq_of_beq h
  have hn : ~~~ t.par ≠ t.par := fun e => by simpa using congrArg (fun w => w.getLsbD 0) e
  rw [tokenSound, hurtToken, tokenPar_withPar, ← hp]
  exact beq_eq_false_iff_ne.2 hn

@[simp] theorem setPlane_planeOf (k : Nat) (s : State) : setPlane k (planeOf s k) s = s := by
  unfold setPlane planeOf
  split <;> rfl

/-- Of a token whose parity holds, a plane takes its copy under f, or under g and with a report where its copy is hurt. -/
theorem eachCopy_of_sound {t : Token} (ht : tokenSound t = true) (bad : Nat) (f g : Token → Plane → Plane) (s : State) :
    eachCopy t bad f g s = forEach [1, 2] (fun k u =>
      if !computes (pstat u k) then u
      else if bad / k % 2 = 1 then reportParity k (setPlane k (g (hurtToken t) (planeOf u k)) u)
      else setPlane k (f t (planeOf u k)) u) s := by
  refine congrArg (fun F => forEach [1, 2] F s) (funext fun k => funext fun u => ?_)
  by_cases hb : bad / k % 2 = 1
  · simp only [hb, if_true, tokenSound_hurtToken ht, Bool.false_eq_true, if_false]
  · simp only [hb, if_false, ht, if_true]

theorem whenRuns_of_running {s : State} (h : halted s = false) (t : State) : whenRuns s t = t := by
  rw [whenRuns, h]
  rfl

section
variable {s : State} {loop port slot src : Nat} (hl : loop < 1024) (hp : port < 4) (hk : slot < 100) (hs : src < 13)
  (hr : halted s = false)
include hl hp hk hs hr

theorem execTokenDelivery_of_inRange (v : Word) (q : Bool) (sn : BitVec 16) (bad : Nat) :
    execTokenDelivery loop port v q sn slot src bad s
    = .next (if src < 10 then broadcast (mkToken (srcKind src) port loop v q sn) slot src bad s
        else eachCopy (mkToken (srcKind src) port loop v q sn) bad (fun _ p => p) dropCopy s) := by
  have hg : ¬ (1023 < loop ∨ 3 < port ∨ 99 < slot ∨ 12 < src) := by omega
  simp only [execTokenDelivery, if_neg hg, whenRuns_of_running hr]

/-- A token that the broadcaster finds hurt reaches neither plane (13 R406). -/
theorem execTokenDelivery_hurtShared (h10 : src < 10) {bad : Nat} (hb : bad / 4 % 2 = 1) (v : Word) (q : Bool)
    (sn : BitVec 16) : execTokenDelivery loop port v q sn slot src bad s = .next (sharedParity (1 + loop * 2 ^ 16) s) := by
  rw [execTokenDelivery_of_inRange hl hp hk hs hr, if_pos h10, broadcast, if_pos hb]
  rfl

/-- A token that leaves the broadcaster sound (05 R160, R165). -/
theorem execTokenDelivery_taken (h10 : src < 10) {bad : Nat} (hb : bad / 4 % 2 = 0) (v : Word) (q : Bool)
    (sn : BitVec 16) : execTokenDelivery loop port v q sn slot src bad s
    = .next (forEach [1, 2] (fun k t =>
        if !computes (pstat t k) then t
        else if bad / k % 2 = 1 then reportParity k t
        else setPlane k (takeToken (mkToken 0 port loop v q sn) slot src (planeOf t k)) t) s) := by
  have hb' : ¬ bad / 4 % 2 = 1 := by omega
  have hsrc : srcKind src = 0 := by rw [srcKind, if_neg (by omega), if_neg (by omega)]
  rw [execTokenDelivery_of_inRange hl hp hk hs hr, if_pos h10, broadcast, if_neg hb', hsrc,
    eachCopy_of_sound (tokenSound_mkToken ..)]
  simp only [setPlane_planeOf]

/-- A token that the planes already hold: a plane gives up the copy that it finds hurt. -/
theorem execTokenDelivery_dropped (h10 : 10 ≤ src) (v : Word) (q : Bool) (sn : BitVec 16) (bad : Nat) :
    execTokenDelivery loop port v q sn slot src bad s
    = .next (forEach [1, 2] (fun k t =>
        if computes (pstat t k) && bad / k % 2 == 1 then
          reportParity k (setPlane k (dropCopy (hurtToken (mkToken (srcKind src) port loop v q sn)) (planeOf t k)) t)
        else t) s) := by
  rw [execTokenDelivery_of_inRange hl hp hk hs hr, if_neg (Nat.not_lt.2 h10), eachCopy_of_sound (tokenSound_mkToken ..)]
  refine congrArg (fun F => Host.Outcome.next (forEach [1, 2] F s)) (funext fun k => funext fun u => ?_)
  cases computes (pstat u k) <;> simp

end

section
variable {s : State} (hr : halted s = false)
include hr

theorem runLoop_of_running (loop : Nat) :
    runLoop loop s = onPlanes (fun p => completeTask (portFree s) loop (settleCut p)) s := whenRuns_of_running hr _

theorem execTaskFire_of_running {booth : Nat} (hb : booth < 16) :
    execTaskFire booth s = .next (onPlanes (fun p => issueNext booth (settleCut p)) s) := by
  rw [execTaskFire, if_neg (by omega), whenRuns_of_running hr]

theorem execBoothPowerDown_of_quiet {g : Nat} (hg : g < 4) (hc : 100 ≤ (group (actPlane s) g).quiet)
    (hq : groupQuiet (actPlane s) g = true) : execBoothPowerDown g s = .next (groupsDown g s) := by
  rw [execBoothPowerDown, if_neg (by omega), whenRuns_of_running hr, if_pos ⟨hc, hq⟩]

theorem execBoothWakeDone_of_running {g : Nat} (hg : g < 4) : execBoothWakeDone g s = .next (wakeGroup 4 g s) := by
  rw [execBoothWakeDone, if_neg (by omega), whenRuns_of_running hr]

/-- The deadline of a sample that is still to come, outside a check roll (01 R34). -/
theorem sampleDeadline_of_open (hd : s.ump.relDone = false) (hp : s.boot.preTick = false) (ho : s.ump.roll = none) :
    let a := onPlanes (shadowRead s) (scanStart s)
    let b := onPlanes (fun p => flowRelease (portFree a) (deadlineFire p)) a
    let c := onPlanes (masksEval b) b
    let d := onPlanes (sessionsEval c) c
    let e := onPlanes (trigsEval d) d
    sampleDeadline s = orderCut (canSendAll (setUmp { e.ump with relDone := true } e)) := by
  have hroll : rollDeadline s = s := by rw [rollDeadline, ho]
  simp only [sampleDeadline, hd, hroll, hr, hp, Bool.or_self, Bool.false_eq_true, if_false]

end

/-- A loop's execution; the rows of a coast or stale limit are that execution, where it reaches the limit (03 R96, R120, 04
R139; that they run it is log entry 8). -/
theorem loopExecution_rows {s : State} (hr : halted s = false) {loop : Nat} (hl : loop < 1024) :
    let t := onPlanes (fun p => completeTask (portFree s) loop (settleCut p)) s
    exec (.loopExecution loop) s = .next t
    ∧ (loopMode (actPlane s) loop = 7 → loopMode (actPlane t) loop = 6 → exec (.coastLimitReached loop) s = .next t)
    ∧ (3 ≤ loopMode (actPlane s) loop → loopMode (actPlane s) loop ≤ 5 →
      (loopMode (actPlane t) loop = 6 ∨ loopMode (actPlane t) loop = 7) →
      field (lw (actPlane t) loop wStale) 0 16 ≠ 0 →
      field (lw (actPlane t) loop wStale) 0 16 ≤ field (lw (actPlane t) loop wStale) 16 16 →
      exec (.staleLimitReached loop) s = .next t) := by
  intro t
  have ht : runLoop loop s = t := runLoop_of_running hr loop
  have hg : ¬ 1023 < loop := by omega
  refine ⟨?_, fun h7 h6 => ?_, fun h3 h5 hm hz hst => ?_⟩
  · rw [exec_loopExecution, execLoopExecution, if_neg hg, ht]
  · rw [exec_coastLimitReached]
    simp only [execCoastLimitReached, ht, if_neg hg, if_pos (And.intro h7 h6)]
  · have hm0 : loopMode (actPlane s) loop = 3 ∨ loopMode (actPlane s) loop = 4 ∨ loopMode (actPlane s) loop = 5 := by omega
    rw [exec_staleLimitReached]
    simp only [execStaleLimitReached, ht, if_neg hg, if_pos (And.intro hm0 (And.intro hm (And.intro hz hst)))]

theorem guarded_of_true {b : Bool} (h : b = true) (s : State) : guarded b s = .next s := if_pos h

/-- Settles O21: each row past its guards (COAST_LIMIT_REACHED and STALE_LIMIT_REACHED run the execution: log entry 8). -/
theorem dispatchRowsTakeEffect : Obligations.DispatchRowsTakeEffect := by
  refine ⟨fun s hr => ⟨?_, fun booth hb => execTaskFire_of_running hr hb, fun loop hl => loopExecution_rows hr hl,
    fun n hn => ?_, fun e he => ⟨?_, ?_⟩, fun g hg => ⟨fun hc hq => execBoothPowerDown_of_quiet hr hg hc hq,
      execBoothWakeDone_of_running hr hg⟩⟩, fun s hr hd hp ho => congrArg _ (sampleDeadline_of_open hr hd hp ho)⟩
  · intro loop port v q sn slot src bad hl hp hk
    exact ⟨fun h10 hb => execTokenDelivery_taken hl hp hk (by omega) hr h10 hb v q sn,
      fun h10 hb => execTokenDelivery_hurtShared hl hp hk (by omega) hr h10 hb v q sn,
      fun h10 h13 => execTokenDelivery_dropped hl hp hk h13 hr h10 v q sn bad⟩
  · rw [exec_stepDurationDue, execStepDurationDue, guarded_of_true (decide_eq_true hn), whenRuns_of_running hr]
  · rw [exec_triggerArmed, execTriggerArmed, guarded_of_true (decide_eq_true he), whenRuns_of_running hr]
  · rw [exec_triggerWindowComplete, execTriggerWindowComplete, guarded_of_true (decide_eq_true he), whenRuns_of_running hr]

end Sys2Proof.Machine
end

/-! The commands of the dispatcher (O6). -/
section
namespace Sys2Proof.Machine

section
variable {c : Sub} {t : State}

/-- DISP_LOAD in READY of an image that a read window holds and that passes every check of Table 5-7 (05 R183, R185). -/
theorem opDispLoad_accepted (ha : addrAt c 0 % 8 = 0) (hw : inWindow t false (addrAt c 0) (par c 2).toNat = true)
    (hd : t.dev = .ready) (hf : fabCheck t (c.image.take ((par c 2).toNat / 4)) (par c 2).toNat = none) :
    let f := parseFab (c.image.take ((par c 2).toNat / 4))
    opDispLoad c t = okSn (forEach (upTo 8) gridOrigin (onExecSl (fun sl p => loadFab sl f (loopsOff sl p))
      { t with boot := { t.boot with restoreLoops := [] } })) := by
  simp only [opDispLoad, ha, hw, hd, hf, Bool.not_true, Bool.false_eq_true, ne_eq, not_true_eq_false, if_false]

/-- DISP_SET_PRIO of a loop of the configuration in force, where no sample's load becomes too large (05 R186). -/
theorem opDispSetPrio_permitted {f : FabCfg} (hc : (actPlane t).fab.cfg = some f) (hr : (recOf f c.target).isSome = true)
    (hl : loadBad (withPrio (livePrio (actPlane t) f) c.target (field (par c 0) 0 3)) = none) : opDispSetPrio c t
    = okSn (onExec (fun p =>
        setLf c.target wCtrl 21 3 (field (par c 0) 0 3)
          (setFab { p.fab with cfg := p.fab.cfg.map fun g => withPrio g c.target (field (par c 0) 0 3) } p)) t) := by
  have hn : ¬ (recOf f c.target).isNone = true := by simpa [Option.isSome_iff_ne_none] using hr
  simp only [opDispSetPrio, hc, if_neg hn, hl]

theorem opDispStatus_of_named (hi : (par c 1).toNat ≤ 7) (hp : planeNamed (par c 0) t = true) : opDispStatus c t
    = okRes (dw (tget 0 (planeOf t (namedPlane (par c 0) t)).fab.counters (par c 1).toNat)) t := by
  rw [opDispStatus, if_neg (Nat.not_lt.2 hi), withPlane_of_named _ hp]

/-- DISP_FLOW_STATUS of a flow of the active plane's configuration, in a readable plane (05 R188). -/
theorem opDispFlowStatus_of_named (hf : (flowRec (actPlane t) c.target).isSome = true)
    (hp : planeNamed (par c 0) t = true) :
    let p := planeOf t (namedPlane (par c 0) t)
    let x := flowStatOf p c.target
    opDispFlowStatus c t
      = okRes (dw (flowCount p c.target + x.peak * 2 ^ 16 + x.bpTicks * 2 ^ 32 + x.drops * 2 ^ 48)) t := by
  have hn : ¬ (flowRec (actPlane t) c.target).isNone = true := by simpa [Option.isSome_iff_ne_none] using hf
  simp only [opDispFlowStatus, if_neg hn, withPlane_of_named _ hp]

end

/-- Settles O6, command by command. -/
theorem dispatchCommandsComplete : Obligations.DispatchCommandsComplete := by
  refine ⟨?_, fun f => ?_, ?_, ?_⟩
  · exact completes_of_core (fun _ _ => rfl) fun c t ⟨ha, hw, hd, hf⟩ => opDispLoad_accepted ha hw hd hf
  · exact completes_of_core (fun _ _ => rfl) fun c t ⟨hc, hr, hl⟩ => opDispSetPrio_permitted hc hr hl
  · exact completes_of_core (fun _ _ => rfl) fun c t ⟨hi, hp⟩ => opDispStatus_of_named hi hp
  · exact completes_of_core (fun _ _ => rfl) fun c t ⟨hf, hp⟩ => opDispFlowStatus_of_named hf hp

end Sys2Proof.Machine
end

/-! The rows of the scan engine's instructions and cycles (O27 to O30). -/
section
namespace Sys2Proof.Machine

section
variable {i : Instr} {w : DWord} {f : Plane → Plane}

theorem scanRow_of_takeInstr (h : ∀ s, exec i s = .next (takeInstr w f s)) : ScanRow i w f := h

/-- A row with operands takes its word once they are in range. -/
theorem scanRow_of_guarded {b : Bool} (hb : b = true) (h : ∀ s, exec i s = guarded b (takeInstr w f s)) : ScanRow i w f :=
  fun s => (h s).trans (guarded_of_true hb _)

/-- A row of one operand (07 Table 7-3, formats B and X). -/
theorem scanRow_of_instrX {op lim x n : Nat} {g : Nat → Plane → Plane} (hx : x < n) (hn : n ≤ lim)
    (h : ∀ s, exec i s = instrX op lim x g s) : ScanRow i (wordX op x) (g x) :=
  scanRow_of_guarded (decide_eq_true (Nat.lt_of_lt_of_le hx hn)) h

/-- A row of two word addresses (07 Table 7-3, format W2). -/
theorem scanRow_of_instrW2 {op a b : Nat} {g : Nat → Nat → Plane → Plane} (ha : a < 65536) (hb : b < 65536)
    (h : ∀ s, exec i s = instrW2 op a b g s) : ScanRow i (wordW2 op a b) (g a b) :=
  scanRow_of_guarded (decide_eq_true ⟨ha, hb⟩) h

end

/-- Settles O27, row by row: the word of Table 7-3 and the effect of Table 7-4 (log entry 13 for every other plane). -/
theorem bitInstructionsTakeEffect : Obligations.BitInstructionsTakeEffect := by
  refine ⟨?_, fun n hn => ?_, fun a ha => ?_, fun a ha => ?_, fun a ha => ?_, fun a ha => ?_, ?_, ?_, ?_, ?_,
    fun a ha => ?_, fun a ha => ?_, fun a ha => ?_, fun x hx => ?_, fun x hx => ?_⟩
  · exact scanRow_of_takeInstr (f := iNop) fun _ => rfl
  · exact scanRow_of_instrX (g := iRung) hn le_rfl fun _ => rfl
  · exact scanRow_of_instrX (g := iAnd) ha le_rfl fun _ => rfl
  · exact scanRow_of_instrX (g := iAndn) ha le_rfl fun _ => rfl
  · exact scanRow_of_instrX (g := iOr) ha le_rfl fun _ => rfl
  · exact scanRow_of_instrX (g := iOrn) ha le_rfl fun _ => rfl
  · exact scanRow_of_takeInstr (f := iPush) fun _ => rfl
  · exact scanRow_of_takeInstr (f := iPopand) fun _ => rfl
  · exact scanRow_of_takeInstr (f := iPopor) fun _ => rfl
  · exact scanRow_of_takeInstr (f := iNot) fun _ => rfl
  · exact scanRow_of_instrX (g := iOut) ha le_rfl fun _ => rfl
  · exact scanRow_of_instrX (g := iSet) ha le_rfl fun _ => rfl
  · exact scanRow_of_instrX (g := iRst) ha le_rfl fun _ => rfl
  · exact scanRow_of_instrX (g := iREdge) hx le_rfl fun _ => rfl
  · exact scanRow_of_instrX (g := iFEdge) hx le_rfl fun _ => rfl

section
variable {x : Nat} (hx : x < 1024)
include hx

theorem scanRow_ton : ScanRow (.ton x) (wordX 0x10 x) (iTon x) :=
  scanRow_of_instrX (g := iTon) hx (by decide) fun _ => rfl

theorem scanRow_tof : ScanRow (.tof x) (wordX 0x11 x) (iTof x) :=
  scanRow_of_instrX (g := iTof) hx (by decide) fun _ => rfl

theorem scanRow_tp : ScanRow (.tp x) (wordX 0x12 x) (iTp x) :=
  scanRow_of_instrX (g := iTp) hx (by decide) fun _ => rfl

theorem scanRow_ctu : ScanRow (.ctu x) (wordX 0x14 x) (iCtu x) :=
  scanRow_of_instrX (g := iCtu) hx (by decide) fun _ => rfl

theorem scanRow_ctd : ScanRow (.ctd x) (wordX 0x15 x) (iCtd x) :=
  scanRow_of_instrX (g := iCtd) hx (by decide) fun _ => rfl

end

/-- Settles O28, row by row (a row acts only as the next instruction of a cycle: log entry 13). -/
theorem timerAndCounterInstructionsTakeEffect : Obligations.TimerAndCounterInstructionsTakeEffect := by
  refine ⟨fun x hx => scanRow_ton hx, fun x hx => scanRow_tof hx, fun x hx => scanRow_tp hx, fun x hx => ?_,
    fun x hx => scanRow_ctu hx, fun x hx => scanRow_ctd hx, fun x hx => ?_⟩
  · exact scanRow_of_instrX (g := iTres) hx (by decide) fun _ => rfl
  · exact scanRow_of_instrX (g := iCres) hx (by decide) fun _ => rfl

/-- Settles O29, row by row (a row acts only as the next instruction of a cycle: log entry 13). -/
theorem wordInstructionsTakeEffect : Obligations.WordInstructionsTakeEffect := by
  refine ⟨fun a b ha hb => ?_, fun a b ha hb => ?_, fun a b ha hb => ?_, fun a b ha hb => ?_, fun a b ha hb => ?_,
    fun a b ha hb => ?_, fun lo x hi hlo hx hhi => ?_, fun a b ha hb => ?_, fun x hx => ?_, fun x hx => ?_, fun x hx => ?_,
    fun a v ha => ?_, fun e code he hc => ?_, ?_⟩
  · exact scanRow_of_instrW2 (g := iCgt) ha hb fun _ => rfl
  · exact scanRow_of_instrW2 (g := iCge) ha hb fun _ => rfl
  · exact scanRow_of_instrW2 (g := iClt) ha hb fun _ => rfl
  · exact scanRow_of_instrW2 (g := iCle) ha hb fun _ => rfl
  · exact scanRow_of_instrW2 (g := iCeq) ha hb fun _ => rfl
  · exact scanRow_of_instrW2 (g := iCne) ha hb fun _ => rfl
  · exact scanRow_of_guarded (f := iLim lo x hi) (decide_eq_true ⟨hlo, hx, hhi⟩) fun _ => rfl
  · exact scanRow_of_instrW2 (g := iMov) ha hb fun _ => rfl
  · exact scanRow_of_instrX (g := iHolds) hx (by decide) fun _ => rfl
  · exact scanRow_of_instrX (g := iPark) hx (by decide) fun _ => rfl
  · exact scanRow_of_instrX (g := iForce) hx (by decide) fun _ => rfl
  · exact scanRow_of_guarded (f := iMovi a v) (decide_eq_true ha) fun _ => rfl
  · exact scanRow_of_guarded (f := iEvt e code) (decide_eq_true ⟨he, hc⟩) fun _ => rfl
  · exact scanRow_of_takeInstr (f := iEnd) fun _ => rfl

/-- In RUN, at a grid start cut at which no cycle is under way, the waiting writes go first (07 R222, R228, R242). -/
theorem scanStart_of_gridStart {s : State} (ho : scanOn s = true) (hm : (actPlane s).scan.mode = 1)
    (hg : (actPlane s).scan.gridStart = true) (hb : scanBusy (actPlane s) = false) : scanStart s
    = onPlanes (startCycle (commitWrites writeStarting s)) (commitWrites writeStarting s) := by
  simp only [scanStart, ho, hm, hg, hb, beq_self_eq_true, Bool.not_false, Bool.and_self, if_true]

/-- Settles O30: the start past its conditions; the shadow read and the deadline are rows of their own. -/
theorem scanCycleRowsTakeEffect : Obligations.ScanCycleRowsTakeEffect :=
  fun _ => ⟨fun ho hm hg hb => congrArg Host.Outcome.next (scanStart_of_gridStart ho hm hg hb), rfl, rfl⟩

end Sys2Proof.Machine
end

/-! The commands of the scan engine (O8). -/
section
namespace Sys2Proof.Machine

section
variable {c : Sub} {t : State}

/-- SCAN_LOAD in STOP of an image that a read window holds and that passes every check of Table 7-8 (07 R249). -/
theorem opScanLoad_accepted (ha : addrAt c 0 % 8 = 0) (hw : inWindow t false (addrAt c 0) (par c 2).toNat = true)
    (hm : (actPlane t).scan.mode = 0)
    (hp : progCheck t (actPlane t) (c.image.take ((par c 2).toNat / 4)) (par c 2).toNat (bit (par c 3) 0) = none) :
    let img := c.image.take ((par c 2).toNat / 4)
    let w := progTimes (progInstrs img)
    opScanLoad c t = .done stOk (dw (t.sn.toNat + tens w.2 % 65536 * 2 ^ 32 + tens w.1 % 65536 * 2 ^ 48))
      (onExec (loadProg img (bit (par c 3) 0)) t) := by
  simp only [opScanLoad, ha, hw, hm, hp, Bool.not_true, Bool.false_eq_true, ne_eq, not_true_eq_false, if_false]

theorem opScanMode_inForce (h3 : (par c 0).toNat ≠ 3) (hm : (actPlane t).scan.mode = (par c 0).toNat) :
    opScanMode c t = okSn t := by
  rw [opScanMode, if_neg h3, if_pos hm]

/-- SCAN_MODE to another mode, where no condition of 07 R250 refuses it. -/
theorem opScanMode_permitted (hm : (actPlane t).scan.mode ≠ (par c 0).toNat)
    (ht : par c 0 = 0 ∨ (par c 0 = 1 ∧ (actPlane t).scan.prog.isSome = true)
      ∨ (par c 0 = 2 ∧ (actPlane t).scan.mode ≠ 0 ∧ lockOpen t = true)) :
    opScanMode c t = if modeNow (actPlane t) (par c 0).toNat then okSn (onExec (enterMode (par c 0).toNat) t)
      else .wait .device [word (par c 0).toNat] t := by
  obtain h0 | ⟨h1, hp⟩ | ⟨h2, hn, hl⟩ := ht
  · simp [opScanMode, h0, show (actPlane t).scan.mode ≠ 0 by simpa [h0] using hm]
  · simp [opScanMode, h1, show (actPlane t).scan.mode ≠ 1 by simpa [h1] using hm, Option.isSome_iff_ne_none.1 hp]
  · simp [opScanMode, h2, show (actPlane t).scan.mode ≠ 2 by simpa [h2] using hm, hn, hl]

theorem opScanWrite_standing (ha : onlineWord (par c 0).toNat = true) (hp : (actPlane t).scan.prog.isSome = true)
    (hm : (actPlane t).scan.mode ≠ 1) : opScanWrite c t = okSn (onExec (writeStanding (par c 0).toNat (par c 1)) t) := by
  have hn : ¬ (actPlane t).scan.prog.isNone = true := by simpa [Option.isSome_iff_ne_none] using hp
  simp only [opScanWrite, ha, if_neg hn, if_neg hm, Bool.not_true, Bool.false_eq_true, if_false]

/-- In RUN a write waits for the cycle that takes it (07 R242). -/
theorem opScanWrite_running (ha : onlineWord (par c 0).toNat = true) (hp : (actPlane t).scan.prog.isSome = true)
    (hm : (actPlane t).scan.mode = 1) : opScanWrite c t = .wait .device [par c 0, par c 1] t := by
  have hn : ¬ (actPlane t).scan.prog.isNone = true := by simpa [Option.isSome_iff_ne_none] using hp
  simp only [opScanWrite, ha, if_neg hn, if_pos hm, Bool.not_true, Bool.false_eq_true, if_false]

theorem opScanStatus_of_named (h : planeNamed (par c 0) t = true) : opScanStatus c t =
    let x := (planeOf t (namedPlane (par c 0) t)).scan
    okRes (dw (x.mode + x.fault.toNat * 4 + x.prog.isSome.toNat * 8 + min 15 x.ovrCnt * 16 + x.ovrTotal * 256
      + tens x.lastTime % 65536 * 2 ^ 32 + tens x.maxTime % 65536 * 2 ^ 48)) t := by
  rw [opScanStatus, withPlane_of_named _ h]

/-- SCAN_READ of one or two words of one area from the latest cycle, or of inputs from the shadow, in a readable plane (07
R252). -/
theorem opScanRead_inArea {r : Nat × Nat} {y : Tab Word} (ha : areaOf (par c 0).toNat = some r)
    (h1 : 1 ≤ (par c 1).toNat) (h2 : (par c 1).toNat ≤ 2) (hr : (par c 0).toNat + (par c 1).toNat - 1 ≤ r.2)
    (hi : bit (par c 2) 0 = true → isInput (par c 0).toNat = true) (hp : planeNamed (word (field (par c 2) 1 2)) t = true)
    (hy : let x := (planeOf t (namedPlane (word (field (par c 2) 1 2)) t)).scan
      (if bit (par c 2) 0 then x.shadow else some x.doneData) = some y) : opScanRead c t
    = okRes (dword (tget 0 y (par c 0).toNat) (if par c 1 = 2 then tget 0 y ((par c 0).toNat + 1) else 0)) t := by
  have hg : ¬ ((par c 1).toNat = 0 ∨ 2 < (par c 1).toNat
      ∨ (!decide ((par c 0).toNat + (par c 1).toNat - 1 ≤ r.2)) = true
      ∨ (bit (par c 2) 0 = true ∧ (!isInput (par c 0).toNat) = true)) := by
    rintro (h | h | h | ⟨hb, h⟩)
    · omega
    · omega
    · simp [hr] at h
    · simp [hi hb] at h
  have hn : par c 1 = 2 ↔ (par c 1).toNat = 2 := BitVec.toNat_inj.symm
  simp only [opScanRead, ha, if_neg hg, withPlane_of_named _ hp, hn]
  cases hb : bit (par c 2) 0 <;> simp only [hb, if_true, Bool.false_eq_true, if_false] at hy ⊢
  · rw [Option.some.inj hy]
  · rw [hy]

end

/-- Settles O8, command by command. -/
theorem scanCommandsComplete : Obligations.ScanCommandsComplete := by
  refine ⟨?_, ?_, ?_, ?_, ?_, fun r => ?_, fun r x => ?_, ?_⟩
  · exact completes_of_core (fun _ _ => rfl) fun c t ⟨ha, hw, hm, hp⟩ => opScanLoad_accepted ha hw hm hp
  · exact completes_of_core (fun _ _ => rfl) fun c t ⟨h3, hm⟩ => opScanMode_inForce h3 hm
  · exact completes_of_core (fun _ _ => rfl) fun c t ⟨hm, ht⟩ => opScanMode_permitted hm ht
  · exact completes_of_core (fun _ _ => rfl) fun c t ⟨ha, hp, hm⟩ => opScanWrite_standing ha hp hm
  · exact completes_of_core (fun _ _ => rfl) fun c t ⟨ha, hp, hm⟩ => opScanWrite_running ha hp hm
  · exact completes_of_core (fun _ _ => rfl) fun c t ⟨ha, h1, h2, hr, hb, hp⟩ =>
      opScanRead_inArea ha h1 h2 hr (by simp [hb]) hp (by simp [hb])
  · exact completes_of_core (fun _ _ => rfl) fun c t ⟨ha, h1, h2, hr, hb, hi, hp, hx⟩ =>
      opScanRead_inArea ha h1 h2 hr (fun _ => hi) hp (by simp [hb, hx])
  · exact completes_of_core (fun _ _ => rfl) fun c t h => opScanStatus_of_named h

end Sys2Proof.Machine
end

/-! The steps of timers and counters (O50, O51). -/
section
namespace Sys2Proof.Machine

/-- A computing plane whose next instruction is a row's word makes the row's effect (07 R230). -/
theorem scanRow_planeOf {i : Instr} {w : DWord} {f : Plane → Plane} (hrow : ScanRow i w f) {s : State} {k : Nat}
    (hk : k = 1 ∨ k = 2) (hc : computes (pstat s k) = true) (hs : scanOn s = true)
    (hn : nextInstr (planeOf s k) = some w) :
    ∃ t, exec i s = .next t ∧ planeOf t k = scanAdvance f (planeOf s k) := by
  refine ⟨_, hrow s, ?_⟩
  rw [if_pos hs, ← if_pos (t := scanAdvance f (planeOf s k)) (e := planeOf s k) hn]
  obtain rfl | rfl := hk <;> exact if_pos hc

/-! The data table after an instruction -/

@[simp] theorem sd_addCost (n : Nat) (p : Plane) (a : Nat) : sd (addCost n p) a = sd p a := rfl
@[simp] theorem sd_setRlo (b : Bool) (p : Plane) (a : Nat) : sd (setRlo b p) a = sd p a := rfl
@[simp] theorem timerOf_addCost (n : Nat) (p : Plane) (x : Nat) : timerOf (addCost n p) x = timerOf p x := rfl
@[simp] theorem timerOf_setRlo (b : Bool) (p : Plane) (x : Nat) : timerOf (setRlo b p) x = timerOf p x := rfl

@[simp] theorem sd_setSd (a b : Nat) (v : Word) (p : Plane) : sd (setSd a v p) b = if a = b then v else sd p b :=
  tget_tset 0 p.scan.data a v b

/-! Timers (07 R231) -/

theorem toNat_word_of_lt {n : Nat} (h : n < 2 ^ 32) : (word n).toNat = n := by
  rw [word, BitVec.toNat_ofNat, Nat.mod_eq_of_lt h]

theorem bit_timerStat (a b c : Bool) : let w := word (a.toNat + 2 * b.toNat + 4 * c.toNat)
    bit w 0 = a ∧ bit w 1 = b ∧ bit w 2 = c := by
  revert a b c
  decide

/-- A record is read back as it was written; PRE is not written. -/
theorem timerOf_setTimer {t : Timer} (hact : t.act < 2 ^ 32) (hacc : t.acc < 2 ^ 32) (p : Plane) (x : Nat) :
    timerOf (setTimer x t p) x = { t with pre := (timerOf p x).pre } := by
  obtain ⟨h0, h1, h2⟩ := bit_timerStat t.inp t.tt t.q
  simp [timerOf, setTimer, h0, h1, h2, toNat_word_of_lt hact, toNat_word_of_lt hacc]

/-- What every step of a timer keeps: PRE stays, PRE_ACT stays or takes PRE, and ACC rises at most to PRE_ACT. -/
def Timer.StepsTo (t n : Timer) : Prop := n.pre = t.pre ∧ (n.act = t.act ∨ n.act = t.pre) ∧ n.acc ≤ max t.acc t.act

/-- What a timer instruction leaves: its step of the record, and Q in RLO. -/
theorem iTimer_of_stepsTo {f : Bool → Nat → Timer → Timer} (hf : ∀ r d t, Timer.StepsTo t (f r d t)) (x : Nat) (p : Plane) :
    timerOf (iTimer f x p) x = f (rloOf p) p.scan.delta (timerOf p x)
      ∧ rloOf (iTimer f x p) = (f (rloOf p) p.scan.delta (timerOf p x)).q := by
  obtain ⟨hpre, hact, hacc⟩ := hf (rloOf p) p.scan.delta (timerOf p x)
  have hp : (timerOf p x).pre < 2 ^ 32 := BitVec.isLt _
  have ha : (timerOf p x).act < 2 ^ 32 := BitVec.isLt _
  have hc : (timerOf p x).acc < 2 ^ 32 := BitVec.isLt _
  refine ⟨?_, rfl⟩
  rw [iTimer, timerOf_addCost, timerOf_setRlo, timerOf_setTimer (by omega) (by omega), ← hpre]

/-- A timer row in a computing plane whose next instruction it is. -/
theorem timerRow_steps {i : Instr} {w : DWord} {g : Plane → Plane} {f : Bool → Nat → Timer → Timer} {s : State} {k x : Nat}
    (hrow : ScanRow i w g) (hk : k = 1 ∨ k = 2) (hc : computes (pstat s k) = true) (hs : scanOn s = true)
    (hn : nextInstr (planeOf s k) = some w) (hf : ∀ r d t, Timer.StepsTo t (f r d t))
    (hg : scanAdvance g (planeOf s k) = scanAdvance (iTimer f x) (planeOf s k)) :
    let n := f (rloOf (planeOf s k)) (planeOf s k).scan.delta (timerOf (planeOf s k) x)
    ∃ t, exec i s = .next t ∧ timerOf (planeOf t k) x = n ∧ rloOf (planeOf t k) = n.q := by
  obtain ⟨t, he, hp⟩ := scanRow_planeOf hrow hk hc hs hn
  refine ⟨t, he, ?_⟩
  rw [hp, hg]
  exact iTimer_of_stepsTo hf x _

/-- TP looks at the priming mark, which the step to the next instruction leaves. -/
theorem scanAdvance_iTp (x : Nat) (p : Plane) :
    scanAdvance (iTp x) p = scanAdvance (iTimer (tpStep p.scan.priming) x) p := by
  simp only [scanAdvance, iTp, setScan]

theorem tonStep_stepsTo (r : Bool) (d : Nat) (t : Timer) : t.StepsTo (tonStep r d t) := by
  simp only [tonStep, Timer.StepsTo]
  split_ifs <;> simp

theorem tofStep_stepsTo (r : Bool) (d : Nat) (t : Timer) : t.StepsTo (tofStep r d t) := by
  simp only [tofStep, Timer.StepsTo]
  split_ifs <;> simp

theorem tpStep_stepsTo (prime r : Bool) (d : Nat) (t : Timer) : t.StepsTo (tpStep prime r d t) := by
  simp only [tpStep, Timer.StepsTo]
  split_ifs <;> simp

theorem decide_le_eq_not_lt (a b : Nat) : decide (a ≤ b) = !decide (b < a) := by
  simp only [← decide_not, Nat.not_lt]

section
variable (d : Nat) (t : Timer)

theorem tonStep_off : tonStep false d t = { t with acc := 0, tt := false, q := false, inp := false } := by
  simp [tonStep]

theorem tonStep_start (h : t.inp = false) : tonStep true d t
    = { t with act := t.pre, acc := 0, tt := decide (t.pre ≠ 0), q := decide (t.pre = 0), inp := true } := by
  simp [tonStep, h]

theorem tonStep_timing (h : t.inp = true) (ht : t.tt = true) : let acc := min (t.acc + d) t.act
    tonStep true d t = { t with acc := acc, tt := decide (acc < t.act), q := decide (t.act ≤ acc), inp := true } := by
  simp [tonStep, h, ht, decide_le_eq_not_lt]

theorem tonStep_done (h : t.inp = true) (ht : t.tt = false) :
    tonStep true d t = { t with tt := false, q := decide (t.act ≤ t.acc), inp := true } := by
  simp [tonStep, h, ht]

theorem tofStep_on : tofStep true d t = { t with acc := 0, tt := false, q := true, inp := true } := by
  simp [tofStep]

theorem tofStep_start (h : t.inp = true) : tofStep false d t
    = { t with act := t.pre, acc := 0, tt := decide (t.pre ≠ 0), q := t.q && decide (t.pre ≠ 0), inp := false } := by
  simp [tofStep, h]

theorem tofStep_timing (h : t.inp = false) (ht : t.tt = true) : let acc := min (t.acc + d) t.act
    tofStep false d t
      = { t with acc := acc, tt := decide (acc < t.act), q := t.q && decide (acc < t.act), inp := false } := by
  simp [tofStep, h, ht, decide_le_eq_not_lt]

theorem tofStep_done (h : t.inp = false) (ht : t.tt = false) :
    tofStep false d t = { t with tt := false, inp := false } := by
  simp [tofStep, h, ht]

theorem tpStep_start (h : t.inp = false) (ht : t.tt = false) : tpStep false true d t
    = { t with act := t.pre, acc := 0, tt := decide (t.pre ≠ 0), q := decide (t.pre ≠ 0), inp := true } := by
  simp [tpStep, h, ht]

theorem tpStep_timing (prime r : Bool) (ht : t.tt = true) : let acc := min (t.acc + d) t.act
    tpStep prime r d t
      = { t with acc := acc, tt := decide (acc < t.act), q := t.q && decide (acc < t.act), inp := r } := by
  simp [tpStep, ht, decide_le_eq_not_lt]

theorem tpStep_idle (prime r : Bool) (h : r = false ∨ t.inp = true) (ht : t.tt = false) :
    tpStep prime r d t = { t with tt := false, inp := r } := by
  obtain rfl | hi := h
  · simp [tpStep, ht]
  · simp [tpStep, hi, ht]

end

/-- Settles O50, from the equations of the three steps. -/
theorem timersFollowR231 : Obligations.TimersFollowR231 := by
  intro s k x hk hc hs hx
  refine ⟨fun hn => ?_, fun hn => ?_, fun hn => ?_⟩
  · obtain ⟨t, he, ht, hq⟩ := timerRow_steps (scanRow_ton hx) hk hc hs hn tonStep_stepsTo rfl
    refine ⟨t, he, ?_⟩
    simp only [ht, hq]
    generalize rloOf (planeOf s k) = r, (planeOf s k).scan.delta = d, timerOf (planeOf s k) x = o
    refine ⟨⟨(tonStep_stepsTo r d o).1, rfl⟩, trivial, ?_, ?_, ?_, ?_⟩
    · rintro rfl
      exact tonStep_off d o ▸ ⟨rfl, rfl, rfl, rfl⟩
    · rintro rfl hi
      exact tonStep_start d o hi ▸ ⟨rfl, rfl, rfl, rfl⟩
    · rintro rfl hi htt
      exact tonStep_timing d o hi htt ▸ ⟨rfl, rfl, rfl, rfl⟩
    · rintro rfl hi htt
      exact tonStep_done d o hi htt ▸ ⟨rfl, rfl, rfl, rfl⟩
  · obtain ⟨t, he, ht, hq⟩ := timerRow_steps (scanRow_tof hx) hk hc hs hn tofStep_stepsTo rfl
    refine ⟨t, he, ?_⟩
    simp only [ht, hq]
    generalize rloOf (planeOf s k) = r, (planeOf s k).scan.delta = d, timerOf (planeOf s k) x = o
    refine ⟨⟨(tofStep_stepsTo r d o).1, rfl⟩, trivial, ?_, ?_, ?_, ?_⟩
    · rintro rfl
      exact tofStep_on d o ▸ ⟨rfl, rfl, rfl, rfl⟩
    · rintro rfl hi
      exact tofStep_start d o hi ▸ ⟨rfl, rfl, rfl, rfl⟩
    · rintro rfl hi htt
      exact tofStep_timing d o hi htt ▸ ⟨rfl, rfl, rfl, rfl⟩
    · rintro rfl hi htt
      exact tofStep_done d o hi htt ▸ ⟨rfl, rfl, rfl, rfl⟩
  · obtain ⟨t, he, ht, hq⟩ := timerRow_steps (scanRow_tp hx) hk hc hs hn (tpStep_stepsTo (planeOf s k).scan.priming)
      (scanAdvance_iTp x _)
    refine ⟨t, he, ?_⟩
    simp only [ht, hq]
    generalize rloOf (planeOf s k) = r, (planeOf s k).scan.delta = d, timerOf (planeOf s k) x = o,
      (planeOf s k).scan.priming = prime
    refine ⟨⟨(tpStep_stepsTo prime r d o).1, rfl⟩, trivial, ?_, ?_, ?_⟩
    · rintro rfl hi htt rfl
      exact tpStep_start d o hi htt ▸ ⟨rfl, rfl, rfl, rfl⟩
    · intro htt
      exact tpStep_timing d o prime r htt ▸ ⟨rfl, rfl, rfl, rfl⟩
    · intro hr htt
      exact tpStep_idle d o prime r hr htt ▸ ⟨rfl, rfl, rfl, rfl⟩

/-! Counters (07 R232) -/

theorem bit_ctrStat (p : Plane) (x : Nat) (n : Int) (cu cd : Bool) : let w := ctrStat p x n cu cd
    bit w 0 = cu ∧ bit w 1 = cd ∧ bit w 2 = decide ((sd p (0x9000 + 4 * x)).toInt ≤ n) ∧ bit w 3 = decide (n ≤ 0) := by
  rw [ctrStat]
  generalize decide ((sd p (aCtr + 4 * x)).toInt ≤ n) = dn, decide (n ≤ 0) = zero
  revert cu cd dn zero
  decide

/-- Counter x of a plane reads so: PRE, ACC, the memory bits, and DN and ZERO as PRE and ACC give them. -/
def CtrReads (x : Nat) (q : Plane) (pre : Word) (n : Int) (cu cd : Bool) : Prop :=
  sd q (0x9000 + 4 * x) = pre ∧ (sd q (0x9000 + 4 * x + 1)).toInt = n
    ∧ bit (sd q (0x9000 + 4 * x + 2)) 0 = cu ∧ bit (sd q (0x9000 + 4 * x + 2)) 1 = cd
    ∧ bit (sd q (0x9000 + 4 * x + 2)) 2 = decide (pre.toInt ≤ n) ∧ bit (sd q (0x9000 + 4 * x + 2)) 3 = decide (n ≤ 0)

theorem setCtr_reads {n : Int} (h : -0x80000000 ≤ n ∧ n ≤ 0x7FFFFFFF) (x : Nat) (cu cd : Bool) (p : Plane) :
    CtrReads x (setCtr x n cu cd p) (sd p (0x9000 + 4 * x)) n cu cd := by
  have hn : (BitVec.ofInt 32 n).toInt = n := BitVec.toInt_ofInt_eq_self (by decide) (by omega) (by omega)
  simpa [CtrReads, setCtr, hn] using bit_ctrStat p x n cu cd

theorem toInt_range (w : Word) : -0x80000000 ≤ w.toInt ∧ w.toInt ≤ 0x7FFFFFFF := by
  have hlo := BitVec.le_toInt w
  have hhi := BitVec.toInt_lt (x := w)
  omega

/-- Neither RLO nor the cost of an instruction stands in a counter's record. -/
theorem ctrReads_addCost_setRlo {x : Nat} {q : Plane} {pre : Word} {m : Int} {cu cd : Bool} (h : CtrReads x q pre m cu cd)
    (n : Nat) (b : Bool) : CtrReads x (addCost n (setRlo b q)) pre m cu cd := by
  simpa only [CtrReads, sd_addCost, sd_setRlo] using h

/-- To count up to at most the largest number is to stand there. -/
theorem countUp_saturates {acc : Int} (h : -0x80000000 ≤ acc ∧ acc ≤ 0x7FFFFFFF) (r m : Bool) :
    let n := if r ∧ m = false ∧ acc ≠ 0x7FFFFFFF then acc + 1 else acc
    n = (if r && !m then min (acc + 1) 0x7FFFFFFF else acc) ∧ -0x80000000 ≤ n ∧ n ≤ 0x7FFFFFFF := by
  cases r <;> cases m <;> simp [h]
  omega

theorem countDown_saturates {acc : Int} (h : -0x80000000 ≤ acc ∧ acc ≤ 0x7FFFFFFF) (r m : Bool) :
    let n := if r ∧ m = false ∧ acc ≠ -0x80000000 then acc - 1 else acc
    n = (if r && !m then max (acc - 1) (-0x80000000) else acc) ∧ -0x80000000 ≤ n ∧ n ≤ 0x7FFFFFFF := by
  cases r <;> cases m <;> simp [h]
  omega

section
variable (x : Nat) {p : Plane} (hp : p.scan.priming = false)
include hp

/-- CTU counts up where RLO is 1 and CU_MEM 0, and stands at the largest number. -/
theorem iCtu_reads :
    let acc := (sd p (0x9000 + 4 * x + 1)).toInt
    let st := sd p (0x9000 + 4 * x + 2)
    CtrReads x (iCtu x p) (sd p (0x9000 + 4 * x))
      (if rloOf p ∧ bit st 0 = false ∧ acc ≠ 0x7FFFFFFF then acc + 1 else acc) (rloOf p) (bit st 1) := by
  obtain ⟨hn, hrange⟩ := countUp_saturates (toInt_range (sd p (0x9000 + 4 * x + 1))) (rloOf p)
    (bit (sd p (0x9000 + 4 * x + 2)) 0)
  simp only [iCtu, aCtr, hp, Bool.not_false, Bool.and_true, ← hn]
  exact ctrReads_addCost_setRlo (setCtr_reads hrange x (rloOf p) _ p) 8 _

/-- CTD counts down where RLO is 1 and CD_MEM 0, and stands at the smallest number. -/
theorem iCtd_reads :
    let acc := (sd p (0x9000 + 4 * x + 1)).toInt
    let st := sd p (0x9000 + 4 * x + 2)
    CtrReads x (iCtd x p) (sd p (0x9000 + 4 * x))
      (if rloOf p ∧ bit st 1 = false ∧ acc ≠ -0x80000000 then acc - 1 else acc) (bit st 0) (rloOf p) := by
  obtain ⟨hn, hrange⟩ := countDown_saturates (toInt_range (sd p (0x9000 + 4 * x + 1))) (rloOf p)
    (bit (sd p (0x9000 + 4 * x + 2)) 1)
  simp only [iCtd, aCtr, hp, Bool.not_false, Bool.and_true, ← hn]
  exact ctrReads_addCost_setRlo (setCtr_reads hrange x _ (rloOf p) p) 8 _

end

/-- Settles O51, from the records that the two instructions leave. -/
theorem countersFollowR232 : Obligations.CountersFollowR232 := by
  intro s k x hk hc hs hx hp
  refine ⟨fun hn => ?_, fun hn => ?_⟩
  · obtain ⟨t, he, ht⟩ := scanRow_planeOf (scanRow_ctu hx) hk hc hs hn
    exact ⟨t, he, ht ▸ iCtu_reads x (p := setScan _ (planeOf s k)) hp⟩
  · obtain ⟨t, he, ht⟩ := scanRow_planeOf (scanRow_ctd hx) hk hc hs hn
    exact ⟨t, he, ht ▸ iCtd_reads x (p := setScan _ (planeOf s k)) hp⟩

end Sys2Proof.Machine
end

/-! The commands of the axes (O9). -/
section
namespace Sys2Proof.Machine

/-! What an axis command makes of a plane whose axis stands as it asks -/

section
variable {f : Nat → Word} {a : Nat} {p : Plane}

theorem axEnable_on (a : Nat) (p : Plane) :
    axEnable true a p = if axState p a = 0 then (stOk, setAxState a 1 p) else (stNotInState, p) := rfl

theorem axEnable_off (a : Nat) (p : Plane) :
    axEnable false a p = if axState p a = 1 ∨ axState p a = 6 then (stOk, setXf a xAstat 23 1 0 (setAxState a 0 p))
      else (stNotInState, p) := rfl

/-- AX_MOVE from STANDSTILL with limits above 0: the axis moves unless it is at the target (08 R267, R286). -/
theorem axMove_ofStandstill (h1 : axState p a = 1) (hp : pulseOk (axLimits f a p) a = true)
    (hl : limitsSet (axLimits f a p) a = true) :
    let d := (dword (f 1) (f 2)).toInt
    let g := clampI (-(2 ^ 63)) (2 ^ 63 - 1) (if bit (f 0) 0 then x64 p a xCpos + d else d)
    let q := setX64 a xTarget g (axLimits f a p)
    axMove f a p = (stOk, if g = x64 p a xCpos then q
      else setXf a xAstat 19 1 0 (setXf a xAstat 22 1 (if g < x64 p a xCpos then 1 else 0) (setAxState a 2 q))) := by
  intro d g q
  have hm : ¬ (2 ≤ axState p a ∧ axState p a ≤ 5) := by omega
  have hbody : axMove f a p = if g = x64 p a xCpos then (stOk, q) else
      (stOk, setXf a xAstat 19 1 0 (setXf a xAstat 22 1 (if g < x64 p a xCpos then 1 else 0) (setAxState a 2 q))) := by
    simp only [axMove, hp, hl, Bool.not_true, Bool.false_eq_true, if_neg hm, not_not.2 h1, if_false, d, g, q]
  rw [hbody]
  split <;> rfl

/-- A STALLED axis goes to STANDSTILL, with feedback at its actual position (08 R271). -/
theorem axClear_ofStalled (h : axState p a = 6) : axClear a p = (stOk, setXf a xAstat 23 1 0
    (setAxState a 1 (if hasFb p a then setX64 a xCpos (x64 p a xApos) p else p))) :=
  if_neg (not_not.2 h)

/-- A moving axis stops, and a stop under way that is no quick stop becomes one (08 R277, R286). -/
theorem axStop_accepted {quick : Bool} (h : axState p a = 2 ∨ axState p a = 4 ∨ axState p a = 5
    ∨ (axState p a = 3 ∧ quick = true ∧ bit (xw p a xAstat) 19 = false)) : (axStop quick a p).1 = stOk := by
  obtain h | h | h | ⟨h, hq, hb⟩ := h
  · simp [axStop, h]
  · simp [axStop, h]
  · simp [axStop, h]
  · simp [axStop, h, hq, hb]

/-- Limits change outside HOMING and SAFE_STOPPED; where DMAX or JMAX changes while MOVING, with the way to brake (08 R264,
R265). -/
theorem axSetLimits_accepted (hp : pulseOk (axLimits f a p) a = true) (h4 : axState p a ≠ 4) (h7 : axState p a ≠ 7)
    (hb : let q := axLimits f a p
      axState p a = 2 → (xw q a xDmax = xw p a xDmax ∧ xw q a xJmax = xw p a xJmax)
        ∨ brake (limitsOf q a).d (limitsOf q a).j (axDir p a * x64 p a xCvel * 2 ^ 56) (axDir p a * x64 p a xCacc * 2 ^ 48)
          ≤ axDir p a * (x64 p a xTarget - x64 p a xCpos) * 2 ^ 64) : (axSetLimits f a p).1 = stOk := by
  have hway : ¬ (axState p a = 2
      ∧ (xw (axLimits f a p) a xDmax ≠ xw p a xDmax ∨ xw (axLimits f a p) a xJmax ≠ xw p a xJmax)
      ∧ axDir p a * (x64 p a xTarget - x64 p a xCpos) * 2 ^ 64 < brake (limitsOf (axLimits f a p) a).d
        (limitsOf (axLimits f a p) a).j (axDir p a * x64 p a xCvel * 2 ^ 56) (axDir p a * x64 p a xCacc * 2 ^ 48)) := by
    rintro ⟨h2, hchange, hshort⟩
    obtain ⟨hd, hj⟩ | hfar := hb h2
    · exact hchange.elim (fun h => h hd) fun h => h hj
    · exact Int.not_lt.2 hfar hshort
  simp only [axSetLimits, hp, h4, h7, Bool.not_true, Bool.false_eq_true, or_self, if_false, if_neg hway]

/-- Homing starts from STANDSTILL with a speed, a span and limits, and with a following-error limit or an EMF source that
the speed suffices for (08 R273). -/
theorem axHome_accepted (h1 : axState p a = 1) (hv : (xw p a xHomeVel).toInt ≠ 0) (hs : xw p a xHomeSpan ≠ 0)
    (hl : limitsSet p a = true)
    (hf : xw p a xFeLim ≠ 0 ∨ (emfSrc p a ≠ 0 ∧ (xw p a xLaVmin).toNat ≤ (xw p a xHomeVel).toInt.natAbs)) :
    (axHome a p).1 = stOk := by
  have hstall : ¬ (xw p a xFeLim = 0 ∧ (emfSrc p a = 0 ∨ (xw p a xHomeVel).toInt.natAbs < (xw p a xLaVmin).toNat)) := by
    rintro ⟨h0, hslow⟩
    obtain hne | ⟨he, hfast⟩ := hf
    · exact hne h0
    · exact hslow.elim he (Nat.not_lt.2 hfast)
  simp only [axHome, h1, hv, hs, hl, decide_eq_true_eq, Bool.not_true, Bool.false_eq_true, false_or, if_neg hstall, ne_eq,
    not_true_eq_false, if_false]

/-- Gearing engages from STANDSTILL to an encoder or to an axis whose masters do not lead back, where the ratio gives no
faster slave than ENG_VMAX (08 R274). -/
theorem axGear_accepted {s : State} (h1 : axState p a = 1)
    (hk : (field (f 0) 28 4 = 1 ∧ field (f 0) 0 6 ≤ 15)
      ∨ (field (f 0) 28 4 = 2 ∧ gearedTo p a 65 (field (f 0) 0 6) = false))
    (hd : f 2 ≠ 0)
    (hv : (masterStep s p (f 0)).natAbs * (f 1).toInt.natAbs ≤ (xw p a xEngVmax).toNat * 2 ^ 16 * (f 2).toNat) :
    (axGear s f a p).1 = stOk := by
  have hd0 : (f 2).toNat ≠ 0 := fun h => hd (BitVec.eq_of_toNat_eq h)
  have hfast := Nat.not_lt.2 hv
  obtain ⟨hkind, hi⟩ | ⟨hkind, hloop⟩ := hk
  · simp [axGear, hkind, Nat.not_lt.2 hi, hd0, h1, -Nat.reducePow, hfast]
  · simp [axGear, hkind, hloop, hd0, h1, -Nat.reducePow, hfast]

theorem axGearSched_accepted (h5 : axState p a = 5) (h4 : f 4 ≠ 0) : (axGearSched f a p).1 = stOk := by
  simp only [axGearSched, if_neg h4, h5, ne_eq, not_true_eq_false, if_false]

/-- Station entries that the scan program owns. -/
def scanOwned (p : Plane) : List Nat :=
  match p.scan.prog with
  | some g => g.ownSt
  | none => []

/-- The plane with the two binding words of AX_CONFIG. -/
def withBinding (f : Nat → Word) (a : Nat) (p : Plane) : Plane := setXw a xAcfg2 (f 1) (setXw a xAcfg (f 0) p)

/-- The fields of the binding words are in range (08 Table 8-3). -/
structure BindingInRange (f : Nat → Word) (a : Nat) (q : Plane) : Prop where
  out : field (f 0) 28 4 ≤ 2
  fb : field (f 0) 10 2 ≤ 2
  enc : field (f 0) 4 2 ≤ 2
  emf : field (f 1) 12 2 ≤ 2
  low : field (f 1) 0 7 = 0
  high : field (f 1) 14 1 = 0
  cmd : cmdEntry q a ≤ 4093
  inp : fbEntry q a ≤ 4093
  pulse : pulseOk q a = true

/-- No other user has what the binding would use (08 R281, 09 R293). -/
structure BindingFree (sl : Seal) (f : Nat → Word) (a : Nat) (p q : Plane) : Prop where
  enc : sharesSafeEnc sl a (f 0) = false
  axes : axClash p q a = false
  entries : ((axEntries q a).any fun e => chanBound p (128 + e) || (scanOwned p).contains e) = false
  ao : (axAo q a).any (chanBound p) = false

/-- A DISABLED axis takes a binding in range that clashes with nothing (08 R281, R284). -/
theorem axConfig_accepted {sl : Seal} (hr : BindingInRange f a (withBinding f a p))
    (hf : BindingFree sl f a p (withBinding f a p)) (h0 : axState p a = 0) : (axConfig sl f a p).1 = stOk := by
  obtain ⟨hout, hfb, henc, hemf, hlow, hhigh, hcmd, hinp, hpulse⟩ := hr
  obtain ⟨hs, hax, he, hao⟩ := hf
  simp only [withBinding] at hcmd hinp hpulse hax he hao
  simp only [axConfig]
  rw [if_neg ?range, if_neg ?free, if_neg (not_not.2 h0)]
  case free =>
    unfold scanOwned at he
    rw [hs, hax, Bool.false_or, Bool.false_or, Bool.or_eq_true, not_or]
    refine ⟨ne_true_of_eq_false he, ?_⟩
    cases hc : axAo (setXw a xAcfg2 (f 1) (setXw a xAcfg (f 0) p)) a with
    | none => exact Bool.false_ne_true
    | some c => simpa [hc] using hao
  case range =>
    rw [hpulse]
    simp only [Bool.not_true, Bool.false_eq_true, or_false]
    omega

/-- The plane with the words that AX_WRITE gives. -/
def withWords (f : Nat → Word) (a : Nat) (p : Plane) : Plane :=
  forEach (upTo (f 1).toNat) (fun i r => setXw a ((f 0).toNat / 4 + i) (f (2 + i)) r) p

/-- AX_WRITE covers word k of the context. -/
def covers (f : Nat → Word) (k : Nat) : Prop := (f 0).toNat / 4 ≤ k ∧ k < (f 0).toNat / 4 + (f 1).toNat

/-- AX_WRITE names one to eight RW words, and the words that it does not name are 0 (08 Table 8-2). -/
structure WordsNamed (f : Nat → Word) : Prop where
  aligned : (f 0).toNat % 4 = 0
  atLeast : 1 ≤ (f 1).toNat
  atMost : (f 1).toNat ≤ 8
  writable : ((upTo (f 1).toNat).all fun i => axRw ((f 0).toNat / 4 + i)) = true
  rest : ((upTo 8).all fun i => decide (i < (f 1).toNat) || f (2 + i) == 0) = true

/-- The written words keep the rules of Table 8-8. -/
structure WordsInRange (f : Nat → Word) (a : Nat) (q : Plane) : Prop where
  emin : field (xw q a xEmin) 16 16 = 0
  laCfg : field (xw q a xLaCfg) 0 4 = 0
  pulse : pulseOk q a = true
  positive : ∀ k ∈ [xVmax, xAmax, xDmax, xJmax, xHomeSpan], covers f k → xw q a k ≠ 0
  dmax : covers f xDmax ∨ covers f xQdmax → (xw q a xDmax).toNat ≤ (xw q a xQdmax).toNat
  jmax : covers f xJmax ∨ covers f xQjmax → (xw q a xJmax).toNat ≤ (xw q a xQjmax).toNat

theorem axWrite_accepted (hn : WordsNamed f) (hr : WordsInRange f a (withWords f a p)) (h1 : axState p a ≤ 1) :
    (axWrite f a p).1 = stOk := by
  obtain ⟨haligned, hsome, hatMost, hrw, hrest⟩ := hn
  obtain ⟨hemin, hla, hpulse, hpos, hd, hj⟩ := hr
  simp only [withWords, covers] at hemin hla hpulse hpos hd hj
  simp only [axWrite]
  rw [if_neg ?named, if_neg ?fields, if_neg ?limits, if_neg (Nat.not_lt.2 h1)]
  case limits =>
    rintro (hk | ⟨hk, hlt⟩ | ⟨hk, hlt⟩)
    · obtain ⟨k, hmem, hzero⟩ := List.any_eq_true.1 hk
      simp only [Bool.and_eq_true, decide_eq_true_eq, beq_iff_eq] at hzero
      exact hpos k hmem hzero.1 hzero.2
    · exact Nat.not_lt.2 (hd (by simpa using hk)) hlt
    · exact Nat.not_lt.2 (hj (by simpa using hk)) hlt
  case fields =>
    simp only [hemin, hla, hpulse, ne_eq, not_true_eq_false, Bool.not_true, Bool.false_eq_true, or_self, not_false_eq_true]
  case named =>
    rw [hrw, hrest]
    simp only [Bool.not_true, Bool.false_eq_true, or_false]
    omega

end

/-! The commands -/

section
variable {c : Sub} {t : State} {run : Bool} {a : Nat} {f : State → Plane → Nat × Plane}

/-- An axis command whose conditions hold in the plane that is read acts in every plane that executes it (08 R284). -/
theorem opAx_accepted (cmd : Bool) (hd : run = true → t.dev = .run) (h : (f t (actPlane t)).1 = stOk) : opAx run cmd a f t
    = okSn (onExec (fun p => if cmd && p.fab.stepNamed.contains (stepAxis a) then p else (f t p).2) t) := by
  have hrun : ¬ (run && t.dev != .run) = true := by
    simpa using hd
  rw [opAx, if_neg hrun]
  exact if_pos h

/-- A command that a step may give too: in a plane where a step of the same cut commanded the axis, the step prevails. -/
theorem opAx_axisDone (hd : run = true → t.dev = .run) (h : (f t (actPlane t)).1 = stOk) :
    opAx run true a f t = axisDone a (fun p => (f t p).2) t := opAx_accepted true hd h

theorem opAx_hostOnly (hd : run = true → t.dev = .run) (h : (f t (actPlane t)).1 = stOk) :
    opAx run false a f t = okSn (onExec (fun p => (f t p).2) t) := opAx_accepted false hd h

/-- AX_ENABLE with ENABLE 1 (08 R284). -/
theorem opAxEnable_on (hd : t.dev = .run) (h1 : par c 0 = 1) (h0 : axState (actPlane t) c.target = 0) : opAxEnable c t
    = axisDone c.target (fun p => if axState p c.target = 0 then setAxState c.target 1 p else p) t := by
  have hb : bit (par c 0) 0 = true := by rw [h1]; rfl
  rw [opAxEnable, hb, opAx_axisDone (fun _ => hd) (by rw [axEnable_on, if_pos h0])]
  exact congrArg (fun g => axisDone c.target g t) (funext fun p => by rw [axEnable_on, apply_ite Prod.snd])

theorem opAxEnable_off (hd : t.dev = .run) (h1 : par c 0 = 0)
    (h0 : axState (actPlane t) c.target = 1 ∨ axState (actPlane t) c.target = 6) : opAxEnable c t
    = axisDone c.target (fun p => if axState p c.target = 1 ∨ axState p c.target = 6
        then setXf c.target xAstat 23 1 0 (setAxState c.target 0 p) else p) t := by
  have hb : bit (par c 0) 0 = false := by rw [h1]; rfl
  rw [opAxEnable, hb, opAx_axisDone (fun _ => hd) (by rw [axEnable_off, if_pos h0])]
  exact congrArg (fun g => axisDone c.target g t) (funext fun p => by rw [axEnable_off, apply_ite Prod.snd])

/-- AX_READ of two words of the context, in a readable plane (08 R286). -/
theorem opAxRead_of_named (h4 : (par c 0).toNat % 4 = 0) (ho : (par c 0).toNat ≤ 248) (hp : planeNamed (par c 1) t = true) :
    let x := (planeOf t (namedPlane (par c 1) t)).axes.shown
    let w := 64 * c.target + (par c 0).toNat / 4
    opAxRead c t = okRes (dword (tget 0 x w) (tget 0 x (w + 1))) t := by
  have hr : ¬ ((par c 0).toNat % 4 ≠ 0 ∨ 248 < (par c 0).toNat) := by omega
  simp only [opAxRead, if_neg hr, withPlane_of_named _ hp, Nat.add_zero]

end

/-- Settles O9, command by command: the plane that is read meets the command's conditions. -/
theorem axisCommandsComplete : Obligations.AxisCommandsComplete := by
  refine ⟨?_, ?_, ?_, ?_, ?_, ?_, ?_, ?_, ?_, ?_, ?_, ?_, fun f a p => ⟨axMove_ofStandstill, axClear_ofStalled⟩⟩
  · exact completes_of_core (fun _ _ => rfl) fun c t ⟨hd, h1, h0⟩ => opAxEnable_on hd h1 h0
  · exact completes_of_core (fun _ _ => rfl) fun c t ⟨hd, h1, h0⟩ => opAxEnable_off hd h1 h0
  · exact completes_of_core (core := opAxMove) (fun _ _ => rfl) fun c t ⟨hd, h1, hp, hl⟩ =>
      opAx_axisDone (fun _ => hd) (congrArg Prod.fst (axMove_ofStandstill h1 hp hl))
  · exact completes_of_core (core := opAxStop) (fun _ _ => rfl) fun c t ⟨hd, h⟩ =>
      opAx_axisDone (fun _ => hd) (axStop_accepted h)
  · exact completes_of_core (core := opAxSetLimits) (fun _ _ => rfl) fun c t ⟨hp, h4, h7, hb⟩ =>
      opAx_axisDone nofun (axSetLimits_accepted hp h4 h7 hb)
  · exact completes_of_core (core := opAxHome) (fun _ _ => rfl) fun c t ⟨hd, h1, hv, hs, hl, hf⟩ =>
      opAx_axisDone (fun _ => hd) (axHome_accepted h1 hv hs hl hf)
  · exact completes_of_core (core := opAxGear) (fun _ _ => rfl) fun c t ⟨hd, h1, hk, h2, hv⟩ =>
      opAx_axisDone (fun _ => hd) (axGear_accepted h1 hk h2 hv)
  · exact completes_of_core (core := opAxGearSched) (fun _ _ => rfl) fun c t ⟨hd, h5, h4⟩ =>
      opAx_axisDone (fun _ => hd) (axGearSched_accepted h5 h4)
  · exact completes_of_core (core := opAxClear) (fun _ _ => rfl) fun c t ⟨hd, h6⟩ =>
      opAx_hostOnly (fun _ => hd) (congrArg Prod.fst (axClear_ofStalled h6))
  · exact completes_of_core (core := opAxConfig) (fun _ _ => rfl)
      fun c t ⟨hout, hfb, henc, hemf, hlow, hhigh, hcmd, hinp, hpulse, hs, hax, he, hao, h0⟩ =>
      opAx_hostOnly nofun (axConfig_accepted ⟨hout, hfb, henc, hemf, hlow, hhigh, hcmd, hinp, hpulse⟩
        ⟨hs, hax, he, hao⟩ h0)
  · exact completes_of_core (core := opAxWrite) (fun _ _ => rfl)
      fun c t ⟨h4, hn, hn8, hrw, hz, hemin, hla, hpulse, hpos, hd, hj, h1⟩ =>
      opAx_hostOnly nofun (axWrite_accepted ⟨h4, hn, hn8, hrw, hz⟩ ⟨hemin, hla, hpulse, hpos, hd, hj⟩ h1)
  · exact completes_of_core (fun _ _ => rfl) fun c t ⟨h4, ho, hp⟩ => opAxRead_of_named h4 ho hp

end Sys2Proof.Machine
end

/-! The rows of the axes and of the safety monitor (O26). -/
section
namespace Sys2Proof.Machine

section
variable {s : State} {a : Nat} (ha : a < 64)
include ha

theorem execAxisTick_of_running (hr : halted s = false) : execAxisTick a s = .next (onPlanes (axTick s a) s) := by
  rw [execAxisTick, guarded_of_true (decide_eq_true ha), whenRuns_of_running hr]

/-- The tick of a sample that finds a cause of a stall (08 R269). -/
theorem execStallDeclared_of_cause (hr : halted s = false) (ht : (axHid (actPlane s) a).ticked = false)
    (hc : stallCause s (axDrive s a (axFeedback s a (actPlane s)))
      (axEmf s a (axDrive s a (axFeedback s a (actPlane s)))) a ≠ 0) :
    execStallDeclared a s = .next (onPlanes (axTick s a) s) := by
  simp only [execStallDeclared, guarded_of_true (decide_eq_true ha), whenRuns_of_running hr, ht, Bool.not_false,
    Bool.true_and, bne_iff_ne, if_pos hc]

/-- The evaluation raises cause 6 on an axis that stood under no demand (09 R297). -/
theorem execDiscrepancyDemand_of_raised (hd : (safeAx (actPlane (onPlanes (safeEval s) s)) a).demand = true)
    (hc : (safeAx (actPlane (onPlanes (safeEval s) s)) a).cause = 6) (hn : (safeAx (actPlane s) a).demand = false) :
    execDiscrepancyDemand a s = .next (onPlanes (safeEval s) s) := by
  simp only [execDiscrepancyDemand, guarded_of_true (decide_eq_true ha), hd, hc, hn, beq_self_eq_true, Bool.not_false,
    Bool.and_self, if_true]

/-- The evaluation ends the axis's SS1 (09 R298). -/
theorem execSs1TorqueOff_of_ended (h : (safeAx (actPlane s) a).ss1.isSome = true)
    (hn : (safeAx (actPlane (onPlanes (safeEval s) s)) a).ss1 = none) :
    execSs1TorqueOff a s = .next (onPlanes (safeEval s) s) := by
  simp only [execSs1TorqueOff, guarded_of_true (decide_eq_true ha), h, hn, Option.isNone_none, Bool.and_self, if_true]

end

/-- A line that stands high takes its test pulse: a failed one applies the line fault of the pair (09 R303). -/
theorem execStoTestPulse_high {s : State} {k l : Nat} (hk : k < 8) (hl : pulseLine s k = some l)
    (hh : tget false (planeOf s (l + 1)).safe.lines k = true) (ok : Bool) : execStoTestPulse k ok s
    = .next (if ok then s else onPlanesSl (fun sl => lineFault sl k l) s) := by
  rw [execStoTestPulse, guarded_of_true (decide_eq_true hk), hl]
  cases ok <;> simp [hh]

section
variable {s : State} {n : Nat} (hn : n < 64)
include hn

theorem execSafetyPduReceive_of_inRange (pdu : List Byte) :
    execSafetyPduReceive n pdu s = .next (onPlanes (holdPdu n pdu) s) := guarded_of_true (decide_eq_true hn) _

theorem execSafetyWatchdogExpiry_of_inRange : execSafetyWatchdogExpiry n s = .next (onPlanes (fun p =>
    if (connOf p n).state = 1 ∧ (connOf p n).wdt = 0 then failConn n 1 p else p) s) := guarded_of_true (decide_eq_true hn) _

/-- A connection that no CAN channel carries (09 R307). -/
theorem execSafetyPduSend_offCan (hc : canConn s.sealed n = none) :
    execSafetyPduSend n s = .next (onPlanes (sendPdu s n) s) := by
  rw [execSafetyPduSend, guarded_of_true (decide_eq_true hn), sendOne, hc]

end

/-- Settles O26: each row past its guards (STALL_DECLARED, DISCREPANCY_DEMAND and SS1_TORQUE_OFF run the tick or the
evaluation: log entry 8). -/
theorem axisAndSafetyRowsTakeEffect : Obligations.AxisAndSafetyRowsTakeEffect := by
  refine ⟨fun s a ha => ⟨fun hr => ⟨execAxisTick_of_running ha hr, execStallDeclared_of_cause ha hr⟩, rfl,
    execDiscrepancyDemand_of_raised ha, execSs1TorqueOff_of_ended ha⟩, fun s k l hk hl hh => ?_, fun s n hn => ?_⟩
  · exact ⟨execStoTestPulse_high hk hl hh false, execStoTestPulse_high hk hl hh true⟩
  · exact ⟨execSafetyPduReceive_of_inRange hn, execSafetyWatchdogExpiry_of_inRange hn, execSafetyPduSend_offCan hn⟩

end Sys2Proof.Machine
end

/-! The commands of the safety monitor and of the seal (O10). -/
section
namespace Sys2Proof.Machine

section
variable {c : Sub} {t : State}

/-- An axis that has a safe position gives its speed (09 R318). -/
theorem opSafeStatus_of_validPos (hp : planeNamed (par c 0) t = true) (ha : c.target ≠ 64)
    (hs : safeSrc t.sealed c.target ≠ 0)
    (hv : sposValid t.sealed c.target (safeAx (planeOf t (namedPlane (par c 0) t)) c.target) = true) :
    let p := planeOf t (namedPlane (par c 0) t)
    opSafeStatus c t
      = okRes (dword (safetyWord t c.target p) (speedV32 t.sealed c.target (safeAx p c.target))) t := by
  simp only [opSafeStatus, withPlane_of_named _ hp, if_neg ha, if_pos (And.intro hs hv)]

/-- The speed of an axis without a valid safe position is not given (log entry 2). -/
theorem opSafeStatus_of_noPos (hp : planeNamed (par c 0) t = true) (ha : c.target ≠ 64)
    (hn : safeSrc t.sealed c.target = 0
      ∨ sposValid t.sealed c.target (safeAx (planeOf t (namedPlane (par c 0) t)) c.target) = false) :
    opSafeStatus c t = okRes (dword (safetyWord t c.target (planeOf t (namedPlane (par c 0) t)))
      (loWord (takeFree t).1)) (takeFree t).2 := by
  have hno : ¬ (safeSrc t.sealed c.target ≠ 0
      ∧ sposValid t.sealed c.target (safeAx (planeOf t (namedPlane (par c 0) t)) c.target) = true) := by
    rintro ⟨hs, hv⟩
    exact hn.elim hs (ne_false_of_eq_true hv)
  simp only [opSafeStatus, withPlane_of_named _ hp, if_neg ha, if_neg hno]

theorem opSafeStatus_of_device {x : Tab Word} (hp : planeNamed (par c 0) t = true) (ha : c.target = 64)
    (hx : (if t.sealed.slot = 0 then t.sealed.slot0 else t.sealed.slot1) = some x) : opSafeStatus c t
    = okRes (dw (t.sealed.matched.toNat + (if t.sealed.valid then 0 else 2)
        + (if t.sealed.openAsserted then 4 else 0) + (if t.sealed.staged.isSome then 8 else 0) + field (tget 0 x 2) 0 16 * 2 ^ 16
        + t.boot.sealSw.toNat * 2 ^ 32 + pairsOn (planeOf t (namedPlane (par c 0) t)) * 2 ^ 48)) t := by
  simp only [opSafeStatus, withPlane_of_named _ hp, if_pos ha, hx]

/-- Every function that SAFE_REQUEST names is enabled on the axis. -/
theorem opSafeRequest_of_enabled
    (h : ((upTo 3).all fun f => !hasFunc (par c 0).toNat f || safeEn t.sealed c.target f) = true) : opSafeRequest c t
    = okSn (onExec (fun p =>
        let x := safeAx p c.target
        setSafeAx c.target { x with hostAct := (par c 0).toNat % 8, hostStop := x.hostStop || hasFunc (par c 0).toNat 3 } p) t) := by
  have hnone : ¬ ((upTo 3).any fun f => hasFunc (par c 0).toNat f && !safeEn t.sealed c.target f) = true := by
    simpa [imp_iff_not_or] using h
  rw [opSafeRequest, if_neg hnone]

/-- In RUN, with every axis of the pair releasable and the monitors in agreement (09 R310). -/
theorem opSafeReset_of_releasable
    (h : ((pairAxes t.sealed c.target).all fun a => releaseOk t a (actPlane t)) = true) (hd : t.dev = .run)
    (hm : monitorsAgree t = true) : opSafeReset c t = okSn (onExecSl (fun sl => releasePair sl c.target) t) := by
  have hfind : (pairAxes t.sealed c.target).find? (fun a => !releaseOk t a (actPlane t)) = none := by
    simpa [List.find?_eq_none] using h
  simp [opSafeReset, hfind, hd, hm]

theorem opSconnStatus_of_named (hp : planeNamed (par c 0) t = true) :
    let x := connOf (planeOf t (namedPlane (par c 0) t)) c.target
    opSconnStatus c t = okRes (dw (x.state + x.cause * 2 ^ 4 + x.lastSeq * 2 ^ 16 + x.crcErr * 2 ^ 32 + x.dup * 2 ^ 48)) t :=
  withPlane_of_named _ hp

/-- A copy that a read window holds and that passes every check of 09 R312, under the conditions of 09 R315. -/
theorem opSealStage_accepted (hl : (par c 2).toNat = sealBytes) (hw : inWindow t false (addrAt c 0) sealBytes = true)
    (ho : t.sealed.openAsserted = true) (hd : t.dev = .ready) (hk : lockOpen t = true)
    (hc : sealCheck t (sealTab c.image) = 0) : opSealStage c t
    = okRes 0 (raise 0x151 3 { t with sealed := { t.sealed with staged := some (sealTab c.image) } }) := by
  simp [opSealStage, hl, hw, ho, hd, hk, hc]

/-- The copy that is written is missing until its read-back (09 R316, log entry 41). -/
theorem opSealCommit_accepted (hs : t.sealed.staged.isSome = true) (ho : t.sealed.openAsserted = true)
    (hd : t.dev = .ready) (hk : lockOpen t = true) : opSealCommit c t
    = .wait .device [word (writeSlot t.sealed)] { t with sealed := setCopy (writeSlot t.sealed) none t.sealed } := by
  have hsome : t.sealed.staged.isNone = false := Option.isNone_eq_false_iff.2 hs
  simp [opSealCommit, hsome, ho, hd, hk]

/-! SEAL_READ (09 R318) -/

theorem opSealRead_ofKey (h8 : (par c 0).toNat % 8 = 0) (hlo : 0x12800 ≤ (par c 0).toNat) (hhi : (par c 0).toNat < 0x12820) :
    opSealRead c t = okRes 0 t := by
  have hin : ¬ ((par c 0).toNat % 8 ≠ 0 ∨ sealBytes ≤ (par c 0).toNat) := by
    unfold sealBytes
    omega
  simp only [opSealRead, if_neg hin, if_pos (And.intro hlo hhi)]

section
variable (h8 : (par c 0).toNat % 8 = 0) (hlt : (par c 0).toNat < sealBytes)
  (hkey : ¬ (0x12800 ≤ (par c 0).toNat ∧ (par c 0).toNat < 0x12820))
include h8 hlt hkey

theorem opSealRead_ofCopy {x : Tab Word}
    (hx : sealCopy t.sealed (if par c 1 = 0 then t.sealed.slot else 1 - t.sealed.slot) = some x) : opSealRead c t
    = okRes (dword (sealWord x ((par c 0).toNat / 4)) (sealWord x ((par c 0).toNat / 4 + 1))) t := by
  have hin : ¬ ((par c 0).toNat % 8 ≠ 0 ∨ sealBytes ≤ (par c 0).toNat) := by omega
  simp only [opSealRead, if_neg hin, if_neg hkey, hx]

/-- The words of a copy that was never written are not given (log entry 2). -/
theorem opSealRead_ofMissing
    (hx : sealCopy t.sealed (if par c 1 = 0 then t.sealed.slot else 1 - t.sealed.slot) = none) :
    opSealRead c t = okRes (takeFree t).1 (takeFree t).2 := by
  have hin : ¬ ((par c 0).toNat % 8 ≠ 0 ∨ sealBytes ≤ (par c 0).toNat) := by omega
  simp only [opSealRead, if_neg hin, if_neg hkey, hx]

end

end

/-- Settles O10, command by command. -/
theorem safetyAndSealCommandsComplete : Obligations.SafetyAndSealCommandsComplete := by
  refine ⟨?_, ?_, fun x => ?_, ?_, ?_, ?_, ?_, ?_, fun x => ?_, ?_, ?_⟩
  · exact completes_of_core (fun _ _ => rfl) fun c t ⟨hp, ha, hs, hv⟩ => opSafeStatus_of_validPos hp ha hs hv
  · exact completes_of_core (fun _ _ => rfl) fun c t ⟨hp, ha, hn⟩ => opSafeStatus_of_noPos hp ha hn
  · exact completes_of_core (fun _ _ => rfl) fun c t ⟨hp, ha, hx⟩ => opSafeStatus_of_device hp ha hx
  · exact completes_of_core (fun _ _ => rfl) fun c t h => opSafeRequest_of_enabled h
  · exact completes_of_core (fun _ _ => rfl) fun c t ⟨h, hd, hm⟩ => opSafeReset_of_releasable h hd hm
  · exact completes_of_core (fun _ _ => rfl) fun c t hp => opSconnStatus_of_named hp
  · exact completes_of_core (fun _ _ => rfl) fun c t ⟨hl, hw, ho, hd, hk, hc⟩ => opSealStage_accepted hl hw ho hd hk hc
  · exact completes_of_core (fun _ _ => rfl) fun c t ⟨hs, ho, hd, hk⟩ => opSealCommit_accepted hs ho hd hk
  · exact completes_of_core (fun _ _ => rfl) fun c t ⟨h8, hlt, hkey, hx⟩ => opSealRead_ofCopy h8 hlt hkey hx
  · exact completes_of_core (fun _ _ => rfl) fun c t ⟨h8, hlo, hhi⟩ => opSealRead_ofKey h8 hlo hhi
  · exact completes_of_core (fun _ _ => rfl) fun c t ⟨h8, hlt, hkey, hx⟩ => opSealRead_ofMissing h8 hlt hkey hx

end Sys2Proof.Machine
end

/-! The rows of the ledger controller (O25). -/
section
namespace Sys2Proof.Machine

theorem takeCmd_self {x : Cmd} {s : State} (h : x ∈ s.hif.cmds) : takeCmd (fun c => c == x) s
    = some (x, { s with hif := { s.hif with cmds := s.hif.cmds.erase x } }) := by
  obtain ⟨y, hy⟩ : ∃ y, s.hif.cmds.find? (fun c => c == x) = some y :=
    Option.isSome_iff_exists.1 (List.find?_isSome.2 ⟨x, h, beq_self_eq_true x⟩)
  have hyx : y = x := beq_iff_eq.1 (List.find?_some (p := fun c => c == x) hy)
  simp only [takeCmd, hy, hyx]

section
variable {s : State} (ho : ledgerOn s = true)
include ho

section
variable {e : JEntry} {t : State} (hn : nextEntry s = some (e, t))
include hn

/-- An attempt at the oldest decided entry whose read-back agrees (11 R374). -/
theorem journalWrite_agreed (ht : tget false s.clock.tripped 0x02 = false) :
    journalWrite true s = writeEntry e (setLed { t.led with tries := 0 } t) := by
  simp [journalWrite, ho, hn, ledgerOk, ht]

theorem journalWrite_differing : journalWrite false s = entryBad s t := by
  simp [journalWrite, ho, hn, ledgerOk]

end

/-- The oldest record that may be written takes slot NEXT of a recorder with room (17 R524). -/
theorem recordWrite_agreed {e : Ev} {t : State} (ht : tget false s.clock.tripped 0x02 = false)
    (hn : nextRecord s = some (e, t)) (hf : s.evts.full = false) : recordWrite true s = queueLost (putRecord e t) := by
  simp [recordWrite, ho, hn, hf, ht]

/-- The oldest command whose write is under way ends with its read-back (09 R316, 12 R384, 17 R527). -/
theorem ledgerReadBack_agreed {x : Cmd} (ht : tget false s.clock.tripped 0x02 = false)
    (hx : s.hif.cmds.find? ledgerCmd = some x) : ledgerReadBack true s
    = finish x.op x.sub (readBackOk x { s with hif := { s.hif with cmds := s.hif.cmds.erase x } }) := by
  simp [ledgerReadBack, ho, hx, ledgerOk, ht, takeCmd_self (List.mem_of_find?_eq_some hx)]

end

/-- Settles O25: each row in service, the failed write of an entry by the repeats left. -/
theorem ledgerRowsTakeEffect : Obligations.LedgerRowsTakeEffect := by
  refine fun s ho ht => ⟨fun e t hn => ⟨?_, fun h3 => ?_, fun h3 => ?_⟩, fun e t hn hf => ?_, fun x hx => ?_⟩
  · exact congrArg Host.Outcome.next (journalWrite_agreed ho hn ht)
  · exact congrArg Host.Outcome.next ((journalWrite_differing ho hn).trans (if_pos h3))
  · exact congrArg Host.Outcome.next ((journalWrite_differing ho hn).trans (if_neg (Nat.not_lt.2 h3)))
  · exact congrArg Host.Outcome.next (recordWrite_agreed ho ht hn hf)
  · exact congrArg Host.Outcome.next (ledgerReadBack_agreed ho ht hx)

end Sys2Proof.Machine
end

/-! The rows of resets, the final checkpoint, supplies and waking (O35). -/
section
namespace Sys2Proof.Machine

/-! Resets (12 R381, R382, R386) -/

section
variable {s : State}

theorem sealOpenCut_of_fallen (h : s.sealed.openFell = true) : (sealOpenCut s).sealed.openAsserted = false := by
  rw [sealOpenCut, if_pos h]

theorem porstRelease_alone (x : Straps) (hp : s.boot.porst = true) (hw : s.boot.warm = false) : porstRelease x s
    = enterStart false (sampleStraps x
        { s with boot := { s.boot with porst := false }, led := { s.led with pcc := s.led.pcc + 1 } }) := by
  simp [porstRelease, hp, sampleStraps, hw]

theorem warmRstRelease_applied (x : Straps) (hw : s.boot.warm = true) (hp : s.boot.porst = false)
    (hn : s.boot.warmPending = false) :
    warmRstRelease x s = enterStart false (sampleStraps x { s with boot := { s.boot with warm := false } }) := by
  simp [warmRstRelease, hw, hp, hn]

theorem takesCkpt_ready (h : s.dev = .ready) : takesCkpt s = false := by
  rw [takesCkpt, h]
  rfl

theorem takesCkpt_not_off (h : takesCkpt s = true) : s.dev ≠ .off := by
  intro hd
  rw [takesCkpt, hd] at h
  exact absurd h (by decide)

theorem execWarmRstFall_ready (hw : s.boot.warm = false) (ho : s.boot.ckptOpen = false) (hd : s.dev = .ready) :
    execWarmRstFall s = .next (warmReset { s with boot := { s.boot with warm := true } }) := by
  simp [execWarmRstFall, hw, ho, hd, takesCkpt_ready hd]

/-- In RUN and IDLE the reset waits for the final checkpoint of the present sample (12 R382). -/
theorem execWarmRstFall_checkpointed (hw : s.boot.warm = false) (ho : s.boot.ckptOpen = false)
    (hc : takesCkpt s = true) :
    let t := beginCkpt 2 { s with boot := { s.boot with warm := true } }
    execWarmRstFall s = .next { t with boot := { t.boot with warmPending := true } } := by
  simp [execWarmRstFall, hw, ho, takesCkpt_not_off hc, hc]

theorem execWarmResetApply_pending (h : s.boot.warmPending = true) : execWarmResetApply s = .next (warmReset s) :=
  congrArg Host.Outcome.next (if_pos h)

/-! The final checkpoint (12 R390 to R396) -/

theorem execPwrfailAssert_checkpointed (hn : s.boot.pwrfail = none) (ho : s.boot.ckptOpen = false)
    (hc : takesCkpt s = true) : execPwrfailAssert s
    = .next (beginCkpt 1 (writeOpsec true { s with boot := { s.boot with pwrfail := some s.sn } })) := by
  simp [execPwrfailAssert, hn, ho, takesCkpt_not_off hc, hc]

/-- At the end of F the planes that compute latch their shadows, and the half is begun without its mark (12 R392). -/
theorem shadowLatch_atEnd (ho : s.boot.ckptOpen = true) (he : s.boot.ckptShadow = []) (hf : s.sn = s.boot.ckptF) :
    shadowLatch s = (
      let t := handOver s
      let sh := ([1, 2].filter fun k => computes (pstat t k)).map fun k => (k, shadowOf k t)
      startHalf { t with boot := { t.boot with ckptShadow := sh } }) := by
  simp [shadowLatch, ho, he, hf]

@[simp] theorem raise_boot (src data : Nat) (s : State) : (raise src data s).boot = s.boot :=
  congrArg (fun u => u.boot) (raise_bare s src data)

@[simp] theorem handEntry_boot (e : JEntry) (s : State) : (handEntry e s).boot = s.boot := by
  rw [handEntry]
  split
  case isTrue => rfl
  case isFalse =>
    dsimp only
    split
    · exact raise_boot _ _ _
    · rfl

@[simp] theorem handLive_boot (s : State) : (handLive s).boot = s.boot :=
  forEach_keeps (fun u : State => u.boot) _ _ (fun _ u => handEntry_boot _ u) s

theorem whenRuns_boot {t u : State} (h : u.boot = t.boot) : (whenRuns t u).boot = t.boot := by
  unfold whenRuns
  split
  · rfl
  · exact h

/-- The release of PWRFAIL# ends its standing, whatever it makes of the checkpoint (12 R396). -/
theorem pwrfailRelease_pwrfail (s : State) : (pwrfailRelease s).boot.pwrfail = none := by
  unfold pwrfailRelease
  split
  case isTrue h => exact Option.isNone_iff_eq_none.1 h
  case isFalse =>
    rw [whenRuns_boot (handLive_boot _)]
    split <;> rfl

/-! Supplies and waking (18 R563 to R565) -/

section
variable {d : Nat} (hd : d < 20)
include hd

theorem execSupplyTrip_powered (hp : tget false s.clock.powered (feedOf d) = true)
    (ht : tget false s.clock.tripped d = false) : execSupplyTrip d s
    = .next (supplyLost d (raise 0x1C4 (1 + d * 2 ^ 8)
        { s with clock := { s.clock with tripped := tset false s.clock.tripped d true } })) := by
  rw [execSupplyTrip, guarded_of_true (decide_eq_true hd), hp, ht]
  rfl

theorem execSupplyRestored_tripped (ht : tget false s.clock.tripped d = true) : execSupplyRestored d s
    = .next (raise 0x1C4 (2 + d * 2 ^ 8)
        { s with clock := { s.clock with tripped := tset false s.clock.tripped d false } }) := by
  rw [execSupplyRestored, guarded_of_true (decide_eq_true hd), ht]
  rfl

end

theorem execWakeTimerExpiry_armed (hd : s.dev = .standby) (hw : s.clock.wake.isSome = true) : execWakeTimerExpiry s
    = .next (enterStart true { s with clock := { s.clock with wake := none } }) := by
  simp [execWakeTimerExpiry, hd, Option.isSome_iff_ne_none.1 hw]

/-- An idle wake whose level is reached ends in RUN, and with it the SET_STATE that waited (18 R563). -/
theorem execIdleWakeCommit_reached (hd : s.dev = .idle) (hw : s.clock.idleWake.isSome = true)
    (hl : levelReached s = true) : execIdleWakeCommit s = .next (
      let t := { wakeDram s with dev := .run, clock := { s.clock with idleWake := none } }
      recBegin (completeWaiting (fun x => x.op == 0x02 && x.wait == .device) stOk (dw t.sn.toNat) t)) := by
  simp [execIdleWakeCommit, hd, Option.isSome_iff_ne_none.1 hw, hl]

end

/-- Settles O35: each row past its guards. -/
theorem resetRowsTakeEffect : Obligations.ResetRowsTakeEffect := by
  refine ⟨fun s => ⟨rfl, rfl, rfl, sealOpenCut_of_fallen⟩, fun s x hx => ⟨fun hp hw => ?_, fun hw hp hn => ?_⟩,
    fun s hw ho => ⟨execWarmRstFall_ready hw ho, execWarmRstFall_checkpointed hw ho⟩, fun s => execWarmResetApply_pending,
    fun s => execPwrfailAssert_checkpointed, fun s ho => ⟨fun he hf => ⟨rfl, shadowLatch_atEnd ho he hf⟩, fun _ => rfl⟩,
    fun s _ => ⟨rfl, pwrfailRelease_pwrfail s⟩,
    fun s d hd => ⟨execSupplyTrip_powered hd, execSupplyRestored_tripped hd⟩, fun s => execWakeTimerExpiry_armed,
    fun s => execIdleWakeCommit_reached⟩
  · rw [exec_porstRelease, execPorstRelease, guarded_of_true (decide_eq_true hx), porstRelease_alone x hp hw]
  · rw [exec_warmRstRelease, execWarmRstRelease, guarded_of_true (decide_eq_true hx), warmRstRelease_applied x hw hp hn]

end Sys2Proof.Machine
end

/-! The commands of the recorder, of the trigger engines and of the mask tests (O11). -/
section
namespace Sys2Proof.Machine

section
variable {c : Sub} {t : State}

/-! REC_CONFIG (10 R321) -/

/-- Without held samples a REC_CONFIG in range takes effect at once. -/
theorem opRecConfig_ofNoHeld (hh : t.recHeld = []) (ht : ¬ (c.target = 16 ∧ 1 < (par c 0).toNat))
    (hn : (par c 0).toNat ≤ 100000) : opRecConfig c t = okSn (setRecording c.target (par c 0).toNat t) := by
  have hr : ¬ ((c.target = 16 ∧ 1 < (par c 0).toNat) ∨ 100000 < (par c 0).toNat) := by omega
  simp only [opRecConfig, if_neg hr, hh, List.isEmpty_nil, if_true]

theorem opRecConfig_edges (hh : t.recHeld = []) (ht : c.target = 16) (hn : (par c 0).toNat ≤ 1) : opRecConfig c t
    = okSn (onRec (fun r => { r with edges := (par c 0).toNat == 1 }) t) := by
  rw [opRecConfig_ofNoHeld hh (fun h => Nat.not_lt.2 hn h.2) (by omega), setRecording, if_pos ht]

theorem opRecConfig_booth (hh : t.recHeld = []) (ht : c.target ≠ 16) (hn : (par c 0).toNat ≤ 100000) : opRecConfig c t
    = okSn (setBoothRec c.target { intv := (par c 0).toNat } (closeInterval true c.target t)) := by
  rw [opRecConfig_ofNoHeld hh (fun h => ht h.1) hn, setRecording, if_neg ht]

/-- While a check roll holds samples, the configuration waits behind them (10 R328, log entry 108). -/
theorem opRecConfig_kept (hh : t.recHeld ≠ []) (hn : (par c 0).toNat ≤ 100000)
    (ht : c.target = 16 → (par c 0).toNat ≤ 1) : opRecConfig c t
    = okSn (onRec (fun r => { r with cfgDue := r.cfgDue ++ [(c.target, (par c 0).toNat, t.sn)] }) t) := by
  have hr : ¬ ((c.target = 16 ∧ 1 < (par c 0).toNat) ∨ 100000 < (par c 0).toNat) := by omega
  have he : ¬ t.recHeld.isEmpty = true := mt List.isEmpty_iff.1 hh
  rw [opRecConfig, if_neg hr, if_neg he]

/-! REC_STREAM and REC_FETCH (10 R330, R344) -/

theorem opRecStream_stop (hs : bit (par c 7) 0 = false) (hd : t.mem.dram ≠ 2) : opRecStream c t
    = .done stOk (dword t.sn t.recorder.stream.nextSeq) (stopStream t) := by
  simp [opRecStream, hs, hd]

/-- START with an aligned ring, the ring, its head and its status inside windows, and a record to start from. -/
theorem opRecStream_start (hs : bit (par c 7) 0 = true) (ha : addrAt c 0 % 8 = 0) (hlo : 65536 ≤ (par c 2).toNat)
    (hhi : (par c 2).toNat ≤ 1073741824) (h4 : (par c 2).toNat % 4096 = 0)
    (hring : inWindow t true (addrAt c 0) (par c 2).toNat = true) (hhead : inWindow t false (addrAt c 3) 4 = true)
    (hstat : inWindow t true (addrAt c 5) 16 = true) (hd : t.mem.dram ≠ 2)
    (hfirst : bit (par c 7) 2 = true ∨ inRing t (par c 8) = true) :
    let nxt := match t.recorder.staging with | x :: _ => x.seq | [] => t.recorder.seq
    let first := if bit (par c 7) 2 then nxt else par c 8
    opRecStream c t = .done stOk (dword t.sn first) (onStream (fun x => { x with
      run := true, addr := addrAt c 0, size := (par c 2).toNat, headAddr := addrAt c 3, statusAddr := addrAt c 5
      stopMode := bit (par c 7) 1, tail := 0, nextSeq := first, err := false, above75 := false, off := 0
      stopReq := false, drop := none, dropCause := 1
      qp := c.qp, tag := c.tag, fetched := 0, statusDue := false }) (setDmaCh 1 {} t)) := by
  refine (if_neg ?served).trans <| (if_neg ?begins).trans <| (if_neg ?ranges).trans <| (if_neg ?ring).trans <|
    (if_neg ?head).trans <| (if_neg ?status).trans <| (if_neg hd).trans (if_neg ?stands)
  case served => simp [hs]
  case begins => simp [hs]
  case ranges => omega
  case ring => simp [hring]
  case head => simp [hhead]
  case status => simp [hstat]
  case stands =>
    cases hb : bit (par c 7) 2 with
    | true => simp
    | false => simp [hfirst.resolve_left (ne_true_of_eq_false hb)]

/-- REC_FETCH of at least one record, from one that stands in the ring. -/
theorem opRecFetch_ofStanding (h1 : 1 ≤ (par c 1).toNat) (hn : (par c 1).toNat ≤ 65536)
    (hw : inWindow t true (addrAt c 2) (par c 4).toNat = true) (hd : t.mem.dram ≠ 2) (hr : inRing t (par c 0) = true) :
    let l := (fetchRecs c t).map (copyOf t)
    opRecFetch c t
      = .write (addrAt c 2) ((l.map fun x => bytesOf x.words).flatten) (dword (word (recsBytes l)) (word l.length)) t := by
  have hrange : ¬ ((par c 1).toNat = 0 ∨ 65536 < (par c 1).toNat) := by omega
  simp [opRecFetch, hrange, hw, hd, hr]

/-! REC_STATUS (10 R344) -/

theorem opRecStatus_written (h : par c 0 = 0) : opRecStatus c t = okRes (dw t.recorder.written) t := by
  rw [opRecStatus, h]
  rfl

theorem opRecStatus_lost (h : par c 0 = 1) : opRecStatus c t = okRes (dw t.recorder.lost) t := by
  rw [opRecStatus, h]
  rfl

/-! The trigger engines (10 R333 to R338) -/

theorem opTrigConfig_accepted (hr : trigRangesOk (trigFrom c) = true) (h0 : (trigOf (actPlane t) c.target).state = 0)
    (hf : trigRangeFree c.target (trigFrom c) (actPlane t) = true) :
    opTrigConfig c t = okSn (onExec (setTrig c.target (trigFrom c)) t) := by
  simp [opTrigConfig, hr, h0, hf]

section
variable (hd : t.dev = .run) (hp : (group (actPlane t) ((trigOf (actPlane t) c.target).booth / 4)).powered = true)
include hd hp

/-- TRIG_CTRL START of an engine that is IDLE or DONE and whose range is free (10 R335). -/
theorem opTrigCtrl_start (h : par c 0 = 0)
    (hs : (trigOf (actPlane t) c.target).state = 0 ∨ (trigOf (actPlane t) c.target).state = 4)
    (hc : trigC (trigOf (actPlane t) c.target) ≠ 0)
    (hf : trigRangeFree c.target (trigOf (actPlane t) c.target) (actPlane t) = true) :
    opTrigCtrl c t = okSn (onExec (trigStart c.target) t) := by
  simp [opTrigCtrl, h, hd, hp, hs, hc, hf]

/-- TRIG_CTRL FORCE of an ARMED engine (10 R336). -/
theorem opTrigCtrl_force (h : par c 0 = 1) (hs : (trigOf (actPlane t) c.target).state = 2) : opTrigCtrl c t
    = okSn (onExec (fun q => setTrig c.target { trigOf q c.target with force := true } q) t) := by
  simp [opTrigCtrl, h, hd, hp, hs]

theorem opTrigCtrl_disarm (h : par c 0 = 2) : opTrigCtrl c t = okSn (onExec (fun q =>
    setTrig c.target { trigOf q c.target with state := 0, force := false, maskHit := none } q) t) := by
  simp [opTrigCtrl, h, hd, hp]

end

theorem opTrigStatus_of_named (hp : planeNamed (par c 0) t = true) :
    let x := trigOf (planeOf t (namedPlane (par c 0) t)) c.target
    opTrigStatus c t = okRes (dw (x.state + x.stopped.toNat * 8 + x.first % 65536 * 65536 + x.g.toNat * 2 ^ 32)) t :=
  withPlane_of_named _ hp

/-! The mask tests (10 R339 to R342) -/

/-- MASK_LOAD of an image that a read window holds and that passes every check, where the test is not ARMED. -/
theorem opMaskLoad_accepted (hw : inWindow t false (addrAt c 0) (par c 2).toNat = true)
    (hs : (maskOf (actPlane t) c.target).state ≠ 2)
    (hc : maskCheck (actPlane t) (c.image.take ((par c 2).toNat / 4)) (par c 2).toNat = none) : opMaskLoad c t
    = okSn (onExec (setMask c.target { img := some (c.image.take ((par c 2).toNat / 4)), state := 1 }) t) := by
  simp [opMaskLoad, hw, hs, hc]

/-- MASK_ARM of a loaded test of ACTION 0 that no session holds. -/
theorem opMaskArm_ofHost {img : List Word} (hd : t.dev = .run) (ho : maskOwner (actPlane t) c.target = none)
    (hi : (maskOf (actPlane t) c.target).img = some img) (ha : field (wordAt img 4) 8 2 = 0) : opMaskArm c t
    = okSn (onExec (fun q => if bit (par c 0) 0 then maskArm c.target q else maskDisarm c.target q) t) := by
  simp [opMaskArm, hd, ho, hi, ha]

theorem opMaskStatus_of_named (hp : planeNamed (par c 0) t = true) :
    let x := maskOf (planeOf t (namedPlane (par c 0) t)) c.target
    opMaskStatus c t = okRes (dw (x.state + x.pc * 2 ^ 8 + x.skipped * 2 ^ 16 + x.vioTau * 2 ^ 32)) t :=
  withPlane_of_named _ hp

end

/-- Settles O11, command by command (REC_CONFIG behind held samples: log entry 108). -/
theorem recordingCommandsComplete : Obligations.RecordingCommandsComplete := by
  refine ⟨?_, ?_, ?_, ?_, ?_, ?_, ?_, ?_, ?_, ?_, ?_, ?_, ?_, ?_, fun img => ?_, ?_⟩
  · exact completes_of_core (fun _ _ => rfl) fun c t ⟨hh, ht, hn⟩ => opRecConfig_edges hh ht hn
  · exact completes_of_core (fun _ _ => rfl) fun c t ⟨hh, ht, hn⟩ => opRecConfig_booth hh ht hn
  · exact completes_of_core (fun _ _ => rfl) fun c t ⟨hh, hn, ht⟩ => opRecConfig_kept hh hn ht
  · exact completes_of_core (fun _ _ => rfl) fun c t ⟨hs, hd⟩ => opRecStream_stop hs hd
  · exact completes_of_core (fun _ _ => rfl) fun c t ⟨hs, ha, hlo, hhi, h4, hring, hhead, hstat, hd, hfirst⟩ =>
      opRecStream_start hs ha hlo hhi h4 hring hhead hstat hd hfirst
  · exact completes_of_core (fun _ _ => rfl) fun c t h => opRecStatus_written h
  · exact completes_of_core (fun _ _ => rfl) fun c t h => opRecStatus_lost h
  · exact completes_of_core (fun _ _ => rfl) fun c t ⟨h1, hn, hw, hd, hr⟩ => opRecFetch_ofStanding h1 hn hw hd hr
  · exact completes_of_core (fun _ _ => rfl) fun c t ⟨hr, h0, hf⟩ => opTrigConfig_accepted hr h0 hf
  · exact completes_of_core (fun _ _ => rfl) fun c t ⟨h, hd, hp, hs, hc, hf⟩ => opTrigCtrl_start hd hp h hs hc hf
  · exact completes_of_core (fun _ _ => rfl) fun c t ⟨h, hd, hp, hs⟩ => opTrigCtrl_force hd hp h hs
  · exact completes_of_core (fun _ _ => rfl) fun c t ⟨h, hd, hp⟩ => opTrigCtrl_disarm hd hp h
  · exact completes_of_core (fun _ _ => rfl) fun c t hp => opTrigStatus_of_named hp
  · exact completes_of_core (fun _ _ => rfl) fun c t ⟨hw, hs, hc⟩ => opMaskLoad_accepted hw hs hc
  · exact completes_of_core (fun _ _ => rfl) fun c t ⟨hd, ho, hi, ha⟩ => opMaskArm_ofHost hd ho hi ha
  · exact completes_of_core (fun _ _ => rfl) fun c t hp => opMaskStatus_of_named hp

end Sys2Proof.Machine
end

/-! The rows of the recorder, the DRAM, the DMA channels and the translation unit (O31). -/
section
namespace Sys2Proof.Machine

variable {s : State}

/-! The recorder (10 R324, R326) -/

section
variable (hr : (recDue s).recorder.running = true) (ht : (recDue s).recorder.taken = true)
include hr ht

theorem execIntervalClose_ofTaken {b : Nat} (hb : b < 16) :
    execIntervalClose b s = .next (closeDue (b + 1) (recDue s)) := by
  simp only [execIntervalClose, guarded_of_true (decide_eq_true hb), hr, ht, Bool.and_self, if_true]

/-- The time record follows the intervals that close on its tick, where no sample is held. -/
theorem execTimeRecord_ofTaken (hh : (recDue s).recHeld = []) :
    execTimeRecord s = .next (timeRecord (closeDue 16 (recDue s))) := by
  simp only [execTimeRecord, hr, ht, hh, List.isEmpty_nil, Bool.and_self, if_true]

end

/-- The stream has the next burst to the host (10 R330, 13 R416). -/
theorem streamBurst_ofTurn (head : Nat) (h : nextChannel s false = some 1) :
    streamBurst head s = streamStep head (setMem { s.mem with rr := 1 } s) := if_pos h

/-! The DRAM (13 R407 to R413) -/

section
variable (hs : dramServes s = true)
include hs

section
variable {u : State} (hb : burstEnd s = u) (hu : dramServes u = true) {req own : Nat} (hown : turnOwner u u.mem.slot = own)
include hb hu hown

/-- The slot's owner requests: it is granted the slot. -/
theorem dramGrant_toOwner (ecc : Nat) (h0 : own ≠ 0) (hq : requests u req own = true) :
    dramGrant req ecc s = grantTo own ecc (stally (0xA0 + own) 1 (nextSlot u)) := by
  simp [dramGrant, hs, hb, hu, hown, h0, hq]

/-- The slot has no owner that requests: the next background requester is granted it. -/
theorem dramGrant_toBackground (ecc : Nat) (h0 : own = 0 ∨ requests u req own = false) {k : Nat}
    (hk : background u req = some k) : dramGrant req ecc s
    = grantTo k ecc (stally (0xA8 + k) 1 (setMem { (nextSlot u).mem with lastBg := k } (nextSlot u))) := by
  have hno : ¬ (own ≠ 0 ∧ requests u req own = true) := fun ⟨hn, hq⟩ => h0.elim hn (ne_false_of_eq_true hq)
  simp only [dramGrant, hs, hb, hu, hown, if_neg hno, hk, Bool.not_true, Bool.false_eq_true, if_false]

end

/-- A refresh interrupts the burst under way, which it has not interrupted before (13 R410). -/
theorem execDramRefresh_ofGranted (hg : s.mem.granted ≠ 0) (hi : s.mem.interrupted = false) :
    execDramRefresh s = .next (setMem { s.mem with interrupted := true } s) := by
  simp [execDramRefresh, hs, hg, hi]

theorem execScrubBlock_ofGrant (ecc : Nat) (hg : s.mem.granted = 6) :
    execScrubBlock ecc s = .next (scrubBlock ecc s) := by
  simp [execScrubBlock, hs, hg]

end

theorem execDramGrant_ofBurst (req : Nat) {ecc : Nat} (h : ecc ≠ 3) :
    execDramGrant req ecc s = .next (dramGrant req ecc s) := congrArg Host.Outcome.next (if_neg h)

/-- The DRAM fails its training in START (13 R407). -/
theorem execDramGrant_untrained (req : Nat) (h : s.dev = .start) : execDramGrant req 3 s = .next (dramLost s) :=
  congrArg Host.Outcome.next (if_pos h)

theorem nextBlock_bad (s : State) : (nextBlock s).mem.bad = s.mem.bad := by
  simp only [nextBlock, setMem]
  split <;> rfl

theorem eccRead_clean {ecc a n : Nat} (h : eccAt ecc a n s = 0) : eccRead ecc a n s = s := by
  simp [eccRead, eccError, h]

/-- A block that reads without error only takes the scrubber on. -/
theorem scrubBlock_clean {ecc : Nat} (h : eccAt ecc (256 * s.mem.scrubPos) 256 s = 0) :
    scrubBlock ecc s = nextBlock (setMem { s.mem with granted := 0 } s) := by
  have hn : eccAt ecc (256 * s.mem.scrubPos) 256 (nextBlock (setMem { s.mem with granted := 0 } s)) = 0 := by
    rw [eccAt, dramBad, nextBlock_bad]
    exact h
  simp only [scrubBlock, eccRead_clean hn, h]
  split <;> rfl

/-- A bite on the recorder's burst poisons the block that it was writing (13 R413). -/
theorem watchdogBite_ofRecorder (h : s.mem.granted = 1) : watchdogBite s = (
    let t := raise 0x1E4 (1 + 1 * 2 ^ 8) (countMem 3 (setMem { s.mem with granted := 0, interrupted := false } s))
    spoilDram (t.recorder.pos / 256 * 256) 256 t) := by
  rw [watchdogBite, h]
  rfl

/-! The DMA channels (13 R416 to R425) -/

theorem translate_direct (wr : Bool) (a : Nat) (h : s.mem.xlatEn = false) : translate s wr a = .ready := by
  simp [translate, h]

/-- A burst inside a window, with translation off and without a parity error, moves. -/
theorem issueBurst_direct {k : Nat} (hx : s.mem.xlatEn = false) (hk : k ≠ 1)
    (hw : inWindow s (!(dmaCh s k).dir) ((dmaCh s k).host + (dmaCh s k).done) (burstBytes (dmaCh s k)) = true) :
    issueBurst k false s = moveBurst k s := by
  simp [issueBurst, hk, dmaStep, hw, translate_direct _ _ hx]

/-- A burst boundary at which no parity error falls: the burst to the host, then the one from it. -/
theorem execDmaBurst_sound : execDmaBurst 0 s = .next (
    let t := (nextChannel s false).elim s fun k => issueBurst k false s
    (nextChannel s true).elim t fun k => issueBurst k false t) := by
  have h2 : ¬ (0 = 2 ∧ nextChannel s false = some 2) := fun h => absurd h.1 (by decide)
  rw [execDmaBurst, if_neg (by decide), if_neg h2, burstPair]
  cases nextChannel s false <;> cases nextChannel s true <;> rfl

section
variable {k : Nat} (hx : s.mem.xlatEn = false) (hk : k ≠ 1)
  (hw : inWindow s (!(dmaCh s k).dir) ((dmaCh s k).host + (dmaCh s k).done) (burstBytes (dmaCh s k)) = true)
include hx hk hw

theorem execDmaBurst_toHost (ho : nextChannel s false = some k) (hi : nextChannel s true = none) :
    execDmaBurst 0 s = .next (moveBurst k s) := by
  rw [execDmaBurst_sound, ho, hi]
  exact congrArg Host.Outcome.next (issueBurst_direct hx hk hw)

/-- The burst of the stream comes with STREAM_BURST, so that its turn leaves the state as it is. -/
theorem execDmaBurst_fromHost (hi : nextChannel s true = some k)
    (ho : nextChannel s false = none ∨ nextChannel s false = some 1) : execDmaBurst 0 s = .next (moveBurst k s) := by
  have ht : ((nextChannel s false).elim s fun j => issueBurst j false s) = s := by
    obtain ho | ho := ho <;> rw [ho] <;> rfl
  rw [execDmaBurst_sound, ht, hi]
  exact congrArg Host.Outcome.next (issueBurst_direct hx hk hw)

theorem execDmaBurst_bothWays {j : Nat} (ho : nextChannel s false = some k) (hi : nextChannel s true = some j)
    (hj : j ≠ 1) : execDmaBurst 0 s = .next (dmaStep j false (moveBurst k s)) := by
  rw [execDmaBurst_sound, ho, hi]
  simp only [Option.elim_some, issueBurst_direct hx hk hw]
  exact congrArg Host.Outcome.next (if_neg hj)

end

/-- A walk that ends in a leaf fills the TLB for the page that the channel's burst waits for (13 R421). -/
theorem translationWalk_ofLeaf {ch q sh page perm tab : Nat} {pte : List DWord} (h0 : ch ≠ 0) (hx : s.mem.xlatEn = true)
    (hw : (dmaCh s ch).walk = true)
    (hl : walkPage s ch (walkAddr s ch q) (walkWrites s ch q) pte = .leaf sh page perm tab) : translationWalk ch q pte s
    = pageHere ch (tlbFill ch (walkAddr s ch q) sh page perm tab (setDmaCh ch { dmaCh s ch with walk := false } s)) := by
  simp [translationWalk, walkWaited, hx, h0, hw, hl]

/-- A channel that has been SUSPENDED for 1 s ends a command that may time out (13 R423). -/
theorem suspendTimeout_due {ch : Nat} (h2 : (dmaCh s ch).state = 2) (ht : 100000 ≤ (dmaCh s ch).suspTicks)
    (hc : (s.hif.cmds.any fun c => servedBy (dmaCh s ch) c && dmaTimed c.op) = true) :
    suspendTimeout ch s = startReads (endTransfer ch stTimeout 0 s) := if_pos ⟨h2, ht, hc⟩

theorem completionTimeout_ofTransfer (q : Nat) {ch : Nat} (hch : 2 ≤ ch) (h1 : (dmaCh s ch).state = 1) :
    completionTimeout ch q s = startReads (stopChannel ch 9 stBadParam
      (setDmaCh ch { dmaCh s ch with faultVa := (dmaCh s ch).host + (dmaCh s ch).done } s)) := by
  rw [completionTimeout, if_neg (by omega), if_neg (by omega)]
  exact if_pos h1

/-- Settles O31: each row past its guards (a grant ends the burst before it: log entry 55). -/
theorem recordingAndMemoryRowsTakeEffect : Obligations.RecordingAndMemoryRowsTakeEffect := by
  refine ⟨fun s hr ht => ⟨fun b => execIntervalClose_ofTaken hr ht, execTimeRecord_ofTaken hr ht⟩,
    fun s head h => congrArg Host.Outcome.next (streamBurst_ofTurn _ h),
    fun s req ecc hs => ⟨fun he hu => ⟨fun ho hq => ?_, fun ho k hk => ?_⟩, execDramRefresh_ofGranted hs,
      fun hg => ⟨execScrubBlock_ofGrant hs ecc hg, scrubBlock_clean⟩⟩,
    fun s req => execDramGrant_untrained req, fun s h => congrArg Host.Outcome.next (watchdogBite_ofRecorder h),
    fun s k hx hk hw => ⟨execDmaBurst_toHost hx hk hw, execDmaBurst_fromHost hx hk hw, fun j => execDmaBurst_bothWays hx hk hw⟩,
    fun s ch q pte hch h0 hq hx hw sh page perm tab hl => ?_, fun s ch hlo hhi h2 ht hc => ?_, fun s ch q hlo hhi hq h1 => ?_⟩
  · exact (execDramGrant_ofBurst req he).trans (congrArg Host.Outcome.next (dramGrant_toOwner hs rfl hu rfl ecc ho hq))
  · exact (execDramGrant_ofBurst req he).trans
      (congrArg Host.Outcome.next (dramGrant_toBackground hs rfl hu rfl ecc ho hk))
  · rw [exec_translationWalk, execTranslationWalk, guarded_of_true (by simp [hch, hq]), translationWalk_ofLeaf h0 hx hw hl]
  · rw [exec_dmaSuspendTimeout, execDmaSuspendTimeout, guarded_of_true (decide_eq_true ⟨hlo, hhi⟩),
      suspendTimeout_due h2 ht hc]
  · rw [exec_completionTimeout, execCompletionTimeout, guarded_of_true (by simp [hhi, hq]),
      completionTimeout_ofTransfer q hlo h1]

end Sys2Proof.Machine
end

/-! The commands of the planes, of the ledger and of the firmware slots (O12). -/
section
namespace Sys2Proof.Machine

section
variable {c : Sub} {t : State}

/-! The planes (11 R347, R358, R365, R367) -/

theorem opPlaneHealth_reported {h : DWord} (hh : (pstat t (c.target + 1)).health = some h) :
    opPlaneHealth c t = okRes h t := by
  rw [opPlaneHealth, hh]

theorem opPlaneRestore_offline (h : (pstat t (c.target + 1)).code = 5) : opPlaneRestore c t = .wait .device [t.sn] t :=
  if_neg (not_not_intro h)

/-- PLANE_OFFLINE of a plane in STANDBY, SUSPECT or RESYNC. -/
theorem opPlaneOffline_released (h : (pstat t (c.target + 1)).code = 2 ∨ (pstat t (c.target + 1)).code = 3
    ∨ (pstat t (c.target + 1)).code = 4) : opPlaneOffline c t = okRes 0 (toState (c.target + 1) 5 0 t) :=
  if_neg (by omega)

/-- PLANE_SWAP with a fit standby plane takes the present cut, or waits for a later one (11 R365). -/
theorem opPlaneSwap_fit (hf : fit t (otherPlane (activeNo t)) = true) :
    opPlaneSwap c t = if swapCut t then okSn (swapPlanes t) else .wait .device [t.sn] t :=
  if_neg (by simp [hf])

theorem opPlaneConfig_nonzero (h : par c 0 ≠ 0) :
    opPlaneConfig c t = okRes 0 (setLed { t.led with suspLim := (par c 0).toNat } t) := if_neg h

/-! LEDGER_STATUS and JOURNAL_READ (11 Table 11-17) -/

theorem opLedgerStatus_newest {e : JEntry} (h : par c 0 = 0) (he : t.led.journal.getLast? = some e) :
    opLedgerStatus c t = okRes (dw e.jseq.toNat) t := by
  simp [opLedgerStatus, h, he]

theorem opLedgerStatus_oldest {e : JEntry} (h : par c 0 = 1) (he : t.led.journal.head? = some e) :
    opLedgerStatus c t = okRes (dw e.jseq.toNat) t := by
  simp [opLedgerStatus, h, he]

/-- The sequences of an empty ring are not given (log entry 2). -/
theorem opLedgerStatus_ofEmpty (h : par c 0 = 0 ∨ par c 0 = 1) (he : t.led.journal = []) :
    opLedgerStatus c t = okRes (takeFree t).1 (takeFree t).2 := by
  obtain h | h := h
  · simp [opLedgerStatus, h, he]
  · simp [opLedgerStatus, h, he]

theorem opLedgerStatus_replaced (h : par c 0 = 2) : opLedgerStatus c t = okRes (dw t.led.replaced) t := by
  rw [opLedgerStatus, h]
  rfl

theorem opLedgerStatus_writeErrs (h : par c 0 = 3) : opLedgerStatus c t = okRes (dw t.led.writeErrs) t := by
  rw [opLedgerStatus, h]
  rfl

theorem opLedgerStatus_powerCycles (h : par c 0 = 4) : opLedgerStatus c t = okRes t.led.pcc t := by
  rw [opLedgerStatus, h]
  rfl

theorem opLedgerStatus_operatingSeconds (h : par c 0 = 5) :
    opLedgerStatus c t = okRes (dw t.clock.opsec.toNat) t := by
  rw [opLedgerStatus, h]
  rfl

/-- The journal from an entry that stands in it is not empty. -/
theorem journalFrom_ne_nil {l : List JEntry} {q : Word} (h : (l.any fun e => e.jseq == q) = true) :
    (l.dropWhile fun e => e.jseq != q) ≠ [] := by
  obtain ⟨e, he, hq⟩ := List.any_eq_true.1 h
  intro hnil
  have hne := List.dropWhile_eq_nil_iff.1 hnil e he
  simp [beq_iff_eq.1 hq] at hne

/-- JOURNAL_READ of at least one entry into a write window, from one that stands in the journal. -/
theorem opJournalRead_ofStanding (h1 : 1 ≤ (par c 1).toNat) (hn : (par c 1).toNat ≤ 65536)
    (hw : inWindow t true (addrAt c 2) (par c 4).toNat = true)
    (hs : (t.led.journal.any fun e => e.jseq == par c 0) = true) :
    let es := takeEntries (par c 1).toNat (par c 4).toNat (t.led.journal.dropWhile fun e => e.jseq != par c 0)
    opJournalRead c t
      = .write (addrAt c 2) (bytesOf (es.flatMap journalWords)) (dword (word (es.map entryBytes).sum) (word es.length)) t := by
  refine (if_neg ?range).trans <| (if_neg ?window).trans (if_neg ?stands)
  case range => omega
  case window => simp [hw]
  case stands => simpa using journalFrom_ne_nil hs

/-! Firmware slots (12 R384, R387) -/

/-- FW_STAGE of an image that a read window holds, into the slot not selected, with the lock open. -/
theorem opFwStage_accepted (h1 : 1 ≤ (par c 2).toNat) (hn : (par c 2).toNat ≤ fwMax)
    (hw : inWindow t false (addrAt c 0) (par c 2).toNat = true) (hs : c.target ≠ t.led.fwSel) (hk : lockOpen t = true)
    (hd : t.mem.dram ≠ 2) :
    let u := stageWords 0 (c.image.take ((par c 2).toNat / 4)) t
    opFwStage c t = .wait .device [] (setFwSlot c.target (fwParse (planeBuf u (readNo u))) u) := by
  refine (if_neg ?range).trans <| (if_neg ?window).trans <| (if_neg hs).trans <| (if_neg ?lock).trans (if_neg hd)
  case range => omega
  case window => simp [hw]
  case lock => simp [hk]

theorem opFwSelect_valid (hv : (fwSlot t c.target).valid = true) (hk : lockOpen t = true) :
    opFwSelect c t = .wait .device [] t := by
  simp [opFwSelect, hv, hk]

end

/-- Settles O12, command by command (the sequences of an empty journal: log entry 2). -/
theorem planeAndLedgerCommandsComplete : Obligations.PlaneAndLedgerCommandsComplete := by
  refine ⟨?_, fun h => ?_, ?_, ?_, ?_, ?_, ?_, fun e => ?_, fun e => ?_, ?_, ?_, ?_, ?_, ?_, ?_, ?_, ?_⟩
  · exact completes_of_core (core := opPlaneStatus) (fun _ _ => rfl) fun c t _ => rfl
  · exact completes_of_core (fun _ _ => rfl) fun c t hh => opPlaneHealth_reported hh
  · exact completes_of_core (fun _ _ => rfl) fun c t h => opPlaneRestore_offline h
  · exact completes_of_core (fun _ _ => rfl) fun c t h => opPlaneOffline_released h
  · exact completes_of_core (fun _ _ => rfl) fun c t ⟨hf, hq⟩ => (opPlaneSwap_fit hf).trans (if_pos hq)
  · exact completes_of_core (fun _ _ => rfl) fun c t ⟨hf, hq⟩ => (opPlaneSwap_fit hf).trans (if_neg (by simp [hq]))
  · exact completes_of_core (fun _ _ => rfl) fun c t h => opPlaneConfig_nonzero h
  · exact completes_of_core (fun _ _ => rfl) fun c t ⟨h, he⟩ => opLedgerStatus_newest h he
  · exact completes_of_core (fun _ _ => rfl) fun c t ⟨h, he⟩ => opLedgerStatus_oldest h he
  · exact completes_of_core (fun _ _ => rfl) fun c t ⟨h, he⟩ => opLedgerStatus_ofEmpty h he
  · exact completes_of_core (fun _ _ => rfl) fun c t h => opLedgerStatus_writeErrs h
  · exact completes_of_core (fun _ _ => rfl) fun c t h => opLedgerStatus_replaced h
  · exact completes_of_core (fun _ _ => rfl) fun c t h => opLedgerStatus_powerCycles h
  · exact completes_of_core (fun _ _ => rfl) fun c t h => opLedgerStatus_operatingSeconds h
  · exact completes_of_core (fun _ _ => rfl) fun c t ⟨h1, hn, hw, hs⟩ => opJournalRead_ofStanding h1 hn hw hs
  · exact completes_of_core (fun _ _ => rfl) fun c t ⟨h1, hn, hw, hs, hk, hd⟩ => opFwStage_accepted h1 hn hw hs hk hd
  · exact completes_of_core (fun _ _ => rfl) fun c t ⟨hv, hk⟩ => opFwSelect_valid hv hk

end Sys2Proof.Machine
end

/-! The rows of the umpire (O24). -/
section
namespace Sys2Proof.Machine

theorem pstat_of_ump {s t : State} (h : t.ump = s.ump) (p : Nat) : pstat t p = pstat s p := by rw [pstat, pstat, h]

theorem planeOf_setPlane_same (p : Nat) (v : Plane) (s : State) : planeOf (setPlane p v s) p = v := by
  unfold planeOf setPlane
  split <;> rfl

/-- A row of an existing plane whose conditions are met takes its effect. -/
theorem guarded_past {b : Bool} {g : Prop} [Decidable g] {s t : State} (hb : b = true) (hg : ¬ g) :
    guarded b (if g then s else t) = .next t := by
  rw [if_neg hg, guarded_of_true hb]

theorem activeNo_planeA {s : State} (h : s.ump.a.code = 1) : activeNo s = 1 := if_pos h

section
variable {s : State} {p : Nat}

/-! Resynchronisation (11 R369, R370) -/

@[simp] theorem pstat_copyTo (q : Nat) : pstat (copyTo p s) q = pstat s q := pstat_of_ump (setPlane_ump p _ s) q

@[simp] theorem pstat_takeTime (q : Nat) : pstat (takeTime p s) q = pstat s q := pstat_of_ump (setPlane_ump p _ s) q

/-- A plane keeps its own time base over a copy (11 R369). -/
theorem copyTo_clk : (planeOf (copyTo p s) p).clk = (planeOf s p).clk := by rw [copyTo, planeOf_setPlane_same, copySet]

/-- The plane's R_REF is its own R at the cut (15 R486). -/
theorem takeTime_rRef : (planeOf (takeTime p s) p).clk.rRef = (planeOf s p).clk.r + 4000 := by
  rw [takeTime, planeOf_setPlane_same]

section
variable (hp : isPlane p = true)
include hp

section
variable (hr : halted s = false) (h4 : (pstat s p).code = 4) (hf : (pstat s p).finalCut = false)
include hr h4 hf

theorem execResyncCopyRound_running (hsw : s.ump.sw = none) : execResyncCopyRound p s
    = .next (setPstat p { pstat s p with copied := true } (copyTo p s)) := by
  rw [← pstat_copyTo (p := p) p]
  exact guarded_past hp (by simp [h4, hf, hr, hsw])

/-- The final cut follows a round on a quiet tick, once the plane is aligned (18 R546). -/
theorem execResyncFinalCut_quiet (hq : quietTick s = true) (ha : (pclk s p).aligned = true)
    (hc : (pstat s p).copied = true) (ht : (pstat s p).ticks < 100000) : execResyncFinalCut p s
    = .next (raiseAt (s.sn + 1) 0x1D4 (2 + p * 2 ^ 8) (setPstat p
        { pstat s p with finalCut := true, finalSn := s.sn + 1, resyncAgree := 0 } (takeTime p (copyTo p s)))) := by
  rw [← pstat_copyTo (p := p) p, ← pstat_takeTime (p := p) p]
  exact guarded_past hp (by simp [h4, hf, hr, hq, ha, hc, ht])

end

theorem execResyncComplete_agreed (h4 : (pstat s p).code = 4) (ha : 1000 ≤ (pstat s p).resyncAgree) :
    execResyncComplete p s = .next (raise 0x1D4 (3 + p * 2 ^ 8) (toState p 2 0 s)) :=
  guarded_past hp (by omega)

theorem execResyncTimeout_due (h4 : (pstat s p).code = 4) (hf : (pstat s p).finalCut = false)
    (ht : 100000 ≤ (pstat s p).ticks) : execResyncTimeout p s = .next (toState p 5 0 s) :=
  guarded_past hp (by simp [h4, hf, ht])

/-! Resignation, health, self-test and diagnosis (11 R353, R366 to R368) -/

theorem execPlaneResignation_ofClass {cls : Nat} (h1 : 1 ≤ cls) (h5 : cls ≤ 5) (unit : Nat) :
    execPlaneResignation p cls unit s = .next (lose p cls (unit % 256) false s) := by
  have hp' : (p == 1 || p == 2) = true := hp
  exact guarded_of_true (by simp [hp', h1, h5]) _

/-- The report of a 100th STANDBY tick arrives (11 R367). -/
theorem execHealthReport_arrived (hr : halted s = false) (h2 : (pstat s p).code = 2)
    (ht : (pstat s p).ticks % 100 = 0) (hn : (pstat s p).repTick = false) : execHealthReport p true s
    = .next (setPstat p { pstat s p with
        repTick := true, repMissed := 0, health := some (healthWord (pstat s p)), repSeq := (pstat s p).repSeq + 1 } s) :=
  guarded_past hp (by simp [h2, ht, hn, hr])

theorem execSelfTestSlice_passed (hr : halted s = false) (h2 : (pstat s p).code = 2) : execSelfTestSlice p true s
    = .next (setPstat p
        (if (pstat s p).slicePos + 1 = 152 then { pstat s p with slicePos := 0, rotations := (pstat s p).rotations + 1 }
          else { pstat s p with slicePos := (pstat s p).slicePos + 1 }) s) :=
  guarded_past hp (by simp [h2, hr])

theorem execDiagnosisPassed_inTime (hr : halted s = false) (h3 : (pstat s p).code = 3) (ht : (pstat s p).ticks < 100000)
    (hc : causeStands s p = false) : execDiagnosisPassed p s = .next (toState p 4 0 s) :=
  guarded_past hp (by simp [h3, ht, hr, hc])

theorem execSuspectTimeout_due (h3 : (pstat s p).code = 3) (ht : 100000 ≤ (pstat s p).ticks) :
    execSuspectTimeout p s = .next (toState p 5 0 s) :=
  guarded_past hp (by omega)

end

/-! Heartbeats (11 R351) -/

/-- The CRC of a heartbeat covers every word but itself. -/
theorem heartbeatCounts_heartbeatOf (s : State) (p : Nat) : heartbeatCounts s (some (heartbeatOf s p)) = true := by
  have hcrc : (heartbeatOf s p).crc = heartbeatCrc (heartbeatOf s p) := rfl
  have hsn : (heartbeatOf s p).sn = s.sn := rfl
  simp only [heartbeatCounts, hsn, beq_self_eq_true, Bool.true_and]
  exact beq_iff_eq.2 hcrc

/-- A heartbeat with a wrong CRC, or of another sample, does not count. -/
theorem heartbeatCounts_of_bad {h : Heartbeat} (hb : h.crc ≠ heartbeatCrc h ∨ h.sn ≠ s.sn) :
    heartbeatCounts s (some h) = false := by
  simp only [heartbeatCounts, Bool.and_eq_false_iff, beq_eq_false_iff_ne]
  exact hb.symm

/-- With Plane A ACTIVE and its heartbeat counted, the deadline judges the heartbeat of Plane B in STANDBY. -/
theorem execHeartbeatDeadline_activeA {hbA hbB : Option Heartbeat} (hr : halted s = false) (ha : s.ump.a.code = 1)
    (hb : s.ump.b.code = 2) (hcount : heartbeatCounts s hbA = true) : execHeartbeatDeadline hbA hbB s
    = .next (if heartbeatCounts s hbB then resignsTold s else lose 2 3 s.ump.b.unit true (resignsTold s)) := by
  have hstat : pstat (resignsTold s) 2 = { s.ump.b with resigned := 0 } := rfl
  simp [execHeartbeatDeadline, hr, activeNo_planeA ha, otherPlane, hcount, hstat, hb]

section
variable (hr : halted s = false)
include hr

theorem execSignatureExchange_running (hp : s.boot.preTick = false) :
    execSignatureExchange s = .next (signatureExchange s) := by
  simp [execSignatureExchange, hr, hp]

/-- Plane A, alone in service, passes its check roll and stays in place (11 Table 11-5). -/
theorem execCheckRollVerdict_activePasses {r : Roll} (hroll : s.ump.roll = some r) (ha : s.ump.a.code = 1)
    (hb : s.ump.b.code ≠ 2) : execCheckRollVerdict true true s
    = .next (rollStays r 1 (raise 0x1D0 4 (nameUnits 2 r.units (nameUnits 1 r.units s)))) := by
  have hstat : (pstat s 2).code ≠ 2 := hb
  simp [execCheckRollVerdict, hr, checkRollVerdict, hroll, activeNo_planeA ha, otherPlane, hstat]

end

/-- At the first t0 + 8.0 µs from the deadline of the switch-over on (11 R359). -/
theorem execSwitchoverElection_due {x : Switch} (hx : s.ump.sw = some x) (hl : snLater x.electAt s.sn = false)
    (hd : s.ump.relDone = true) : execSwitchoverElection s = .next (elect false s) := by
  simp [execSwitchoverElection, hx, hl, hd]

end

/-- Settles O24: each row past its guards (the whole copy in each round of a resynchronisation: log entry 117). -/
theorem umpireRowsTakeEffect : Obligations.UmpireRowsTakeEffect := by
  refine ⟨fun s p hp => ⟨fun cls unit h1 h5 => execPlaneResignation_ofClass hp h1 h5 unit, execHealthReport_arrived hp,
    execSelfTestSlice_passed hp, execDiagnosisPassed_inTime hp, execSuspectTimeout_due hp,
    fun hr h4 hf hsw => ⟨execResyncCopyRound_running hp hr h4 hf hsw, fun hq ha hc ht => ⟨?_, ?_⟩⟩,
    execResyncComplete_agreed hp, execResyncTimeout_due hp⟩,
    fun s hr => ⟨execSignatureExchange_running hr, fun ha hb hA hB hcount => ⟨?_, fun hbad => ?_, fun hok => ?_⟩,
    heartbeatCounts_heartbeatOf s, fun r => execCheckRollVerdict_activePasses hr⟩, fun s x => execSwitchoverElection_due⟩
  · exact execResyncFinalCut_quiet hp hr h4 hf hq ha hc ht
  · rw [takeTime_rRef, copyTo_clk]
  · exact execHeartbeatDeadline_activeA hr hA hB hcount
  · exact (execHeartbeatDeadline_activeA hr hA hB hcount).trans (by rw [heartbeatCounts_of_bad hbad]; rfl)
  · exact (execHeartbeatDeadline_activeA hr hA hB hcount).trans (by rw [hok]; rfl)

end Sys2Proof.Machine
end

/-! The queue of waiting commands over the rows that move the spine (12 R381, R382, 18 R564): the input cut, resets and the
power-down, the restoration and the sealed read. -/

section
namespace Sys2Proof.Machine

variable {s t : State}

@[simp] theorem raise_pending (src data : Nat) (s : State) : (raise src data s).pending = s.pending :=
  pending_of_spine (raise_spine src data s)

/-! The input cut -/

/-- The advance moves SN and whether a first cut is still to come; nothing in it takes a command from the queue. -/
theorem advanceSn_pending (s : State) : (advanceSn s).pending = s.pending := by
  unfold advanceSn
  dsimp only
  rw [pending_of_spine (enterReady_spine _), pending_of_spine (supplyTick_spine _)]
  refine (pending_of_spine (timeCut_spine _)).trans ?_
  rfl

theorem inputCut_pending (gp enc : List Word) (bad : BitVec 16) (s : State) :
    (inputCut gp enc bad s).pending = s.pending := by
  cases hr : cutRuns s with
  | false => rw [inputCut_of_not_runs gp enc bad hr, pending_of_spine (orderCut_spine s)]
  | true =>
    have e : (endSample (orderCut s)).spine = s.spine := by simp
    rw [pending_of_spine (inputCut_spine_of_runs gp enc bad hr), advanceSn_pending, pending_of_spine e]

/-! Resets and the power-down (log entries 18 and 79) -/

/-- A reset that leaves AON, UMP and LDG alone leaves the queue alone, too. -/
@[simp] theorem keepLdg_pending (s : State) : (keepLdg s).pending = s.pending := rfl

theorem warmReset_pending (s : State) : (warmReset s).pending = s.pending := by
  have e : (keepLdg (flushEvents (linkFall s))).pending = s.pending :=
    (keepLdg_pending _).trans (pending_of_spine (by simp))
  unfold warmReset
  dsimp only
  split
  · exact e
  · exact (pending_of_spine (enterStart_spine _ _)).trans e

theorem standbyDown_pending (s : State) : (standbyDown s).pending = s.pending := by
  unfold standbyDown
  dsimp only
  rw [keepLdg_pending]
  exact pending_of_spine (by simp)

theorem afterState_pending (h : t.spine = s.spine) : (afterState s t).pending = s.pending := by
  unfold afterState
  split
  · exact (standbyDown_pending t).trans (pending_of_spine h)
  · exact pending_of_spine h

theorem execForwardedCommit_pending {qp : Nat} {fwd : Forwarded} (h : execForwardedCommit qp fwd s = .next t) :
    t.pending = s.pending := by
  obtain ⟨-, rfl⟩ := guarded_next h
  split
  · rfl
  · exact afterState_pending (by simp)

theorem execWarmRstFall_pending (h : execWarmRstFall s = .next t) : t.pending = s.pending := by
  obtain rfl := next_inj h
  split
  · rfl
  · dsimp only
    split
    · rfl
    · split
      · rfl
      · split
        · exact pending_of_spine (by simp)
        · exact warmReset_pending _

/-! The restoration and the sealed read -/

theorem restoreOnce_pending (k : Nat) (s : State) : (restoreOnce k s).pending = s.pending := by
  have hmarks : ∀ (l : List (Option Ckpt)) (u : State), (forEach l (fun _ v => raise 0x1C9 3 v) u).pending = u.pending :=
    fun l u => forEach_keeps State.pending l _ (fun _ _ => raise_pending _ _ _) u
  unfold restoreOnce
  split
  · rfl
  · dsimp only
    split
    · simp
    · split <;> simp [hmarks]

theorem loadRestore_pending (k : Nat) (s : State) : (loadRestore k s).pending = s.pending := by
  rw [loadRestore, pending_of_spine (afterRestart_spine _), restoreOnce_pending, setPlane_pending]

theorem execPlaneReady_pending {plane : Nat} (h : execPlaneReady plane s = .next t) : t.pending = s.pending := by
  obtain ⟨-, rfl⟩ := guarded_next h
  split
  · rfl
  · rw [pending_of_spine (postLoaded_spine _ _), setPstat_pending, loadRestore_pending]

theorem loadSeal_pending (s : State) : (loadSeal s).pending = s.pending := by
  unfold loadSeal
  split
  · exact raise_pending _ _ _
  · dsimp only
    split
    · rfl
    · exact raise_pending _ _ _

theorem sealedRead_pending (s : State) : (sealedRead s).pending = s.pending := by
  have h : (sealedRead s).spine = (loadSeal s).spine := by simp [sealedRead]
  rw [pending_of_spine h, loadSeal_pending]

theorem execRcStable_pending {src : Nat} (h : execRcStable src s = .next t) : t.pending = s.pending := by
  obtain ⟨-, rfl⟩ := guarded_next h
  unfold rcStable
  dsimp only
  split
  · rfl
  · split
    · rfl
    · split
      · exact (sealedRead_pending _).trans (pending_of_spine (by simp))
      · rfl

/-- Settles O45: over the rows, with the spine for those that cannot move it; that a reset, too, leaves the queue to the
outside world is the model's interface (log entries 18 and 79). -/
theorem commandsKeepTheQueue : Obligations.CommandsKeepTheQueue := by
  intro c s t h
  cases hm : movesSpine c with
  | false => exact pending_of_spine (exec_keeps c s hm t h)
  | true =>
    cases c
    case inputCut gp enc bad =>
      obtain rfl := next_inj h
      exact inputCut_pending gp enc bad s
    case setState c =>
      obtain rfl := next_inj h
      exact afterState_pending (by simp)
    case forwardedCommit qp fwd => exact execForwardedCommit_pending h
    case planeReady p => exact execPlaneReady_pending h
    case rcStable k => exact execRcStable_pending h
    case porstAssert =>
      obtain rfl := next_inj h
      rfl
    case warmRstFall => exact execWarmRstFall_pending h
    case warmResetApply =>
      obtain rfl := next_inj h
      split
      · exact warmReset_pending s
      · rfl
    all_goals cases hm

end Sys2Proof.Machine
end

/-! The rows of start-up past their guards (12 R386 to R397, 18 R540 to R551). -/

section
namespace Sys2Proof.Machine

section
variable {s : State} {k p : Nat}

/-! Sources that become stable (18 R540, R550) -/

/-- An RC source that has run its count; the domains that the fast RC powers are those of log entry 30. -/
theorem rcStable_counted (hr : (clkSrc s k).running = true) (hs : (clkSrc s k).stable = false) :
    let t := setClkSrc k { clkSrc s k with counted := true, stable := true, lost := false } s
    rcStable k s =
      if k = 4 then { t with clock := { t.clock with smArmed := srcSound s 2 } }
      else if s.dev = .start then sealedRead (wakeDram (forEach rcDomains (setPower · true) t)) else t := by
  simp [rcStable, hr, hs]

/-- A crystal is judged stable by its monitor: the slow RC for XTAL32, the fast RC or the umpire PLL for the others. -/
theorem crystalStable_judged (hr : (clkSrc s k).running = true) (hs : (clkSrc s k).stable = false)
    (hl : (clkSrc s k).lost = false) (hm : (if k = 2 then srcSound s 4 else xmArmed s) = true) :
    let t := setClkSrc k { clkSrc s k with counted := true, stable := true } s
    crystalStable k s = if k = 2 then takeXtal32 t else t := by
  simp only [crystalStable, hr, hs, hl, hm, Bool.not_true, Bool.or_self, Bool.false_eq_true, if_false]

/-- What a boot ROM finds of a slot leaves the findings of the planes as they are. -/
@[simp] theorem holdsImage_fwFound (found : Bool) : (holdsImage k found s).boot.fwFound = s.boot.fwFound := by
  unfold holdsImage
  split
  · rfl
  · rfl

/-! A plane in start-up (12 R386 to R388, R397, 18 R542, R551) -/

section
variable (hp : isPlane p = true) (hst : starting s p = true)
include hp hst

section
variable (hx : srcSound s (p - 1) = true) (hk : (pclk s p).locked = false)
include hx hk

theorem execPllLock_sound : execPllLock p s = .next (bootLevel p (forEach (planeDomains p) (setPower · true)
    (setPclk p { pclk s p with locked := true } (setPstat p { pstat s p with pllLocked := true } s)))) :=
  guarded_past hp (by simp [hst, hx, hk])

theorem execPllLockTimeout_unlocked : execPllLockTimeout p s = .next (startFail p 2 s) :=
  guarded_past hp (by simp [hst, hx, hk])

end

theorem execCrystalStartTimeout_unsound (hx : srcSound s (p - 1) = false) :
    execCrystalStartTimeout p s = .next (startFail p 1 s) :=
  guarded_past hp (by simp [hst, hx])

theorem execFirmwareChecked_locked (hk : (pstat s p).pllLocked = true) (f0 f1 : Bool) :
    execFirmwareChecked p f0 f1 s = .next (
      let t := holdsImage 1 (fwFinds f1 s 1) (holdsImage 0 (fwFinds f0 s 0) s)
      fwSettle { t with boot := { t.boot with
        fwFound := tput (tdel s.boot.fwFound p) p (fwFinds f0 s 0, fwFinds f1 s 1) } }) := by
  have hf : (holdsImage 1 (fwFinds f1 s 1) (holdsImage 0 (fwFinds f0 s 0) s)).boot.fwFound = s.boot.fwFound := by simp
  rw [← hf]
  exact guarded_past hp (by simp [hst, hk])

theorem execSelfTestDone_untested (hf : (pstat s p).fwOk = true) (ht : (pstat s p).testDone = false) (pass : Bool) :
    execSelfTestDone p pass s
      = .next (if pass then setPstat p { pstat s p with testDone := true } s else startFail p 4 s) := by
  rw [execSelfTestDone, if_pos hst]
  exact guarded_past hp (by simp [hf, ht])

theorem execPlaneReady_tested (ht : (pstat s p).testDone = true) (hn : (pstat s p).ready = false) :
    execPlaneReady p s
      = .next (postLoaded p (setPstat p { pstat (loadRestore p s) p with ready := true } (loadRestore p s))) :=
  guarded_past hp (by simp [hst, ht, hn])

theorem execStartupTimeout_unready (he : electable s p = false) : execStartupTimeout p s = .next (startFail p 7 s) :=
  guarded_past hp (by simp [hst, he])

end

/-! The election (12 R389) -/

theorem electees_of_both (h1 : electable s 1 = true) (h2 : electable s 2 = true) : electees s = [1, 2] := by
  simp [electees, h1, h2]

theorem startupElection_both (hd : s.dev = .start) (ha : activeNo s = 0) (h1 : electable s 1 = true)
    (h2 : electable s 2 = true) : startupElection s = toState 2 2 0 (toState 1 1 0 s) := by
  simp [startupElection, hd, ha, electees_of_both h1 h2]

end

/-- Settles O36: each row past its guards (the domains that the fast RC powers: log entry 30). -/
theorem startupRowsTakeEffect : Obligations.StartupRowsTakeEffect := by
  refine ⟨fun s k hk hr hs => ?_, fun s k hk hr hs hl hx => ?_, fun s hr hs hl hx => ?_,
    fun s p hp hst => ⟨fun hx hk => ⟨execPllLock_sound hp hst hx hk, execPllLockTimeout_unlocked hp hst hx hk⟩,
      execCrystalStartTimeout_unsound hp hst, execFirmwareChecked_locked hp hst,
      fun hf ht => ⟨execSelfTestDone_untested hp hst hf ht true, execSelfTestDone_untested hp hst hf ht false⟩,
      execPlaneReady_tested hp hst, execStartupTimeout_unready hp hst⟩,
    fun s ha hd h1 h2 => congrArg Host.Outcome.next (startupElection_both hd ha h1 h2)⟩
  · rw [exec_rcStable, execRcStable, guarded_of_true (by simpa using hk), rcStable_counted hr hs]
  · have h2 : k ≠ 2 := Nat.ne_of_lt hk
    rw [exec_crystalStable, execCrystalStable, guarded_of_true (by simp; omega),
      crystalStable_judged hr hs hl (by rwa [if_neg h2]), if_neg h2]
  · rw [exec_crystalStable, execCrystalStable, guarded_of_true (by decide), crystalStable_judged hr hs hl hx, if_pos rfl]

end Sys2Proof.Machine
end

/-! The commands of memory, DMA and the turn table (O13). -/
section
namespace Sys2Proof.Machine

section
variable {c : Sub} {t : State}

theorem opMemStatus_count (h : (par c 0).toNat < 7) : opMemStatus c t = okRes (dw (tget 0 t.mem.counts (par c 0).toNat)) t :=
  (if_neg (by omega)).trans (if_neg (by omega))

theorem opMemStatus_dram (h : par c 0 = 7) : opMemStatus c t = okRes (dw t.mem.dram) t := by
  rw [opMemStatus, h]
  rfl

/-- A turn table of the six requester codes, with as many slots of code 4 as of code 5 (13 R412). -/
theorem opTurnSet_balanced (hk : (((upTo 64).map (turnSlot c)).all fun k => decide (k < 6)) = true)
    (hn : (((upTo 64).map (turnSlot c)).filter (· == 4)).length = (((upTo 64).map (turnSlot c)).filter (· == 5)).length) :
    opTurnSet c t = okSn (setMem { t.mem with turnPending := some (turnTab (turnSlot c)) } t) := by
  have hcodes : (((upTo 64).map (turnSlot c)).any fun k => decide (6 ≤ k)) = false := by
    rw [List.any_eq_false]
    intro k hm
    have := of_decide_eq_true (List.all_eq_true.1 hk k hm)
    simpa using this
  refine if_neg ?_
  simp only [hcodes, hn, bne_self_eq_false, Bool.or_self, Bool.false_eq_true, not_false_eq_true]

theorem opTurnRead_ofQuarter (h : (par c 0).toNat ≤ 3) : opTurnRead c t
    = okRes (dw (((upTo 16).map fun i => turnOwner t (16 * (par c 0).toNat + i) * 16 ^ i).sum)) t := if_neg (by omega)

theorem opMemScrub_inRange (h : (par c 0).toNat = 0 ∨ (60 ≤ (par c 0).toNat ∧ (par c 0).toNat ≤ 86400)) : opMemScrub c t
    = okSn (setMem { t.mem with
        scrub := (par c 0).toNat, scrubTicks := t.mem.scrubPos * ((par c 0).toNat * 100000) / scrubBlocks } t) :=
  if_neg (by omega)

end

/-- Settles O13, command by command. -/
theorem memoryCommandsComplete : Obligations.MemoryCommandsComplete := by
  refine ⟨?_, ?_, ?_, ?_, ?_⟩
  · exact completes_of_core (fun _ _ => rfl) fun c t h => opMemStatus_count h
  · exact completes_of_core (fun _ _ => rfl) fun c t h => opMemStatus_dram h
  · exact completes_of_core (fun _ _ => rfl) fun c t ⟨hk, hn⟩ => opTurnSet_balanced hk hn
  · exact completes_of_core (fun _ _ => rfl) fun c t h => opTurnRead_ofQuarter h
  · exact completes_of_core (fun _ _ => rfl) fun c t h => opMemScrub_inRange h

end Sys2Proof.Machine
end

/-! The commands of the analogue front end (O14). -/
section
namespace Sys2Proof.Machine

section
variable {c : Sub} {t : State}

theorem opAiConfig_inRange (hw : aiCfgOk c.target (par c 0) = true) (hu : t.dev = .ready ∨ aiInUse t c.target = false) :
    opAiConfig c t = ifScheduled (agroup t (c.target / 16)).low (c.target / 16) t (setAi c.target { aiOf t c.target with
      cfg := some (par c 0), scale := par c 1, offs := par c 2, cfgAge := 0, nxt := none, pend := none
      have_ := (aiOf t c.target).have_ && aiInj (par c 0) == aiInj (aiCfg t c.target)
      nfail := (aiOf t c.target).nfail && aiNe43 (par c 0), nrun := 0 } t) := by
  refine (if_neg ?range).trans (if_neg ?free)
  case range => simp [hw]
  case free =>
    obtain hd | hn := hu
    · simp [hd]
    · simp [hn]

/-- AFE_SEQ of a trigger in range and of distinct injected channels of the group (14 R438). -/
theorem opAfeSeq_inRange (hk : field (par c 0) 0 4 ≤ 4)
    (hp : field (par c 0) 0 4 = 1 ∨ field (par c 0) 0 4 = 2 → field (par c 0) 8 7 ≤ 63)
    (hl : ((injList (par c 2)).all fun ch => ch / 16 == c.target && aiInj (aiCfg t ch)) = true)
    (hn : (injList (par c 2)).eraseDups = injList (par c 2)) (hd : t.dev = .ready) : opAfeSeq c t
    = ifScheduled (agroup t c.target).low c.target t (setAgroup c.target { agroup t c.target with
        trig := field (par c 0) 0 4, trigPin := field (par c 0) 8 7, delay := field (par c 1) 0 16
        inj := injList (par c 2) } t) := by
  have hch : ∀ ch ∈ injList (par c 2), ch / 16 = c.target ∧ aiInj (aiCfg t ch) = true := by simpa using hl
  have hpin : (!((field (par c 0) 0 4 == 1 || field (par c 0) 0 4 == 2) && decide (63 < field (par c 0) 8 7))) = true := by
    simpa [imp_iff_not_or] using hp
  have hgroup : ((injList (par c 2)).all fun ch => ch / 16 == c.target) = true :=
    List.all_eq_true.2 fun ch hm => beq_iff_eq.2 (hch ch hm).1
  have hform : seqForm c = true := by
    simp only [seqForm, decide_eq_true hk, hpin, hgroup, hn, beq_self_eq_true, Bool.and_self]
  have hinj : ((injList (par c 2)).any fun ch => !aiInj (aiCfg t ch)) = false :=
    List.any_eq_false.2 fun ch hm => by simp [(hch ch hm).2]
  refine (if_neg ?form).trans (if_neg ?dev)
  case form => simp only [hform, hinj, Bool.not_true, Bool.false_eq_true, or_self, not_false_eq_true]
  case dev => exact not_not_intro hd

section
variable (hd : t.dev = .ready)
include hd

theorem opAoConfig_inReady (h : (par c 0).toNat ≤ 2) : opAoConfig c t
    = okSn (setAnalog { t.analog with aoRange := tset 0 t.analog.aoRange c.target (par c 0).toNat } t) :=
  (if_neg (by omega)).trans (if_neg (not_not_intro hd))

theorem opClConfig_inReady (hdir : field (par c 0) 2 2 ≠ 3) (hdly : bit (par c 0) 0 = true → field (par c 0) 8 8 ≠ 0) :
    opClConfig c t = okSn (alarmEnds c.target (setCl c.target { clOf t c.target with
      use := bit (par c 0) 0, dir := field (par c 0) 2 2, dly := field (par c 0) 8 8, sel := field (par c 0) 16 2
      src := field (par c 0) 22 10
      rqRun := if (clOf t c.target).use && (clOf t c.target).src == field (par c 0) 22 10
        && (clOf t c.target).sel == field (par c 0) 16 2 then (clOf t c.target).rqRun else 0 }
      (if (clOf t c.target).use && !bit (par c 0) 0 then clFresh c.target t else t))) :=
  (if_neg fun h => h.elim hdir fun h => hdly h.1 h.2).trans (if_neg (not_not_intro hd))

theorem opPwConfig_inReady (h : 200 ≤ (par c 0).toNat) : opPwConfig c t
    = okSn (setAnalog { t.analog with pw := tset {} t.analog.pw c.target { (tget {} t.analog.pw c.target : Pwm) with
        period := (par c 0).toNat, centre := bit (par c 1) 0, invert := bit (par c 1) 1, running := false, next := 1500 } } t) :=
  (if_neg (by omega)).trans (if_neg (not_not_intro hd))

/-- GP_CONFIG that leaves every pin an output that something owns (20 R611). -/
theorem opGpConfig_inReady (hl : ¬ (c.target = 3 ∧ t.boot.legacyEn = true))
    (ho : ((upTo 32).all fun b => bit (par c 0) b || !ownsGp (actPlane t) (32 * c.target + b)) = true) : opGpConfig c t
    = okSn (forEach (upTo 32) (fun b u => setGpDir (32 * c.target + b) (bit (par c 0) b) u) t) := by
  refine (if_neg hl).trans (if_neg ?_)
  rintro (h | h)
  · exact h hd
  · obtain ⟨b, hm, hb⟩ := List.any_eq_true.1 h
    obtain ⟨hin, hown⟩ := Bool.and_eq_true_iff.1 hb
    have hfree := List.all_eq_true.1 ho b hm
    simp only [(Bool.not_eq_true' _).mp hin, hown, Bool.not_true, Bool.or_self, Bool.false_eq_true] at hfree

end

theorem opAfeCal_withSpare (hp : field (par c 0) 0 12 ≤ 3600) (hs : (agroup t c.target).spare.isSome = true) :
    let x := agroup t c.target
    let per := field (par c 0) 0 12
    let tol := field (par c 0) 12 8
    let u := setAgroup c.target { x with
      calPeriod := if per = 0 then x.calPeriod else per, calTol := if tol = 0 then x.calTol else tol } t
    opAfeCal c t = .wait .device [] (if x.rot = 0 then startRotation c.target u else u) := by
  refine (if_neg ?period).trans (if_neg ?spare)
  case period => omega
  case spare => simpa [Option.isSome_iff_ne_none] using hs

/-- AFE_TEST of KIND 1 or, on a current input, 2 on a free channel (14 R444). -/
theorem opAfeTest_ofChannel (hk : par c 0 = 1 ∨ (par c 0 = 2 ∧ aiMode (aiCfg t c.target) = 2)) (hc : c.target < 64)
    (hu : aiInUse t c.target = false) (ht : (aiOf t c.target).test = none) : opAfeTest c t
    = .wait .device [] (setAi c.target { aiOf t c.target with test := some (par c 0).toNat, nxt := none, pend := none } t) := by
  obtain h | ⟨h, hm⟩ := hk
  · simp [opAfeTest, h, Nat.not_le.2 hc, hu, ht]
  · simp [opAfeTest, h, hm, Nat.not_le.2 hc, hu, ht]

theorem opAfeTest_ofGroup (hk : par c 0 = 0) (hc : 64 ≤ c.target) (hr : (agroup t (c.target - 64)).rot = 0)
    (hs : (agroup t (c.target - 64)).spare.isSome = true) : opAfeTest c t
    = .wait .device [] (setAgroup (c.target - 64) { agroup t (c.target - 64) with test0 := true } t) := by
  simp [opAfeTest, hk, hc, hr, Option.isSome_iff_ne_none.1 hs]

/-! AFE_STATUS (14 R453): what TARGET names decides the word -/

theorem opAfeStatus_channel (h : c.target < 64) : opAfeStatus c t
    = okRes (dword (aiStatusWord t c.target) (aiOf t c.target).value) t := if_pos h

theorem opAfeStatus_loop (h1 : 64 ≤ c.target) (h2 : c.target < 96) : opAfeStatus c t
    = okRes (dword (clStatusWord t (c.target - 64)) (clOf t (c.target - 64)).im) t :=
  (if_neg (Nat.not_lt.2 h1)).trans (if_pos h2)

theorem opAfeStatus_output (h1 : 96 ≤ c.target) (h2 : c.target < 128) : opAfeStatus c t
    = okRes (dw ((if tget false t.analog.ovld (c.target - 96) then 1 else 0)
        + tget 0 t.analog.aoRange (c.target - 96) * 2)) t :=
  (if_neg (by omega)).trans <| (if_neg (by omega)).trans (if_pos h2)

theorem opAfeStatus_group (h1 : 128 ≤ c.target) (h2 : c.target < 132) :
    let x := agroup t (c.target - 128)
    opAfeStatus c t = okRes (dw (x.roleA.getD 0xF + x.roleB.getD 0xF * 16 + x.spare.getD 0xF * 256
      + (if x.low then 4096 else 0) + (if x.rot = 0 then 0 else 8192) + x.rotations % 65536 * 65536
      + x.regDrop % 2 ^ 32 * 2 ^ 32)) t :=
  (if_neg (by omega)).trans <| (if_neg (by omega)).trans <| (if_neg (by omega)).trans (if_pos h2)

theorem opAfeStatus_loopSupply (h : c.target = 132) : opAfeStatus c t = okRes (dw t.analog.loopv) t :=
  (if_neg (by omega)).trans <| (if_neg (by omega)).trans <| (if_neg (by omega)).trans (if_neg (by omega))

end

/-- Settles O14, command by command. -/
theorem analogCommandsComplete : Obligations.AnalogCommandsComplete := by
  refine ⟨?_, ?_, ?_, ?_, ?_, ?_, ?_, ?_, ?_, ?_, ?_, ?_, ?_, ?_, ?_⟩
  · exact completes_of_core (fun _ _ => rfl) fun c t ⟨hw, hu⟩ => opAiConfig_inRange hw hu
  · exact completes_of_core (fun _ _ => rfl) fun c t ⟨hk, hp, hl, hn, hd⟩ => opAfeSeq_inRange hk hp hl hn hd
  · exact completes_of_core (fun _ _ => rfl) fun c t ⟨h, hd⟩ => opAoConfig_inReady hd h
  · exact completes_of_core (fun _ _ => rfl) fun c t ⟨hdir, hdly, hd⟩ => opClConfig_inReady hd hdir hdly
  · exact completes_of_core (fun _ _ => rfl) fun c t ⟨h, hd⟩ => opPwConfig_inReady hd h
  · exact completes_of_core (fun _ _ => rfl) fun c t ⟨hp, hs⟩ => opAfeCal_withSpare hp hs
  · exact completes_of_core (fun _ _ => rfl) fun c t ⟨hk, hc, hu, ht⟩ => opAfeTest_ofChannel hk hc hu ht
  · exact completes_of_core (fun _ _ => rfl) fun c t ⟨hk, hc, hr, hs⟩ => opAfeTest_ofGroup hk hc hr hs
  · exact completes_of_core (fun _ _ => rfl) fun c t h => opAfeStatus_channel h
  · exact completes_of_core (fun _ _ => rfl) fun c t ⟨h1, h2⟩ => opAfeStatus_loop h1 h2
  · exact completes_of_core (fun _ _ => rfl) fun c t ⟨h1, h2⟩ => opAfeStatus_output h1 h2
  · exact completes_of_core (fun _ _ => rfl) fun c t ⟨h1, h2⟩ => opAfeStatus_group h1 h2
  · exact completes_of_core (fun _ _ => rfl) fun c t h => opAfeStatus_loopSupply h
  · exact completes_of_core (core := opAfeMode) (fun _ _ => rfl) fun c t _ => rfl
  · exact completes_of_core (fun _ _ => rfl) fun c t ⟨hl, hd, ho⟩ => opGpConfig_inReady hd hl ho

end Sys2Proof.Machine
end

/-! The rows of the analogue front end (O32). -/
section
namespace Sys2Proof.Machine

/-- A row of an existing object whose condition is met takes the first branch. -/
theorem guarded_taken {b : Bool} {g : Prop} [Decidable g] {s t : State} (hb : b = true) (hg : g) :
    guarded b (if g then s else t) = .next s := by
  rw [if_pos hg, guarded_of_true hb]

section
variable {s : State}

/-! Input channels (14 R435, R436, R444) -/

section
variable {ch : Nat} (hch : ch < 64)
include hch

/-- A conversion in role A of a scheduled channel, with sound parity, neither dropped nor under test. -/
theorem execAiConversion_ofRoleA {codes : List Int} {k : Nat}
    (hs : ((schedule s (agroup s (ch / 16)).low (ch / 16) 1).find? fun e => e.1 == ch) = some (ch, some true))
    (hk : (agroup s (ch / 16)).roleA = some k) (hu : afeUp s (ch / 16 / 2) = true) (hn : (aiOf s ch).nxt = none)
    (ht : (aiOf s ch).test = none) (hd : (droppedChans s (ch / 16)).contains ch = false)
    (hl : codes.length = aiOvs (aiCfg s ch)) :
    let r := convertAi s ch k (agroup s (ch / 16)).low codes
    execAiConversion ch codes false s = .next (broadcastFrom 1 ch r.2.1 r.2.2 (s.sn + 1) 99 0
      (convEvents ch (aiOf s ch) r.1 (setAi ch { r.1 with nxt := some r.2 } s))) := by
  simp only [execAiConversion, hs, hk, hu, hn, ht, hd, hl, Bool.not_true, Option.isSome_none, bne_self_eq_false,
    Bool.or_self, Bool.false_eq_true, if_false]
  exact guarded_of_true (decide_eq_true hch) _

theorem execNe43Recovery_afterRun (hf : (aiOf s ch).nfail = true) (hr : 10 ≤ (aiOf s ch).nrun) : execNe43Recovery ch s
    = .next (raise 0x1B4 (3 + ch * 256) (setAi ch { aiOf s ch with nfail := false, nrun := 0 } s)) :=
  guarded_taken (decide_eq_true hch) (by simp [hf, hr])

theorem execAfeTestDone_ofChannel (res : Word) {k : Nat} (ht : (aiOf s ch).test = some k) : execAfeTestDone ch res s
    = .next (completeWaiting (fun y => y.op == 0xC6 && y.wait == .device && y.sub.target == ch) stOk
        (testResult s ch k res) (groupEvent (ch / 16) 6 ch k (setAi ch { aiOf s ch with test := none } s))) := by
  have hk : testKind s ch = some k := by rw [testKind, if_pos hch, ht]
  simp only [execAfeTestDone, hk, if_pos hch]
  exact guarded_of_true (decide_eq_true (by omega)) _

end

/-! Groups (14 R438, R441 to R444) -/

section
variable {g : Nat} (hg : g < 4)
include hg

theorem execAfeTestDone_ofGroup (res : Word) (ht : (agroup s g).test0 = true) : execAfeTestDone (64 + g) res s
    = .next (completeWaiting (fun y => y.op == 0xC6 && y.wait == .device && y.sub.target == 64 + g) stOk (dw res.toNat)
        (groupEvent g 6 0 0 (setAgroup g { agroup s g with test0 := false } s))) := by
  have hn : ¬ 64 + g < 64 := by omega
  have hk : testKind s (64 + g) = some 0 := by rw [testKind, if_neg hn, Nat.add_sub_cancel_left, if_pos ht]
  simp only [execAfeTestDone, hk, if_neg hn, Nat.add_sub_cancel_left]
  exact guarded_of_true (decide_eq_true (by omega)) _

section
variable {at5 : Nat} {codes : List (List Int)} (ha : at5 < 2000) (hl : trigLive s g = true) (hi : (agroup s g).inj ≠ [])
  (hu : afeUp s (g / 2) = true) (hc : codes.length = (agroup s g).inj.length)
  (hf : ((agroup s g).inj.zip codes).all (fun y => y.2.isEmpty || y.2.length == aiOvs (aiCfg s y.1)) = true)
include hl hi hu hc hf

omit hg in
/-- None of the conditions holds under which a group takes no notice of its trigger. -/
theorem trigger_heard : ¬ (!trigLive s g ∨ (agroup s g).inj = [] ∨ !afeUp s (g / 2)
    ∨ codes.length ≠ (agroup s g).inj.length
    ∨ !((agroup s g).inj.zip codes).all fun y => y.2.isEmpty || y.2.length == aiOvs (aiCfg s y.1)) := by
  simp [hl, hi, hu, hc, hf]

include ha

/-- A trigger outside every run starts its sequence DELAY later, behind one that still runs then (log entry 122). -/
theorem execInjectedTrigger_free {k : Nat}
    (hr : ((agroup s g).runs.any fun r => decide (r.1 ≤ (at5 : Int) ∧ (at5 : Int) < r.2)) = false)
    (hk : (agroup s g).roleA = some k) :
    let b := (agroup s g).runs.foldl (fun m r => max m r.2) ((at5 : Int) + ((agroup s g).delay : Int))
    let plan := injectPlan s (agroup s g).low (agroup s g).inj codes b
    execInjectedTrigger g at5 codes s = .next (injectDue g (setAgroup g { agroup s g with
      runs := (agroup s g).runs ++ [(b, plan.foldl (fun m t => max m t.1) b)]
      todo := (agroup s g).todo ++ plan } s)) := by
  have hrole : ¬ (agroup s g).roleA.isNone = true := by simp [hk]
  simp only [execInjectedTrigger, if_neg (trigger_heard hl hi hu hc hf), hr, if_neg hrole, Bool.false_eq_true, if_false]
  exact guarded_of_true (by simp [hg, ha]) _

/-- A trigger that falls into a run is counted as missed; the tick has reported one already. -/
theorem execInjectedTrigger_missed
    (hr : ((agroup s g).runs.any fun r => decide (r.1 ≤ (at5 : Int) ∧ (at5 : Int) < r.2)) = true)
    (hm : (agroup s g).missTick = true) : execInjectedTrigger g at5 codes s
    = .next (setAgroup g { agroup s g with injMiss := (agroup s g).injMiss + 1, missTick := true } s) := by
  simp only [execInjectedTrigger, if_neg (trigger_heard hl hi hu hc hf), if_pos hr, if_pos hm]
  exact guarded_of_true (by simp [hg, ha]) _

end

theorem execCalRotationStart_due (hr : (agroup s g).rot = 0) (hs : (agroup s g).spare.isSome = true)
    (ht : (agroup s g).calPeriod * 100000 ≤ (agroup s g).calTicks) :
    execCalRotationStart g s = .next (startRotation g s) :=
  guarded_taken (decide_eq_true hg) ⟨hr, hs, ht⟩

theorem execCalHandover_roleA {k diff : Nat} (hk : (agroup s g).spare = some k) (hr : (agroup s g).rot = 1)
    (ht : 64 ≤ (agroup s g).dupTicks) (hd : diff ≤ (agroup s g).calTol) (hb : (agroup s g).rotB = false) :
    execCalHandover g diff s = .next (setAgroup g { agroup s g with
      roleA := some k, spare := (agroup s g).roleA, rot := 2, nextB := true, handSn := s.sn } s) := by
  have hdue : ¬ ((agroup s g).rot ≠ 1 ∨ (agroup s g).dupTicks < 64) := by omega
  simp only [execCalHandover, hk, if_neg hdue, if_neg (Nat.not_lt.2 hd), hb, Bool.false_eq_true, if_false, Bool.not_false]
  exact guarded_of_true (decide_eq_true hg) _

theorem execCalCoeffLoaded_ok {k : Nat} (coef : List (Int × Int)) (hk : (agroup s g).spare = some k)
    (hr : (agroup s g).rot = 2) : execCalCoeffLoaded g coef true s
    = .next (endCal g stOk (dw (agroup s g).handSn.toNat)
        (groupEvent g 1 k 0 (setAgroup g { agroup s g with rot := 0, rotations := (agroup s g).rotations + 1 }
          (setAnalog { s.analog with coef := tsetMany (0, 16777216) s.analog.coef (8 * k) (coef.take 8) } s)))) := by
  simp only [execCalCoeffLoaded, hk, hr, ne_eq, not_true_eq_false, Bool.not_true, Bool.false_eq_true, if_false]
  exact guarded_of_true (decide_eq_true hg) _

end

/-! Current loops and outputs (14 R445, R446, R449 to R452) -/

section
variable {k : Nat} (hk : k < 32)
include hk

/-- A measurement within 0.005 of the committed value, with the gate drive off its limit. -/
theorem execClMeasure_good {im : Word} (hd : 1000 * ((clBefore s k - im.toInt).natAbs : Int) ≤ 5 * fsOne)
    (ho : (clOf s k).open_ = false) : execClMeasure k im false s
    = .next (setCl k { clOf s k with
        im := im, drvLimit := false, shortCnt := 0, goodRun := (clOf s k).goodRun + 1, openRun := 0 } s) := by
  simp only [execClMeasure, decide_eq_true hd, ho, Bool.and_false, Bool.and_true, Bool.not_false, Bool.false_and,
    Bool.false_eq_true, if_true, if_false]
  exact guarded_of_true (decide_eq_true hk) _

theorem execComplianceLost_short (hc : 3 ≤ (clOf s k).shortCnt) (hl : (clOf s k).lost = false)
    (ho : (clOf s k).open_ = false) :
    execComplianceLost k s = .next (raise 0x1B5 (1 + k * 256) (setCl k { clOf s k with lost := true } s)) :=
  guarded_taken (decide_eq_true hk) (by simp [hc, hl, ho])

theorem execComplianceRestored_afterRun (hl : (clOf s k).lost = true) (hr : 10 ≤ (clOf s k).goodRun) :
    execComplianceRestored k s = .next (raise 0x1B5 (2 + k * 256) (setCl k { clOf s k with lost := false } s)) :=
  guarded_taken (decide_eq_true hk) ⟨hl, hr⟩

theorem execClOpen_afterRun (hr : 3 ≤ (clOf s k).openRun) (ho : (clOf s k).open_ = false) :
    execClOpen k s = .next (raise 0x1B5 (3 + k * 256) (setCl k { clOf s k with open_ := true } s)) :=
  guarded_taken (decide_eq_true hk) (by simp [hr, ho])

theorem execRetransmitAlarm_begins (hd : alarmDue s k = true) (ha : (clOf s k).alarm = false) :
    execRetransmitAlarm k s = .next (raise 0x1B5 (5 + k * 256) (setCl k { clOf s k with alarm := true } s)) := by
  simp only [execRetransmitAlarm, hd, ha, Bool.true_eq_false, if_false, Bool.false_eq_true, Bool.not_false]
  exact guarded_of_true (decide_eq_true hk) _

theorem execAoOverload_begins (ho : tget false s.analog.ovld k = false) : execAoOverload k true s
    = .next (raise 0x1B7 (1 + k * 256) (setAnalog { s.analog with ovld := tset false s.analog.ovld k true } s)) :=
  guarded_past (decide_eq_true hk) (by simp [ho])

end

/-- A measurement in range of a supply that was in range (14 R452). -/
theorem execLoopvMeasure_inRange {v : Nat} (h1 : 1000 ≤ v) (h2 : v ≤ 3000) (h0 : s.analog.loopvState = 0) :
    execLoopvMeasure v s = .next (setAnalog { s.analog with loopv := v, loopvState := 0 } s) := by
  have hnew : loopvNext 0 s.analog.loopv v = 0 := if_pos ⟨h1, h2⟩
  have hv : v % 65536 = v := Nat.mod_eq_of_lt (by omega)
  simp only [execLoopvMeasure, h0, hnew, hv, if_true]

theorem execPwmPeriodStart_due {k : Nat} (hk : k < 64) (hn : (tget {} s.analog.pw k : Pwm).next < 2000) :
    let x : Pwm := tget {} s.analog.pw k
    let u := tget 0 s.outs.chan (64 + k)
    execPwmPeriodStart k s = .next (setAnalog { s.analog with pw := tset {} s.analog.pw k { x with
      high := (rdiv (clampI 0 fsOne u.toInt * x.period) 16777216).toNat, duty := u, running := true
      next := x.next + x.period } } s) :=
  guarded_past (decide_eq_true hk) (not_le.2 hn)

end

/-- Settles O32: each row past its guards. -/
theorem analogRowsTakeEffect : Obligations.AnalogRowsTakeEffect := by
  refine ⟨fun s ch codes k hch hs hk hu hn ht hd hl => execAiConversion_ofRoleA hch hs hk hu hn ht hd hl,
    fun s ch hch => ⟨execNe43Recovery_afterRun hch, fun res k ht => execAfeTestDone_ofChannel hch res ht⟩,
    fun s g res hg ht => execAfeTestDone_ofGroup hg res ht,
    fun s g hg => ⟨fun at5 codes ha hl hi hu hc hf => ⟨fun k hr hk => ?_, fun hr hm => ?_⟩, execCalRotationStart_due hg,
      fun k diff hk hr ht hd hb => execCalHandover_roleA hg hk hr ht hd hb,
      fun k coef hk hr => execCalCoeffLoaded_ok hg coef hk hr⟩,
    fun s k hk => ⟨fun im => execClMeasure_good hk, execComplianceLost_short hk, execComplianceRestored_afterRun hk,
      execClOpen_afterRun hk, execRetransmitAlarm_begins hk, execAoOverload_begins hk⟩,
    fun s v => execLoopvMeasure_inRange, fun s k hk => execPwmPeriodStart_due hk⟩
  · exact execInjectedTrigger_free hg ha hl hi hu hc hf hr hk
  · exact execInjectedTrigger_missed hg ha hl hi hu hc hf hr hm

end Sys2Proof.Machine
end

/-! The commands of the field ports, of management, PTP and device time (O15). -/
section
namespace Sys2Proof.Machine

section
variable {c : Sub} {t : State}

/-! Field ports and stations (15 R464 to R474) -/

/-- The port as FP_CONFIG configures it: a change of its mode loses the link (15 R458), and an OFF port holds no frame. -/
def configuredPort (c : Sub) (q : FPort) : FPort :=
  let w := par c 0
  let d := q.linkUp && (field w 0 2 != q.speed || bit w 2 != q.serdesX)
  { q with
    speed := field w 0 2, serdesX := bit w 2, cycPhase := field w 8 4, lostCnt := field w 16 8, margin := field w 24 8
    mac := (par c 1).toNat + field (par c 2) 0 16 * 2 ^ 32
    linkUp := q.linkUp && !d, clockRec := q.clockRec && !d, linkFell := q.linkFell || d, resend := q.resend && !d
    rx := if field w 0 2 = 0 then [] else q.rx }

/-- FP_CONFIG ends in a new grid origin where its words are in range, no bound loop contradicts the phase, and the
stations still fit. -/
theorem opFpConfig_fits
    (hr : field (par c 0) 0 2 ≠ 0 → field (par c 0) 8 4 < fieldCycle (field (par c 0) 0 2) ∧ 2 ≤ field (par c 0) 16 8
      ∧ 5 ≤ field (par c 0) 24 8 ∧ field (par c 0) 24 8 ≤ 100)
    (hd : t.dev = .ready)
    (hp : field (par c 0) 0 2 ≠ 0 → phaseBad t c.target (fieldCycle (field (par c 0) 0 2)) (field (par c 0) 8 4) = none)
    (hs : portBad (setPort c.target (configuredPort c (fport t c.target)) t) c.target = none) :
    let q := fport t c.target
    let d := q.linkUp && (field (par c 0) 0 2 != q.speed || bit (par c 0) 2 != q.serdesX)
    let u := setPort c.target (configuredPort c q) t
    let v := if d then portEvent c.target 2 0 u else u
    opFpConfig c t
      = okSn (gridOrigin c.target (if field (par c 0) 0 2 = 0 then v else useGate (0x02 + c.target) v)) := by
  have hphase : (if field (par c 0) 0 2 = 0 then none
      else phaseBad t c.target (fieldCycle (field (par c 0) 0 2)) (field (par c 0) 8 4)) = none := by
    split
    · rfl
    · exact hp ‹_›
  refine (if_neg ?range).trans <| (if_neg (not_not_intro hd)).trans ?_
  case range =>
    rintro ⟨h0, h⟩
    have := hr h0
    omega
  simp only [hphase]
  unfold configuredPort at hs
  simp only [hs]
  rfl

theorem opFpStation_fits (hd : t.dev = .ready)
    (hx : (stationFrom c).en = true → stationOk t c.target (stationFrom c) = true)
    (hs : portBad (mqFresh c.target (setStation c.target (stationFrom c) t)) (c.target / 32) = none) : opFpStation c t
    = okSn (gridOrigin (c.target / 32) (mqFresh c.target (setStation c.target (stationFrom c) t))) := by
  refine (if_neg (not_not_intro hd)).trans <| (if_neg ?valid).trans ?_
  case valid =>
    rw [Bool.and_eq_true, Bool.not_eq_true']
    exact fun h => ne_true_of_eq_false h.2 (hx h.1)
  simp only [hs]

theorem opFpArm_enabled (he : (station t c.target).en = true) (ha : (station t c.target).armed = false) :
    opFpArm c t = okSn (setStation c.target { station t c.target with armReq := true } t) :=
  if_neg (by simp [he, ha])

theorem opFpStatus_port (h : c.target < 8) :
    let q := fport t c.target
    let ks := portStations t c.target
    opFpStatus c t = okRes (dw (q.speed + (if q.linkUp then 4 else 0) + (if q.clockRec then 8 else 0)
      + (ks.filter fun k => (station t k).online).length * 2 ^ 8 + (ks.filter fun k => (station t k).armed).length * 2 ^ 16
      + q.epoch.toNat % 256 * 2 ^ 24 + q.discards * 2 ^ 32)) t := if_pos h

theorem opFpStatus_station (h : 256 ≤ c.target) :
    let x := station t (c.target - 256)
    opFpStatus c t = okRes (dw (x.online.toNat + x.armed.toNat * 2 + x.safe.toNat * 4 + x.outWd.toNat * 8
      + x.mstale.toNat * 2 ^ 16 + x.noFrame * 2 ^ 32 + x.lateAcks * 2 ^ 48)) t :=
  (if_neg (by omega)).trans (if_neg (Nat.not_lt.2 h))

/-! Management ports and PTP (15 R477, R478) -/

theorem opMgtConfig_inRange (h : field (par c 0) 0 3 ≤ 3) :
    let x := mgt t c.target
    let u := setMgt c.target { x with
      mode := field (par c 0) 0 3, mac := (par c 1).toNat + field (par c 2) 0 16 * 2 ^ 32, ip := par c 3
      linkUp := x.linkUp && field (par c 0) 0 3 == x.mode } t
    let v := if x.linkUp && field (par c 0) 0 3 != x.mode then raise (0x188 + c.target) 2 u else u
    opMgtConfig c t = okSn (choosePort (if field (par c 0) 0 3 = 0 then v else useGate (0x0A + c.target) v)) :=
  if_neg (Nat.not_lt.2 h)

theorem opPtpConfig_inRange (h : 0 < (par c 3).toInt) : opPtpConfig c t
    = okSn (choosePort (setPtp { t.field.ptp with
        cfg := par c 0, intervals := par c 1, lats := par c 2, rateLim := par c 3, stepThr := par c 4 } t)) :=
  if_neg (Int.not_le.2 h)

/-! Device time (15 R481 to R485) -/

/-- The present time in one of the three formats; its place in the tick is a free value (log entry 2). -/
theorem opTimeRead_present (h : (par c 0).toNat < 3) :
    let v := takeFree t
    let n := (tnsOf (tqIn t (v.1.toNat % 4000 : Nat))).toNat
    opTimeRead c t = okRes (if par c 0 = 0 then dw n else if par c 0 = 1 then dw (n % 10 ^ 9 + n / 10 ^ 9 % 2 ^ 32 * 2 ^ 32)
      else dw (n / 10 ^ 9 % 2 ^ 48)) v.2 := by
  have h0 : par c 0 = 0 ↔ (par c 0).toNat = 0 := BitVec.toNat_inj.symm
  have h1 : par c 0 = 1 ↔ (par c 0).toNat = 1 := BitVec.toNat_inj.symm
  simp only [h0, h1]
  exact (if_neg (by omega)).trans (if_neg (by omega))

theorem opTimeRead_ofSample (h : par c 0 = 3) : opTimeRead c t = okRes (tnsAt t (par c 1)) t := by
  rw [opTimeRead, h]
  rfl

theorem opTimeStep_first (hs : servoOn t = false) (hu : t.field.time.stepUsed = false) (hn : 0 ≤ tqNow t + stepDelta c) :
    opTimeStep c t = okSn (stepTime (stepDelta c) t) :=
  (if_neg (by simp [hs, hu])).trans (if_neg (Int.not_lt.2 hn))

theorem opTimeRate_noServo (hs : servoOn t = false) : opTimeRate c t = okSn (rateTime (par c 0) t) :=
  if_neg (ne_true_of_eq_false hs)

end

/-- Settles O15, command by command (a time read in mid-tick: log entry 2; the units counted modulo 4: log entry 112). -/
theorem fieldAndTimeCommandsComplete : Obligations.FieldAndTimeCommandsComplete := by
  refine ⟨?_, ?_, ?_, ?_, ?_, ?_, ?_, ?_, ?_, ?_, ?_, ?_, ?_, ?_, ?_⟩
  · refine completes_of_core (fun _ _ => rfl) fun c t ⟨h0, hc, hl, h5, hm, hd, hp, hs⟩ => ?_
    have hport : configuredPort c (fport t c.target) = { configuredPort c (fport t c.target) with rx := (fport t c.target).rx } := by
      simp only [configuredPort, if_neg h0]
    refine (opFpConfig_fits (fun _ => ⟨hc, hl, h5, hm⟩) hd (fun _ => hp) (by rw [hport]; exact hs)).trans ?_
    rw [hport, if_neg h0]
    rfl
  · exact completes_of_core (fun _ _ => rfl) fun c t ⟨hd, hx, hs⟩ => opFpStation_fits hd hx hs
  · refine completes_of_core (fun _ _ => rfl) fun c t ⟨h0, hd, hs⟩ => ?_
    have hport : configuredPort c (fport t c.target) = { configuredPort c (fport t c.target) with rx := [] } := by
      simp only [configuredPort, if_pos h0]
    refine (opFpConfig_fits (fun h => absurd h0 h) hd (fun h => absurd h0 h) (by rw [hport]; exact hs)).trans ?_
    rw [hport, if_pos h0]
    rfl
  · exact completes_of_core (fun _ _ => rfl) fun c t ⟨he, ha⟩ => opFpArm_enabled he ha
  · exact completes_of_core (fun _ _ => rfl) fun c t h => opFpStatus_port h
  · exact completes_of_core (fun _ _ => rfl) fun c t h => opFpStatus_station h
  · exact completes_of_core (fun _ _ => rfl) fun c t h => opMgtConfig_inRange h
  · exact completes_of_core (fun _ _ => rfl) fun c t h => opPtpConfig_inRange h
  · exact completes_of_core (core := opPtpStatus) (fun _ _ => rfl) fun c t _ => rfl
  · exact completes_of_core (fun _ _ => rfl) fun c t h => opTimeRead_present h
  · exact completes_of_core (fun _ _ => rfl) fun c t h => opTimeRead_ofSample h
  · exact completes_of_core (fun _ _ => rfl) fun c t ⟨hs, hu, hn⟩ => opTimeStep_first hs hu hn
  · exact completes_of_core (fun _ _ => rfl) fun c t hs => opTimeRate_noServo hs
  · exact completes_of_core (core := opTimeCmp) (fun _ _ => rfl) fun c t _ => rfl
  · exact completes_of_core (core := opTimeStatus) (fun _ _ => rfl) fun c t _ => rfl

end Sys2Proof.Machine
end

/-! The rows of the field ports, of the management ports and of device time (O33). -/
section
namespace Sys2Proof.Machine

section
variable {s : State}

/-! Field ports (15 R458 to R472) -/

section
variable {p : Nat} (hp : p < 8)
include hp

section
variable (hs : (fport s p).speed ≠ 0)
include hs

section
variable (hl : (fport s p).linkUp = true)
include hl

theorem execFrameReceive_queued {f : KFrame} (hc : frameCause s p f = 0) (hm : (station s (32 * p + f.src)).mac ≠ 0) :
    execFrameReceive p f s = .next (setPort p { fport s p with rx := (fport s p).rx ++ [f] } s) := by
  have hon : ¬ ((fport s p).speed = 0 ∨ !(fport s p).linkUp) := by simp [hs, hl]
  simp only [execFrameReceive, if_neg hon, hc, ne_eq, not_true_eq_false, if_neg hm, if_false]
  exact guarded_of_true (decide_eq_true hp) _

/-- A discard behind one that the tick has reported. -/
theorem execFrameReceive_discarded {f : KFrame} (hc : frameCause s p f ≠ 0) (hd : (fport s p).discTick = true) :
    execFrameReceive p f s = .next (setPort p { fport s p with
      discards := satAdd 0xFFFFFFFF (fport s p).discards 1, discTick := true } s) := by
  have hon : ¬ ((fport s p).speed = 0 ∨ !(fport s p).linkUp) := by simp [hs, hl]
  simp only [execFrameReceive, if_neg hon, if_pos hc, if_pos hd]
  exact guarded_of_true (decide_eq_true hp) _

/-- The elected plane's copy of the latest frame leaves on a free path (11 R360). -/
theorem execOutputFrameSend_resend (hb : (fport s p).txBusy ≤ 5000) (hd : deciding s = false)
    (hf : s.boot.firstCommit = true) (hr : (fport s p).resend = true) :
    execOutputFrameSend p s = .next (sendFrame p s) :=
  guarded_taken (decide_eq_true hp) ⟨hs, hl, hb, by simp [hd], hf, Or.inl hr⟩

theorem execFieldLinkDown_up : execFieldLinkDown p s = .next (portEvent p 2 0 (setPort p { fport s p with
    linkUp := false, linkFell := true, clockRec := false, resend := false } s)) :=
  guarded_past (decide_eq_true hp) (by simp [hs, hl])

end

theorem execFieldLinkUp_down (hl : (fport s p).linkUp = false) : execFieldLinkUp p s
    = .next (portEvent p 1 0 (setPort p { fport s p with linkUp := true, clockRec := true, txBusy := 0 } s)) :=
  guarded_past (decide_eq_true hp) (by simp [hs, hl])

end

theorem execFrameDelivery_due {f : KFrame} (hf : ((fport s p).rx.find? fun y => !snLater y.sn (s.sn + 1)) = some f)
    (hb : heldBack (actPlane s) (p + 1) = false) : execFrameDelivery p s
    = .next (deliverFrame p f (setPort p { fport s p with rx := (fport s p).rx.erase f } s)) := by
  simp only [execFrameDelivery, hf]
  exact guarded_past (decide_eq_true hp) (ne_true_of_eq_false hb)

end

theorem execStationLost_missed {k : Nat} (hk : k < 256) (he : (station s k).en = true)
    (hm : (fport s (k / 32)).lostCnt ≤ (station s k).missed) : execStationLost k s = .next (stationLost k s) :=
  guarded_taken (decide_eq_true hk) (by simp [he, hm])

/-! Management ports and PTP (15 R478, R479; what a message brings: log entry 45) -/

section
variable {k : Nat} (hk : k < 2) (hm : (mgt s k).mode ≠ 0)
include hk hm

/-- A message without an offset that leaves the port state as it is. -/
theorem execPtpMessageReceive_sameState (hl : (mgt s k).linkUp = true) (he : ptpEn s = true) (hp : s.field.ptp.port = k)
    (hc : ptpPort s = some k) (d : Nat) :
    execPtpMessageReceive k { portState := s.field.ptp.portState, offset := none, delay := d } s
      = .next (setPtp { s.field.ptp with
          portState := s.field.ptp.portState, delay := d
          rxTime := instant (takeFree s).1 s - dw (field s.field.ptp.lats 16 16) } (takeFree s).2) := by
  have hup : ¬ ((mgt s k).mode = 0 ∨ !(mgt s k).linkUp) := by simp [hm, hl]
  have hmine : ¬ (!ptpEn s ∨ s.field.ptp.port ≠ k ∨ ptpPort s ≠ some k) := by simp [he, hp, hc]
  have hst : stateAfter s { portState := s.field.ptp.portState, offset := none, delay := d } = s.field.ptp.portState :=
    ite_self _
  simp only [execPtpMessageReceive, if_neg hup, if_neg hmine, hst, Bool.not_true, Bool.false_eq_true, if_false, if_true]
  exact guarded_of_true (decide_eq_true hk) _

theorem execMgtLinkChange_rises (hl : (mgt s k).linkUp = false) : execMgtLinkChange k true s
    = .next (choosePort (raise (0x188 + k) 1 (setMgt k { mgt s k with linkUp := true } s))) :=
  guarded_past (decide_eq_true hk) (by simp [hm, hl])

end

theorem execPtpMessageSend_inRole {kind k : Nat} (hk : isPtpKind kind = true) (hc : ptpPort s = some k)
    (he : ptpEn s = true) (ha : activeNo s ≠ 0) (hr : ptpRole s kind = true) : execPtpMessageSend kind s
    = .next (setPtp { s.field.ptp with
        sent := some (ptpOut s k kind (instant (takeFree s).1 s + dw (field s.field.ptp.lats 0 16))) } (takeFree s).2) := by
  have hgo : ¬ ((!ptpEn s || activeNo s == 0 || !ptpRole s kind) = true) := by simp [he, ha, hr]
  simp only [execPtpMessageSend, hc, if_neg hgo]
  exact guarded_of_true hk _

theorem execTimeCompareFire_reached {u : Nat} (hu : u < 4) (hr : cmpReached s 3999 u = true) :
    execTimeCompareFire u s = .next (cmpFire u s) :=
  guarded_taken (decide_eq_true hu) hr

end

/-- Settles O33: each row past its guards (the port state and the delay of a message are the row's: log entry 45). -/
theorem fieldAndTimeRowsTakeEffect : Obligations.FieldAndTimeRowsTakeEffect := by
  refine ⟨fun s p hp hs => ⟨fun hl => ⟨fun f => execFrameReceive_queued hp hs hl, fun f => execFrameReceive_discarded hp hs hl,
      execOutputFrameSend_resend hp hs hl, execFieldLinkDown_up hp hs hl⟩, execFieldLinkUp_down hp hs,
      fun f => execFrameDelivery_due hp⟩,
    fun s k => execStationLost_missed, fun s k hk hm => ⟨fun hl he hp hc st d hst => ?_, execMgtLinkChange_rises hk hm⟩,
    fun s kind k => execPtpMessageSend_inRole, fun s u => execTimeCompareFire_reached⟩
  subst hst
  exact execPtpMessageReceive_sameState hk hm hl he hp hc d

end Sys2Proof.Machine
end

/-! The commands of the CAN channels (O16). -/
section
namespace Sys2Proof.Machine

section
variable {c : Sub} {t : State}

/-! Configuration (16 R493, R497, R504, R507) -/

/-- CAN_CONFIG of a channel in OFF, with timings in range and a reference cycle of at least ten ticks. -/
theorem opCanConfig_ofOff (hm : field (par c 0) 30 2 ≠ 3) (hn : nbtOk (par c 1) = true) (hd : dbtOk (par c 2) = true)
    (hx : dbtOk (par c 3) = true) (hb : 20 ≤ dataBit (par c 3))
    (hw : bit (par c 4) 0 = true → field (par c 4) 8 6 + field (par c 4) 16 6 = dataBit (par c 3))
    (hr : bit (par c 0) 22 = true → 10 ≤ (par c 5).toNat) (h0 : (canCh t c.target).state = 0) : opCanConfig c t
    = okSn (setCan c.target { canCh t c.target with
        cfg := par c 0, nbt := par c 1, dbt := par c 2, xbt := par c 3, pwm := par c 4, refCyc := (par c 5).toNat
        refAge := 0, refPend := false, refCycle := 63 } t) := by
  refine (if_neg ?range).trans (if_neg (not_not_intro h0))
  rintro (h | h | h | h | h | ⟨hp, h⟩ | ⟨hp, h⟩)
  · exact hm h
  · simp [hn] at h
  · simp [hd] at h
  · simp [hx] at h
  · omega
  · exact h (hw hp)
  · have := hr hp
    omega

theorem opCanFilter_inRange (h : field (par c 2) 29 3 ≤ 4) : opCanFilter c t
    = okSn (setCan (c.target / 64) { canCh t (c.target / 64) with
        filters := tsetMany 0 (canCh t (c.target / 64)).filters (4 * (c.target % 64)) [par c 0, par c 1, par c 2, par c 3] } t) :=
  if_neg (Nat.not_lt.2 h)

theorem opCanSignal_inRange (hf : field (par c 0) 28 2 ≠ 3) (ha : bit (par c 0) 31 = true → (par c 3).toNat ≠ 0)
    (hu : t.dev = .ready ∨ signalInUse t c.target = false) : opCanSignal c t
    = okSn (setSignal c.target { p0 := par c 0, scale := par c 1, offs := par c 2, maxAge := (par c 3).toNat } t) := by
  refine (if_neg fun h => h.elim hf fun h => ha h.1 h.2).trans (if_neg ?_)
  rintro ⟨hd, h⟩
  exact ne_true_of_eq_false (hu.resolve_left hd) h

/-- CAN_SCHED of eight defined word sources and, for an enabled slot, a format and length that Table 16-7 allows. -/
theorem opCanSched_valid (hs : ((upTo 8).all fun i => !badWordSrc (par c (3 + i))) = true)
    (he : bit (par c 0) 31 = true → field (par c 0) 29 2 ≠ 3
      ∧ lenAllowed (if field (par c 0) 29 2 = 0 then 0 else 1) (field (par c 0) 0 6) = true ∧ field (par c 0) 0 6 ≤ 32) :
    let x := canCh t (c.target / 32)
    let slot : CanSlot := { p0 := par c 0, p1 := par c 1, p2 := par c 2, srcs := (upTo 8).map fun i => par c (3 + i) }
    opCanSched c t = okSn (setCan (c.target / 32) { x with slots := tset {} x.slots (c.target % 32) slot } t) := by
  refine (if_neg ?sources).trans (if_neg ?slot)
  case sources =>
    rw [List.any_map, List.any_eq_true]
    rintro ⟨i, hi, hb⟩
    have := List.all_eq_true.1 hs i hi
    simp only [Function.comp_apply] at hb
    simp [hb] at this
  case slot =>
    rw [Bool.and_eq_true]
    rintro ⟨hb, h⟩
    obtain ⟨h3, hl, hn⟩ := he hb
    exact Nat.not_lt.2 hn (by simpa [h3, hl] using h)

/-! CAN_SEND and CAN_CTRL (16 R490, R496, R510) -/

/-- CAN_SEND of a message that a read window holds, of a format and length that the channel takes, on a channel that may
send. -/
theorem opCanSend_accepted (hw : inWindow t false (addrAt c 0) (messageBytes (field (wordAt c.image 1) 20 12)) = true)
    (hf : field (wordAt c.image 0) 30 2 ≠ 3) (hm : field (wordAt c.image 0) 30 2 ≤ canMode (canCh t c.target))
    (hx : ¬ (field (wordAt c.image 0) 30 2 = 2 ∧ bit (wordAt c.image 0) 29 = true))
    (hl : lenAllowed (field (wordAt c.image 0) 30 2) (field (wordAt c.image 1) 20 12) = true)
    (hr : bit (wordAt c.image 1) 16 = false) (hz : ((upTo 5).all fun i => wordAt c.image (3 + i) == 0) = true)
    (h0 : (canCh t c.target).state ≠ 0) (h4 : (canCh t c.target).state ≠ 4) (hn : canListen (canCh t c.target) = false)
    (hd : t.dev ≠ .safe) : opCanSend c t = .wait .device [t.sn] t := by
  have hxl : (field (wordAt c.image 0) 30 2 == 2 && bit (wordAt c.image 0) 29) = false := by
    rw [← Bool.not_eq_true, Bool.and_eq_true, beq_iff_eq]
    exact hx
  have hok : messageOk c = true := by
    simp only [messageOk, hxl, hl, hr, hz, bne_iff_ne, ne_eq, hf, Bool.not_false, Bool.and_true, not_false_eq_true]
  refine (if_neg ?window).trans <| (if_neg ?message).trans (if_neg ?channel)
  case window => simp [hw]
  case message => simp [hok, hm]
  case channel => simp [h0, h4, hn, hd]

theorem opCanCtrl_off (h : par c 0 = 0) : opCanCtrl c t = okSn (canState c.target 0 t) := by
  rw [opCanCtrl, h]
  rfl

theorem opCanCtrl_start (h : par c 0 = 1) (h0 : (canCh t c.target).state = 0) : opCanCtrl c t
    = okSn (canState c.target 1 (setCan c.target { canCh t c.target with tec := 0, recv := 0 }
        (useGate (0x0C + c.target) t))) := by
  rw [opCanCtrl, h]
  exact if_pos h0

theorem opCanCtrl_startOn (h : par c 0 = 1) (h0 : (canCh t c.target).state ≠ 0) : opCanCtrl c t = okSn t := by
  rw [opCanCtrl, h]
  exact if_neg h0

theorem opCanCtrl_recover (h : par c 0 = 2) (h4 : (canCh t c.target).state = 4) :
    opCanCtrl c t = okSn (canState c.target 5 t) := by
  rw [opCanCtrl, h]
  exact if_pos h4

/-- The queue is cleared but for what stands on the bus (16 R499). -/
theorem opCanCtrl_clear (h : par c 0 = 3) :
    let x := canCh t c.target
    let keep := x.tx.filter fun e => e.onBus
    opCanCtrl c t = okSn (setShadow c.target ((canShadow t c.target).filter fun e => keep.any (sameEntry e))
      (setCan c.target { x with tx := keep, held := [] } t)) := by
  rw [opCanCtrl, h]
  rfl

/-! CAN_RX_READ (16 R505, R506) -/

section
variable (h1 : 1 ≤ (par c 1).toNat) (hn : (par c 1).toNat ≤ 64)
  (hw : inWindow t true (addrAt c 2) (par c 4).toNat = true)
include h1 hn hw

theorem opCanRxRead_fifo (hb : bit (par c 0) 0 = false) :
    let es := rxTake (par c 1).toNat (par c 4).toNat (rxFree t c.target)
    let bs := es.flatMap fun e => rxBytes e none
    opCanRxRead c t = .write (addrAt c 2) bs (dword (word bs.length) (word es.length)) t := by
  have hcount : ¬ ((par c 1).toNat = 0 ∨ 64 < (par c 1).toNat) := by omega
  simp only [opCanRxRead, if_neg hcount, hw, hb, Bool.not_true, Bool.false_eq_true, if_false]

theorem opCanRxRead_buffer {e : RxEnt} (hb : bit (par c 0) 0 = true)
    (he : tget none (canCh t c.target).hp (field (par c 0) 1 2) = some e)
    (hl : (rxBytes e (some (field (par c 0) 1 2))).length ≤ (par c 4).toNat) :
    let bs := rxBytes e (some (field (par c 0) 1 2))
    opCanRxRead c t = .write (addrAt c 2) bs (dword (word bs.length) 1) t := by
  have hcount : ¬ ((par c 1).toNat = 0 ∨ 64 < (par c 1).toNat) := by omega
  simp only [opCanRxRead, if_neg hcount, hw, if_pos hb, he, if_pos hl, Bool.not_true, Bool.false_eq_true, if_false]

theorem opCanRxRead_emptyBuffer (hb : bit (par c 0) 0 = true)
    (he : tget none (canCh t c.target).hp (field (par c 0) 1 2) = none) : opCanRxRead c t = okRes 0 t := by
  have hcount : ¬ ((par c 1).toNat = 0 ∨ 64 < (par c 1).toNat) := by omega
  simp only [opCanRxRead, if_neg hcount, hw, if_pos hb, he, Bool.not_true, Bool.false_eq_true, if_false]

end

/-! CAN_STATUS (16 R514) -/

theorem opCanStatus_timeMark (h : par c 0 = 9) (ht : (canCh t c.target).tec ≤ 255) :
    let x := canCh t c.target
    opCanStatus c t = okRes (dw (x.state + x.tec % 256 * 2 ^ 8 + x.recv % 256 * 2 ^ 16 + x.tx.length % 64 * 2 ^ 24
      + (loWord x.timeMark).toNat * 2 ^ 32)) t := by
  rw [opCanStatus, h]
  exact if_neg (Nat.not_lt.2 ht)

theorem opCanStatus_count (h : (par c 0).toNat < 9) (ht : (canCh t c.target).tec ≤ 255) :
    let x := canCh t c.target
    opCanStatus c t = okRes (dw (x.state + x.tec % 256 * 2 ^ 8 + x.recv % 256 * 2 ^ 16 + x.tx.length % 64 * 2 ^ 24
      + tget 0 x.counts (par c 0).toNat * 2 ^ 32)) t := by
  simp only [opCanStatus, if_neg (Nat.not_lt.2 ht), if_neg (Nat.ne_of_lt h), if_neg (Nat.not_lt.2 (Nat.le_of_lt h))]

end

/-- Settles O16, command by command. -/
theorem canCommandsComplete : Obligations.CanCommandsComplete := by
  refine ⟨?_, ?_, ?_, ?_, ?_, ?_, ?_, ?_, ?_, ?_, ?_, fun e => ?_, ?_, ?_, ?_⟩
  · exact completes_of_core (fun _ _ => rfl) fun c t ⟨hm, hn, hd, hx, hb, hw, hr, h0⟩ =>
      opCanConfig_ofOff hm hn hd hx hb hw hr h0
  · exact completes_of_core (fun _ _ => rfl) fun c t h => opCanFilter_inRange h
  · exact completes_of_core (fun _ _ => rfl) fun c t ⟨hf, ha, hu⟩ => opCanSignal_inRange hf ha hu
  · exact completes_of_core (fun _ _ => rfl) fun c t ⟨hs, he⟩ => opCanSched_valid hs he
  · exact completes_of_core (fun _ _ => rfl) fun c t ⟨hw, hf, hm, hx, hl, hr, hz, h0, h4, hn, hd⟩ =>
      opCanSend_accepted hw hf hm hx hl hr hz h0 h4 hn hd
  · exact completes_of_core (fun _ _ => rfl) fun c t h => opCanCtrl_off h
  · exact completes_of_core (fun _ _ => rfl) fun c t ⟨h, h0⟩ => opCanCtrl_start h h0
  · exact completes_of_core (fun _ _ => rfl) fun c t ⟨h, h0⟩ => opCanCtrl_startOn h h0
  · exact completes_of_core (fun _ _ => rfl) fun c t h => opCanCtrl_clear h
  · exact completes_of_core (fun _ _ => rfl) fun c t ⟨h, h4⟩ => opCanCtrl_recover h h4
  · exact completes_of_core (fun _ _ => rfl) fun c t ⟨h1, hn, hw, hb⟩ => opCanRxRead_fifo h1 hn hw hb
  · exact completes_of_core (fun _ _ => rfl) fun c t ⟨h1, hn, hw, hb, he, hl⟩ => opCanRxRead_buffer h1 hn hw hb he hl
  · exact completes_of_core (fun _ _ => rfl) fun c t ⟨h1, hn, hw, hb, he⟩ => opCanRxRead_emptyBuffer h1 hn hw hb he
  · exact completes_of_core (fun _ _ => rfl) fun c t ⟨h, ht⟩ => opCanStatus_timeMark h ht
  · exact completes_of_core (fun _ _ => rfl) fun c t ⟨h, ht⟩ => opCanStatus_count h ht

end Sys2Proof.Machine
end

/-! The rows of the CAN channels (O34). -/
section
namespace Sys2Proof.Machine

section
variable {s : State} {ch : Nat} (hch : ch < 8)
include hch

/-- A frame that the channel's mode and length allow, on a channel that is no time slave (16 R504). -/
theorem execCanFrameReceive_allowed {f : CanFrame} (ts : DWord) (ho : canOnline (canCh s ch) = true)
    (hm : f.fmt ≤ canMode (canCh s ch)) (hx : ¬ (f.fmt = 2 ∧ f.ide = true)) (hl : lenAllowed f.fmt f.data.length = true)
    (hr : canRefEn (canCh s ch) = false) : execCanFrameReceive ch f ts s = .next (receiveFrame ch f ts s) := by
  have href : ¬ (canRefEn (canCh s ch) && !f.ide && f.fmt != 2 && f.id == field (canCh s ch).cfg 11 11) = true := by
    simp [hr]
  simp only [execCanFrameReceive, if_neg href]
  refine guarded_past (decide_eq_true hch) ?_
  simpa [ho, hm, hl] using hx

theorem execCanSchedRelease_due {k : Nat} (hk : k < 32) (hd : slotDue (canSlot (canCh s ch) k) = true)
    (hr : canReleases s = true) (hc : s.boot.firstCommit = true)
    (hf : field (canSlot (canCh s ch) k).p0 29 2 = 0 ∨ canMode (canCh s ch) ≠ 0) : execCanSchedRelease ch k s
    = .next (canPlace ch (schedEntry s ch k) (setCan ch { canCh s ch with
        slots := tset {} (canCh s ch).slots k { canSlot (canCh s ch) k with sent := true } } s)) := by
  have hfits : slotFits (canCh s ch) (canSlot (canCh s ch) k) = true := by
    rw [slotFits, Bool.or_eq_true, beq_iff_eq, bne_iff_ne]
    exact hf
  exact guarded_taken (by simp [hch, hk]) (by simp [hd, hr, hc, hfits])

/-! The head of the transmit FIFO (16 R499, R510; the steps of the error counters: log entry 46) -/

section
variable {e : TxEnt} {r : List TxEnt} (ht : (canCh s ch).tx = e :: r) (hs : canSends (canCh s ch) = true)
include ht hs

theorem execCanTxComplete_silent (he : e.evt = false) : execCanTxComplete ch s = .next (startHead ch
    (confine ch (canCount ch 5 (popHead ch (setCan ch { canCh s ch with tec := (canCh s ch).tec - 1 } s))))) := by
  simp only [execCanTxComplete, ht, hs, he, Bool.not_true, Bool.false_eq_true, if_false]
  exact guarded_of_true (decide_eq_true hch) _

theorem execCanTxError_ofHead : execCanTxError ch s = .next (txErrorCount ch (retryHead ch e r s)) := by
  simp only [execCanTxError, ht, hs, Bool.not_true, Bool.false_eq_true, if_false]
  exact guarded_of_true (decide_eq_true hch) _

theorem execCanArbitrationLost_ofHead : execCanArbitrationLost ch s = .next (setCan ch { canCh s ch with
    tx := if canReleases s then { e with onBus := false } :: r else r } s) := by
  have hoff : offBus s [e] ++ r = if canReleases s then { e with onBus := false } :: r else r := by
    unfold offBus
    split <;> rfl
  simp only [execCanArbitrationLost, ht, hs, hoff, Bool.not_true, Bool.false_eq_true, if_false]
  exact guarded_of_true (decide_eq_true hch) _

end

/-! The reference message (16 R502, R503) -/

section
variable (he : canRefEn (canCh s ch) = true) (hr : canReleases s = true) (h0 : (canCh s ch).state ≠ 0)
include he hr h0

/-- A time master that releases messages presents its reference message, or sends it. -/
theorem execReferenceMessage_ofMaster (sent : Bool) : execReferenceMessage ch sent s = .next (
    if sent then
      if (canCh s ch).refPend && canSends (canCh s ch) && !(canCh s ch).tx.any (fun e => e.onBus) then sentRef ch s else s
    else if (canCh s ch).refAge % (canCh s ch).refCyc = 0 then presentRef ch s else s) :=
  guarded_past (decide_eq_true hch) (by simp [he, hr, h0])

theorem execReferenceMessage_due (ha : (canCh s ch).refAge % (canCh s ch).refCyc = 0) :
    execReferenceMessage ch false s = .next (presentRef ch s) := by
  rw [execReferenceMessage_ofMaster hch he hr h0, if_neg Bool.false_ne_true, if_pos ha]

theorem execReferenceMessage_sent (hp : (canCh s ch).refPend = true) (hs : canSends (canCh s ch) = true)
    (hb : ((canCh s ch).tx.any fun e => e.onBus) = false) : execReferenceMessage ch true s = .next (sentRef ch s) := by
  rw [execReferenceMessage_ofMaster hch he hr h0, if_pos rfl, hp, hs, hb]
  rfl

end

/-! States of a channel (16 R490, R510) -/

theorem execBusOffRecovery_recovering (h : (canCh s ch).state = 5) : execBusOffRecovery ch s
    = .next (startHead ch (canState ch 2 (setCan ch { canCh s ch with tec := 0, recv := 0 } s))) :=
  guarded_taken (decide_eq_true hch) h

theorem execCanIntegrationDone_integrating (h : (canCh s ch).state = 1) :
    execCanIntegrationDone ch s = .next (startHead ch (canState ch 2 s)) :=
  guarded_taken (decide_eq_true hch) h

theorem execCanReceiveError_online (h : canOnline (canCh s ch) = true) : execCanReceiveError ch s
    = .next (confine ch (setCan ch { canCh s ch with recv := min 255 ((canCh s ch).recv + 1) } s)) :=
  guarded_taken (decide_eq_true hch) h

end

/-- Settles O34: each row past its guards (the error counters and the head that stays: log entry 46). -/
theorem canRowsTakeEffect : Obligations.CanRowsTakeEffect := by
  intro s ch hch
  refine ⟨fun f ts => execCanFrameReceive_allowed hch ts, fun k => execCanSchedRelease_due hch,
    fun e r ht hs => ⟨execCanTxComplete_silent hch ht hs, execCanTxError_ofHead hch ht hs,
      execCanArbitrationLost_ofHead hch ht hs⟩,
    fun he hr h0 => ⟨execReferenceMessage_due hch he hr h0, execReferenceMessage_sent hch he hr h0⟩,
    execBusOffRecovery_recovering hch, execCanIntegrationDone_integrating hch, execCanReceiveError_online hch⟩

end Sys2Proof.Machine
end

/-! What a posting does to the routing words and the data of the sources (O59). -/
section
namespace Sys2Proof.Machine

/-! Single bits of a word -/

/-- The bits of a number that is given as what stands above bit i, bit i itself and what stands below it. -/
theorem testBit_apartAt {i r : Nat} (hr : r < 2 ^ i) (q : Nat) (v : Bool) (j : Nat) :
    (2 ^ i * (2 * q + v.toNat) + r).testBit j
      = if j < i then r.testBit j else if j = i then v else q.testBit (j - i - 1) := by
  rw [Nat.testBit_two_pow_mul_add _ hr]
  split
  · rfl
  · split
    · subst_vars
      cases v <;> simp [Nat.testBit_zero]
    · obtain ⟨k, hk⟩ : ∃ k, j - i = k + 1 := ⟨j - i - 1, by omega⟩
      have hv : (2 * q + v.toNat) / 2 = q := by have := v.toNat_lt; omega
      rw [hk, Nat.testBit_succ, Nat.add_sub_cancel, hv]

/-- Every number is given so. -/
theorem exists_apartAt (x i : Nat) : ∃ (q : Nat) (v : Bool) (r : Nat), r < 2 ^ i ∧ x = 2 ^ i * (2 * q + v.toNat) + r := by
  refine ⟨x / 2 ^ i / 2, x.testBit i, x % 2 ^ i, Nat.mod_lt _ (by positivity), ?_⟩
  rw [Nat.toNat_testBit, Nat.div_add_mod, Nat.div_add_mod]

theorem bit_setBit {n i : Nat} (hi : i < n) (w : BitVec n) (b : Bool) (j : Nat) :
    bit (setBit w i b) j = if j = i then b else bit w j := by
  obtain ⟨q, v, r, hr, hw⟩ := exists_apartAt w.toNat i
  have hf : fieldN w.toNat i 1 = v.toNat := by
    have := v.toNat_lt
    rw [fieldN, hw, Nat.mul_add_div (by positivity), Nat.div_eq_of_lt hr]
    omega
  have hset : w.toNat - fieldN w.toNat i 1 * 2 ^ i + b.toNat % 2 ^ 1 * 2 ^ i = 2 ^ i * (2 * q + b.toNat) + r := by
    have hbm : b.toNat % 2 ^ 1 = b.toNat := Nat.mod_eq_of_lt b.toNat_lt
    rw [hbm, hf, hw, Nat.mul_add, Nat.mul_add, Nat.mul_comm v.toNat, Nat.mul_comm b.toNat]
    omega
  have hb : bit w j = (2 ^ i * (2 * q + v.toNat) + r).testBit j := congrArg (Nat.testBit · j) hw
  by_cases hj : j < n
  · rw [hb, bit, setBit, setField, BitVec.getLsbD_ofNat, hset, testBit_apartAt hr, testBit_apartAt hr]
    simp only [hj, decide_true, Bool.true_and]
    split_ifs with h1 h2
    · omega
    · rfl
    · rfl
    · rfl
  · have hge : n ≤ j := Nat.le_of_not_lt hj
    rw [if_neg (by omega), bit, bit, BitVec.getLsbD_of_ge _ _ hge, BitVec.getLsbD_of_ge _ _ hge]

/-! One event -/

/-- A routing word once an event of its source is posted: PEND is set, and OVR where PEND was set before (17 R519). -/
def posted (w : Word) : Word := setBit (if bit w 31 then setBit w 30 true else w) 31 true

theorem bit_posted_pend (w : Word) : bit (posted w) 31 = true := by
  rw [posted, bit_setBit (by decide), if_pos rfl]

theorem bit_posted {i : Nat} (hi : i < 31) (w : Word) : bit (posted w) i = (bit w i || (decide (i = 30) && bit w 31)) := by
  rw [posted, bit_setBit (by decide), if_neg (by omega)]
  cases hp : bit w 31 with
  | false => simp
  | true =>
    rw [if_pos rfl, bit_setBit (by decide)]
    split_ifs with h
    · simp [h]
    · simp [h]

/-- Setting an entry leaves every other one, whatever an unlisted entry stands for. -/
theorem tget_tset_elsewhere [DecidableEq α] (d d' : α) (t : Tab α) {k j : Nat} (v : α) (h : k ≠ j) :
    tget d' (tset d t k v) j = tget d' t j := by
  unfold tset
  split
  · rw [tget_tdel, if_neg h]
  · rw [tget_tput, if_neg h, tget_tdel, if_neg h]

/-- The registers of the sources: routing words and data. -/
def State.sources (s : State) : Tab Word × Tab Word := (s.evts.cfg, s.evts.data)

theorem evtCfg_of_sources {s t : State} (h : t.sources = s.sources) (src : Nat) : evtCfg t src = evtCfg s src := by
  have hc : t.evts.cfg = s.evts.cfg := congrArg Prod.fst h
  rw [evtCfg, evtCfg, hc]

theorem evtData_of_sources {s t : State} (h : t.sources = s.sources) (src : Nat) :
    tget 0 t.evts.data src = tget 0 s.evts.data src := by
  have hd : t.evts.data = s.evts.data := congrArg Prod.snd h
  rw [hd]

@[simp] theorem stally_sources (k n : Nat) (s : State) : (stally k n s).sources = s.sources := rfl

@[simp] theorem msixSend_sources (v : Nat) (s : State) : (msixSend v s).sources = s.sources := by
  unfold msixSend
  split
  · rfl
  · split <;> rfl

@[simp] theorem traceEvent_sources (e : Ev) (s : State) : (traceEvent e s).sources = s.sources := by
  unfold traceEvent
  split <;> rfl

@[simp] theorem evTime_sources (e : Ev) (s : State) : (evTime e s).2.sources = s.sources := by
  unfold evTime
  split
  · rfl
  · split <;> rfl

@[simp] theorem queueRecord_sources (e : Ev) (s : State) : (queueRecord e s).sources = s.sources := by
  unfold queueRecord
  split
  · exact evTime_sources e s
  · rfl

/-- Past its flags, a posting leaves the registers of the sources alone. -/
theorem postOne_sources (e : Ev) (s : State) : (postOne e s).sources = (postFlags e s).sources := by
  unfold postOne
  dsimp only
  split <;> simp

theorem postFlags_cfg (e : Ev) (s : State) :
    (postFlags e s).evts.cfg = tset (evtCfgReset e.src) s.evts.cfg e.src (posted (evtCfg s e.src)) := by
  rw [postFlags, posted]

theorem postFlags_data (e : Ev) (s : State) : (postFlags e s).evts.data = tset 0 s.evts.data e.src e.data := rfl

theorem evtCfg_postOne (e : Ev) (s : State) (src : Nat) :
    evtCfg (postOne e s) src = if e.src = src then posted (evtCfg s src) else evtCfg s src := by
  rw [evtCfg_of_sources (postOne_sources e s), evtCfg, postFlags_cfg]
  split_ifs with h
  · rw [h, tget_tset_self]
  · rw [tget_tset_elsewhere _ _ _ _ h, evtCfg]

theorem evtData_postOne (e : Ev) (s : State) (src : Nat) :
    tget 0 (postOne e s).evts.data src = if e.src = src then e.data else tget 0 s.evts.data src := by
  rw [evtData_of_sources (postOne_sources e s), postFlags_data, tget_tset]

/-! A posting -/

theorem evtCfg_forEach_postOne (es : List Ev) (s : State) (src : Nat) :
    evtCfg (forEach es postOne s) src = posted^[(es.filter fun e => e.src == src).length] (evtCfg s src) := by
  unfold forEach
  induction es generalizing s with
  | nil => rw [List.foldl_nil, List.filter_nil, List.length_nil, Function.iterate_zero_apply]
  | cons e es ih =>
    rw [List.foldl_cons, ih, evtCfg_postOne, List.filter_cons]
    by_cases h : e.src = src
    · rw [if_pos h, if_pos (beq_iff_eq.2 h), List.length_cons, Function.iterate_succ_apply]
    · rw [if_neg h, if_neg (mt beq_iff_eq.1 h)]

theorem evtData_forEach_postOne (es : List Ev) (s : State) (src : Nat) :
    tget 0 (forEach es postOne s).evts.data src
      = (((es.filter fun e => e.src == src).getLast?).map Ev.data).getD (tget 0 s.evts.data src) := by
  unfold forEach
  induction es generalizing s with
  | nil => rfl
  | cons e es ih =>
    rw [List.foldl_cons, ih, evtData_postOne, List.filter_cons]
    by_cases h : e.src = src
    · simp only [h, if_true, beq_self_eq_true, List.getLast?_cons, Option.map_some, Option.getD_some]
      cases (es.filter fun e => e.src == src).getLast? <;> rfl
    · simp [h]

theorem postList_sources (es : List Ev) (s : State) : (postList es s).sources = (forEach es postOne s).sources :=
  forEach_keeps State.sources _ _ (fun v u => (stally_sources _ _ _).trans (msixSend_sources v u)) _

theorem evtCfg_postList (es : List Ev) (s : State) (src : Nat) :
    evtCfg (postList es s) src = posted^[(es.filter fun e => e.src == src).length] (evtCfg s src) :=
  (evtCfg_of_sources (postList_sources es s) src).trans (evtCfg_forEach_postOne es s src)

theorem evtData_postList (es : List Ev) (s : State) (src : Nat) : tget 0 (postList es s).evts.data src
    = (((es.filter fun e => e.src == src).getLast?).map Ev.data).getD (tget 0 s.evts.data src) :=
  (evtData_of_sources (postList_sources es s) src).trans (evtData_forEach_postOne es s src)

/-- PEND after n + 1 events of one posting. -/
theorem bit_iterate_posted_pend (n : Nat) (w : Word) : bit (posted^[n + 1] w) 31 = true := by
  rw [Function.iterate_succ_apply']
  exact bit_posted_pend _

/-- OVR after n + 1 events of one posting: an earlier PEND, or a second event, sets it. -/
theorem bit_iterate_posted_ovr (n : Nat) (w : Word) :
    bit (posted^[n + 1] w) 30 = (bit w 30 || bit w 31 || decide (2 ≤ n + 1)) := by
  cases n with
  | zero =>
    rw [Nat.zero_add, Function.iterate_one, bit_posted (by decide)]
    simp
  | succ n =>
    have hn : decide (2 ≤ n + 1 + 1) = true := decide_eq_true (by omega)
    rw [Function.iterate_succ_apply', bit_posted (by decide), bit_iterate_posted_pend, hn, decide_eq_true rfl,
      Bool.and_self, Bool.or_true, Bool.or_true]

theorem bit_iterate_posted_rest {i : Nat} (hi : i < 30) (n : Nat) (w : Word) : bit (posted^[n] w) i = bit w i := by
  induction n with
  | zero => rw [Function.iterate_zero_apply]
  | succ n ih =>
    rw [Function.iterate_succ_apply', bit_posted (by omega), ih]
    simp [Nat.ne_of_lt hi]

/-- Settles O59: over the events of a posting, each of which acts on the registers of its own source alone. -/
theorem postingSetsPendAndOvr : Obligations.PostingSetsPendAndOvr := by
  intro es s src
  dsimp only
  rw [evtCfg_postList, evtData_postList]
  generalize (es.filter fun e => e.src == src) = mine
  generalize evtCfg s src = w
  refine ⟨fun hnone => ?_, fun e he => ?_⟩
  · subst hnone
    rw [List.length_nil, Function.iterate_zero_apply]
    exact ⟨rfl, rfl⟩
  · obtain ⟨n, hn⟩ : ∃ n, mine.length = n + 1 :=
      Nat.exists_eq_succ_of_ne_zero fun h0 => by simp [List.length_eq_zero_iff.1 h0] at he
    rw [he, hn]
    exact ⟨bit_iterate_posted_pend n w, bit_iterate_posted_ovr n w, fun i hi => bit_iterate_posted_rest hi _ w, rfl⟩

end Sys2Proof.Machine
end

/-! The commands of events, of the recorder, of observation and of the field lock (O17). -/
section
namespace Sys2Proof.Machine

section
variable {c : Sub} {t : State}

theorem opEvtRoute_inRange (h0 : (par c 0).toNat ≠ 0) (hn : c.target + (par c 0).toNat ≤ 512) : opEvtRoute c t
    = okSn (forEach ((upTo (par c 0).toNat).map (c.target + ·))
        (fun k u => routeWrite k (par c 1) false 1 (cmdId c) 0xE8 u) t) := if_neg (by omega)

theorem opEvrRead_inRange (h1 : 1 ≤ (par c 1).toNat) (hn : (par c 1).toNat ≤ 65536)
    (hw : inWindow t true (addrAt c 2) (par c 4).toNat = true) :
    let ws := readRecords t (par c 1).toNat (par c 0).toNat (par c 4).toNat
    opEvrRead c t = .write (addrAt c 2) (bytesOf ws) (dword (word (4 * ws.length)) (word (ws.length / 16))) t :=
  (if_neg (by omega)).trans (if_neg (by simp [hw]))

/-! With the lock open (17 R527, R529, R530) -/

section
variable (hl : lockOpen t = true)
include hl

theorem opEvrClear_open : opEvrClear c t = .wait .device [t.sn] t := if_neg (by simp [hl])

section
variable (hp : field (par c 0) 3 2 ≠ 3) (hn : (par c 1).toNat ≤ 16)
include hp hn

theorem opObsCtrl_start (hs : bit (par c 0) 0 = true) : opObsCtrl c t
    = okSn (raise 0x1F3 1 (useGate 0x14 { t with trace := {
        run := true, div := field (par c 0) 1 2, plane := field (par c 0) 3 2, events := bit (par c 0) 5
        sigs := (upTo (par c 1).toNat).map (obsSignal c) } })) :=
  (if_neg (by omega)).trans <| (if_neg (by simp [hl])).trans (if_neg (by simp [hs]))

theorem opObsCtrl_stop (hs : bit (par c 0) 0 = false) : opObsCtrl c t = okSn (stopTrace 1 t) :=
  (if_neg (by omega)).trans <| (if_neg (by simp [hl])).trans (if_pos (by simp [hs]))

end

/-- OBS_READ of a counter kept once, or of one that the named plane keeps (log entry 4). -/
theorem opObsRead_named (h : 0x80 ≤ c.target ∨ isPlane (par c 0).toNat = true) :
    opObsRead c t = okRes (tallyOf t (par c 0).toNat c.target) t := by
  refine (if_neg ?_).trans (if_neg (by simp [hl]))
  rintro ⟨hlt, h1, h2⟩
  simp [isPlane, h1, h2, Nat.not_le.2 hlt] at h

end

/-! The challenge and the response (17 R534; the drawn nonce: log entry 83) -/

theorem opLockChallenge_low (h : par c 0 = 0) (hb : barredFor t = 0) : opLockChallenge c t
    = okRes (Config.nonce t.freeCtr).1 (raise 0x1F2 1 { t with
        freeCtr := t.freeCtr + 1, lock := { t.lock with nonce := some (Config.nonce t.freeCtr), nonceAge := 0 } }) := by
  rw [opLockChallenge, h]
  exact (if_neg (by decide)).trans <| (if_neg (by simp [hb])).trans (if_pos rfl)

theorem opLockChallenge_high {n : DWord × DWord} (h : par c 0 = 1) (hb : barredFor t = 0) (hn : t.lock.nonce = some n) :
    opLockChallenge c t = okRes n.2 t := by
  rw [opLockChallenge, h, hn]
  exact (if_neg (by decide)).trans <| (if_neg (by simp [hb])).trans (if_neg (by decide))

theorem opLock_opens {n : DWord × DWord} (h : par c 0 = 0) (hn : t.lock.nonce = some n) (hr : responseOk t n c = true) :
    opLock c t = okSn (raise 0x1F2 2 { t with
      lock := { t.lock with nonce := none, isOpen := true, openTicks := 0 }, led := { t.led with lockFails := 0 } }) := by
  rw [opLock, h, hn]
  exact (if_neg (by decide)).trans <| (if_neg (by decide)).trans (if_pos hr)

theorem opLock_closes (h : par c 0 = 1) : opLock c t = okSn (closeLock 1 t) := by
  rw [opLock, h]
  rfl

end

/-- Settles O17, command by command (the nonce drawn: log entry 83). -/
theorem eventAndLockCommandsComplete : Obligations.EventAndLockCommandsComplete := by
  refine ⟨?_, ?_, ?_, ?_, ?_, ?_, ?_, ?_, fun n => ?_, fun n => ?_, ?_⟩
  · exact completes_of_core (fun _ _ => rfl) fun c t ⟨h0, hn⟩ => opEvtRoute_inRange h0 hn
  · exact completes_of_core (core := opEvtStatus) (fun _ _ => rfl) fun c t _ => rfl
  · exact completes_of_core (fun _ _ => rfl) fun c t ⟨h1, hn, hw⟩ => opEvrRead_inRange h1 hn hw
  · exact completes_of_core (fun _ _ => rfl) fun c t hl => opEvrClear_open hl
  · exact completes_of_core (fun _ _ => rfl) fun c t ⟨hp, hn, hl, hs⟩ => opObsCtrl_start hl hp hn hs
  · exact completes_of_core (fun _ _ => rfl) fun c t ⟨hp, hn, hl, hs⟩ => opObsCtrl_stop hl hp hn hs
  · exact completes_of_core (fun _ _ => rfl) fun c t ⟨h, hl⟩ => opObsRead_named hl h
  · exact completes_of_core (fun _ _ => rfl) fun c t ⟨h, hb⟩ => opLockChallenge_low h hb
  · exact completes_of_core (fun _ _ => rfl) fun c t ⟨h, hb, hn⟩ => opLockChallenge_high h hb hn
  · exact completes_of_core (fun _ _ => rfl) fun c t ⟨h, hn, hr⟩ => opLock_opens h hn hr
  · exact completes_of_core (fun _ _ => rfl) fun c t h => opLock_closes h

end Sys2Proof.Machine
end

/-! The rows of the lock unit, of operating seconds and of the test access port (O38). -/
section
namespace Sys2Proof.Machine

section
variable {s : State}

theorem execFieldLockExpiry_due (h : 2880000000 ≤ s.lock.openTicks) : execFieldLockExpiry s = .next (closeLock 2 s) :=
  congrArg Host.Outcome.next (if_neg (Nat.not_lt.2 h))

theorem execNonceExpiry_due (h : 60 ≤ s.lock.nonceAge) :
    execNonceExpiry s = .next { s with lock := { s.lock with nonce := none } } :=
  congrArg Host.Outcome.next (if_neg (Nat.not_lt.2 h))

theorem execOperatingSecond_on (ho : s.dev ≠ .off) (hb : s.dev ≠ .standby) : execOperatingSecond s = .next { s with
    clock := { s.clock with opsec := s.clock.opsec + 1, opsecDue := s.clock.opsecDue + 1 }
    lock := { s.lock with nonceAge := s.lock.nonceAge + 1, failAge := s.lock.failAge + 1 } } :=
  congrArg Host.Outcome.next (if_neg fun h => h.elim ho hb)

theorem execOpsecWrite_due (ok : Bool) (h : 60 ≤ s.clock.opsecDue) : execOpsecWrite ok s = .next (writeOpsec ok s) :=
  congrArg Host.Outcome.next (if_neg (Nat.not_lt.2 h))

/-! The test access port (17 R532, 20 R606) -/

/-- With the lock closed a protected instruction gives zeros. -/
theorem tap_closed {r t : State} (h : tapOn s = true) (hl : lockOpen s = false) :
    (Host.Outcome.next (if !tapOn s then s else if !lockOpen s then r else t) : Outcome) = .next r := by
  rw [h, hl]
  rfl

theorem tap_open {r t : State} (h : tapOn s = true) (hl : lockOpen s = true) :
    (Host.Outcome.next (if !tapOn s then s else if !lockOpen s then r else t) : Outcome) = .next t := by
  rw [h, hl]
  rfl

section
variable (h : tapOn s = true)
include h

theorem execTapBypass_on (bits n : Nat) : execTapBypass bits n s = .next (setTap 0xFF (2 * bits % 2 ^ n) s) :=
  congrArg Host.Outcome.next (if_pos h)

theorem execTapIdcode_on : execTapIdcode s = .next (setTap 0x01 0x2A1249CB s) := congrArg Host.Outcome.next (if_pos h)

theorem execTapReset_on : execTapReset s = .next (setTap 0x01 0 s) := congrArg Host.Outcome.next (if_pos h)

section
variable (hl : lockOpen s = true)
include hl

theorem execTapObsData_trace (hb : bit s.tap.obsSel 9 = true) :
    execTapObsData s = .next (setTap 0x11 (traceStatus s) s) := by
  rw [execTapObsData, tap_open h hl, if_pos hb]

theorem execTapObsData_tally (hb : bit s.tap.obsSel 9 = false) : execTapObsData s
    = .next (setTap 0x11 (tallyOf s (if bit s.tap.obsSel 8 then 2 else 1) (field s.tap.obsSel 0 8)).toNat s) := by
  rw [execTapObsData, tap_open h hl, if_neg (ne_true_of_eq_false hb)]

end

end

end

/-- Settles O38: each row past its guards. -/
theorem lockAndTapRowsTakeEffect : Obligations.LockAndTapRowsTakeEffect := by
  refine ⟨fun s => ⟨execFieldLockExpiry_due, execNonceExpiry_due, execOperatingSecond_on, execOpsecWrite_due true⟩,
    fun s h => ⟨execTapBypass_on h, execTapIdcode_on h, execTapReset_on h,
      fun hl => ⟨tap_closed h hl, fun sel => tap_closed h hl, tap_closed h hl⟩,
      fun hl => ⟨⟨_, tap_open h hl, rfl⟩, fun sel => ⟨_, tap_open h hl, rfl, rfl⟩, execTapObsData_trace h hl,
        execTapObsData_tally h hl⟩⟩⟩

end Sys2Proof.Machine
end

/-! The commands of clocks and power (O3). -/
section
namespace Sys2Proof.Machine

section
variable {c : Sub} {t : State}

theorem isPlane_iff {p : Nat} : isPlane p = true ↔ p = 1 ∨ p = 2 := by simp [isPlane]

theorem opClkStatus_powered (hp : isPlane (par c 0).toNat = true) (hm : mgtPowered t (par c 0).toNat = true) :
    opClkStatus c t = okRes (clkStatusWord t (par c 0).toNat) t := by
  have := isPlane_iff.1 hp
  exact (if_neg (by omega)).trans (if_neg (by simp [hm]))

theorem opClkMeasure_free (hm : field (par c 0) 0 6 < 0x14) (hr : field (par c 0) 8 6 < 0x14) (h1 : 1 ≤ (par c 1).toNat)
    (hg : (par c 1).toNat ≤ 16777216) (hb : (tget {} t.clock.counters c.target : FCount).busy = false) : opClkMeasure c t
    = .wait .device [] (setCounter c.target
        { busy := true, tag := c.tag, qp := c.qp, meas := field (par c 0) 0 6, ref := field (par c 0) 8 6
          gate := (par c 1).toNat } (useGate 0x18 t)) :=
  (if_neg (by omega)).trans (if_neg (ne_true_of_eq_false hb))

theorem opClkGate_on (h : par c 0 = 0) : opClkGate c t = okSn (useGate c.target t) := if_pos h

/-- A gate goes off where nothing at or below it is in use (18 R558). -/
theorem opClkGate_off (h : par c 0 ≠ 0) (hu : ∀ g ∈ gateSubtree c.target, gateInUse t g = false) :
    opClkGate c t = okSn (setGate c.target false t) := by
  have hnone : (gateSubtree c.target).find? (gateInUse t) = none :=
    List.find?_eq_none.2 fun g hg => ne_true_of_eq_false (hu g hg)
  rw [opClkGate, if_neg h, hnone]

theorem opDvfsSet_inRange (hc : field (par c 0) 0 2 ≠ 3) (hn : field (par c 0) 8 8 ≤ 20) :
    let n := field (par c 0) 8 8
    let u := applyLevel 1 { t with clock := { t.clock with
      ceil := field (par c 0) 0 2, settle := if n = 0 then t.clock.settle else n } }
    opDvfsSet c t = if levelReached u then okSn u else .wait .device [] u := if_neg (by omega)

theorem opClkoutCfg_inRange (hs : field (par c 0) 0 3 ≤ 3)
    (hn : ¬ (field (par c 0) 0 3 = 2 ∧ field (par c 0) 16 16 = 0)) :
    let sel := field (par c 0) 0 3
    let u := if sel = 0 then t else useGate (0x15 + c.target) t
    opClkoutCfg c t = okSn { u with clock := { u.clock with
      outSel := tset 0 u.clock.outSel c.target sel
      outN := tset 0 u.clock.outN c.target (if sel = 2 then field (par c 0) 16 16 else 0) } } := if_neg (by omega)

end

/-- Settles O3, command by command. -/
theorem clockAndPowerCommandsComplete : Obligations.ClockAndPowerCommandsComplete := by
  refine ⟨?_, ?_, ?_, ?_, ?_, ?_, ?_⟩
  · exact completes_of_core (fun _ _ => rfl) fun c t ⟨hp, hm⟩ => opClkStatus_powered hp hm
  · exact completes_of_core (fun _ _ => rfl) fun c t ⟨hm, hr, h1, hg, hb⟩ => opClkMeasure_free hm hr h1 hg hb
  · exact completes_of_core (fun _ _ => rfl) fun c t h => opClkGate_on h
  · exact completes_of_core (fun _ _ => rfl) fun c t ⟨h, hu⟩ => opClkGate_off h hu
  · exact completes_of_core (core := opPwrStatus) (fun _ _ => rfl) fun c t _ => rfl
  · exact completes_of_core (fun _ _ => rfl) fun c t ⟨hc, hn⟩ => opDvfsSet_inRange hc hn
  · exact completes_of_core (fun _ _ => rfl) fun c t ⟨hs, hn⟩ => opClkoutCfg_inRange hs hn

end Sys2Proof.Machine
end

/-! The rows of the clocks (O37). -/
section
namespace Sys2Proof.Machine

section
variable {s : State}

/-! Monitors and recoveries (18 R551 to R553; source 0x1C0 for the shared sources: log entry 62) -/

theorem execClockMonitorTrip_crystal {p cause : Nat} (hp : isPlane p = true) (h1 : 1 ≤ cause) (h3 : cause ≤ 3)
    (hr : (clkSrc s (p - 1)).running = true) (ha : xmArmed s = true) (hc : (pstat s p).code ≠ 0) :
    execClockMonitorTrip p false cause s = .next (coast p (sourceLost (p - 1) cause s)) := by
  have hguard : ((p == 1 || p == 2) && decide (1 ≤ cause ∧ cause ≤ 3)) = true := by
    simp only [h1, h3, and_self, decide_true, Bool.and_true]
    exact hp
  have harmed : ((clkSrc s (p - 1)).running && xmArmed s) = true := by rw [hr, ha]; rfl
  rw [execClockMonitorTrip, guarded_of_true hguard]
  simp only [clockMonitorTrip, Bool.false_eq_true, if_false, harmed, Bool.not_true, if_neg hc]

section
variable {cause : Nat} (h1 : 1 ≤ cause) (h2 : cause ≤ 2)
include h1 h2

theorem execSharedClockTrip_fastRc (hw : watched s 3 4 = true) :
    execSharedClockTrip 3 cause s = .next (fastRcLost (sourceLost 3 cause s)) := by
  rw [execSharedClockTrip, guarded_of_true (by simp [h1, h2]), sharedClockTrip, if_pos rfl, hw]
  rfl

theorem execSharedClockTrip_xtal32 (hw : watched s 2 4 = true) (hu : s.clock.umpSlow = false) :
    execSharedClockTrip 2 cause s = .next (umpireLost (raise 0x1C1 1 { sourceLost 2 cause s with
      clock := { (sourceLost 2 cause s).clock with umpSlow := true, smArmed := false } })) := by
  rw [execSharedClockTrip, guarded_of_true (by simp [h1, h2]), sharedClockTrip, if_neg (by decide), if_pos rfl, hw]
  exact congrArg Host.Outcome.next (if_neg (ne_true_of_eq_false hu))

end

theorem execClockSourceRecovered_xtal32 (hl : (clkSrc s 2).lost = true) (hs : srcSound s 4 = true) :
    execClockSourceRecovered 2 s = .next (takeXtal32 (raise 0x1C0 (2 + 2 * 2 ^ 8)
      (setClkSrc 2 { clkSrc s 2 with counted := true, stable := true, lost := false } s))) := by
  rw [execClockSourceRecovered, guarded_of_true (by decide), sourceRecovered, if_pos rfl, hl, hs]
  rfl

/-! The alignment (18 R545, R546, R549) -/

/-- An edge difference below the limit of the alignment's report. -/
theorem execTickAlignment_inRange (delta : Int) (trim : Word) (ha : computes s.ump.a = true) (hb : computes s.ump.b = true)
    (hd : delta.natAbs ≤ 80) :
    let k := pclk s (steered s)
    let new := clampI (-trimLimit) trimLimit (clampI (k.trim.toInt - trimStep) (k.trim.toInt + trimStep) trim.toInt)
    execTickAlignment delta trim s = .next (setPclk (steered s) { k with
      trim := BitVec.ofInt 32 new
      alignRun := if decide (delta ≤ 20) && decide (-20 ≤ delta) then k.alignRun + 1 else 0
      limitRun := if new = trimLimit ∨ new = -trimLimit then k.limitRun + 1 else 0 }
      { s with clock := { s.clock with delta := delta } }) := by
  have hboth : ¬ (!(computes s.ump.a && computes s.ump.b)) = true := by simp [ha, hb]
  exact (if_neg hboth).trans (congrArg Host.Outcome.next (if_neg (Nat.not_lt.2 hd)))

section
variable {p : Nat} (hp : isPlane p = true)
include hp

theorem not_otherObject_of_isPlane : ¬ (p ≠ 1 ∧ p ≠ 2) := by
  have := isPlane_iff.1 hp
  omega

theorem execPlaneAligned_afterRun (hr : 100 ≤ (pclk s p).alignRun) (ha : (pclk s p).aligned = false) :
    execPlaneAligned p s
      = .next (raise 0x1C2 (2 + p * 256) (setPclk p { pclk s p with aligned := true } s)) :=
  (if_neg (not_otherObject_of_isPlane hp)).trans (congrArg Host.Outcome.next (if_neg (by simp [hr, ha])))

theorem execTrimLimit_afterRun (hr : 100 ≤ (pclk s p).limitRun) :
    execTrimLimit p s = .next (raise 0x1C2 (1 + p * 256) (setPclk p { pclk s p with limitRun := 0 } s)) :=
  (if_neg (not_otherObject_of_isPlane hp)).trans (congrArg Host.Outcome.next (if_neg (Nat.not_lt.2 hr)))

/-! Management levels (18 R556, R557) -/

theorem execDroopFallback_above (hm : mgtPowered s p = true) (hl : (pclk s p).level < 2) : execDroopFallback p s
    = .next (levelEvent (pclk s p).level ((pclk s p).level + 1) 3
        (setPclk p { pclk s p with level := (pclk s p).level + 1, vid := vidCode ((pclk s p).level + 1), settle := none }
          { s with clock := { s.clock with fallback := some (max ((pclk s p).level + 1) (s.clock.fallback.getD 0)) } })) := by
  have hlow : ¬ (!mgtPowered s p || (pclk s p).level == 2) = true := by simp [hm, Nat.ne_of_lt hl]
  exact (if_neg (not_otherObject_of_isPlane hp)).trans (if_neg hlow)

theorem execLevelSettleExpiry_settled {l cause : Nat} (hs : (pclk s p).settle = some (l, 0, cause)) :
    execLevelSettleExpiry p s = .next (completeDvfs (
      let t := setPclk p { pclk s p with level := l, settle := none } s
      if (pclk s (otherPlane p)).settle.isNone then levelEvent (pclk s p).level l cause t else t)) := by
  refine (if_neg (not_otherObject_of_isPlane hp)).trans ?_
  simp only [hs]

end

theorem execDroopRelease_fallenBack (hf : s.clock.fallback.isSome = true) :
    execDroopRelease s = .next (applyLevel 4 { s with clock := { s.clock with fallback := none } }) :=
  congrArg Host.Outcome.next (if_neg (by simpa [Option.isSome_iff_ne_none] using hf))

/-! Tick periods and measurements (18 R548, R554) -/

/-- With Plane A ACTIVE and its period in range, the check judges Plane B. -/
theorem execTickPeriodCheck_activeA (hr : halted s = false) (h0 : s.ump.ticks ≠ 0) (hk : s.ump.ticks % 1000 = 0)
    (ha : s.ump.a.code = 1) (hb : s.ump.b.code = 2) (okB : Bool) :
    execTickPeriodCheck true okB s = .next (if okB then s else lose 2 2 s.ump.b.unit false s) := by
  have hstat : pstat s 2 = s.ump.b := rfl
  simp [execTickPeriodCheck, tickPeriodCheck, hr, h0, hk, activeNo_planeA ha, otherPlane, hstat, hb]

theorem execMeasurementDone_counted {k : Nat} (n : Word) (hb : (tget {} s.clock.counters k : FCount).busy = true)
    (hs : clkStopped s (tget {} s.clock.counters k : FCount).meas = false) :
    let f : FCount := tget {} s.clock.counters k
    execMeasurementDone k n false s = .next (completeWaiting
      (fun x => x.op == 0x05 && x.wait == .device && x.sub.qp == f.qp && x.sub.tag == f.tag) stOk (dword n (word f.gate))
      (raise 0x1C7 (1 + k * 256) (setCounter k {} s))) := by
  simp only [execMeasurementDone, hb, hs, Bool.not_true, Bool.false_eq_true, if_false]

end

/-- Settles O37: each row past its guards (source 0x1C0 for the shared sources: log entry 62). -/
theorem clockRowsTakeEffect : Obligations.ClockRowsTakeEffect := by
  refine ⟨fun s p cause => execClockMonitorTrip_crystal, fun s cause => execSharedClockTrip_fastRc,
    fun s cause => execSharedClockTrip_xtal32, fun s => execClockSourceRecovered_xtal32,
    fun s delta trim => execTickAlignment_inRange delta trim,
    fun s p hp => ⟨execPlaneAligned_afterRun hp, execTrimLimit_afterRun hp, execDroopFallback_above hp,
      fun l cause => execLevelSettleExpiry_settled hp⟩,
    fun s hr h0 hk ha hb => ⟨execTickPeriodCheck_activeA hr h0 hk ha hb false, execTickPeriodCheck_activeA hr h0 hk ha hb true⟩,
    fun s => execDroopRelease_fallenBack, fun s k n hk => execMeasurementDone_counted n⟩

end Sys2Proof.Machine
end

/-! Device time over a change of rate (O52). -/
section
namespace Sys2Proof.Machine

/-- A plane's time base at a change of rate: OFS is the device time at the cut, and R_REF the counter there (15 R484). -/
def rebased (rate : Word) (o : PlaneTime) : PlaneTime := { o with ofs := BitVec.ofInt 96 (tqAt rate o o.r.toNat), rRef := o.r }

/-- The change of rate without its event. -/
def retimed (r : Word) (s : State) : State :=
  setTime { s.field.time with rate := r } (onClks (rebased s.field.time.rate) s)

theorem rateTime_bare (r : Word) (s : State) : (rateTime r s).bare = (retimed r s).bare := raise_bare _ _ _

/-- At its own reference a time base shows OFS, at any rate. -/
theorem tqAt_reference (rate : Word) (o : PlaneTime) (h : o.rRef = o.r) : tqAt rate o o.r.toNat = o.ofs.toInt := by
  have hz : ((o.r.toNat : Int) - o.rRef.toNat) * 163840 = 0 := by rw [h, sub_self, zero_mul]
  have h0 : rdiv 0 (2 ^ 40) = 0 := by decide
  rw [tqAt, hz, zero_mul, h0, add_zero, add_zero]

theorem tqNow_eq (s : State) : tqNow s = tqAt s.field.time.rate (actPlane s).clk (actPlane s).clk.r.toNat := by
  rw [tqNow, tqIn, add_zero]

section
variable {s t : State} (h : t.bare = s.bare)
include h

theorem planeOf_of_bare (k : Nat) : planeOf t k = planeOf s k :=
  (congrArg (planeOf · k) h : planeOf t.bare k = planeOf s.bare k)

theorem actPlane_of_bare : actPlane t = actPlane s := (congrArg actPlane h : actPlane t.bare = actPlane s.bare)

theorem field_of_bare : t.field = s.field := congrArg (fun u => u.field) h

theorem retimed_bare_of_bare (r : Word) : (retimed r t).bare = (retimed r s).bare :=
  (congrArg (retimed r) h : retimed r t.bare = retimed r s.bare)

theorem tqNow_of_bare : tqNow t = tqNow s := (congrArg tqNow h : tqNow t.bare = tqNow s.bare)

end

theorem planeOf_retimed_clk (r : Word) (s : State) (k : Nat) :
    (planeOf (retimed r s) k).clk = rebased s.field.time.rate (planeOf s k).clk := by
  unfold planeOf
  split <;> rfl

/-- A value in the range of OFS is kept by it. -/
theorem tqNow_retimed (r : Word) (s : State) (h : -2 ^ 95 ≤ tqNow s ∧ tqNow s < 2 ^ 95) : tqNow (retimed r s) = tqNow s := by
  have hclk : (actPlane (retimed r s)).clk = rebased s.field.time.rate (actPlane s).clk := planeOf_retimed_clk r s (readNo s)
  rw [tqNow_eq (retimed r s), hclk, tqAt_reference _ _ rfl]
  have hofs : (rebased s.field.time.rate (actPlane s).clk).ofs = BitVec.ofInt 96 (tqNow s) := by rw [tqNow_eq s]; rfl
  rw [hofs, BitVec.toInt_ofInt]
  exact Int.bmod_eq_of_le (by omega) (by omega)

/-- Settles O52: the executed command changes what `retimed` says, on the state in which its execution began. -/
theorem rateChangesKeepTimeContinuous : Obligations.RateChangesKeepTimeContinuous := by
  intro c s hr hs at_ tq
  have hexec : Completes 0xD9 .timeRate (fun _ t => servoOn t = false) fun c t => okSn (rateTime (par c 0) t) :=
    completes_of_core (fun _ _ => rfl) fun c t h => opTimeRate_noServo h
  have hb : (finish 0xD9 c (okSn (rateTime (par c 0) (begun 0xD9 c s)))).bare = (retimed (par c 0) s).bare := by
    rw [finish_bare]
    exact (rateTime_bare _ _).trans (retimed_bare_of_bare (begun_bare _ _ _) _)
  refine ⟨_, hexec c s hr hs, fun k _ => ?_, ?_, tqNow_eq s, fun hq => ?_⟩
  · rw [planeOf_of_bare hb, planeOf_retimed_clk]
    rfl
  · rw [field_of_bare hb]
    rfl
  · rw [tqNow_of_bare hb]
    exact (tqNow_retimed _ s ((tqNow_eq s).symm ▸ hq)).trans (tqNow_eq s)

end Sys2Proof.Machine
end

/-! The reads of the MS-240 window (O53). -/
section
namespace Sys2Proof.Machine

section
variable {s : State}

/-! What a served read does -/

section
variable (hw : windowOn s = true) (hr : windowReads s = true) (hn : s.window.request = none)
include hw hr hn

theorem winRead_blanked (hb : s.window.blank = true) (a : Nat) :
    winRead a s = setWin { s.window with dout := 0xFFFF } s := by
  simp [winRead, hw, hr, hn, hb]

section
variable (hb : s.window.blank = false)
include hb

theorem winRead_status {a : Nat} (ha : isStatus a = true) : winRead a s
    = setWin { (statusClear a s).window with dout := BitVec.ofNat 16 (statusValue s a).toNat } (statusClear a s) := by
  simp [winRead, hw, hr, hn, hb, ha]

theorem winRead_value {a : Nat} (ha : isStatus a = false) :
    winRead a s = setWin { s.window with dout := BitVec.ofNat 16 (winValue s a) } s := by
  simp [winRead, hw, hr, hn, hb, ha]

end

end

/-! The status registers (19 R574) -/

/-- The data driven are no flags. -/
theorem statusValue_driven (v : BitVec 16) (s : State) (b : Nat) :
    statusValue (setWin { s.window with dout := v } s) b = statusValue s b := rfl

theorem actPlane_onPlanes (f : Plane → Plane) (h : computes (pstat s (readNo s)) = true) :
    actPlane (onPlanes f s) = f (actPlane s) := by
  have hread : readNo (onPlanes f s) = readNo s := rfl
  rw [actPlane, actPlane, hread]
  unfold pstat at h
  unfold planeOf
  split_ifs with hk
  · exact if_pos (by rwa [if_pos hk] at h)
  · exact if_pos (by rwa [if_neg hk] at h)

/-! What a status read clears, in the window and in the plane that is read -/

theorem statusClear_window (a : Nat) (s : State) : (statusClear a s).window
    = if a = 0x404 then { s.window with wstat := 0 }
      else { s.window with lstat := tset 0 s.window.lstat (a / 16) 0 } := by
  unfold statusClear
  split
  · dsimp only
    split <;> rfl
  · rfl

/-- A plane without the flags of session n. -/
def clearWflags (n : Nat) (p : Plane) : Plane := setSess { p.sess with wflags := tset 0 p.sess.wflags n 0 } p

/-- A plane without the flags of loop l. -/
def clearLstat (l : Nat) (p : Plane) : Plane := setFab { p.fab with lstat := tset 0 p.fab.lstat l 0 } p

section
variable (hc : computes (pstat s (readNo s)) = true)
include hc

theorem actPlane_statusClear (a : Nat) : actPlane (statusClear a s)
    = if a = 0x404 then if s.window.claimed then clearWflags s.window.session (actPlane s) else actPlane s
      else clearLstat (a / 16) (actPlane s) := by
  unfold statusClear
  dsimp only
  split
  · split
    · exact actPlane_onPlanes (s := setWin { s.window with wstat := 0 } s) _ hc
    · rfl
  · exact actPlane_onPlanes (s := setWin { s.window with lstat := tset 0 s.window.lstat (a / 16) 0 } s) _ hc

theorem statusValue_statusClear_self (a : Nat) : statusValue (statusClear a s) a = 0 := by
  unfold statusValue
  rw [statusClear_window, actPlane_statusClear hc]
  by_cases ha : a = 0x404
  · cases hcl : s.window.claimed <;> simp [ha, hcl, clearWflags, setSess]
  · simp [ha, clearLstat, setFab]

/-- The flags of another status register stand. -/
theorem statusValue_statusClear_other {a b : Nat} (ha : isStatus a = true) (hb : isStatus b = true) (hne : b / 16 ≠ a / 16) :
    statusValue (statusClear a s) b = statusValue s b := by
  have hdiff : ¬ (a = 0x404 ∧ b = 0x404) := by
    rintro ⟨rfl, rfl⟩
    exact hne rfl
  unfold statusValue
  rw [statusClear_window, actPlane_statusClear hc]
  by_cases ha4 : a = 0x404
  · have hb4 : b ≠ 0x404 := fun h => hdiff ⟨ha4, h⟩
    cases hcl : s.window.claimed <;> simp [ha4, hb4, hcl, clearWflags, setSess]
  · by_cases hb4 : b = 0x404
    · simp [ha4, hb4, clearLstat, setFab]
    · simp [ha4, hb4, clearLstat, setFab, tget_tset_ne _ _ _ _ _ hne.symm]

end

/-! Flags that are raised -/

theorem bit_or_left {n : Nat} {x : BitVec n} (y : BitVec n) {k : Nat} (h : bit x k = true) : bit (x ||| y) k = true := by
  have hx : x.getLsbD k = true := h
  rw [bit, BitVec.getLsbD_or, hx, Bool.true_or]

theorem bit_statusValue_setWstat {k : Nat} (hk : k < 16) : bit (statusValue (setWstat k s) 0x404) k = true := by
  have hset : bit (setBit s.window.wstat k true) k = true := by rw [bit_setBit (by omega), if_pos rfl]
  rw [statusValue, if_pos rfl]
  exact bit_or_left _ hset

theorem bit_statusValue_setLstat {l k : Nat} (hk : k < 16) :
    bit (statusValue (setLstat l k s) (16 * l + 8)) k = true := by
  have hblock : (16 * l + 8) / 16 = l := by omega
  have hset : bit (tget 0 (setLstat l k s).window.lstat l) k = true := by
    have hw : tget 0 (setLstat l k s).window.lstat l = setBit (tget 0 s.window.lstat l) k true := tget_tset_self _ _ _ _
    rw [hw, bit_setBit (by omega), if_pos rfl]
  rw [statusValue, if_neg (by omega), hblock]
  exact bit_or_left _ hset

end

/-- Settles O53: a served read drives the flags that stand and clears those, in the window and in the plane that is read. -/
theorem statusReadsClearWhatTheyReturn : Obligations.StatusReadsClearWhatTheyReturn := by
  refine ⟨fun s a ha hw hr hn hb hc => ?_, fun s a ha hw hr hn hb => ?_,
    fun s l k _ hk => ⟨bit_statusValue_setWstat hk, bit_statusValue_setLstat hk⟩⟩
  · refine ⟨_, (guarded_of_true ha _).trans (congrArg _ (winRead_status hw hr hn hb ha)), rfl, ?_, fun b hb' hne => ?_⟩
    · rw [statusValue_driven, statusValue_statusClear_self hc]
    · rw [statusValue_driven, statusValue_statusClear_other hc ha hb' hne]
  · exact (guarded_of_true ha _).trans (congrArg _ (winRead_blanked hw hr hn hb a))

end Sys2Proof.Machine
end

/-! The rows of the MS-240 window (O39). -/
section
namespace Sys2Proof.Machine

section
variable {s : State} (hw : windowOn s = true) (hn : s.window.request = none)
include hw hn

theorem winWrite_served {b : Bool} (hb : b = true) (hs : windowWrites s = true) (f : State → State) :
    winWrite b f s = .next (f s) := by
  simp only [winWrite, guarded_of_true hb, hw, hn, hs, Bool.not_true, Option.isSome_none, Bool.or_self, Bool.false_eq_true,
    if_false]

end

theorem execWindowRequestTimeout_waiting {s : State} {cmd : Bool} {d : Nat} (h : s.window.request = some (cmd, d)) :
    execWindowRequestTimeout s = .next (winDone (setWstat (if cmd then 0 else 1) s)) := by
  rw [execWindowRequestTimeout, h]

/-- Well-formedness and the window name the same status registers. -/
theorem isStatusAddr_eq (a : Nat) : isStatusAddr a = isStatus a := rfl

/-- Settles O39: each row past its guards. -/
theorem windowRowsTakeEffect : Obligations.WindowRowsTakeEffect := by
  refine ⟨fun s hw hn => ⟨fun hs => ?_, fun hr hb a => ⟨fun ha => ?_, fun ha hlt => ?_⟩⟩,
    fun s cmd d => execWindowRequestTimeout_waiting⟩
  · have served : ∀ f : State → State, winWrite true f s = .next (f s) := winWrite_served hw hn rfl hs
    refine ⟨fun l d hl => ?_, fun d => served _, served _, served _, served _, served _, served _⟩
    have onLoop : ∀ f : State → State, winWrite (decide (l < 64)) f s = .next (f s) :=
      winWrite_served hw hn (decide_eq_true hl) hs
    exact ⟨onLoop _, onLoop _, onLoop fun t => queueWrite l 0 (codeValue (tget 0 t.window.spHi l) d) t,
      onLoop fun t => queueWrite l 1 (codeValue (tget 0 t.window.moHi l) d) t, onLoop _⟩
  · rw [isStatusAddr_eq] at ha
    exact (guarded_of_true ha _).trans (congrArg _ (winRead_status hw hr hn hb ha))
  · rw [isStatusAddr_eq] at ha
    exact (guarded_of_true (decide_eq_true hlt) _).trans (congrArg _ (winRead_value hw hr hn hb ha))

end Sys2Proof.Machine
end

/-! Every row answers (O44): a next state, or, where an operand names no object of the device, the fault noSuchObject. -/
section
namespace Sys2Proof.Machine

/-- The outcome is a next state or, where ok does not hold, the fault of a row that names no object (log entry 8). -/
def Answers (ok : Bool) (o : Outcome) : Prop := (∃ t, o = .next t) ∨ (ok = false ∧ o = .fault .noSuchObject)

section
variable {ok : Bool}

theorem answers_next (t : State) : Answers ok (.next t) := .inl ⟨t, rfl⟩

theorem answers_fault (h : ok = false) : Answers ok (.fault .noSuchObject) := .inr ⟨h, rfl⟩

theorem answers_ite {g : Prop} [Decidable g] {x y : Outcome} (hx : g → Answers ok x) (hy : Answers ok y) :
    Answers ok (if g then x else y) := by
  split
  · exact hx ‹_›
  · exact hy

/-- A row that faults where g holds, which no well-formed command meets. -/
theorem answers_past {g : Prop} [Decidable g] (h : g → ok = false) {y : Outcome} (hy : Answers ok y) :
    Answers ok (if g then .fault .noSuchObject else y) := answers_ite (fun hg => answers_fault (h hg)) hy

theorem answers_guarded_of {b : Bool} (h : b = false → ok = false) (t : State) : Answers ok (guarded b t) := by
  cases b with
  | false => exact answers_fault (h rfl)
  | true => exact answers_next t

/-- A row whose guard is its well-formedness. -/
theorem answers_guarded (t : State) : Answers ok (guarded ok t) := answers_guarded_of id t

end

/-! Rows that look at their operands in a way of their own -/

section
variable (s : State)

theorem execTokenDelivery_answers (loop port : Nat) (v : Word) (q : Bool) (sn : BitVec 16) (slot src bad : Nat) :
    Answers (Instr.wf (.tokenDelivery loop port v q sn slot src bad)) (execTokenDelivery loop port v q sn slot src bad s) :=
  answers_past (fun h => by simp [Instr.wf]; omega) (answers_next _)

/-- A list of channels without one that the device lacks. -/
theorem execOutputCommit_answers (bad : List Nat) : Answers (Instr.wf (.outputCommit bad)) (execOutputCommit bad s) :=
  answers_past (fun h => by simpa [Instr.wf] using h) (answers_next _)

theorem execPlaneResignation_answers (plane cls unit : Nat) :
    Answers (Instr.wf (.planeResignation plane cls unit)) (execPlaneResignation plane cls unit s) :=
  answers_guarded_of (fun h => by rw [Instr.wf, isPlane, h, Bool.false_and]) _

theorem instrW2_answers (op a b : Nat) (f : Nat → Nat → Plane → Plane) :
    Answers (decide (a < 0x10000) && decide (b < 0x10000)) (instrW2 op a b f s) :=
  answers_guarded_of (fun h => (Bool.decide_and _ _).symm.trans h) _

theorem execLim_answers (lo x hi : Nat) : Answers (Instr.wf (.lim lo x hi)) (execLim lo x hi s) :=
  answers_guarded_of (fun h => by rw [Instr.wf, Bool.and_assoc, ← Bool.decide_and, ← Bool.decide_and]; exact h) _

theorem execEvt_answers (e code : Nat) : Answers (Instr.wf (.evt e code)) (execEvt e code s) :=
  answers_guarded_of (fun h => (Bool.decide_and _ _).symm.trans h) _

theorem execCalCoeffLoaded_answers (g : Nat) (coef : List (Int × Int)) (good : Bool) :
    Answers (Instr.wf (.calCoeffLoaded g coef good)) (execCalCoeffLoaded g coef good s) :=
  answers_guarded_of (fun h => by rw [Instr.wf, h, Bool.false_and]) _

theorem execEntryFetch_answers (qp : Nat) (words image : List Word) :
    Answers (Instr.wf (.entryFetch qp words image)) (execEntryFetch qp words image s) :=
  answers_guarded_of (fun h => by rw [Instr.wf, h, Bool.false_and]) _

theorem execTickAlignment_answers (delta : Int) (trim : Word) :
    Answers (Instr.wf (.tickAlignment delta trim)) (execTickAlignment delta trim s) :=
  answers_ite (fun _ => answers_next _) (answers_next _)

/-- A counter that no CLK_MEASURE has taken, or the end of its measurement. -/
theorem execMeasurementDone_answers (ctr : Nat) (count : Word) (timeout : Bool) :
    Answers (Instr.wf (.measurementDone ctr count timeout)) (execMeasurementDone ctr count timeout s) :=
  answers_ite (fun _ => answers_guarded _) (answers_next _)

/-! Rows of a plane -/

theorem isPlane_eq_false {p : Nat} (h : p ≠ 1 ∧ p ≠ 2) : isPlane p = false := by simp [isPlane, h]

section
variable (p : Nat)

theorem execPlaneAligned_answers : Answers (isPlane p) (execPlaneAligned p s) :=
  answers_past isPlane_eq_false (answers_next _)

theorem execTrimLimit_answers : Answers (isPlane p) (execTrimLimit p s) := answers_past isPlane_eq_false (answers_next _)

theorem execDroopFallback_answers : Answers (isPlane p) (execDroopFallback p s) :=
  answers_past isPlane_eq_false (answers_ite (fun _ => answers_next _) (answers_next _))

theorem execLevelSettleExpiry_answers : Answers (isPlane p) (execLevelSettleExpiry p s) := by
  refine answers_past isPlane_eq_false ?_
  dsimp only
  split
  · exact answers_next _
  · exact answers_next _

end

end

/-- What lies beyond the last object of a kind is none of the kind. -/
theorem decide_lt_eq_false {n k : Nat} (h : n < k) : decide (k < n + 1) = false := decide_eq_false (by omega)

/-- Every row answers; only one that is not well-formed can fault. -/
theorem exec_answers (i : Instr) (s : State) : Answers i.wf (exec i s) := by
  cases i
  case tokenDelivery => exact execTokenDelivery_answers s _ _ _ _ _ _ _ _
  case outputCommit => exact execOutputCommit_answers s _
  case planeResignation => exact execPlaneResignation_answers s _ _ _
  case cgt | cge | clt | cle | ceq | cne | mov => exact instrW2_answers s _ _ _ _
  case lim => exact execLim_answers s _ _ _
  case evt => exact execEvt_answers s _ _
  case calCoeffLoaded => exact execCalCoeffLoaded_answers s _ _ _
  case entryFetch => exact execEntryFetch_answers s _ _ _
  case tickAlignment => exact execTickAlignment_answers s _ _
  case measurementDone => exact execMeasurementDone_answers s _ _ _
  case planeAligned => exact execPlaneAligned_answers s _
  case trimLimit => exact execTrimLimit_answers s _
  case droopFallback => exact execDroopFallback_answers s _
  case levelSettleExpiry => exact execLevelSettleExpiry_answers s _
  case taskFire | loopExecution | coastLimitReached | staleLimitReached | boothPowerDown | boothWakeDone =>
    exact answers_past decide_lt_eq_false (answers_next _)
  -- queue pairs, registers and DMA channels
  case qpEnable | qpDisable | qpSqTail | qpCqHead | qpRetryClear | readClearCounter | registerWrite | linkUp |
      coalesceTimeout | timedPlacement | forwardedCommit | dmaChResume | dmaChStop | xlatInvPage | translationWalk |
      dmaSuspendTimeout | completionTimeout | evtCfgWrite | evtAck =>
    exact answers_guarded _
  -- sessions, trigger engines, booths, axes and safety connections
  case stepDurationDue | triggerArmed | triggerWindowComplete | intervalClose | axisTick | stallDeclared |
      discrepancyDemand | ss1TorqueOff | stoTestPulse | safetyPduReceive | safetyWatchdogExpiry | safetyPduSend =>
    exact answers_guarded _
  -- scan instructions of one operand, and MOVI
  case rung | andBit | andnBit | orBit | ornBit | outBit | setBit | rstBit | rEdge | fEdge | ton | tof | tp | tres | ctu |
      ctd | cres | movi | holds | park | force =>
    exact answers_guarded _
  -- analogue channels, groups and current loops
  case aiConversion | ne43Recovery | injectedTrigger | calRotationStart | calHandover | afeTestDone | clMeasure |
      complianceLost | complianceRestored | clOpen | retransmitAlarm | aoOverload | pwmPeriodStart =>
    exact answers_guarded _
  -- field ports, stations, management ports and compare units
  case frameReceive | frameDelivery | outputFrameSend | stationLost | fieldLinkDown | fieldLinkUp | ptpMessageReceive |
      ptpMessageSend | mgtLinkChange | timeCompareFire =>
    exact answers_guarded _
  -- CAN channels
  case canFrameReceive | canSchedRelease | canTxComplete | canTxError | canArbitrationLost | referenceMessage |
      busOffRecovery | canIntegrationDone | canReceiveError =>
    exact answers_guarded _
  -- planes, clock sources and power domains
  case healthReport | selfTestSlice | diagnosisPassed | suspectTimeout | resyncCopyRound | resyncFinalCut | resyncComplete |
      resyncTimeout | porstRelease | warmRstRelease | supplyTrip | supplyRestored | crystalStable | pllLock |
      firmwareChecked | selfTestDone | planeReady | startupTimeout | crystalStartTimeout | clockMonitorTrip |
      sharedClockTrip | clockSourceRecovered | rcStable | pllLockTimeout =>
    exact answers_guarded _
  -- the MS-240 window
  case winSpHi | winSpLo | winMoHi | winMoLo | winMode | windowStatusRead | windowRead => exact answers_guarded _
  -- host commands, and rows that name no object
  all_goals exact answers_next _

/-- Settles O44: what a row answers turns on its well-formedness (the fault of an ill-named row: log entry 8). -/
theorem wellFormedCommandsAnswer : Obligations.WellFormedCommandsAnswer := by
  refine ⟨fun i s hi => ?_, fun i s => (exec_answers i s).imp_right And.right⟩
  obtain h | ⟨h, -⟩ := exec_answers i s
  · exact h
  · exact absurd hi (ne_true_of_eq_false h)

end Sys2Proof.Machine
end
